-- ==== Sys2Proof/Word.lean ====
section
/-! DEFINITION. The plain data the whole model is written over: bytes, sparse tables and the sizes the spec fixes. -/
namespace Sys2Proof

/-- One byte. -/
abbrev Byte := BitVec 8
/-- A run of bytes, lowest address first. -/
abbrev Bytes := List Byte
/-- A sparse table: keys strictly rising; a key that is not listed reads as the default its user names. -/
abbrev SMap (α : Type) := List (Nat × α)

/-- Fabric ports are 0 to 511 (R11). -/
abbrev Port := Fin 512
/-- Lanes λ0 to λ4 of a port; 4 is the reserve lane (R13). -/
abbrev Lane := Fin 5
/-- Lane-slots 0 to 24 of a tick; 24 is the gap slot (R70). -/
abbrev Slot := Fin 25
/-- Dies 0 to 3 (R11). -/
abbrev Die := Fin 4
/-- Wings 0 to 15 (R11). -/
abbrev Wing := Fin 16
/-- Logical benches 0 to 127 (R11). -/
abbrev Bench := Fin 128
/-- Physical benches 0 to 135 (R12). -/
abbrev PhysBench := Fin 136
/-- Host A is 0, host B is 1. -/
abbrev HostPort := Fin 2
/-- Time domain A is 0, B is 1. -/
abbrev Domain := Fin 2
/-- A 24-bit fabric address. -/
abbrev FA := BitVec 24

end Sys2Proof
end

