-- ==== Sys2Proof/Syntax.lean ====
section
/-! DEFINITION. The commands of the part, one constructor for each row of the operation table, with what each carries. -/
namespace Sys2Proof

/-! ### Commands of the dictionary (R385, R402) -/

/-- Where a command came from, and where its answer goes (R395, R402). -/
inductive Source where
  /-- The command queues of host A (0) or host B (1). -/
  | pcie (host : HostPort)
  /-- A 10BASE-T1S frame of the given sender address. -/
  | t1s (addr : BitVec 48)
  /-- An MC packet of the given source FA, taken on the given port. -/
  | mc (fa : FA) (port : Port)
deriving DecidableEq, Repr

/-- A command packet: the header of R385 field by field, then its body. The row fixes the op code and, where the op
code has phases or actions, the high part of the operand. -/
structure Cmd where
  src : Source
  /-- Bits [23:16] of the first word: phase, reserved bits, replayed, pending. -/
  flags : BitVec 8 := 0
  session : BitVec 16 := 0
  tag : BitVec 32 := 0
  entry : BitVec 24 := 0
  status : BitVec 8 := 0
  bodyLen : BitVec 32 := 0
  offset : BitVec 64 := 0
  tick : BitVec 64 := 0
  operand : BitVec 32 := 0
  detail : BitVec 32 := 0
  check : BitVec 32 := 0
  reserved : BitVec 32 := 0
  body : Bytes := []
  /-- Picoseconds into the running tick at which the part takes the command. -/
  takenAt : Nat := 0
deriving DecidableEq, Repr

/-- A packet as its bytes on the wire: header, payload and trailer (R111, R112, R116). -/
structure Packet where
  bytes : Bytes
deriving DecidableEq, Repr

/-! ### What the surroundings supply with a command

The spec measures light, temperature, power and link quality, and names procedures whose end it does not time. The
commands below carry the measured value or the outcome, so that the model picks none. -/

/-- Picoseconds since the running tick's boundary. -/
abbrev At := Fin 1024000

/-- The stored tables of a face die (R254, R257, R258). -/
inductive TableKind where
  | flowIndex
  | flowData
  | exact
  | lpm
  | nextHop
  | filter
  | group
deriving DecidableEq, Repr

/-- Where a word of a table stands: in the buffer that lookups use, or in the other one (the shadow set, the next image); in
which slice, for the tables of which every slice holds a copy; and its number. That is the flow tag of an index word, the binding
number, the place (slice × 2,560 + bucket) × 4 + n of a hashed entry, the index of a next hop or of a filter word, or the group. -/
structure WordPlace where
  shadow : Bool := false
  slice : Fin 32 := 0
  key : Nat
deriving DecidableEq, Repr

/-- One word of a die's copy of the tables. -/
structure TableWord where
  die : Die
  table : TableKind
  place : WordPlace
deriving DecidableEq, Repr

/-- What a table read finds (R259). -/
inductive EccErr where
  | none
  | corrected
  | unreadable
deriving DecidableEq, Repr

/-- What a tick's boundary finds measured. -/
structure TickReadings where
  /-- Ring detunings in GHz × 1,000, by ring number; positive where the resonance lies blue of its wavelength (R318). -/
  rings : List (Nat × Int) := []
  /-- Supply readings, by index of selector class 1 (R420); index d is the power of face die d in 0.1 W (R319). -/
  power : List (Nat × Nat) := []
  /-- Table words whose bits have been upset since the last boundary; whatever reads them next finds it (R259). -/
  upsets : List (TableWord × EccErr) := []
deriving DecidableEq, Repr

/-- What a bench stages of a frame: the tick reference of a tick in it, or a pattern (R55, R62). -/
inductive StageItem where
  | ref (tick : Nat)
  | pattern (n : Nat)
deriving DecidableEq, Repr

/-- A staging read of a bench that meets copies it cannot read: the bed dies whose copies fail. -/
structure StageRead where
  bench : Nat
  item : StageItem
  bad : List Nat
deriving DecidableEq, Repr

/-- What a frame's boundary finds measured. -/
structure FrameReadings where
  /-- Staging reads of the coming frame that find copies unreadable (R62). -/
  stageReads : List StageRead := []
  /-- Monitor readings in 0.01 dBm by monitor index (R322). -/
  monitors : List (Nat × Int) := []
  /-- Drive reports of chute cells: wing, cell, crossed (R358). -/
  cells : List (Nat × Nat × Nat) := []
  /-- Bytes moved to and from each strata stack over the frame that ends, and those of them for SC and crusher traffic (R162). -/
  strata : List (Nat × Nat × Nat) := []
deriving DecidableEq, Repr

/-- What an ELS poll finds (R317). -/
structure PollReadings where
  /-- Feed powers in 0.01 dBm, by position × 8 + output − 1. -/
  feeds : List (Nat × Int) := []
deriving DecidableEq, Repr

/-- Outcome of a calibration run (R337). -/
structure CalResult where
  pass : Bool
  /-- Heater efficiency measured, as a binary32 pattern. -/
  efficiency : Nat := 0
deriving DecidableEq, Repr

/-- What a power-up phase found (R532). -/
structure PhaseResult where
  /-- Milliseconds since the start of the sequence. -/
  ms : Nat := 0
  /-- Highest input power measured, in W. -/
  peak : Nat := 0
  /-- Units tested, by unit kind. -/
  tested : List (Nat × Nat) := []
  /-- Failures: unit kind, unit, test and detail. -/
  failed : List (Nat × Nat × Nat × Nat) := []
  /-- Units left untested: unit kind, unit and test. -/
  untested : List (Nat × Nat × Nat) := []
deriving DecidableEq, Repr

/-- Why a port goes down (R158). -/
inductive DownCause where
  | markers
  | lanes
  | training
deriving DecidableEq, Repr

/-! ### The commands -/

/-- One command or event of the part (spec/opcode_table.json). Each constructor cites its rule. -/
inductive Instr where
  /-- R7. The tick generator reaches a multiple of 1,024 ns of fabric time and every tick-bound act of that boundary runs. -/
  | tickBoundary (r : TickReadings)
  /-- R7. The generator reaches a multiple of 2^20 ns and frame-bound work runs: staging, frame checks, and the per-frame events that wait for the frame's end. -/
  | frameBoundary (r : FrameReadings)
  /-- R107. A lane-slot begins on a native lane, with its slot marker sent and its scheduled entry served. -/
  | laneSlotStart (p : Port) (l : Lane) (sl : Slot)
  /-- R121. Lane-slot 24 of a tick opens, and the part sends its link-local packets and time messages in it. -/
  | gapSlotStart (p : Port)
  /-- R52. The load checks of a next image complete, and the image becomes READY or REFUSED. -/
  | ttChecksDone
  /-- R54. After a schedule-changing write while the next image is READY, the part reruns the cross-image checks. -/
  | ttCrossRecheck
  /-- R59. Writing 1 discards the next image and returns its state to EMPTY. -/
  | ttNextDiscard (c : Cmd)
  /-- R60. A write names a loss-set identifier to run from a named frame boundary. -/
  | ttVariantSelect (c : Cmd)
  /-- R60. A write names the loss-set identifier that the next image starts with. -/
  | ttVariantNext (c : Cmd)
  /-- R50. A selected variant replaces the tick references of its overrides from its tick. -/
  | variantTakesEffect
  /-- R47. At a lease's start frame the part moves a lane to the reserve lane or rotates a logical bench. -/
  | leaseStart (n : Nat)
  /-- R47. A lease's length runs out and the lane returns, or the rotated bench's test window ends. -/
  | leaseEnd (n : Nat)
  /-- R150. At the lead before a flow entry's slot, the egress bench draws the binding's next packet through its order bench. -/
  | scDraw (p : Port) (l : Lane) (sl : Slot)
  /-- R161. At the start of a packet's deadline tick the part drops its undrawn queued or held packets. -/
  | scDeadlineDrop
  /-- R198. A recipe-result entry sends the first ready result of its port's queue. -/
  | recipeResultEntry (p : Port) (l : Lane) (sl : Slot)
  /-- R43. A timed action opens the gated and closed bindings and recipes of a job tag. -/
  | jobOpen (n : Nat)
  /-- R169. A timed action closes a job's bindings and recipes and drops their queued packets and results. -/
  | jobClose (n : Nat)
  /-- R517. A timed action latches all counters at its fire tick. -/
  | counterLatch (n : Nat)
  /-- R43. A timed action raises EV_TT_USER_ACTION with its user code. -/
  | userEvent (n : Nat)
  /-- R382. A timed action writes a value to an at-tick entry, which takes effect at the fire tick. -/
  | dictWrite (n : Nat)
  /-- R90. An unarmed action that requires arming reaches its fire tick, or its tick falls in Rest, and it becomes EXPIRED. -/
  | actionExpire (n : Nat)
  /-- R92. A host adds a 32-byte timed-action record to the table. -/
  | ftActionAdd (c : Cmd)
  /-- R576. A host arms one timed-action entry, judged by the rows of R95. -/
  | ftActionArm (c : Cmd)
  /-- R576. A host cancels one timed-action entry, judged by the rows of R95. -/
  | ftActionCancel (c : Cmd)
  /-- R95. An ARM launch message arms its matching entries and is acknowledged. -/
  | launchArm (p : Port) (k : Packet)
  /-- R95. A CANCEL launch message cancels its matching entries and is acknowledged. -/
  | launchCancel (p : Port) (k : Packet)
  /-- R80. A Sync from the configured grandmaster yields an offset sample that the servo filters and acts on. -/
  | ptpSync (p : Port) (k : Packet) (at_ : At)
  /-- R80. A Follow_Up completes a two-step Sync sample for the servo. -/
  | ptpFollowUp (p : Port) (k : Packet) (at_ : At)
  /-- R80. A Delay_Resp completes the delay request-response measurement of the part's slave instance. -/
  | ptpDelayResp (p : Port) (k : Packet) (at_ : At)
  /-- R81. An Announce is taken, and one from a clockIdentity other than the configured grandmaster faults the servo. -/
  | ptpAnnounce (p : Port) (k : Packet) (at_ : At)
  /-- R78. The part answers a Pdelay_Req with a one-step Pdelay_Resp. -/
  | ptpPdelayReq (p : Port) (k : Packet) (at_ : At)
  /-- R78. A Pdelay_Resp completes the part's mean link delay measurement of a port. -/
  | ptpPdelayResp (p : Port) (k : Packet) (at_ : At)
  /-- R78. The peer-delay interval expires and the part sends a Pdelay_Req on the port. -/
  | pdelayMeasure (p : Port)
  /-- R76. A forwarded PTP event message gets its residence time added to the correctionField. -/
  | ptpEventForward (p : Port) (l : Lane) (at_ : At)
  /-- R81. A locked servo receives no valid sample for FT_SYNC_TIMEOUT_TICKS and enters HOLDOVER. -/
  | servoSyncTimeout (d : Domain)
  /-- R81. A write restarts the named servos in ACQUIRING. -/
  | ftServoRestart (c : Cmd)
  /-- R84. A PPS input pulse gives the domain's whole-second phase, or is rejected. -/
  | ppsPulse (d : Domain) (at_ : At) (frac : Nat)
  /-- R84. No PPS pulse arrives for 2 s, and the servo falls back to PTP phase. -/
  | ppsMissing (d : Domain)
  /-- R85. PPS_OUT rises at the fabric-time instants that its mode selects. -/
  | ppsOutPulse
  /-- R86. The selected domain has not been LOCKED for the loss hold, and automatic mode starts a switch to the other domain. -/
  | domainLossHold (d : Domain)
  /-- R86. The preferred domain has been LOCKED for the return hold, and the part switches back to it. -/
  | domainReturnHold (d : Domain)
  /-- R89. A write chooses the domain the generator follows and may start a slew. -/
  | ftDomainSelect (c : Cmd)
  /-- R87. The remaining difference of a domain switch is removed and the generator follows the new servo. -/
  | slewDone
  /-- R79. A time message not sent by the end of the tick after its arrival is dropped. -/
  | timeMsgExpire (n : Nat)
  /-- R143. A packet delivered by a lane passes the ingress steps and is taken, sent to the crusher, enqueued or dropped. -/
  | packetArrival (p : Port) (l : Lane) (k : Packet) (at_ : At)
  /-- R128. A cut-through packet's CRC-32C is judged at its end, and failing copies are stomped. -/
  | packetTail (p : Port) (l : Lane) (at_ : At)
  /-- R109. A received slot marker is compared with the part's own tick, slot and epoch bit. -/
  | slotMarker (p : Port) (l : Lane) (m : BitVec 32) (at_ : At)
  /-- R122. A CREDIT packet updates the partner's counts and reconciles blocks lost on the link. -/
  | creditReceived (p : Port) (k : Packet)
  /-- R124. A LINK_PARAMS sets the partner's limits and releases the port or keeps it mismatching. -/
  | linkParamsReceived (p : Port) (k : Packet)
  /-- R132. A cell arrives on a cell-mode port and is reassembled into a native packet. -/
  | cellReceived (p : Port) (l : Lane) (cell : Bytes) (at_ : At)
  /-- R133. A credit cell updates the per-lane cell credit counts. -/
  | cellCreditReceived (p : Port) (l : Lane) (cell : Bytes) (at_ : At)
  /-- R126. An OC0 head packet waits PKT_ESCAPE_NS for credit and moves to OC1 by its safe route. -/
  | escapeMove (n : Nat)
  /-- R127. A VC has had no credit for PKT_CREDIT_STALL_US while packets wait. -/
  | creditStall (p : Port) (vc : Nat)
  /-- R300. An eligible open, MC or link-local packet that fits starts on a free lane. -/
  | egressStart (p : Port) (l : Lane) (at_ : At)
  /-- R293. The calendar wheel reaches a shaper's entry and its packets become eligible again. -/
  | shaperWheelExpiry (n : Nat)
  /-- R301. A packet's head time reaches its limit, and the part drops it and frees its credit. -/
  | headDrop (n : Nat)
  /-- R274. The learn sequencer applies a queued creation or move in ingress time-stamp order. -/
  | learnApply
  /-- R149. A refill of a VOQ's head blocks from strata completes. -/
  | refillComplete (id : Nat)
  /-- R158. A port loses its ingress markers, its egress lanes or training, and its flap hold starts. -/
  | portDown (p : Port) (why : DownCause)
  /-- R158. The flap hold expires with the port still down, and the part drops its queued packets. -/
  | flapHoldExpiry (p : Port)
  /-- R159. A down port retrains with valid markers and returns IN_SERVICE. -/
  | portUp (p : Port)
  /-- R153. A binding's VOQs stay empty for DP_RESEQ_IDLE_US and its next becomes unset. -/
  | reseqIdleExpiry (flow : Nat)
  /-- R170. An uncorrectable strata error loses a queued packet. -/
  | strataReadError (id : Nat)
  /-- R195. A reduction contribution, held whole, is checked and accepted into its level-0 node. -/
  | redContrib (p : Port) (k : Packet)
  /-- R195. A BARRIER contribution is checked and accepted for a barrier recipe. -/
  | barrier (p : Port) (k : Packet)
  /-- R183. A child node's partial reaches its parent node, which combines pairs and finishes at the root. -/
  | partialArrival (n : Nat)
  /-- R198. A finished result reaches a port's bench and joins the recipe's result queue. -/
  | resultArrival (n : Nat)
  /-- R197. A chunk's timeout ends before completion, and the part abandons it and logs its missing members. -/
  | chunkTimeout (coll chunk : Nat)
  /-- R198. A result still queued at its dwell limit is dropped. -/
  | resultDwellExpiry (n : Nat)
  /-- R212. Writing 1 empties the missing-member log and zeroes its written count. -/
  | crMissingLogClear (c : Cmd)
  /-- R231. A load request for the part is judged at its source's home bench and served. -/
  | memLoad (p : Port) (k : Packet)
  /-- R231. A store request for the part is sequenced at the home bench and sent for application. -/
  | memStore (p : Port) (k : Packet)
  /-- R229. A store with flag is held at the home bench until its predecessors resolve. -/
  | memStoreFlag (p : Port) (k : Packet)
  /-- R218. An atomic request is sequenced, or answered from the replay table. -/
  | memAtomic (p : Port) (k : Packet)
  /-- R202. A reduce-store request is sequenced and later combined into the stored elements. -/
  | memReduceStore (p : Port) (k : Packet)
  /-- R240. A multicast store is forwarded to its group and may apply one local copy. -/
  | memMcastStore (p : Port) (k : Packet)
  /-- R227. At the serving bench a request passes the region checks and is applied, or is refused. -/
  | memApply (n : Nat) (readErrors : List Nat)
  /-- R231. A request's outcome returns to the home bench and the window base advances. -/
  | memOutcome (n : Nat)
  /-- R230. A source's gap timer expires, and its gaps are declared lost. -/
  | gapTimerExpiry (src : FA)
  /-- R231. A slot's young phase ends FM_GAP_HOLD_US after it was allocated. -/
  | sourceYoungExpiry (src : FA)
  /-- R236. A MEM_ACK or MEM_NACK for a mirror write reaches the sender, which clears or resends the write. -/
  | mirrorResponse (p : Port) (k : Packet)
  /-- R236. A mirror write is not acknowledged within FM_MIRROR_ACK_US and is resent. -/
  | mirrorAckTimeout (n : Nat)
  /-- R236. The whole-region resync completes and the mirror returns to IN_SYNC. -/
  | mirrorResyncDone
  /-- R224. A define record creates a region, which the part places and zeroes. -/
  | regionCreate (c : Cmd)
  /-- R224. A define record retires a region's generation and frees its storage. -/
  | regionRetire (c : Cmd)
  /-- R224. A define record installs a new key and generation and keeps the contents. -/
  | regionRekey (c : Cmd)
  /-- R224. A define record zeroes a region and installs a new key, generation and flags. -/
  | regionReinitialise (c : Cmd)
  /-- R224. Zeroing of a region completes and the region becomes ACTIVE. -/
  | regionZeroDone (region : Nat)
  /-- R238. A write names a checkpoint step and its tick. -/
  | fmCheckpointStep (c : Cmd)
  /-- R238. At the step tick the part snapshots every checkpointed region, or skips the snapshot if a copy is running. -/
  | checkpointSnapshot
  /-- R238. The background checkpoint copy to GDDR7 completes. -/
  | checkpointCopyDone
  /-- R239. A write names the latest complete checkpoint to restore at a tick. -/
  | fmCheckpointRestore (c : Cmd)
  /-- R239. At the restore tick regions become RESTORING with new generations and their contents are copied back. -/
  | checkpointRestore
  /-- R239. The copy-back completes and the restored regions become ACTIVE. -/
  | restoreCopyDone
  /-- R440. At the effect tick of an expulsion, the part drops the FA's traffic and takes its ports down. -/
  | fenceEffect (n : Nat)
  /-- R440. At the effect tick of a readmission, the fence on the FA is lifted. -/
  | readmissionEffect (n : Nat)
  /-- R265. A block write of LPM records to the shadow route set. -/
  | tbLpmWrite (c : Cmd)
  /-- R265. A block write of exact records to the shadow route set. -/
  | tbExactWrite (c : Cmd)
  /-- R266. A block write of next-hop records to the shadow route set. -/
  | tbNexthopWrite (c : Cmd)
  /-- R266. A block write of multicast group records to the shadow route set. -/
  | tbGroupWrite (c : Cmd)
  /-- R273. A new table seed rebuilds that table's shadow under the new hash. -/
  | tbSeedNext (c : Cmd)
  /-- R268. A waiting route write is applied to every die's shadow and completes. -/
  | tbWriteApplyDone
  /-- R269. The grace set ends at the second frame boundary after the epoch, and the active set is copied into the shadow. -/
  | graceEnd
  /-- R268. The copy of the active set into the shadow completes, and waiting writes start. -/
  | shadowCopyDone
  /-- R277. A signed substitution notice binds an FA to a new port. -/
  | tbSubstitute (c : Cmd)
  /-- R278. The scanner visits a learned entry and removes it if its age exceeds the limit. -/
  | ageScan (fa : FA)
  /-- R260. The scrubber reads a table word and corrects or reloads it. -/
  | scrubVisit (die : Die) (table : TableKind) (place : WordPlace) (err : EccErr)
  /-- R259. An unreadable table word is reloaded from the backing store. -/
  | eccReloadDone (n : Nat)
  /-- R317. At each poll the part reads each ELS module and steers each output's bias toward the feed target. -/
  | elsPoll (r : PollReadings)
  /-- R315. The payload of a read or write response frame arrives from an ELS module. -/
  | elsResponse (pos : Nat) (frame : Bytes)
  /-- R316. An ELS access gets no response within 1 ms and is retried or reported. -/
  | elsAccessTimeout (pos n : Nat)
  /-- R336. A fitted module's identity is read and its outputs are enabled and ramped. -/
  | elsModuleFitted (pos : Nat) (identity : Bytes)
  /-- R320. A ring search completes, and the ring relocks or the search fails. -/
  | ringSearchDone (ring : Nat) (found : Option Int)
  /-- R312. A lane's rings are locked and valid markers have arrived for 16 ticks, and the lane leaves TRAINING. -/
  | laneTrained (p : Port) (l : Lane) (ingress : Bool)
  /-- R323. A partner's REPORT is kept for loss location and margin checks. -/
  | reportReceived (p : Port) (k : Packet)
  /-- R327. A partner's PROPOSE is answered with ACCEPT or REFUSE within 2 ticks. -/
  | laneMovePropose (p : Port) (k : Packet)
  /-- R327. An ACCEPT holds the reserve lane for the planned move. -/
  | laneMoveAccept (p : Port) (k : Packet)
  /-- R327. A REFUSE ends the proposed move. -/
  | laneMoveRefuse (p : Port) (k : Packet)
  /-- R330. A partner's FAULT makes the part carry the lane on its reserve from the second tick boundary. -/
  | laneMoveFault (p : Port) (k : Packet)
  /-- R327. In tick S − 1 the lane's entries are sent on both the primary and the reserve lane. -/
  | moveDuplicateTick (n : Nat)
  /-- R327. At tick S the lane's entries move to the reserve, or a return goes back to the primary lane. -/
  | moveSwitch (n : Nat)
  /-- R327. No ACCEPT is held by tick S − 2, and the move is abandoned. -/
  | moveAbandon (n : Nat)
  /-- R330. The partner's markers have not moved 4 ticks after a FAULT. -/
  | partnerSilent (p : Port) (l : Lane)
  /-- R329. A moved or faulted lane's rings stay locked for the return hold, and the lane returns. -/
  | laneReturnHold (p : Port) (l : Lane)
  /-- R327. A write of OP_LANE_COMMAND requests a planned move of reason 6. -/
  | laneCommandMove (c : Cmd)
  /-- R327. A write of OP_LANE_COMMAND requests the return of a moved lane. -/
  | laneCommandReturn (c : Cmd)
  /-- R336. A write proposes moves off the wavelength of the ELS module to be replaced. -/
  | opElsReplacePrepare (c : Cmd)
  /-- R336. Every replacement move has resolved and the module state becomes READY_TO_REMOVE. -/
  | elsReadyToRemove (pos : Nat)
  /-- R337. The calibration run of a lane completes with pass or fail. -/
  | calibrationDone (p : Port) (l : Lane) (r : CalResult)
  /-- R353. At the blanked tick before a chute change, the part routes the wing and drives the cells. -/
  | chuteDrive (w : Wing)
  /-- R358. 900 ns after a change, each cell's report is compared, and faults or a failed set are handled. -/
  | chuteSettleCheck (w : Wing) (reports : List (Nat × Nat))
  /-- R361. A loop command sets a loopback from a transmit bus to a receive bus. -/
  | chuteLoopSet (c : Cmd)
  /-- R361. A loop command clears a loopback. -/
  | chuteLoopClear (c : Cmd)
  /-- R383. A READ command returns an entry's value or a part of it. -/
  | read (c : Cmd)
  /-- R382. A WRITE command sets an entry that has no row of its own, at once, at its tick or at the epoch. -/
  | write (c : Cmd)
  /-- R393. Takes a copy-on-write snapshot of a value and returns its length and digest. -/
  | readBlockOpen (c : Cmd)
  /-- R393. Returns bytes from the snapshot. -/
  | readBlockSegment (c : Cmd)
  /-- R393. Releases the snapshot. -/
  | readBlockClose (c : Cmd)
  /-- R392. Opens a write transfer with its length and digest. -/
  | writeBlockBegin (c : Cmd)
  /-- R392. Writes a segment of an open transfer. -/
  | writeBlockSegment (c : Cmd)
  /-- R392. Checks the transfer is whole and starts digest verification, or answers INCOMPLETE. -/
  | writeBlockCommit (c : Cmd)
  /-- R392. Aborts an open transfer. -/
  | writeBlockAbort (c : Cmd)
  /-- R578. Digest verification ends, and the value passes to the entry or the transfer fails. -/
  | blockVerifyDone (entry : Nat)
  /-- R401. Opens a subscription to events of the classes in a mask. -/
  | subscribeEvents (c : Cmd)
  /-- R401. Opens a periodic subscription to an entry's value. -/
  | subscribeEntry (c : Cmd)
  /-- R401. Ends a subscription. -/
  | subscribeEnd (c : Cmd)
  /-- R395. Opens a session for the principal and gives its lease. -/
  | openSession (c : Cmd)
  /-- R397. Ends the session after its earlier commands complete. -/
  | closeSession (c : Cmd)
  /-- R396. Renews the session's lease. -/
  | renew (c : Cmd)
  /-- R396. Grants every named area to the session, or none. -/
  | claim (c : Cmd)
  /-- R579. Makes the named areas that the session owns unowned. -/
  | release (c : Cmd)
  /-- R396. Passes the named areas to a target session, or none. -/
  | handover (c : Cmd)
  /-- R496. Writes an RWS entry after checking the owner signature and counter. -/
  | signedWrite (c : Cmd)
  /-- R395. A session's lease lapses and the session ends. -/
  | sessionLeaseExpiry (n : Nat)
  /-- R392. A transfer or snapshot sees no segment for DX_BLOCK_IDLE_MS and is aborted. -/
  | blockIdleExpiry (n : Nat)
  /-- R382. A pending at-tick or at-epoch write takes effect at its boundary. -/
  | pendingWriteEffect (n : Nat)
  /-- R4. A signed write requests a behaviour level, which applies at the next epoch. -/
  | behaviourLevelSet (c : Cmd)
  /-- R135. A write sets port formats and FEC modes at a frame boundary and retrains changed ports. -/
  | portConfig (c : Cmd)
  /-- R406. The host advances SQ_TAIL and the part reads the new submission slots. -/
  | sqTailDoorbell (h : HostPort) (tail : BitVec 32) (slots : List Bytes)
  /-- R406. The host releases completion slots to the part. -/
  | cqHeadWrite (h : HostPort) (head : BitVec 32)
  /-- R406. The host releases event slots to the part. -/
  | eqHeadWrite (h : HostPort) (head : BitVec 32)
  /-- R405. The host enables or disables the command and event queues. -/
  | queueCtrlWrite (h : HostPort) (v : BitVec 32)
  /-- R405. A write to another BAR0 register, taken only while its queue is disabled. -/
  | barRegisterWrite (h : HostPort) (off : BitVec 20) (v : BitVec 64) (size : Nat)
  /-- R407. A vector's holdoff ends and a pending signal is sent. -/
  | msixHoldoffExpiry (h : HostPort) (vec : Nat)
  /-- R404. A Function Level Reset disables the host's queues and ends its sessions. -/
  | functionLevelReset (h : HostPort)
  /-- R561. PERST_x_N holds one host port in reset and ends that host's sessions. -/
  | perstAssert (h : HostPort)
  /-- R429. A write requests Active, and wakes the part from Rest at once. -/
  | psRequestActive (c : Cmd)
  /-- R427. A write requests Trim, with bench gating frame by frame. -/
  | psRequestTrim (c : Cmd)
  /-- R428. A write requests Rest at a frame boundary, with a withdraw notice if the part is CURRENT. -/
  | psRequestRest (c : Cmd)
  /-- R428. At the named boundary the part stops forwarding, discards images and powers off the face dies. -/
  | restEntry
  /-- R429. The face dies are up after a wake and the lanes enter TRAINING. -/
  | wakeComplete
  /-- R427. A gated bench finishes waking for a queued packet or request. -/
  | trimBenchWake (b : PhysBench)
  /-- R422. The moth evaluates a rule's filtered inputs and acts on assertion or clear. -/
  | ruleEvaluate (rule : Fin 256) (input : Nat) (v : Int)
  /-- R432. A discrete input changes level and passes the glitch filter and chatter detector. -/
  | discreteInputChange (d : Nat) (level : Bool) (at_ : At)
  /-- R432. An input is asserted longer than its stuck time and takes its stuck meaning. -/
  | diStuckExpiry (d : Nat)
  /-- R432. A write unmasks chattering discrete inputs. -/
  | hlDiUnmask (c : Cmd)
  /-- R433. A write of 1s clears latched fault cause bits. -/
  | hlFaultClear (c : Cmd)
  /-- R433. A write of 1s clears latched attention cause bits. -/
  | hlAttnClear (c : Cmd)
  /-- R436. A heartbeat is judged valid or stale and refreshes the neighbour state. -/
  | heartbeatReceived (p : Port) (k : Packet)
  /-- R437. A port's heartbeat age exceeds its limit and the neighbour becomes SUSPECT. -/
  | neighbourSuspect (p : Port)
  /-- R439. A quorum certificate is verified and accepted or refused. -/
  | hlCertSubmit (c : Cmd)
  /-- R441. The moth issues a watchdog challenge, and a missed answer restarts the controller. -/
  | wdtChallenge (die : Die) (answered : Bool)
  /-- R441. A restarted management controller serves again and held commands and events resume. -/
  | controllerRestartDone (die : Die)
  /-- R443. The moth firmware fails to kick its timer for 10 ms and the moth restarts. -/
  | mothWatchdogExpiry
  /-- R532. PWR_OK rises or RST_N deasserts, and the cold power-up sequence begins at phase 0. -/
  | coldPowerUp
  /-- R532. A power-up phase completes and the next begins. -/
  | powerUpPhaseDone (r : PhaseResult)
  /-- R535. A test step starts once the input power has room for it. -/
  | testStepStart (kind : Nat) (units : List Nat)
  /-- R430. PWR_OK falls and every rail goes off within 100 µs. -/
  | pwrOkFall
  /-- R431. RST_N is asserted and the part is held in cold reset. -/
  | rstNAssert
  /-- R569. The 56 V input is lost and every rail goes off, the moth's included. -/
  | inputPowerLoss
  /-- R556. The eFuse opens on current limit, fast trip or overvoltage and removes power. -/
  | efuseOpen (cause : Nat)
  /-- R453. A write sets the position FA and makes the part STALE or UNASSIGNED. -/
  | rpPositionFa (c : Cmd)
  /-- R461. A write starts a graceful withdraw with its withdraw frame and loss set. -/
  | rpWithdraw (c : Cmd)
  /-- R461. At the withdraw frame the part stops forwarding and enters Rest, resets or becomes STALE. -/
  | withdrawFrame
  /-- R480. A partner's WITHDRAW or RETURN notice is recorded. -/
  | withdrawReceived (p : Port) (k : Packet)
  /-- R458. At J the join image and route set become active and the part becomes CURRENT. -/
  | joinFrame
  /-- R462. A signed write starts a warm reset, at once or at the withdraw frame. -/
  | rpResetWarm (c : Cmd)
  /-- R462. A signed write starts a cold reset, at once or at the withdraw frame. -/
  | rpResetCold (c : Cmd)
  /-- R540. The short check of a warm reset completes and the part is released as STALE. -/
  | warmResetRelease
  /-- R462. A write resets one physical bench that serves no logical bench. -/
  | rpBenchReset (c : Cmd)
  /-- R465. A TESTING bench's run-time test ends and the bench becomes SPARE or RETIRED. -/
  | benchTestDone (b : PhysBench) (pass : Bool)
  /-- R467. A serving bench reports an uncorrectable fault and becomes FAILED. -/
  | benchFault (b : PhysBench)
  /-- R471. The position record of an epoch is built in GDDR7. -/
  | positionRecordBuilt
  /-- R472. An imported position record is checked and applied, and the part becomes STALE. -/
  | importApplyDone
  /-- R473. A write opens the mirror window of a spare to a takeover stream. -/
  | rpStreamAccept (c : Cmd)
  /-- R474. A write at the partner starts streaming the mirror to the spare. -/
  | rpStreamStart (c : Cmd)
  /-- R474. The partner sends the next paced stream write to the spare. -/
  | streamSend
  /-- R476. No stream write arrives within the timeout, and the receiver abandons the stream. -/
  | streamTimeout
  /-- R476. A write abandons the receiving stream. -/
  | rpStreamAbort (c : Cmd)
  /-- R492. A staged firmware image is checked and its slot marked valid or invalid. -/
  | fwImageCheckDone (slot : Nat)
  /-- R493. A signed write selects the firmware slot for the next cold reset. -/
  | seFwActivate (c : Cmd)
  /-- R494. A signed write burns the anti-rollback counter. -/
  | seRollbackCommit (c : Cmd)
  /-- R498. A signed write enrols an owner key in a slot. -/
  | seOwnerEnrol (c : Cmd)
  /-- R499. A signed write burns an owner slot's revoke bit. -/
  | seOwnerRevoke (c : Cmd)
  /-- R500. A signed write changes the manager keys, held to the quorum rule. -/
  | seManagerKeys (c : Cmd)
  /-- R500. A signed write changes the quorum q, held to the quorum rule. -/
  | seQuorum (c : Cmd)
  /-- R505. A nonce write makes the part build and sign an attestation report. -/
  | seAttestRequest (c : Cmd)
  /-- R516. At its tick, zeroes the fixed counters of every bench. -/
  | tmClearFixed (c : Cmd)
  /-- R516. At its tick, zeroes the programmable counters of every bench. -/
  | tmClearProg (c : Cmd)
  /-- R517. A write latches all counters at the named tick. -/
  | tmLatchNow (c : Cmd)
  /-- R518. A latched dump is written to its destination, or skipped. -/
  | dumpComplete
  /-- R522. A write empties the capture ring and resumes capture. -/
  | tmCaptureRestart (c : Cmd)
  /-- R542. A run-time strata bank test starts on its interval or on command. -/
  | strataBankTestStart (stack bank : Nat)
  /-- R542. A write tests a named strata bank at once. -/
  | biStrataTestNow (c : Cmd)
  /-- R543. A save, test or restore step of a bank test completes, and a failed bank is mapped out. -/
  | strataBankStepDone (n : Nat) (ok : Bool)
  /-- R561. PERST_x_N deasserts, the host port leaves reset, trains, and answers configuration requests within 100 ms. -/
  | perstDeassert (h : HostPort)
  /-- R404. A host's PCIe link goes down, for example on loss of its REFCLK, and that host's sessions stay open until their leases lapse. -/
  | pcieLinkDown (h : HostPort)
  /-- R443. The moth's restart completes within 5 ms, and its filters, rule assertions and heartbeats resume from the first sample. -/
  | mothRestartDone
  /-- R446. The face dies are off after entry to Rest, and a wake cause that arrived during the entry then takes effect. -/
  | restEntryComplete
  /-- R563. An IEEE 1149.1 instruction is loaded at the test port, and EXTEST or HIGHZ act only while RST_N is low, otherwise as BYPASS. -/
  | testPortInstruction (ir : Nat)
deriving DecidableEq, Repr

end Sys2Proof
end

