-- ==== Sys2Proof/Config.lean ====
section
/-! DEFINITION. What one module fixes and the manual does not state, and the free values. None of these has a body that a
proof can look into: a claim about them holds whatever they are (assumption rows 2 and 3). -/
namespace Sys2Proof

/-- Values that the listings call "per module" or "per build", as byte strings, by entry 0xIIIISS. -/
opaque Config.moduleBytes : Nat → List Byte

/-- The same, for scalar entries. -/
opaque Config.moduleNum : Nat → Nat

/-- SHA-384 of a byte string, as a 384-bit value (FIPS 180-4, which the manual names and does not restate). -/
opaque Config.sha384 : Bytes → BitVec 384

/-- A signature that ECDSA on brainpoolP384r1 makes (R485) under a public key for a message (FIPS 186-5). -/
opaque Config.ecdsaSome : Bytes → Bytes → BitVec 768

/-- Whether any other signature verifies under a public key for a message. -/
opaque Config.ecdsaOther : Bytes → Bytes → Bytes → Bool

/-- A free value: the n-th one the part needs, for a purpose named by number. -/
opaque Config.freeNat : Nat → Nat → Nat

/-- The result of a function whose algorithm the manual leaves to the part: purpose and operands. -/
opaque Config.openFn : Nat → List Nat → Nat

/-- The identifier of the engine's placement choice for a region (R224). -/
opaque Config.placement : Nat → Nat → Nat

end Sys2Proof
end

