-- ==== Sys2Proof/Machine/Util.lean ====
section
/-! DEFINITION. Helpers every family uses: sparse tables, byte order, bit fields, serial comparison (R98) and check codes. -/
namespace Sys2Proof

/-! ### Sparse tables -/

/-- The value listed at `k`. -/
def SMap.get? {α : Type} (m : SMap α) (k : Nat) : Option α :=
  match m with
  | [] => none
  | (i, v) :: r => if i = k then some v else SMap.get? r k

/-- The value at `k`, or the default `d`. -/
def SMap.getD {α : Type} (m : SMap α) (k : Nat) (d : α) : α := (SMap.get? m k).getD d

/-- List `v` at `k`, keeping the keys strictly rising. -/
def SMap.set {α : Type} (m : SMap α) (k : Nat) (v : α) : SMap α :=
  match m with
  | [] => [(k, v)]
  | (i, w) :: r =>
    if k < i then (k, v) :: (i, w) :: r
    else if i = k then (k, v) :: r
    else (i, w) :: SMap.set r k v

/-- Take `k` out of the table. -/
def SMap.erase {α : Type} (m : SMap α) (k : Nat) : SMap α := m.filter fun e => e.1 ≠ k

/-- Write `v` at `k`; the default is never listed. -/
def SMap.put {α : Type} [DecidableEq α] (d : α) (m : SMap α) (k : Nat) (v : α) : SMap α :=
  if v = d then SMap.erase m k else SMap.set m k v

/-- Change the value at `k`, whose default is `d`. -/
def SMap.update {α : Type} (d : α) (m : SMap α) (k : Nat) (f : α → α) : SMap α :=
  SMap.set m k (f (SMap.getD m k d))

/-- Keys strictly rising. -/
def SMap.sorted {α : Type} (m : SMap α) : Bool :=
  match m with
  | [] => true
  | (i, _) :: r => r.all (fun e => i < e.1) && SMap.sorted r

/-! ### Bytes and bit fields -/

/-- Bits `[lo + w - 1 : lo]` of a number. -/
def bits (n lo w : Nat) : Nat := (n >>> lo) % 2 ^ w

/-- One bit of a number. -/
def bit (n i : Nat) : Bool := (n >>> i) % 2 == 1

/-- A Boolean as 0 or 1. -/
def b2n (b : Bool) : Nat := if b then 1 else 0

/-- The number a run of bytes spells, first byte most significant (wire order). -/
def beNat (bs : Bytes) : Nat := bs.foldl (fun a b => a * 256 + b.toNat) 0

/-- The number a run of bytes spells, first byte least significant. -/
def leNat (bs : Bytes) : Nat := beNat bs.reverse

/-- `n` bytes of `v`, least significant first. -/
def leBytes : Nat → Nat → Bytes
  | 0, _ => []
  | n + 1, v => BitVec.ofNat 8 v :: leBytes n (v / 256)

/-- `n` bytes of `v`, most significant first (wire order). -/
def beBytes (n v : Nat) : Bytes := (leBytes n v).reverse

/-- `len` bytes from `off`; bytes past the end read as zero. -/
def slice (bs : Bytes) (off len : Nat) : Bytes :=
  let t := (bs.drop off).take len
  t ++ List.replicate (len - t.length) 0

/-- Big-endian field of `len` bytes at `off`. -/
def beAt (bs : Bytes) (off len : Nat) : Nat := beNat (slice bs off len)

/-- Overwrite bytes from `off`; the run grows with zeros where it is too short. -/
def splice (bs : Bytes) (off : Nat) (new : Bytes) : Bytes :=
  let p := bs.take off
  p ++ List.replicate (off - p.length) 0 ++ new ++ bs.drop (off + new.length)

/-- Cut a run into records of `n` bytes. `fuel` bounds the count. -/
def chunksAux (n : Nat) : Nat → Bytes → List Bytes
  | 0, _ => []
  | f + 1, bs => if bs.isEmpty then [] else bs.take n :: chunksAux n f (bs.drop n)

/-- Records of `n` bytes. -/
def chunks (n : Nat) (bs : Bytes) : List Bytes := chunksAux n (bs.length / n + 1) bs

/-- The text as bytes, one byte a character. -/
def ascii (t : String) : Bytes := t.toList.map fun c => BitVec.ofNat 8 c.toNat

/-- The first `n` bytes, padded with zeros. -/
def padTo (n : Nat) (bs : Bytes) : Bytes := slice bs 0 n

/-- Two's complement reading of a `w`-bit number. -/
def toSigned (w n : Nat) : Int := if n % 2 ^ w < 2 ^ (w - 1) then (n % 2 ^ w : Nat) else (n % 2 ^ w : Nat) - (2 ^ w : Nat)

/-- The `w`-bit two's complement pattern of an integer. -/
def ofSigned (w : Nat) (z : Int) : Nat := (z % (2 ^ w : Nat)).toNat

/-- Round up division. -/
def ceilDiv (a b : Nat) : Nat := (a + b - 1) / b

/-! ### Serial arithmetic (R98) -/

/-- `a` comes after `b` in `w`-bit serial order. -/
def serialAfter (w a b : Nat) : Bool :=
  let d := (a % 2 ^ w + 2 ^ w - b % 2 ^ w) % 2 ^ w
  0 < d && d < 2 ^ (w - 1)

/-- Forward distance from `b` to `a` in `w`-bit serial order. -/
def serialDist (w a b : Nat) : Nat := (a % 2 ^ w + 2 ^ w - b % 2 ^ w) % 2 ^ w

/-! ### Check codes -/

/-- One bit step of a reflected CRC over numbers. -/
def crcStepR (poly c : Nat) : Nat := if c % 2 = 1 then (c >>> 1) ^^^ poly else c >>> 1

/-- CRC-32C as RFC 3720 defines it (reflected 0x1EDC6F41, initial and final all ones). PRESUMED: the polynomial stands in that RFC. -/
def crc32c (bs : Bytes) : Nat :=
  (bs.foldl (fun c b =>
    let p := 0x82F63B78
    crcStepR p (crcStepR p (crcStepR p (crcStepR p (crcStepR p (crcStepR p (crcStepR p (crcStepR p (c ^^^ b.toNat))))))))) 0xFFFFFFFF)
    ^^^ 0xFFFFFFFF

/-- One bit step of an unreflected CRC of width `w`. -/
def crcStep (w poly c : Nat) : Nat :=
  if bit c (w - 1) then ((c <<< 1) ^^^ poly) % 2 ^ w else (c <<< 1) % 2 ^ w

/-- An unreflected CRC of width `w` from zero with no final change. -/
def crcPlain (w poly : Nat) (bs : Bytes) : Nat :=
  bs.foldl (fun c b =>
    let s := crcStep w poly
    s (s (s (s (s (s (s (s (c ^^^ (b.toNat <<< (w - 8)))))))))) ) 0

/-- The header check CRC-16, polynomial 0x8BB7 (R112). -/
def crc16 (bs : Bytes) : Nat := crcPlain 16 0x8BB7 bs

/-- The slot marker check CRC-8, polynomial 0x07 (R108). -/
def crc8 (bs : Bytes) : Nat := crcPlain 8 0x07 bs

/-! ### Masks of reserved bits -/

/-- A 4-byte word of a mask. -/
def w32 (v : Nat) : Bytes := beBytes 4 v

/-- `n` mask bytes of ones. -/
def ones (n : Nat) : Bytes := List.replicate n 0xFF

/-- First byte of a record that sets a bit outside the mask; an empty mask reserves nothing. -/
def maskBreak (mask r : Bytes) : Option Nat :=
  if mask = [] then none else (List.range r.length).find? fun i => beAt r i 1 &&& (255 - beAt mask i 1) != 0

/-! ### Lists -/

/-- Replace the element at `n`. -/
def listSet {α : Type} (l : List α) (n : Nat) (v : α) : List α := l.set n v

/-- Change the elements that satisfy `p`. -/
def listMapIf {α : Type} (p : α → Bool) (f : α → α) (l : List α) : List α := l.map fun x => if p x then f x else x

/-- Take the element at `n` out. -/
def listErase {α : Type} (l : List α) (n : Nat) : List α := l.take n ++ l.drop (n + 1)

/-- Add an element that is not there yet. -/
def addNew {α : Type} [DecidableEq α] (x : α) (l : List α) : List α := if x ∈ l then l else l ++ [x]

/-- Sum of a list. -/
def sumNat (l : List Nat) : Nat := l.foldl (· + ·) 0

end Sys2Proof
end

