-- ==== Sys2Proof/Machine/State.lean ====
section
/-! DEFINITION. The state of the part, all plain data, and the state after reset. -/
namespace Sys2Proof.Machine
open Sys2Proof

/-! ### Time -/

/-- Fabric time of the part's generator: the tick index and the picoseconds since that tick's boundary (R7, R73). -/
structure Clk where
  tick : Nat
  ps : Nat
deriving DecidableEq, Repr

/-! ### Events (R399, R400, R577) -/

/-- One item of an event's data field, by the classes of R400. -/
inductive Item where
  /-- 8 bytes, never shortened. -/
  | u64 (v : Nat)
  /-- A tick or frame index: 8 bytes, or its low 4 bytes where the items do not fit. -/
  | idx (v : Nat)
  | u32 (v : Nat)
  /-- A signed quantity. -/
  | i32 (v : Int)
  | u16 (v : Nat)
  | u8 (v : Nat)
  /-- A list of ports, benches, regions or members. -/
  | units (l : List Nat)
  /-- A list of busy fractions. -/
  | fracs (l : List Nat)
  /-- A set of counts. -/
  | counts (l : List Nat)
deriving DecidableEq, Repr

/-- A raised event (R399). -/
structure EventRec where
  code : Nat
  seq : Nat
  tick : Nat
  items : List Item
deriving DecidableEq, Repr

/-- A frame total under R577: raised at the boundary that ends the frame. -/
structure FrameAcc where
  code : Nat
  /-- The unit the event is limited to (port, bench, recipe ...). -/
  key : Nat
  /-- Items before the counts: those of the frame's first occurrence. -/
  first : List Item
  counts : List Nat
  /-- The entry whose value the frame's total must exceed; none where every nonzero total is raised. -/
  limit : Option Nat
deriving DecidableEq, Repr

/-- The device event ring and the event bookkeeping of the running frame. -/
structure EvState where
  /-- Sequence number the next event takes; the first after a cold reset is 1 (R399). -/
  next : Nat
  /-- The latest 65,536 events, newest first (R523). -/
  ring : List EventRec
  acc : List FrameAcc
  /-- Events already raised this frame where a rule allows one a frame: code and unit. -/
  once : List (Nat × Nat)
deriving DecidableEq, Repr

/-! ### The dictionary, sessions and transfers (chapter 13) -/

/-- Values of settings and counters (scalars, by entry 0xIIIISS), and of settings that are byte strings. An entry that
is not listed holds its default of the catalog. -/
structure Dict where
  nums : SMap Nat
  tabs : SMap Bytes
deriving DecidableEq, Repr

/-- A response before it is put on its transport (R385). -/
structure Resp where
  dest : Source
  op : Nat
  session : Nat
  tag : Nat
  entry : Nat
  status : Nat
  detail : Nat
  tick : Nat
  /-- Event count of an EVENT response. -/
  operand : Nat := 0
  replayed : Bool
  body : Bytes
deriving DecidableEq, Repr

/-- An open session (R395). -/
structure Session where
  num : Nat
  kind : Nat
  fa : Nat
  src : Source
  /-- Fabric time in ps at which the lease lapses. -/
  leaseEnd : Nat
  commands : Nat
  openTick : Nat
  /-- The 16 most recent tags with their responses, newest first (R391). -/
  replay : List (Nat × Resp)
  /-- Commands taken that wait behind a COMMIT in verification: op code and command, oldest first (R390). -/
  waiting : List (Nat × Cmd)
deriving DecidableEq, Repr

/-- State of a write transfer (R392). -/
inductive XferState where
  | openn
  | verifying
deriving DecidableEq, Repr

/-- An open write transfer (R392). -/
structure Xfer where
  entry : Nat
  session : Nat
  state : XferState
  length : Nat
  digest : Bytes
  /-- Bytes received, by 64-byte line. -/
  lines : SMap Bytes
  /-- Fabric time in ps at which the transfer goes idle. -/
  idleEnd : Nat
  activity : Nat
  /-- The COMMIT that is being verified. -/
  commit : Option Cmd
deriving DecidableEq, Repr

/-- A read snapshot (R393). -/
structure Snap where
  entry : Nat
  session : Nat
  src : Source
  data : Bytes
  served : Nat
  idleEnd : Nat
  activity : Nat
deriving DecidableEq, Repr

/-- A subscription (R401). -/
structure Sub where
  num : Nat
  session : Nat
  /-- 1 events, 2 entry. -/
  kind : Nat
  /-- Class mask, or entry 0xIIIISS. -/
  arg : Nat
  interval : Nat
  dest : Source
  /-- EVENT responses sent this frame. -/
  sent : Nat
  /-- Events that wait to be sent, oldest first. -/
  queue : List EventRec
deriving DecidableEq, Repr

/-- A pending write (R382). -/
structure PendWrite where
  entry : Nat
  session : Nat
  /-- Effect tick; none for at epoch. -/
  tick : Option Nat
  offset : Nat
  body : Bytes
deriving DecidableEq, Repr

/-- Sessions, owners, transfers, snapshots, subscriptions and pending writes. -/
structure DxState where
  sessions : List Session
  /-- Owning session of each owned area. -/
  owners : SMap Nat
  xfers : List Xfer
  snaps : List Snap
  subs : List Sub
  /-- In the order the writes completed. -/
  pending : List PendWrite
  /-- Packets the part has taken for itself and not yet acted on: port and packet. -/
  inbox : List (Nat × Packet)
  /-- Submission slots the part has read and not yet taken: host, op code and command, oldest first (R406). -/
  fetched : List (Nat × Nat × Cmd)
deriving DecidableEq, Repr

/-! ### The PCIe functions (R404 to R407) -/

/-- The BAR0 registers of one host port and its MSI-X state. -/
structure PcieFn where
  sqBase : Nat
  sqLog2 : Nat
  sqTail : Nat
  sqHead : Nat
  cqBase : Nat
  cqLog2 : Nat
  cqHead : Nat
  cqTail : Nat
  /-- Phase the part writes in this pass of the completion queue. -/
  cqPhase : Bool
  eqBase : Nat
  eqLog2 : Nat
  eqHead : Nat
  eqTail : Nat
  ctrl : Nat
  holdoff : Nat
  queueError : Bool
  eqOverflow : Bool
  /-- Per MSI-X vector: the end of its holdoff in ps, and whether a signal is pending. -/
  vectors : SMap (Nat × Bool)
  /-- MSI-X table bytes (R405). -/
  msix : Bytes
  /-- Held in reset by PERST_x_N (R561). -/
  perst : Bool
  linkUp : Bool
  /-- Responses that wait for a completion slot, oldest first. -/
  waiting : List Resp
deriving DecidableEq, Repr

/-! ### Timetable images (R26 to R50) -/

/-- A job partition record (R33). -/
structure Partition where
  job : Nat
  first : Nat
  last : Nat
  lanes : Nat
  slots : Nat
deriving DecidableEq, Repr

/-- A flow binding record (R35). -/
structure Binding where
  flow : Nat
  /-- Multicast mode. -/
  multi : Bool
  dwell : Nat
  job : Nat
  egress : Nat
  ingress : Nat
  hold : Nat
  window : Nat
  gated : Bool
  pkts : Nat
  bound : Nat
deriving DecidableEq, Repr

/-- A spray set: ports with their lane masks (R36). -/
structure Spray where
  count : Nat
  entries : List (Nat × Nat)
deriving DecidableEq, Repr

/-- A crusher recipe record (R191), with its 256 bytes. -/
structure Recipe where
  coll : Nat
  type : Nat
  op : Nat
  job : Nat
  n : Nat
  inFmt : Nat
  outFmt : Nat
  partialFmt : Nat
  stochastic : Bool
  preOn : Bool
  postOn : Bool
  shift : Nat
  gated : Bool
  elems : Nat
  window : Nat
  dwell : Nat
  timeout : Nat
  chunks : Nat
  flow : Nat
  group : Nat
  pre : Nat
  post : Nat
  gen : Nat
  seed : Nat
  fma : Nat
  key : Nat
  benches : List Nat
  /-- Ports of the result map, ascending. -/
  ports : List Nat
  raw : Bytes
deriving DecidableEq, Repr

/-- A chute map record (R39). -/
structure ChuteRec where
  tick : Nat
  wing : Nat
  i : Nat
  j : Nat
  act : Nat
  job : Nat
  fec : Nat
deriving DecidableEq, Repr

/-- A timed-action record (R42). -/
structure ActionRec where
  fire : Nat
  code : Nat
  job : Nat
  arm : Bool
  operand : Nat
  raw : Bytes
deriving DecidableEq, Repr

/-- A thermal-slew declaration (R45). -/
structure SlewRec where
  window : Nat
  die : Nat
  load : Nat
deriving DecidableEq, Repr

/-- A lease record (R46). -/
structure LeaseRec where
  kind : Nat
  subject : Nat
  /-- The lane, or the physical bench of a rotation. -/
  unit : Nat
  len : Nat
  start : Nat
  raw : Bytes
deriving DecidableEq, Repr

/-- A plane-loss variant (R49): its overrides are period tick, bench and reference. -/
structure Variant where
  id : Nat
  overs : List (Nat × Nat × Nat)
deriving DecidableEq, Repr

/-- An image as its records say. Pattern entries and tick references that are idle are not listed. -/
structure Image where
  epoch : Nat
  frame : Nat
  level : Nat
  position : Nat
  period : Nat
  boost : Bool
  voqKib : Nat
  /-- By pattern number: by entry number, the kind and the operand of an entry that is not idle. -/
  patterns : List (SMap (Nat × Nat))
  /-- By period tick × 128 + bench: the pattern number of a reference that is not idle. -/
  ticks : SMap Nat
  parts : List Partition
  binds : List Binding
  sprays : List Spray
  /-- By slot. -/
  recipes : SMap Recipe
  chutes : List ChuteRec
  actions : List ActionRec
  slews : List SlewRec
  leases : List LeaseRec
  variants : List Variant
  digest : Bytes
  /-- The image as received. -/
  bytes : Bytes
deriving DecidableEq, Repr

/-- State of the next image (R51). -/
inductive NextState where
  | empty
  | receiving
  | checking
  | ready
  | refused
deriving DecidableEq, Repr

/-- A record of the check log (R59). -/
structure CheckFail where
  code : Nat
  sec : Nat
  record : Nat
  detail : Nat
deriving DecidableEq, Repr

/-- A lease of the active image: 0 pending, 1 in force, 2 ended (R59). -/
structure LeaseState where
  record : LeaseRec
  state : Nat
deriving DecidableEq, Repr

/-- A binding's gate (R43, R56): closed after JOB_CLOSE. -/
inductive Gate where
  | openn
  | gated
  | closed
deriving DecidableEq, Repr

/-- The timetable unit. -/
structure TtState where
  next : NextState
  /-- Bytes of the next image once its digest is verified. -/
  nextBytes : Bytes
  nextImage : Option Image
  nextDigest : Bytes
  log : List CheckFail
  /-- The frame at which staging of the next image began. -/
  stagedFrame : Option Nat
  active : Option Image
  /-- The variant in force; 0 is the base schedule. -/
  variant : Nat
  /-- A selection whose frame boundary has not come: its tick and identifier. -/
  selected : Option (Nat × Nat)
  leases : List LeaseState
  /-- By flow tag. -/
  gates : SMap Gate
  /-- Activation frames of images that went after their staging began (R63). -/
  missed : List Nat
  /-- What a bench could not stage of a frame (R62), by frame × 128 + bench. -/
  blank : SMap (List StageItem)
  /-- The tick of the latest swap (R64). -/
  swapTick : Option Nat
deriving DecidableEq, Repr

/-! ### Fabric time (chapter 3) -/

/-- Servo states (R81). -/
inductive ServoSt where
  | disabled
  | acquiring
  | locked
  | holdover
  | fault
deriving DecidableEq, Repr

/-- One domain's servo and slave instance (R80, R81). Times are in units of 2^-16 ns. -/
structure Servo where
  state : ServoSt
  /-- The last samples, newest first, at most 3. -/
  ring : List Int
  last : Int
  freq : Rat
  outliers : Nat
  /-- Consecutive samples within the lock threshold. -/
  good : Nat
  /-- Consecutive samples beyond twice the threshold. -/
  bad : Nat
  /-- Consecutive samples beyond FT_ALIGN_LIMIT_NS. -/
  misaligned : Nat
  /-- Tick of the last valid sample. -/
  sampleTick : Nat
  /-- Tick at which FAULT was entered. -/
  faultTick : Nat
  /-- Phase estimate of the domain against the generator. -/
  phase : Rat
  /-- A two-step Sync waiting for its Follow_Up: sequenceId, ingress stamp, correction. -/
  sync : Option (Nat × Int × Int)
  /-- The Sync whose offset waits for the delay: t1 and t2. -/
  t12 : Option (Int × Int)
  /-- An outstanding Delay_Req: sequenceId and egress stamp. -/
  req : Option (Nat × Int)
  /-- Measured mean path delay. -/
  delay : Int
  /-- The domain's latest offset by PTP alone, against which a pulse is judged (R84). -/
  ptp : Option Int
  /-- Fabric time in ps of the last pulse; none before the first. -/
  ppsAt : Option Nat
  /-- Phase of the domain's whole second by the last accepted pulse. -/
  ppsPhase : Option Int
  /-- The servo has fallen back to PTP phase. -/
  ppsLost : Bool
  /-- The tick since which the domain has been LOCKED, if it is. -/
  lockedSince : Option Nat
  /-- The tick since which it has not been LOCKED, if it is not. -/
  lostSince : Option Nat
deriving DecidableEq, Repr

/-- Generator states (R83, R100). -/
inductive GenSt where
  | free
  | following
  | slewing
  | holdover
deriving DecidableEq, Repr

/-- Timed-action entry states (R90). FREE entries are not listed. -/
inductive ActSt where
  | pending
  | armed
  | fired
  | expired
  | cancelled
deriving DecidableEq, Repr

/-- One entry of the timed-action table (R90, R100). -/
structure ActEntry where
  record : ActionRec
  state : ActSt
  /-- True for an entry added by command. -/
  command : Bool
  epoch : Nat
  launch : Nat
  armFa : Nat
  /-- Loaded from an image that has not taken effect (R44). -/
  ofNext : Bool
deriving DecidableEq, Repr

/-- Peer delay of one port (R78). -/
structure Pdelay where
  seq : Nat
  /-- Egress stamp of the outstanding Pdelay_Req. -/
  sent : Option Int
  /-- Two-step responder: the turnaround still wanted, with the response's sequenceId. -/
  held : Option (Nat × Int)
  mean : Int
  nextAt : Nat
deriving DecidableEq, Repr

/-- The time unit. -/
structure FtState where
  gen : GenSt
  /-- The domain the generator follows: 0 A, 1 B. -/
  active : Nat
  /-- A switch decided and not yet begun: the new domain. -/
  switchTo : Option Nat
  /-- Remaining D of a slew, in 2^-16 ns. -/
  slew : Int
  servoA : Servo
  servoB : Servo
  /-- Frequency the generator keeps in HOLDOVER. -/
  genFreq : Rat
  /-- Phase step handed to the generator at the next tick. -/
  genStep : Rat
  pdelay : SMap Pdelay
  acts : SMap ActEntry
  /-- Corrected ingress stamps of the event messages that the part has taken and not acted on (R73): port, packet and stamp. -/
  stamps : List (Nat × Packet × Int)
deriving DecidableEq, Repr

/-! ### Links: credits, partners and cells (chapter 4) -/

/-- Credit account of one VC (R120, R137). -/
structure Credit where
  /-- Blocks sent. -/
  sent : Nat
  /-- Blocks freed as receiver. -/
  freed : Nat
  /-- Blocks received, counted against the partner's Sent. -/
  received : Nat
  /-- The partner's latest Freed. -/
  pFreed : Nat
  /-- Own Sent less the partner's Freed at the latest base (R137). -/
  shift : Nat
  /-- The partner's latest advertised limit. -/
  limit : Nat
  /-- Fabric time (ps) since which packets wait for the VC and none of them has had credit (R127). -/
  stallSince : Option Nat
deriving DecidableEq, Repr

/-- A packet being reassembled from cells on a lane (R132). -/
structure CellAsm where
  head : Bytes
  data : Bytes
  /-- Fabric time in ps at which its first cell arrived, and the corrected ingress stamp of it (R134). -/
  at' : Nat
  stamp : Int
deriving DecidableEq, Repr

/-- Per-lane cell-mode state (R129, R133). -/
structure CellLane where
  /-- Count of the next cell the part sends. -/
  txCount : Nat
  /-- Count expected next; none before the first cell. -/
  rxCount : Option Nat
  asm : Option CellAsm
  oc0 : Credit
  oc1 : Credit
  mc : Credit
  based : Bool
  /-- Tick of the latest credit cell. -/
  creditAt : Nat
  /-- The packet whose cells arrive has lost one and has been counted (R133). -/
  broken : Bool
deriving DecidableEq, Repr

/-- Per-port link state. -/
structure Link where
  oc0 : Credit
  oc1 : Credit
  mc : Credit
  /-- The first CREDIT after training (or after a chute cleared, R356) has been taken as the base. -/
  based : Bool
  /-- A LINK_PARAMS has arrived since training. -/
  params : Bool
  /-- The latest LINK_PARAMS mismatches (R124). -/
  mismatch : Bool
  /-- Body of the last LINK_PARAMS, 32 B. -/
  partner : Bytes
  /-- Limit entries of OC0, OC1 and MC at the last LINK_PARAMS sent; empty before the first (R125). -/
  told : List Nat
  /-- Marker mismatches this frame, and whether the event has been raised (R109). -/
  markers : Nat
  /-- The first mismatching marker of the frame. -/
  firstMarker : Nat
  cells : SMap CellLane
  /-- Units received on a lane and VC since the lane's latest slot-24 marker, by lane × 4 + VC (R122). -/
  since : SMap Nat
  /-- Tick in frame of the latest slot-24 marker, by lane. -/
  gapTicks : SMap Nat
  /-- Body of a CREDIT that waits for slot-24 markers. -/
  credit : Option Bytes
deriving DecidableEq, Repr

/-! ### Forwarding tables (chapter 8) -/

/-- A static exact entry, or an LPM route: next hop and safe next hop. -/
structure Route where
  hop : Nat
  safe : Nat
deriving DecidableEq, Repr

/-- A next hop (R266): kind 1 ports, 2 discard. -/
structure Hop where
  kind : Nat
  ports : List Nat
deriving DecidableEq, Repr

/-- A multicast group (R266). -/
structure Group where
  reflect : Bool
  /-- Member ports, ascending. -/
  ports : List Nat
deriving DecidableEq, Repr

/-- A route set (R253). LPM keys are (length << 24) | prefix. -/
structure RouteSet where
  exact : SMap Route
  lpm : SMap Route
  hops : SMap Hop
  groups : SMap Group
  seedLpm : Nat
  seedExact : Nat
  seedSel : Nat
  /-- Learned entries that go when this set becomes active. -/
  unlearn : List Nat
  /-- Places of the exact and LPM hash tables: (slice × 2,560 + bucket) × 4 + place, to the key (R256). -/
  exactPlaces : SMap Nat
  lpmPlaces : SMap Nat
deriving DecidableEq, Repr

/-- A learned entry (R275). -/
structure Learned where
  port : Nat
  stamp : Nat
deriving DecidableEq, Repr

/-- A queued creation or move (R274). -/
structure LearnReq where
  fa : Nat
  port : Nat
  /-- Ingress time stamp in ps. -/
  at' : Nat
deriving DecidableEq, Repr

/-- A route write that has not been applied (R268). -/
structure TbWrite where
  /-- Entry 0xIIIISS. -/
  entry : Nat
  body : Bytes
  /-- The write is a new seed table. -/
  seed : Bool
deriving DecidableEq, Repr

/-- Forwarding tables. -/
structure TbState where
  active : RouteSet
  shadow : RouteSet
  grace : Option RouteSet
  /-- Frame boundary at which the grace ends. -/
  graceEnd : Nat
  /-- A copy of the active set into the shadow is running. -/
  copying : Bool
  learned : SMap Learned
  queue : List LearnReq
  waiting : List TbWrite
  /-- The unit being applied, and the shadow it makes. -/
  applying : List TbWrite
  /-- `TB_REHASH_PENDING`: bit 0 LPM, bit 1 exact. -/
  rehash : Nat
  /-- Words that cannot be read until they are reloaded (R259). -/
  bad : List TableWord
  /-- Words in error that no read has found yet. -/
  upset : List (TableWord × EccErr)
deriving DecidableEq, Repr

/-! ### The bench datapath (chapter 5) -/

/-- A queued scheduled packet (R146). -/
structure ScPkt where
  id : Nat
  pkt : Packet
  flow : Nat
  job : Nat
  seq : Nat
  /-- Ingress port. -/
  port : Nat
  lane : Nat
  /-- Fabric time in ps at which it passed ingress processing. -/
  ready : Nat
  deadline : Nat
  /-- Multicast: egress ports that have not taken their copy. Unicast: empty. -/
  left : List Nat
  /-- How many of its blocks lie in the queue pool; the others lie in strata (R149). -/
  pooled : Nat
deriving DecidableEq, Repr

/-- Order state of a binding, or of one egress port of a multicast binding (R153). -/
structure Order where
  next : Option Nat
  /-- Candidates seen: packet, time it first became the candidate, whether its hold was counted. -/
  seen : List (Nat × Nat × Bool)
  /-- Time since which every VOQ of the binding is empty. -/
  emptySince : Option Nat
deriving DecidableEq, Repr

/-- A queued open or MC packet (R147). -/
structure OpenPkt where
  id : Nat
  pkt : Packet
  /-- Ingress port; 512 for packets the part originates. -/
  port : Nat
  lane : Nat
  egress : Nat
  /-- 1 OC0, 2 OC1, 3 MC. -/
  vc : Nat
  arrived : Nat
  /-- Corrected ingress stamp of its first bit (R73, R106). -/
  stamp : Int
  /-- Fabric time at which it became the head of its VOQ, if it is. -/
  headAt : Option Nat
  /-- The safe next hop kept from the lookup (R126). -/
  safe : Option Hop
  /-- It has been moved to OC1. -/
  escaped : Bool
  /-- A PTP event message or time message: the tick by whose end it must have left (R79). -/
  expire : Option Nat
  /-- Fabric time since which it waits for credit at the head of its VOQ (R126). -/
  blocked : Option Nat
  /-- How many of its blocks lie in the queue pool; the others lie in strata (R149). -/
  pooled : Nat
  /-- The multicast packet it is a copy of. -/
  parent : Option Nat
deriving DecidableEq, Repr

/-- Port states (R164). -/
inductive PortSt where
  | disabled
  | training
  | inService
  | held
  | down
deriving DecidableEq, Repr

/-- Datapath state of a port. -/
structure PortDp where
  state : PortSt
  /-- End of the flap hold in ps. -/
  holdEnd : Nat
  /-- The port has trained since it went down, or since it was last configured (R123, R159). -/
  trained : Bool
deriving DecidableEq, Repr

/-- A packet drawn for a lane-slot that has not begun. -/
structure Drawn where
  port : Nat
  lane : Nat
  tick : Nat
  slot : Nat
  pkt : Packet
  id : Nat
  /-- The packet came in by a port, so a hop is taken from it. -/
  transit : Bool
  /-- Fabric time (ps) at which it passed ingress processing, its path term, and its resequencer hold in ns. -/
  ready : Nat
  lead : Nat
  hold : Nat
deriving DecidableEq, Repr

/-- A packet on an egress lane. -/
structure OnWire where
  port : Nat
  lane : Nat
  /-- Fabric times in ps at which its first byte and its last byte leave. -/
  startAt : Nat
  doneAt : Nat
  id : Nat
deriving DecidableEq, Repr

/-- A packet whose end has not come and is not judged yet (R128, R144): ingress port and lane, the packet as received,
whether the part takes it for itself, and the egress ports of copies that have begun to leave, with the lane. -/
structure CutPkt where
  port : Nat
  lane : Nat
  id : Nat
  pkt : Packet
  taken : Bool
  begun : List (Nat × Nat)
  /-- Fabric time in ps of its arrival, and its corrected ingress stamp. -/
  at' : Nat
  stamp : Int
deriving DecidableEq, Repr

/-- A multicast packet that has lost copies: its identifier, its flow tag or 2^20 + its group, its sequence and the ports that
missed it (R156). -/
structure McastPkt where
  id : Nat
  key : Nat
  seq : Nat
  missed : List Nat
deriving DecidableEq, Repr

/-- The datapath. -/
structure DpState where
  nextId : Nat
  sc : List ScPkt
  /-- Binding order states, by flow tag × 1,024 for unicast and + 1 + port for a multicast egress port. -/
  orders : SMap Order
  openq : List OpenPkt
  ports : SMap PortDp
  drawn : List Drawn
  wire : List OnWire
  cut : List CutPkt
  mcast : List McastPkt
  /-- Flow entries that found no packet ready, so that their lane-slot is lent (R30): port × 5 + lane, tick × 25 + slot. -/
  lent : List (Nat × Nat)
  /-- Flow entries that no lane could serve (R157), in the same form. -/
  lost : List (Nat × Nat)
  /-- Lanes whose running lane-slot is in service and not used so far: port × 5 + lane. -/
  idle : List Nat
  /-- Bench that the round robin of R151 granted last, by port × 4 + VC. -/
  turn : SMap Nat
  /-- Busy fraction and scheduled share of each unit in the last frame, in 1/65,536 (R164). -/
  sat : SMap (Nat × Nat)
  /-- What the running frame has used of each part that R162 measures, and what of it SC and crusher traffic has used, by the keys
  of `busyAdd`. -/
  busy : SMap (Nat × Nat)
  /-- Bytes that cross in a lane-slot, by 512 × (tick × 25 + slot) + crossing (R14, R151). -/
  cross : SMap Nat
  /-- Packets and the egress benches to which a copy of them has crossed (R155). -/
  crossed : List (Nat × Nat)
deriving DecidableEq, Repr

/-! ### The crusher (chapter 6) -/

/-- A held operand of a node: its member range and its elements as wide 64-bit values (R183). -/
structure Operand where
  lo : Nat
  size : Nat
  vals : List Nat
deriving DecidableEq, Repr

/-- An accumulator: the operands held at node (level, index). -/
structure Node where
  level : Nat
  index : Nat
  held : List Operand
deriving DecidableEq, Repr

/-- An open chunk of a recipe (R195 to R197). -/
structure Chunk where
  index : Nat
  /-- Tick at whose start the chunk is abandoned. -/
  deadline : Nat
  /-- Members accepted. -/
  members : List Nat
  /-- Ports that delivered them. -/
  froms : List Nat
  nodes : List Node
  /-- Every member has been accepted. -/
  complete : Bool
  /-- A partial of it was dropped for want of accumulator space (R210): it cannot complete. -/
  broken : Bool
deriving DecidableEq, Repr

/-- A partial on its way to a node (R183, R189). -/
structure Partial where
  coll : Nat
  chunk : Nat
  level : Nat
  index : Nat
  opd : Operand
deriving DecidableEq, Repr

/-- A finished result on its way to a bench's ports (R189). -/
structure ResultMove where
  coll : Nat
  chunk : Nat
  bench : Nat
  /-- Ports of the bench that are in the result map. -/
  ports : List Nat
  payload : Bytes
  /-- What drops it on arrival: 0 nothing, 1 a swap, 2 a JOB_CLOSE (R205, R207). -/
  orphan : Nat
deriving DecidableEq, Repr

/-- A result in a port's queue (R198). -/
structure ResultQ where
  coll : Nat
  port : Nat
  chunk : Nat
  payload : Bytes
  tick : Nat
  at' : Nat
deriving DecidableEq, Repr

/-- Run-time state of a recipe of the active image. -/
structure RecState where
  gate : Gate
  /-- Tick of the latest contribution accepted, by ingress port (R438). -/
  lastFrom : SMap Nat
  base : Nat
  /-- Closed chunks after the base, by chunk index. -/
  closed : List Nat
  open' : List Chunk
  done : Nat
  abandoned : Nat
  late : Nat
  windowDrops : Nat
  resultDrops : Nat
  refusals : Nat
deriving DecidableEq, Repr

/-- The crusher. -/
structure CrState where
  /-- By collective id. -/
  recs : SMap RecState
  partials : List Partial
  moves : List ResultMove
  results : List ResultQ
  /-- Records of the missing log, newest first, at most 4,096 (R201). -/
  log : List Bytes
  written : Nat
deriving DecidableEq, Repr

/-! ### Fabric memory (chapter 7) -/

/-- Region states (R225). FREE regions are not listed. -/
inductive RegionSt where
  | initialising
  | active
  | restoring
  | lost
deriving DecidableEq, Repr

/-- A resident region (R222 to R225). -/
structure Region where
  state : RegionSt
  mirrored : Bool
  checkpointed : Bool
  gen : Nat
  stack : Nat
  placement : Nat
  base : Nat
  size : Nat
  key : Nat
  /-- Bytes that differ from zero, by offset from the base. -/
  data : List Host.Cell
  /-- Poisoned 64-byte lines, by line number (R248). -/
  poison : List Nat
  /-- To become ACTIVE at J (R475). -/
  atJoin : Bool
deriving DecidableEq, Repr

/-- What stays of a region number across retirements: quarantined generations with the tick they were retired in,
and the tick of the latest command on it (R224). -/
structure RegionPast where
  quarantine : List (Nat × Nat)
  lastCmd : Option Nat
deriving DecidableEq, Repr

/-- Where and when a request was applied: its region, the generation and the tick (R220). -/
structure AppliedAt where
  region : Nat
  gen : Nat
  tick : Nat
deriving DecidableEq, Repr

/-- A window position of a source (R231). Empty positions are not listed. -/
inductive SeqSt where
  | progress
  | applied (how : AppliedAt)
  | refused (code detail : Nat)
  | lost
deriving DecidableEq, Repr

/-- A replay entry: a result, or the mark lost (R231). -/
structure Replay where
  seq : Nat
  result : Option Nat
deriving DecidableEq, Repr

/-- A memory request for the part (R215). -/
structure MemReq where
  pkt : Packet
  /-- Ingress port. -/
  port : Nat
  /-- Entered from a cell-mode port (R249). -/
  cell : Bool
deriving DecidableEq, Repr

/-- A source's slot (R228 to R231). -/
structure SourceSlot where
  base : Nat
  highest : Nat
  young : Bool
  allocated : Nat
  window : SMap SeqSt
  replay : List Replay
  fault : Option Nat
  held : List MemReq
  /-- Requests that wait for one in progress. -/
  waiting : List MemReq
  /-- Gap timer: end in ps, and the gaps that existed when it started. -/
  gapEnd : Option Nat
  gaps : List Nat
  activity : Nat
  activityPs : Nat
deriving DecidableEq, Repr

/-- A request on its way to its serving bench; `sequenced` when its outcome returns to a home bench, `again` for a load that is
served again (R231, R244). -/
structure MemApply where
  req : MemReq
  sequenced : Bool
  again : Bool
deriving DecidableEq, Repr

/-- An outcome on its way to the home bench: applied with an optional old value, or refused. -/
structure MemOutcome where
  src : Nat
  seq : Nat
  op : Nat
  code : Option Nat
  old : Option Nat
  how : AppliedAt
deriving DecidableEq, Repr

/-- An unacknowledged mirror write (R236): its sequence once it has been sent. -/
structure MirrorWrite where
  seq : Option Nat
  offset : Nat
  body : Bytes
  key : Nat
  gen : Nat
  /-- Poison record: the bytes stand for a poisoned line (R248). -/
  poisoned : Bool
  /-- Part of the sending of whole regions. -/
  whole : Bool
  /-- Fabric times (ps) at which its acknowledgement is due, and at which it was made. -/
  dueAt : Nat
  firstAt : Nat
deriving DecidableEq, Repr

/-- Mirror states (R236). -/
inductive MirrorSt where
  | off
  | syncing
  | inSync
  | degraded
deriving DecidableEq, Repr

/-- The snapshot of one region in a checkpoint. -/
structure CkRegion where
  num : Nat
  gen : Nat
  base : Nat
  size : Nat
  data : List Host.Cell
  poison : List Nat
deriving DecidableEq, Repr

/-- A checkpoint (R238). -/
structure Checkpoint where
  step : Nat
  tick : Nat
  regions : List CkRegion
deriving DecidableEq, Repr

/-- A restore: the checkpoint's step and what it copies back. -/
structure Restore where
  step : Nat
  regions : List CkRegion
deriving DecidableEq, Repr

/-- The receiver's mirror window (R234): bytes that differ from zero, and lines held as poison records. -/
structure MirrorWin where
  data : List Host.Cell
  poison : List Nat
  step : Nat
deriving DecidableEq, Repr

/-- Fabric memory. -/
structure FmState where
  regions : SMap Region
  past : SMap RegionPast
  sources : SMap SourceSlot
  applies : List MemApply
  outcomes : List MemOutcome
  mirror : MirrorSt
  /-- Sequence of the next request to the partner. -/
  outSeq : Nat
  log : List MirrorWrite
  win : MirrorWin
  /-- The window's latest complete checkpoint, and the one being copied (R237). -/
  winCk : Option MirrorWin
  winCopying : Option MirrorWin
  complete : Option Checkpoint
  copying : Option Checkpoint
  /-- Restores whose copying back runs, oldest first (R239). -/
  restores : List Restore
deriving DecidableEq, Repr

/-! ### Shapers and policers (chapter 9) -/

/-- A shaper: tokens in 2^-16 B, and the last update in ps (R292). -/
structure Shaper where
  tokens : Int
  last : Nat
  /-- On the wheel or in the overflow list: the granule boundary in ps. -/
  wheel : Option Nat
deriving DecidableEq, Repr

/-- A policer: committed and excess buckets in 2^-16 B, and the last update in ps (R299). -/
structure Policer where
  c : Nat
  e : Nat
  last : Nat
deriving DecidableEq, Repr

/-- Shaping and policing. -/
structure OtState where
  shapers : SMap Shaper
  policers : SMap Policer
deriving DecidableEq, Repr

/-! ### Wings, lanes and light (chapter 10) -/

/-- Lane states (R312). -/
inductive LaneSt where
  | disabled
  | training
  | inService
  | moved
  | calibrating
  | spared
  | fault
deriving DecidableEq, Repr

/-- Reserve-lane roles (R313): held for a primary lane, or free. -/
inductive Reserve where
  | idle
  | carrying (lane : Nat)
  | boost
  | unavailable
deriving DecidableEq, Repr

/-- Ring states (R339). -/
inductive RingSt where
  | off
  | searching
  | acquiring
  | locked
  | lost
  | calibrating
deriving DecidableEq, Repr

/-- A ring's heater loop (R318), in GHz and mW. -/
structure Ring where
  state : RingSt
  heater : Rat
  e : Rat
  acc : Rat
  base : Rat
  pref : Rat
  /-- Consecutive updates toward lock, and toward loss. -/
  good : Nat
  bad : Nat
  /-- The next lock sets base and p_ref (after a search or a calibration). -/
  fresh : Bool
  /-- It has lost lock, so that the next lock is a relock (R320). -/
  again : Bool
  /-- A failed search is repeated at the next frame boundary. -/
  retry : Bool
  /-- Updates left in which no loss is declared after a chute cleared (R345). -/
  quiet : Nat
  /-- Tick since which the ring has stayed locked. -/
  lockedAt : Option Nat
deriving DecidableEq, Repr

/-- Move states (R339). -/
inductive MoveSt where
  | proposed
  | accepted
  | inForce
  | returning
deriving DecidableEq, Repr

/-- A lane move (R325 to R330, R339). -/
structure Move where
  id : Nat
  port : Nat
  src : Nat
  dst : Nat
  /-- 0 egress, 1 ingress of this part. -/
  dir : Nat
  reason : Nat
  state : MoveSt
  S : Nat
  /-- Proposed by this part. -/
  mine : Bool
deriving DecidableEq, Repr

/-- Laser module states (R339). -/
inductive ElsSt where
  | absent
  | starting
  | inService
  | warn
  | replace
  | readyToRemove
  | notResponding
  | lost
deriving DecidableEq, Repr

/-- An access to a laser module that waits for its response (R316). -/
structure ElsAccess where
  seq : Nat
  item : Nat
  output : Nat
  write : Bool
  tries : Nat
  dueAt : Nat
  frame : Bytes
deriving DecidableEq, Repr

/-- A laser module position (R315 to R317, R334). Bias in 0.5 % of the ceiling. -/
structure Els where
  state : ElsSt
  temp : Int
  bias : SMap Nat
  warned : List Nat
  pending : List ElsAccess
  /-- Replacement under way: ports whose lane could not move. -/
  stuck : List Nat
  preparing : Bool
  /-- Its advertised wavelength differs from its position (R316). -/
  refused : Bool
  /-- State to which it goes back when it answers again (R316). -/
  before : ElsSt
  /-- Latest read answers, by item × 256 + output. -/
  data : SMap Bytes
deriving DecidableEq, Repr

/-- A partner's REPORT (R323). -/
structure Report where
  frame : Nat
  m2 : List Int
  m3 : List Int
  lock : Nat
deriving DecidableEq, Repr

/-- Optics. -/
structure OpState where
  /-- Lane states by port × 10 + direction × 5 + lane; TRAINING is not listed. -/
  lanes : SMap LaneSt
  /-- Reserve roles by port × 2 + direction; IDLE is not listed. -/
  reserves : SMap Reserve
  /-- Consecutive ticks of valid markers, by port × 5 + lane. -/
  markers : SMap Nat
  /-- Latest markers received, by port × 5 + lane: tick, role, carried lane. -/
  roles : SMap (Nat × Nat × Nat)
  rings : SMap Ring
  moves : List Move
  nextMove : Nat
  els : SMap Els
  elsSeq : Nat
  reports : SMap Report
  /-- Monitor readings in 0.01 dBm (R322): the indices of selector class 3 (R420). -/
  monitors : SMap Int
  loss : SMap Nat
  /-- Dies whose power departs from the forecast, and the ticks for which the gap has stayed within the limit. -/
  unforecast : SMap Nat
  /-- Heater efficiencies set by calibration, as binary32 patterns. -/
  efficiency : SMap Nat
  /-- FAULT messages sent whose partner has not moved: port × 10 + direction × 5 + lane, to the tick. -/
  faultSent : SMap Nat
  /-- LANE_MOVE messages that wait for a gap slot, by port. -/
  outbox : List (Nat × Bytes)
  /-- In a duplicate tick (R314), by lane and slot (port × 5 + lane, slot): packets of the lane that failed, and copies of the
  reserve lane that may stand in for them. -/
  failed : List (Nat × Nat)
  copies : List (Nat × Nat × Packet)
  /-- Moves to propose again once the reserve is free (R342): port, direction, lane, reason. -/
  again : List (Nat × Nat × Nat × Nat)
  /-- Entries sent, and packets that failed R128, in the last ticks (R328): lane key of `lanes`, with the reserve lane, and tick. -/
  recent : List (Nat × Nat)
  /-- Lanes whose calibration failed under the lease in force: port, lane (R337). -/
  calFailed : List (Nat × Nat)
  /-- Lane keys of FAULT lanes that return to service at the next tick boundary (R329). -/
  back : List Nat
  /-- Frame of the latest poll of the laser modules (R316). -/
  pollFrame : Option Nat
deriving DecidableEq, Repr

/-! ### Chutes (chapter 11) -/

/-- A chute in force or being set (R352, R359). -/
structure Chute where
  i : Nat
  j : Nat
  /-- Path number 0 to 15, when routed. -/
  path : Option Nat
  /-- Tick at which it takes effect. -/
  setTick : Nat
  /-- Tick at which its clear takes effect, once driven. -/
  clearTick : Option Nat
  failed : Bool
deriving DecidableEq, Repr

/-- A loopback from the transmit bus of a to the receive bus of b (R361). -/
structure LoopSet where
  a : Nat
  b : Nat
  path : Option Nat
deriving DecidableEq, Repr

/-- One wing's chute matrix. Selects: 0 PACKET, 1 CHUTE, 2 LOOP. -/
structure WingMx where
  /-- Network cells set to cross, one bit per cell. -/
  cross : BitVec 144
  inSel : SMap Nat
  egSel : SMap Nat
  /-- Fault marks by cell (0 to 207), with the setting read back. -/
  faults : SMap Nat
  chutes : List Chute
  loops : List LoopSet
  /-- End of settling (ps) after the latest drive. -/
  settleAt : Option Nat
deriving DecidableEq, Repr

/-! ### The moth (chapter 14) -/

/-- Power states (R426, R444). -/
inductive PowerSt where
  | active
  | trim
  | rest
  | waking
  | off
deriving DecidableEq, Repr

/-- One input's filter in one rule (R421, R422). Filtered values are exact. -/
structure RuleInput where
  /-- Latest values, newest first, at most 5. -/
  vals : List Int
  f : Option Rat
  setRun : Nat
  clearRun : Nat
  asserted : Bool
  /-- A move-lane action that has not been taken yet (R423). -/
  again : Bool
  /-- Tick of the latest evaluation. -/
  evalAt : Option Nat
deriving DecidableEq, Repr

/-- Run-time state of a rule. -/
structure RuleState where
  inputs : SMap RuleInput
  /-- f of the last input evaluated. -/
  last : Int
  fires : Nat
deriving DecidableEq, Repr

/-- A discrete input (R431, R432). -/
structure DiState where
  /-- True while asserted, as are the filtered levels. -/
  raw : Bool
  /-- Fabric time in ps of the latest raw change. -/
  rawAt : Nat
  filtered : Bool
  masked : Bool
  stuck : Bool
  /-- Times (ps) of filtered transitions within the window. -/
  edges : List Nat
  /-- Fabric time at which it was last asserted. -/
  since : Option Nat
deriving DecidableEq, Repr

/-- A neighbour (R436, R437). -/
inductive NbSt where
  | unknown
  | alive
  | suspect
  | fenced
deriving DecidableEq, Repr

structure Neighbour where
  fa : Nat
  state : NbSt
  power : Nat
  /-- Ticks since the last valid heartbeat. -/
  age : Nat
  counter : Nat
  /-- A counter has been taken since training. -/
  counted : Bool
  /-- Consecutive valid heartbeats while SUSPECT. -/
  good : Nat
  /-- State has been SUSPECT for the whole frame so far. -/
  frameSuspect : Bool
  /-- Packets that pass R128 this frame. -/
  pkts : Nat
  /-- Chunks abandoned this frame that found the port silent. -/
  missing : Nat
deriving DecidableEq, Repr

/-- An accepted certificate that waits for its effect tick, or a fence in force (R439, R440). -/
structure Cert where
  expel : Bool
  fa : Nat
  num : Nat
  tick : Nat
deriving DecidableEq, Repr

/-- A management controller (R441). -/
structure Controller where
  restarting : Bool
  /-- Fabric time in ps of restarts within the last second. -/
  restarts : List Nat
  lastTick : Nat
  challenge : Option Nat
  /-- Fabric time in ps at which the next challenge is due. -/
  nextAt : Nat
  /-- Commands and events held while it restarts, oldest first. -/
  heldCmds : List (Nat × Cmd)
  heldEvents : List EventRec
deriving DecidableEq, Repr

/-- The moth's state and the power states. -/
structure HlState where
  power : PowerSt
  offCause : Nat
  /-- Entry to Rest requested: the tick, and whether the entry has begun. -/
  restTick : Option Nat
  /-- Entering Rest: face dies not yet off. -/
  entering : Bool
  /-- A wake cause that arrived while Rest was being entered. -/
  wakeAfter : Option Nat
  wakeCause : Nat
  wakeStart : Nat
  /-- Latest wakes, newest first, at most 8: tick, cause, duration in µs. -/
  wakes : List (Nat × Nat × Nat)
  gated : List Nat
  /-- Latest readings by selector (R420). -/
  readings : SMap Int
  throttle : SMap Nat
  rules : SMap RuleState
  di : SMap DiState
  faultCause : Nat
  attnCause : Nat
  tripped : Bool
  neighbours : SMap Neighbour
  hbCounter : Nat
  certs : List Cert
  /-- Fences in force, and accepted expulsions not yet in force. -/
  fences : List Cert
  controllers : SMap Controller
  mothRestarting : Bool
  /-- Fabric time until which PPS_OUT is high. -/
  ppsOutEnd : Nat
  testIr : Nat
deriving DecidableEq, Repr

/-! ### Repair, security, telemetry and bring-up (chapters 15 to 18) -/

/-- Sync states (R453). -/
inductive SyncSt where
  | unassigned
  | stale
  | joining
  | current
  | withdrawing
deriving DecidableEq, Repr

/-- An accepted withdraw (R461). After it: 1 stale, 2 Rest, 3 warm reset, 4 cold reset. -/
structure Withdraw where
  frame : Nat
  lossSet : Nat
  reason : Nat
  /-- Ports that have been sent the first notice. -/
  told : List Nat
deriving DecidableEq, Repr

/-- Physical bench states (R465). -/
inductive BenchSt where
  | serving
  | spare
  | testing
  | failed
  | retired
deriving DecidableEq, Repr

structure PhysSlot where
  state : BenchSt
  result : Nat
  frame : Nat
  /-- End frame of the lease that bounds its test. -/
  leaseEnd : Nat
deriving DecidableEq, Repr

/-- A takeover stream (R473 to R476, R478). -/
structure Stream where
  role : Nat
  state : Nat
  peer : Nat
  key : Nat
  gen : Nat
  step : Nat
  done : Nat
  lost : Nat
  bytes : Nat
  /-- Sender: writes not yet acknowledged, without a sequence until they are sent, and the next sequence. -/
  todo : List MirrorWrite
  seq : Nat
  /-- Sender: fabric time at which the pacing allows the next write. -/
  paceAt : Nat
  /-- Receiver: fabric time at which the timeout ends. -/
  dueAt : Nat
  /-- Receiver: the step marker has arrived. -/
  marked : Bool
deriving DecidableEq, Repr

/-- Repair and replacement. -/
structure RpState where
  sync : SyncSt
  held : Nat
  /-- Sender epoch of the latest control packet, by port. -/
  heard : SMap Nat
  /-- F is known and has been compared since STALE was entered. -/
  judged : Bool
  /-- H = F and the held image waits for a frame boundary with the generator running. -/
  resume : Bool
  join : Nat
  /-- Ports that have been sent the first RETURN notice. -/
  joinTold : List Nat
  withdraw : Option Withdraw
  notices : Nat
  partnerNotes : SMap Bytes
  benchMap : SMap Nat
  bench : SMap PhysSlot
  /-- Latest resets, newest first, at most 8: tick, class, cause, duration in µs. -/
  resets : List (Nat × Nat × Nat × Nat)
  resetClass : Nat
  resetStart : Nat
  record : Bytes
  /-- The frame of the epoch boundary whose record is being built (R471). -/
  building : Option Nat
  importState : Nat
  importing : Option Bytes
  stream : Option Stream
  /-- FM_MIRROR_FROM of an imported record, applied when the stream ends. -/
  mirrorFromAfter : Option Nat
deriving DecidableEq, Repr

/-- A firmware slot (R489, R492): 0 empty, 1 valid, 2 invalid. -/
structure FwSlot where
  state : Nat
  image : Bytes
deriving DecidableEq, Repr

/-- An owner key slot (R486): 0 empty, 1 enrolled, 2 revoked. -/
structure OwnerKey where
  state : Nat
  key : Bytes
  /-- The fused hash. -/
  hash : Bytes
deriving DecidableEq, Repr

/-- A burn of fuses (R494, R498, R499): the anti-rollback counter, an owner key's record, or an owner slot's revoke bit. -/
inductive FuseBurn where
  | rollback (v : Nat)
  | enrol (record : Bytes)
  | revoke (slot : Nat)
deriving DecidableEq, Repr

/-- Security. -/
structure SeState where
  fused : Nat
  slots : SMap FwSlot
  running : Nat
  activate : Nat
  owners : SMap OwnerKey
  counter : Nat
  managers : Bytes
  quorum : Nat
  /-- The slot under check after a transfer. -/
  checking : Bool
  /-- Latest report of each session, newest first. -/
  reports : List (Nat × Bytes)
  /-- Burns that a loss of power may have cut short: those since the latest tick boundary, oldest first (R509). -/
  burning : List FuseBurn
deriving DecidableEq, Repr

/-- A programmable counter (R514, R515). -/
structure ProgCtr where
  value : Nat
  overflow : Bool
  level : Bool
deriving DecidableEq, Repr

/-- A latch being written out (R517, R519). -/
structure Dump where
  seq : Nat
  bytes : Bytes
deriving DecidableEq, Repr

/-- A packet whose copies are captured when they leave (R521): packet id, sampler, record so far. -/
structure Capture where
  id : Nat
  sampler : Nat
  record : Bytes
deriving DecidableEq, Repr

/-- Telemetry. -/
structure TmState where
  /-- Fixed counters by bench × 256 + event, 96-bit. -/
  fixed : SMap Nat
  prog : SMap ProgCtr
  dumpSeq : Nat
  latched : Bytes
  buffers : List Dump
  written : Nat
  /-- Dumps of the GDDR7 ring by place. -/
  ring : SMap Bytes
  /-- Match counts by bench × 64 + sampler. -/
  matchCount : SMap Nat
  tracking : List Capture
  /-- Staged records: bench and record, oldest first. -/
  staged : List (Nat × Bytes)
  captureSeq : Nat
  /-- Capture records by place. -/
  captures : SMap Bytes
  /-- Records in the ring since it was last empty. -/
  captureLen : Nat
  full : Bool
  /-- Events of Rest in the moth ring, newest first. -/
  mothRing : List EventRec
deriving DecidableEq, Repr

/-- Strata bank states (R544). -/
inductive BankSt where
  | inService
  | spare
  | underTest
  | mappedOut
deriving DecidableEq, Repr

/-- A bank under run-time test (R542): step 1 save, 2 test, 3 restore. -/
structure BankTest where
  stack : Nat
  bank : Nat
  step : Nat
  failed : Bool
  spare : Bool
deriving DecidableEq, Repr

structure Bank where
  state : BankSt
  replaces : Nat
deriving DecidableEq, Repr

/-- A unit's result recorded in BI_RESULTS (R533). -/
structure BiResult where
  kind : Nat
  test : Nat
  outcome : Nat
  unit : Nat
  detail : Nat
  ms : Nat
deriving DecidableEq, Repr

/-- Bring-up and self-test. BI_STATE is 0 not started, 1 running, 2 released, 3 blocked, 4 recovery. -/
structure BiState where
  state : Nat
  phase : Nat
  duration : Nat
  /-- By unit kind: tested, passed, failed. -/
  summary : SMap (Nat × Nat × Nat)
  results : List BiResult
  peak : Nat
  /-- Running test steps: kind, units. -/
  running : List (Nat × List Nat)
  banks : SMap Bank
  tests : List BankTest
  nextBank : SMap Nat
  /-- Lanes FAULT by a power-up test: port × 10 + direction × 5 + lane. -/
  deadLanes : List Nat
  /-- Wings whose reference test failed: their ports are DISABLED in effect (R536). -/
  deadWings : List Nat
  /-- Units that failed, and units left untested, in this power-up. -/
  failed : Nat
  untested : Nat
deriving DecidableEq, Repr

/-- Power inputs (chapter 19). -/
structure ElState where
  pwrOk : Bool
  rstN : Bool
  input : Bool
  /-- The eFuse is open until the input falls below 10 V. -/
  fuseOpen : Bool
deriving DecidableEq, Repr

/-! ### What leaves the part -/

/-- What the part sends or drives during a command. The model's own record; the spec has no such register. -/
inductive Output where
  /-- A dictionary answer. -/
  | resp (r : Resp)
  /-- A packet whose first bit leaves on a lane. -/
  | packet (port : Nat) (lane : Nat) (p : Packet)
  /-- The rest of a packet is stomped (R128). -/
  | stomp (port : Nat) (id : Nat)
  /-- A packet that is leaving is cut off on the wire (R166). -/
  | cutOff (port : Nat) (lane : Nat) (id : Nat)
  /-- A slot marker. -/
  | marker (port : Nat) (lane : Nat) (m : Nat)
  /-- A cell. -/
  | cell (port : Nat) (lane : Nat) (c : Bytes)
  /-- An MSI-X signal. -/
  | msix (host : Nat) (vector : Nat)
  /-- An event record written into a host's event queue. -/
  | hostEvent (host : Nat) (e : EventRec)
  /-- A dump written to a host area. -/
  | hostDump (host : Nat) (offset : Nat) (d : Bytes)
  /-- A 10BASE-T1S access frame to the laser module at a position, from its destination address on (R315). -/
  | els (position : Nat) (f : Bytes)
  /-- A pin: 0 FAULT_N, 1 ATTN_N, 2 THERM_TRIP_N, 3 GPO0, 4 GPO1, 5 PPS_OUT, 6 TDO. -/
  | pin (pin : Nat) (level : Bool)
  /-- A watchdog challenge to a controller. -/
  | challenge (die : Nat) (v : Nat)
deriving DecidableEq, Repr

/-! ### The state -/

/-- The whole part. -/
structure State where
  clk : Clk
  ev : EvState
  dict : Dict
  dx : DxState
  pc : SMap PcieFn
  tt : TtState
  ft : FtState
  links : SMap Link
  dp : DpState
  cr : CrState
  fm : FmState
  tb : TbState
  ot : OtState
  op : OpState
  ch : SMap WingMx
  hl : HlState
  rp : RpState
  se : SeState
  tm : TmState
  bi : BiState
  el : ElState
  /-- The frame whose boundary work ran last. The model's own field. -/
  frame : Nat
  /-- What the part sent during the latest command. -/
  out : List Output
  /-- Counter behind free values. -/
  free : Nat
  pending : List Instr
deriving DecidableEq, Repr

/-- No fault is raised by any command: every failure the spec names is an event, a status, a counter or a state. -/
inductive Fault where
deriving DecidableEq, Repr

/-- Why a command is refused by the model. -/
inductive Refusal where
  /-- The command has no meaning in the model yet. Raised by the dispatcher only; safe. -/
  | notModelled (mnemonic : String)
deriving DecidableEq, Repr

/-! ### After reset -/

/-- A servo before its domain is looked at (R81). -/
def servoReset : Servo :=
  { state := .disabled, ring := [], last := 0, freq := 0, outliers := 0, good := 0, bad := 0, misaligned := 0, sampleTick := 0,
    faultTick := 0, phase := 0, sync := none, t12 := none, req := none, delay := 0, ptp := none, ppsAt := none, ppsPhase := none,
    ppsLost := false, lockedSince := none, lostSince := some 0 }

/-- The `n`-th seed of a module as it is built (R273). -/
def buildSeed (n : Nat) : Nat := beAt (Config.moduleBytes 0x500200) (8 * n) 8

/-- A route set with nothing in it, under the seeds of the build. -/
def routesReset : RouteSet :=
  { exact := [], lpm := [], hops := [], groups := [], seedLpm := buildSeed 0, seedExact := buildSeed 1, seedSel := buildSeed 2,
    unlearn := [], exactPlaces := [], lpmPlaces := [] }

def evReset : EvState := { next := 1, ring := [], acc := [], once := [] }
def dxReset : DxState :=
  { sessions := [], owners := [], xfers := [], snaps := [], subs := [], pending := [], inbox := [], fetched := [] }
def ttReset : TtState :=
  { next := .empty, nextBytes := [], nextImage := none, nextDigest := [], log := [], stagedFrame := none, active := none,
    variant := 0, selected := none, leases := [], gates := [], missed := [], blank := [], swapTick := none }
def ftReset : FtState :=
  { gen := .free, active := 0, switchTo := none, slew := 0, servoA := servoReset, servoB := servoReset, genFreq := 0,
    genStep := 0, pdelay := [], acts := [], stamps := [] }
def dpReset : DpState :=
  { nextId := 1, sc := [], orders := [], openq := [], ports := [], drawn := [], wire := [], cut := [], mcast := [], lent := [],
    lost := [], idle := [], turn := [], sat := [], busy := [], cross := [], crossed := [] }
def crReset : CrState := { recs := [], partials := [], moves := [], results := [], log := [], written := 0 }
def fmReset : FmState :=
  { regions := [], past := [], sources := [], applies := [], outcomes := [], mirror := .off, outSeq := 0, log := [],
    win := { data := [], poison := [], step := 0 }, winCk := none, winCopying := none, complete := none, copying := none,
    restores := [] }
def tbReset : TbState :=
  { active := routesReset, shadow := routesReset, grace := none, graceEnd := 0, copying := false, learned := [], queue := [],
    waiting := [], applying := [], rehash := 0, bad := [], upset := [] }
def opReset : OpState :=
  { lanes := [], reserves := [], markers := [], roles := [], rings := [], moves := [], nextMove := 1, els := [], elsSeq := 0,
    reports := [], monitors := [], loss := [], unforecast := [], efficiency := [], faultSent := [], outbox := [], failed := [],
    copies := [], again := [], recent := [], calFailed := [], back := [], pollFrame := none }
def hlReset : HlState :=
  { power := .active, offCause := 0, restTick := none, entering := false, wakeAfter := none, wakeCause := 0, wakeStart := 0,
    wakes := [], gated := [], readings := [], throttle := [], rules := [], di := [], faultCause := 0,
    attnCause := 0, tripped := false, neighbours := [], hbCounter := 0, certs := [], fences := [], controllers := [],
    mothRestarting := false, ppsOutEnd := 0, testIr := 0 }
def rpReset : RpState :=
  { sync := .unassigned, held := 0, heard := [], judged := false, resume := false, join := 0, joinTold := [], withdraw := none,
    notices := 0, partnerNotes := [], benchMap := [], bench := [], resets := [], resetClass := 3, resetStart := 0, record := [],
    building := none, importState := 0, importing := none, stream := none, mirrorFromAfter := none }
/-- The firmware that the module is made with lies in slot 0. -/
def seReset : SeState :=
  { fused := 0, slots := [(0, { state := 1, image := Config.moduleBytes 0xA00004 })], running := 0, activate := 0, owners := [],
    counter := 0, managers := List.replicate 1792 0, quorum := 1, checking := false, reports := [], burning := [] }
def tmReset : TmState :=
  { fixed := [], prog := [], dumpSeq := 0, latched := [], buffers := [], written := 0, ring := [], matchCount := [],
    tracking := [], staged := [], captureSeq := 0, captures := [], captureLen := 0, full := false, mothRing := [] }
def biReset : BiState :=
  { state := 0, phase := 0, duration := 0, summary := [], results := [], peak := 0, running := [], banks := [], tests := [],
    nextBank := [], deadLanes := [], deadWings := [], failed := 0, untested := 0 }

/-- The part when the cause of its first cold reset has ended, before the power-up sequence begins (R532). Every entry
holds the default of its listing. Fabric time starts at 0: DESIGN CHOICE (log 28). -/
def State.reset : State :=
  { clk := { tick := 0, ps := 0 }, ev := evReset, dict := { nums := [], tabs := [] }, dx := dxReset, pc := [], tt := ttReset,
    ft := ftReset, links := [], dp := dpReset, cr := crReset, fm := fmReset, tb := tbReset, ot := { shapers := [], policers := [] },
    op := opReset, ch := [], hl := hlReset, rp := rpReset, se := seReset, tm := tmReset, bi := biReset,
    el := { pwrOk := true, rstN := true, input := true, fuseOpen := false }, frame := 0, out := [], free := 0, pending := [] }

end Sys2Proof.Machine
end

