-- ==== Sys2Proof/Machine/Entries.lean ====
section
/-! DEFINITION. The entries of the object dictionary as the chapters list them, their numbers and defaults, and the
event codes. -/
namespace Sys2Proof.Machine
open Sys2Proof

/-- Value of a scalar entry or counter in force; `d` is the default of its listing. -/
def getNum (s : State) (e d : Nat) : Nat := SMap.getD s.dict.nums e d

/-- Set a scalar entry. -/
def setNum (e v : Nat) (s : State) : State := { s with dict := { s.dict with nums := SMap.set s.dict.nums e v } }

/-- One row of a dictionary listing (R379 to R381): number, type code, access (1 RO, 2 RW, 3 WO, 4 RWS, 5 CONST), effect
(0 none, 1 immediate, 2 at tick, 3 at epoch), retained, name, largest size, record size, fixed record count, the pieces a
PCIe transport turns round (count, size), default, and for scalars the range and the bits that are not reserved. -/
structure Entry where
  id : Nat
  ty : Nat
  acc : Nat
  eff : Nat
  retained : Bool
  name : String
  size : Nat
  recSize : Nat := 0
  fixed : Bool := false
  layout : List (Nat × Nat) := []
  dfl : Int := 0
  lo : Int := 0
  hi : Int := 18446744073709551615
  mask : Nat := 18446744073709551615
deriving DecidableEq, Repr

/-- Entry 0x0000.00. -/
def E.ID_VENDOR : Nat := 0x000000
/-- Entry 0x0000.01. -/
def E.ID_PART_NUMBER : Nat := 0x000001
/-- Entry 0x0000.02. -/
def E.ID_ORDERING_CODE : Nat := 0x000002
/-- Entry 0x0000.03. -/
def E.ID_SERIAL : Nat := 0x000003
/-- Entry 0x0000.04. -/
def E.ID_BUILD_CODE : Nat := 0x000004
/-- Entry 0x0001.00. -/
def E.BEHAVIOUR_LEVEL_MAX : Nat := 0x000100
/-- Entry 0x0001.01. -/
def E.BEHAVIOUR_LEVEL_SET : Nat := 0x000101
/-- Value of `BEHAVIOUR_LEVEL_SET`. -/
def Cfg.BEHAVIOUR_LEVEL_SET (s : State) : Nat := getNum s 0x000101 1024
/-- Entry 0x0001.02. -/
def E.BEHAVIOUR_LEVEL_ACTIVE : Nat := 0x000102
/-- Entry 0x0002.00. -/
def E.INV_PORTS : Nat := 0x000200
/-- Entry 0x0002.01. -/
def E.INV_FACE_DIES : Nat := 0x000201
/-- Entry 0x0002.02. -/
def E.INV_BENCHES_PHYSICAL : Nat := 0x000202
/-- Entry 0x0002.03. -/
def E.INV_BENCHES_ACTIVE : Nat := 0x000203
/-- Entry 0x0002.04. -/
def E.INV_WINGS : Nat := 0x000204
/-- Entry 0x0002.05. -/
def E.INV_RINGS : Nat := 0x000205
/-- Entry 0x0002.06. -/
def E.INV_ELS_POSITIONS : Nat := 0x000206
/-- Entry 0x0002.07. -/
def E.INV_SRAM_MIB : Nat := 0x000207
/-- Entry 0x0002.08. -/
def E.INV_STRATA_MIB : Nat := 0x000208
/-- Entry 0x0002.09. -/
def E.INV_GDDR7_MIB : Nat := 0x000209
/-- Entry 0x0002.0A. -/
def E.INV_CORE_CLOCK_KHZ : Nat := 0x00020A
/-- Entry 0x0003.00. -/
def E.INV_BENCH_MAP : Nat := 0x000300
/-- Entry 0x1000.00. -/
def E.PS_STATE : Nat := 0x100000
/-- Entry 0x1000.01. -/
def E.PS_REQUEST : Nat := 0x100001
/-- Value of `PS_REQUEST`. -/
def Cfg.PS_REQUEST (s : State) : Nat := getNum s 0x100001 0
/-- Entry 0x1000.02. -/
def E.PS_WAKE_SOURCES : Nat := 0x100002
/-- Value of `PS_WAKE_SOURCES`. -/
def Cfg.PS_WAKE_SOURCES (s : State) : Nat := getNum s 0x100002 3
/-- Entry 0x1000.03. -/
def E.PS_LAST_WAKE : Nat := 0x100003
/-- Entry 0x1000.04. -/
def E.PS_GATED : Nat := 0x100004
/-- Entry 0x1000.05. -/
def E.PS_OFF_CAUSE : Nat := 0x100005
/-- Entry 0x1000.06. -/
def E.PS_INPUT : Nat := 0x100006
/-- Entry 0x1000.07. -/
def E.PS_THROTTLE : Nat := 0x100007
/-- Entry 0x1000.08. -/
def E.PS_TRIM_WAKES : Nat := 0x100008
/-- Entry 0x2010.00. -/
def E.PORT_CONFIG : Nat := 0x201000
/-- Entry 0x2010.01. -/
def E.PORT_PARTNER : Nat := 0x201001
/-- Entry 0x2011.00. -/
def E.PKT_CREDIT_LIMIT_OC0 : Nat := 0x201100
/-- Value of `PKT_CREDIT_LIMIT_OC0`. -/
def Cfg.PKT_CREDIT_LIMIT_OC0 (s : State) : Nat := getNum s 0x201100 1024
/-- Entry 0x2011.01. -/
def E.PKT_CREDIT_LIMIT_OC1 : Nat := 0x201101
/-- Value of `PKT_CREDIT_LIMIT_OC1`. -/
def Cfg.PKT_CREDIT_LIMIT_OC1 (s : State) : Nat := getNum s 0x201101 256
/-- Entry 0x2011.02. -/
def E.PKT_CREDIT_LIMIT_MC : Nat := 0x201102
/-- Value of `PKT_CREDIT_LIMIT_MC`. -/
def Cfg.PKT_CREDIT_LIMIT_MC (s : State) : Nat := getNum s 0x201102 128
/-- Entry 0x2011.03. -/
def E.PKT_ESCAPE_NS : Nat := 0x201103
/-- Value of `PKT_ESCAPE_NS`. -/
def Cfg.PKT_ESCAPE_NS (s : State) : Nat := getNum s 0x201103 2000
/-- Entry 0x2011.04. -/
def E.PKT_CREDIT_STALL_US : Nat := 0x201104
/-- Value of `PKT_CREDIT_STALL_US`. -/
def Cfg.PKT_CREDIT_STALL_US (s : State) : Nat := getNum s 0x201104 100
/-- Entry 0x2011.05. -/
def E.PKT_ERROR_EVENT_LIMIT : Nat := 0x201105
/-- Value of `PKT_ERROR_EVENT_LIMIT`. -/
def Cfg.PKT_ERROR_EVENT_LIMIT (s : State) : Nat := getNum s 0x201105 16
/-- Entry 0x2011.06. -/
def E.PKT_ORIGIN_HOP_LIMIT : Nat := 0x201106
/-- Value of `PKT_ORIGIN_HOP_LIMIT`. -/
def Cfg.PKT_ORIGIN_HOP_LIMIT (s : State) : Nat := getNum s 0x201106 4
/-- Entry 0x2011.07. -/
def E.PKT_CELL_HOP_LIMIT : Nat := 0x201107
/-- Value of `PKT_CELL_HOP_LIMIT`. -/
def Cfg.PKT_CELL_HOP_LIMIT (s : State) : Nat := getNum s 0x201107 4
/-- Entry 0x2012.00. -/
def E.PKT_HDR_DROPS : Nat := 0x201200
/-- Entry 0x2012.01. -/
def E.PKT_CRC_DROPS : Nat := 0x201201
/-- Entry 0x2012.02. -/
def E.PKT_STOMPED_OUT : Nat := 0x201202
/-- Entry 0x2012.03. -/
def E.PKT_STOMPED_IN : Nat := 0x201203
/-- Entry 0x2012.04. -/
def E.PKT_FORMAT_DROPS : Nat := 0x201204
/-- Entry 0x2012.05. -/
def E.PKT_HOP_DROPS : Nat := 0x201205
/-- Entry 0x2012.06. -/
def E.PKT_ESCAPE_MOVES : Nat := 0x201206
/-- Entry 0x2012.07. -/
def E.PKT_CREDIT_LOST_BLOCKS : Nat := 0x201207
/-- Entry 0x2012.08. -/
def E.PKT_CREDIT_RESYNC : Nat := 0x201208
/-- Entry 0x2012.09. -/
def E.PKT_MARKER_MISMATCH : Nat := 0x201209
/-- Entry 0x2012.0A. -/
def E.PKT_LINK_MISMATCH : Nat := 0x20120A
/-- Entry 0x2012.0B. -/
def E.PKT_CELL_UNREPRESENTABLE : Nat := 0x20120B
/-- Entry 0x2012.0C. -/
def E.PKT_CELL_LOST : Nat := 0x20120C
/-- Entry 0x2100.00. -/
def E.DP_RESEQ_HOLD_NS : Nat := 0x210000
/-- Value of `DP_RESEQ_HOLD_NS`. -/
def Cfg.DP_RESEQ_HOLD_NS (s : State) : Nat := getNum s 0x210000 400
/-- Entry 0x2100.01. -/
def E.DP_RESEQ_WINDOW : Nat := 0x210001
/-- Value of `DP_RESEQ_WINDOW`. -/
def Cfg.DP_RESEQ_WINDOW (s : State) : Nat := getNum s 0x210001 256
/-- Entry 0x2100.02. -/
def E.DP_RESEQ_IDLE_US : Nat := 0x210002
/-- Value of `DP_RESEQ_IDLE_US`. -/
def Cfg.DP_RESEQ_IDLE_US (s : State) : Nat := getNum s 0x210002 1000
/-- Entry 0x2100.03. -/
def E.DP_FLAP_HOLD_US : Nat := 0x210003
/-- Value of `DP_FLAP_HOLD_US`. -/
def Cfg.DP_FLAP_HOLD_US (s : State) : Nat := getNum s 0x210003 20
/-- Entry 0x2100.04. -/
def E.DP_HEAD_BLOCKS : Nat := 0x210004
/-- Value of `DP_HEAD_BLOCKS`. -/
def Cfg.DP_HEAD_BLOCKS (s : State) : Nat := getNum s 0x210004 8
/-- Entry 0x2100.05. -/
def E.DP_SAT_HIGH_PCT : Nat := 0x210005
/-- Value of `DP_SAT_HIGH_PCT`. -/
def Cfg.DP_SAT_HIGH_PCT (s : State) : Nat := getNum s 0x210005 95
/-- Entry 0x2100.06. -/
def E.DP_SAT_IDLE_PCT : Nat := 0x210006
/-- Value of `DP_SAT_IDLE_PCT`. -/
def Cfg.DP_SAT_IDLE_PCT (s : State) : Nat := getNum s 0x210006 20
/-- Entry 0x2100.07. -/
def E.DP_RESEQ_EVENT_LIMIT : Nat := 0x210007
/-- Value of `DP_RESEQ_EVENT_LIMIT`. -/
def Cfg.DP_RESEQ_EVENT_LIMIT (s : State) : Nat := getNum s 0x210007 0
/-- Entry 0x2101.00. -/
def E.DP_PORT_STATE : Nat := 0x210100
/-- Entry 0x2102.00. -/
def E.DP_SAT_STATE : Nat := 0x210200
/-- Entry 0x2120.00. -/
def E.LAT_TERMS : Nat := 0x212000
/-- Entry 0x2140.00. -/
def E.DP_SC_DRAWN : Nat := 0x214000
/-- Entry 0x2140.01. -/
def E.DP_OPEN_SENT : Nat := 0x214001
/-- Entry 0x2140.02. -/
def E.DP_ENTRIES_LOST : Nat := 0x214002
/-- Entry 0x2140.03. -/
def E.DP_FLAP_DROPS : Nat := 0x214003
/-- Entry 0x2140.04. -/
def E.DP_NO_EGRESS_DROPS : Nat := 0x214004
/-- Entry 0x2140.05. -/
def E.DP_RESEQ_HOLDS : Nat := 0x214005
/-- Entry 0x2140.06. -/
def E.DP_RESEQ_TIMEOUTS : Nat := 0x214006
/-- Entry 0x2140.07. -/
def E.DP_RESEQ_LATE : Nat := 0x214007
/-- Entry 0x2140.08. -/
def E.DP_RESEQ_SKIPPED : Nat := 0x214008
/-- Entry 0x2140.09. -/
def E.DP_MCAST_COPY_DROPS : Nat := 0x214009
/-- Entry 0x2140.0A. -/
def E.DP_MCAST_PARTIAL : Nat := 0x21400A
/-- Entry 0x2140.0B. -/
def E.DP_STRATA_SPILLS : Nat := 0x21400B
/-- Entry 0x2140.0C. -/
def E.DP_STRATA_ERRORS : Nat := 0x21400C
/-- Entry 0x2140.0D. -/
def E.DP_TX_ABORTED : Nat := 0x21400D
/-- Entry 0x2140.0E. -/
def E.DP_CLOSE_DROPS : Nat := 0x21400E
/-- Entry 0x2140.0F. -/
def E.DP_SAT_EPISODES : Nat := 0x21400F
/-- Entry 0x3000.00. -/
def E.OP_WAVELENGTHS : Nat := 0x300000
/-- Entry 0x3000.01. -/
def E.OP_RX_SENSITIVITY_DBM : Nat := 0x300001
/-- Entry 0x3001.00. -/
def E.OP_LANE_STATE : Nat := 0x300100
/-- Entry 0x3001.01. -/
def E.OP_MOVES : Nat := 0x300101
/-- Entry 0x3001.02. -/
def E.OP_LANE_COMMAND : Nat := 0x300102
/-- Entry 0x3002.00. -/
def E.OP_KP : Nat := 0x300200
/-- Value of `OP_KP`. -/
def Cfg.OP_KP (s : State) : Nat := getNum s 0x300200 1056964608
/-- Entry 0x3002.01. -/
def E.OP_KI : Nat := 0x300201
/-- Value of `OP_KI`. -/
def Cfg.OP_KI (s : State) : Nat := getNum s 0x300201 1028443341
/-- Entry 0x3002.02. -/
def E.OP_LOCK_GHZ : Nat := 0x300202
/-- Value of `OP_LOCK_GHZ`. -/
def Cfg.OP_LOCK_GHZ (s : State) : Nat := getNum s 0x300202 20
/-- Entry 0x3002.03. -/
def E.OP_UNLOCK_GHZ : Nat := 0x300203
/-- Value of `OP_UNLOCK_GHZ`. -/
def Cfg.OP_UNLOCK_GHZ (s : State) : Nat := getNum s 0x300203 60
/-- Entry 0x3002.04. -/
def E.OP_LOCK_COUNT : Nat := 0x300204
/-- Value of `OP_LOCK_COUNT`. -/
def Cfg.OP_LOCK_COUNT (s : State) : Nat := getNum s 0x300204 16
/-- Entry 0x3002.05. -/
def E.OP_UNLOCK_COUNT : Nat := 0x300205
/-- Value of `OP_UNLOCK_COUNT`. -/
def Cfg.OP_UNLOCK_COUNT (s : State) : Nat := getNum s 0x300205 4
/-- Entry 0x3002.06. -/
def E.OP_SEARCH_GHZ : Nat := 0x300206
/-- Value of `OP_SEARCH_GHZ`. -/
def Cfg.OP_SEARCH_GHZ (s : State) : Nat := getNum s 0x300206 400
/-- Entry 0x3002.07. -/
def E.OP_TX_DETUNE_GHZ : Nat := 0x300207
/-- Value of `OP_TX_DETUNE_GHZ`. -/
def Cfg.OP_TX_DETUNE_GHZ (s : State) : Int := toSigned 16 (getNum s 0x300207 120)
/-- Entry 0x3002.08. -/
def E.OP_RX_DITHER_UW : Nat := 0x300208
/-- Value of `OP_RX_DITHER_UW`. -/
def Cfg.OP_RX_DITHER_UW (s : State) : Nat := getNum s 0x300208 50
/-- Entry 0x3002.09. -/
def E.OP_RETURN_HOLD_TICKS : Nat := 0x300209
/-- Value of `OP_RETURN_HOLD_TICKS`. -/
def Cfg.OP_RETURN_HOLD_TICKS (s : State) : Nat := getNum s 0x300209 1024
/-- Entry 0x3002.0A. -/
def E.OP_RING_STATE : Nat := 0x30020A
/-- Entry 0x3003.00. -/
def E.OP_FF_ENABLE : Nat := 0x300300
/-- Value of `OP_FF_ENABLE`. -/
def Cfg.OP_FF_ENABLE (s : State) : Nat := getNum s 0x300300 1
/-- Entry 0x3003.01. -/
def E.OP_FF_DIE_IDLE_W : Nat := 0x300301
/-- Value of `OP_FF_DIE_IDLE_W`. -/
def Cfg.OP_FF_DIE_IDLE_W (s : State) : Nat := getNum s 0x300301 120
/-- Entry 0x3003.02. -/
def E.OP_FF_DIE_SPAN_W : Nat := 0x300302
/-- Value of `OP_FF_DIE_SPAN_W`. -/
def Cfg.OP_FF_DIE_SPAN_W (s : State) : Nat := getNum s 0x300302 176
/-- Entry 0x3003.03. -/
def E.OP_FF_MEAS_LIMIT_W : Nat := 0x300303
/-- Value of `OP_FF_MEAS_LIMIT_W`. -/
def Cfg.OP_FF_MEAS_LIMIT_W (s : State) : Nat := getNum s 0x300303 15
/-- Entry 0x3003.04. -/
def E.OP_FF_COUPLING : Nat := 0x300304
/-- Entry 0x3003.05. -/
def E.OP_HEATER_EFFICIENCY : Nat := 0x300305
/-- Entry 0x3004.00. -/
def E.OP_ELS_ADDR : Nat := 0x300400
/-- Entry 0x3004.01. -/
def E.OP_ELS_STATE : Nat := 0x300401
/-- Entry 0x3004.02. -/
def E.OP_FEED_TARGET_DBM : Nat := 0x300402
/-- Value of `OP_FEED_TARGET_DBM`. -/
def Cfg.OP_FEED_TARGET_DBM (s : State) : Int := toSigned 16 (getNum s 0x300402 1500)
/-- Entry 0x3004.03. -/
def E.OP_ELS_WARN_PCT : Nat := 0x300403
/-- Value of `OP_ELS_WARN_PCT`. -/
def Cfg.OP_ELS_WARN_PCT (s : State) : Nat := getNum s 0x300403 85
/-- Entry 0x3004.04. -/
def E.OP_MARGIN_WARN_DB : Nat := 0x300404
/-- Value of `OP_MARGIN_WARN_DB`. -/
def Cfg.OP_MARGIN_WARN_DB (s : State) : Nat := getNum s 0x300404 150
/-- Entry 0x3004.05. -/
def E.OP_ELS_POLL_FRAMES : Nat := 0x300405
/-- Value of `OP_ELS_POLL_FRAMES`. -/
def Cfg.OP_ELS_POLL_FRAMES (s : State) : Nat := getNum s 0x300405 16
/-- Entry 0x3004.06. -/
def E.OP_ELS_BIAS_STEP_PCT : Nat := 0x300406
/-- Value of `OP_ELS_BIAS_STEP_PCT`. -/
def Cfg.OP_ELS_BIAS_STEP_PCT (s : State) : Nat := getNum s 0x300406 1
/-- Entry 0x3004.07. -/
def E.OP_ELS_BIAS_CEIL : Nat := 0x300407
/-- Entry 0x3004.08. -/
def E.OP_ELS_REPLACE_PREPARE : Nat := 0x300408
/-- Entry 0x3005.00. -/
def E.OP_MONITORS : Nat := 0x300500
/-- Entry 0x3005.01. -/
def E.OP_LOSS_LOCATION : Nat := 0x300501
/-- Entry 0x3005.02. -/
def E.OP_MOD_LOSS_LIMIT_DB : Nat := 0x300502
/-- Value of `OP_MOD_LOSS_LIMIT_DB`. -/
def Cfg.OP_MOD_LOSS_LIMIT_DB (s : State) : Nat := getNum s 0x300502 600
/-- Entry 0x3005.03. -/
def E.OP_LINK_LOSS_LIMIT_DB : Nat := 0x300503
/-- Value of `OP_LINK_LOSS_LIMIT_DB`. -/
def Cfg.OP_LINK_LOSS_LIMIT_DB (s : State) : Nat := getNum s 0x300503 400
/-- Entry 0x3005.04. -/
def E.OP_WING_TEMP_WARN_C : Nat := 0x300504
/-- Value of `OP_WING_TEMP_WARN_C`. -/
def Cfg.OP_WING_TEMP_WARN_C (s : State) : Nat := getNum s 0x300504 80
/-- Entry 0x3010.00. -/
def E.OP_LOCK_LOSSES : Nat := 0x301000
/-- Entry 0x3010.01. -/
def E.OP_RELOCKS : Nat := 0x301001
/-- Entry 0x3010.02. -/
def E.OP_FAULT_MOVES : Nat := 0x301002
/-- Entry 0x3010.03. -/
def E.OP_PLANNED_MOVES : Nat := 0x301003
/-- Entry 0x3010.04. -/
def E.OP_RETURNS : Nat := 0x301004
/-- Entry 0x3010.05. -/
def E.OP_MOVES_ABANDONED : Nat := 0x301005
/-- Entry 0x3010.06. -/
def E.OP_MOVES_REFUSED : Nat := 0x301006
/-- Entry 0x3010.07. -/
def E.OP_LANES_DROPPED : Nat := 0x301007
/-- Entry 0x3010.08. -/
def E.OP_FAULT_AT_RISK : Nat := 0x301008
/-- Entry 0x3010.09. -/
def E.OP_FAULT_RX_DROPS : Nat := 0x301009
/-- Entry 0x3010.0A. -/
def E.OP_BOOST_YIELDED : Nat := 0x30100A
/-- Entry 0x3010.0B. -/
def E.OP_DUP_RESCUES : Nat := 0x30100B
/-- Entry 0x3010.0C. -/
def E.OP_CAL_DONE : Nat := 0x30100C
/-- Entry 0x3010.0D. -/
def E.OP_CAL_SKIPPED : Nat := 0x30100D
/-- Entry 0x3010.0E. -/
def E.OP_FF_UNFORECAST : Nat := 0x30100E
/-- Entry 0x3010.0F. -/
def E.OP_ELS_TIMEOUTS : Nat := 0x30100F
/-- Entry 0x3800.00. -/
def E.CH_PORT_STATE : Nat := 0x380000
/-- Entry 0x3800.01. -/
def E.CH_CELL_STATE : Nat := 0x380001
/-- Entry 0x3800.02. -/
def E.CH_DELAY : Nat := 0x380002
/-- Entry 0x3800.03. -/
def E.CH_LOSS : Nat := 0x380003
/-- Entry 0x3800.04. -/
def E.CH_PATH_LOSS_LIMIT_DB : Nat := 0x380004
/-- Value of `CH_PATH_LOSS_LIMIT_DB`. -/
def Cfg.CH_PATH_LOSS_LIMIT_DB (s : State) : Nat := getNum s 0x380004 950
/-- Entry 0x3800.05. -/
def E.CH_LOOP_COMMAND : Nat := 0x380005
/-- Entry 0x3810.00. -/
def E.CH_SETS : Nat := 0x381000
/-- Entry 0x3810.01. -/
def E.CH_CLEARS : Nat := 0x381001
/-- Entry 0x3810.02. -/
def E.CH_SET_FAILURES : Nat := 0x381002
/-- Entry 0x3810.03. -/
def E.CH_CELL_FAULTS : Nat := 0x381003
/-- Entry 0x3810.04. -/
def E.CH_INGRESS_DROPS : Nat := 0x381004
/-- Entry 0x4000.00. -/
def E.TT_NEXT_IMAGE : Nat := 0x400000
/-- Entry 0x4000.01. -/
def E.TT_NEXT_STATE : Nat := 0x400001
/-- Entry 0x4000.02. -/
def E.TT_NEXT_EPOCH : Nat := 0x400002
/-- Entry 0x4000.03. -/
def E.TT_NEXT_ACTIVATION_FRAME : Nat := 0x400003
/-- Entry 0x4000.04. -/
def E.TT_NEXT_DIGEST : Nat := 0x400004
/-- Entry 0x4000.05. -/
def E.TT_NEXT_CHECK_LOG : Nat := 0x400005
/-- Entry 0x4000.06. -/
def E.TT_NEXT_DISCARD : Nat := 0x400006
/-- Entry 0x4001.00. -/
def E.TT_ACTIVE_EPOCH : Nat := 0x400100
/-- Entry 0x4001.01. -/
def E.TT_ACTIVE_DIGEST : Nat := 0x400101
/-- Entry 0x4001.02. -/
def E.TT_ACTIVE_ACTIVATION_FRAME : Nat := 0x400102
/-- Entry 0x4001.03. -/
def E.TT_ACTIVE_PERIOD : Nat := 0x400103
/-- Entry 0x4001.04. -/
def E.TT_ACTIVE_VARIANT : Nat := 0x400104
/-- Entry 0x4002.00. -/
def E.TT_VARIANT_SELECT : Nat := 0x400200
/-- Value of `TT_VARIANT_SELECT`. -/
def Cfg.TT_VARIANT_SELECT (s : State) : Nat := getNum s 0x400200 0
/-- Entry 0x4002.01. -/
def E.TT_VARIANT_NEXT : Nat := 0x400201
/-- Value of `TT_VARIANT_NEXT`. -/
def Cfg.TT_VARIANT_NEXT (s : State) : Nat := getNum s 0x400201 0
/-- Entry 0x4003.00. -/
def E.TT_LOAD_LEAD_FRAMES : Nat := 0x400300
/-- Value of `TT_LOAD_LEAD_FRAMES`. -/
def Cfg.TT_LOAD_LEAD_FRAMES (s : State) : Nat := getNum s 0x400300 2
/-- Entry 0x4003.01. -/
def E.TT_UNDERRUN_EVENT_LIMIT : Nat := 0x400301
/-- Value of `TT_UNDERRUN_EVENT_LIMIT`. -/
def Cfg.TT_UNDERRUN_EVENT_LIMIT (s : State) : Nat := getNum s 0x400301 0
/-- Entry 0x4004.00. -/
def E.TT_PARTITIONS_ACTIVE : Nat := 0x400400
/-- Entry 0x4004.01. -/
def E.TT_LEASES_ACTIVE : Nat := 0x400401
/-- Entry 0x4010.00. -/
def E.TT_BREACH_COUNT_00 : Nat := 0x401000
/-- Entry 0x4010.01. -/
def E.TT_BREACH_COUNT_01 : Nat := 0x401001
/-- Entry 0x4010.02. -/
def E.TT_BREACH_COUNT_02 : Nat := 0x401002
/-- Entry 0x4010.03. -/
def E.TT_BREACH_COUNT_03 : Nat := 0x401003
/-- Entry 0x4010.04. -/
def E.TT_BREACH_COUNT_04 : Nat := 0x401004
/-- Entry 0x4010.05. -/
def E.TT_BREACH_COUNT_05 : Nat := 0x401005
/-- Entry 0x4010.06. -/
def E.TT_BREACH_COUNT_06 : Nat := 0x401006
/-- Entry 0x4010.07. -/
def E.TT_SWAP_ORPHANS : Nat := 0x401007
/-- Entry 0x4010.08. -/
def E.TT_STAGE_FAULTS : Nat := 0x401008
/-- Entry 0x4800.00. -/
def E.FT_NOW : Nat := 0x480000
/-- Entry 0x4800.01. -/
def E.FT_TICK : Nat := 0x480001
/-- Entry 0x4800.02. -/
def E.FT_GEN_STATE : Nat := 0x480002
/-- Entry 0x4800.03. -/
def E.FT_ORIGIN_SECONDS : Nat := 0x480003
/-- Value of `FT_ORIGIN_SECONDS`. -/
def Cfg.FT_ORIGIN_SECONDS (s : State) : Nat := getNum s 0x480003 0
/-- Entry 0x4801.00. -/
def E.FT_ENABLE_A : Nat := 0x480100
/-- Value of `FT_ENABLE_A`. -/
def Cfg.FT_ENABLE_A (s : State) : Nat := getNum s 0x480100 1
/-- Entry 0x4801.01. -/
def E.FT_DOMAIN_NUMBER_A : Nat := 0x480101
/-- Value of `FT_DOMAIN_NUMBER_A`. -/
def Cfg.FT_DOMAIN_NUMBER_A (s : State) : Nat := getNum s 0x480101 0
/-- Entry 0x4801.02. -/
def E.FT_GM_IDENTITY_A : Nat := 0x480102
/-- Entry 0x4801.03. -/
def E.FT_DELAY_MECH_A : Nat := 0x480103
/-- Value of `FT_DELAY_MECH_A`. -/
def Cfg.FT_DELAY_MECH_A (s : State) : Nat := getNum s 0x480103 0
/-- Entry 0x4801.04. -/
def E.FT_PPS_USE_A : Nat := 0x480104
/-- Value of `FT_PPS_USE_A`. -/
def Cfg.FT_PPS_USE_A (s : State) : Nat := getNum s 0x480104 0
/-- Entry 0x4801.05. -/
def E.FT_PPS_CABLE_NS_A : Nat := 0x480105
/-- Value of `FT_PPS_CABLE_NS_A`. -/
def Cfg.FT_PPS_CABLE_NS_A (s : State) : Int := toSigned 32 (getNum s 0x480105 0)
/-- Entry 0x4801.06. -/
def E.FT_KP_A : Nat := 0x480106
/-- Value of `FT_KP_A`. -/
def Cfg.FT_KP_A (s : State) : Nat := getNum s 0x480106 1048576000
/-- Entry 0x4801.07. -/
def E.FT_KI_A : Nat := 0x480107
/-- Value of `FT_KI_A`. -/
def Cfg.FT_KI_A (s : State) : Nat := getNum s 0x480107 1006632960
/-- Entry 0x4801.08. -/
def E.FT_LOCK_NS_A : Nat := 0x480108
/-- Value of `FT_LOCK_NS_A`. -/
def Cfg.FT_LOCK_NS_A (s : State) : Nat := getNum s 0x480108 5
/-- Entry 0x4801.09. -/
def E.FT_LOCK_COUNT_A : Nat := 0x480109
/-- Value of `FT_LOCK_COUNT_A`. -/
def Cfg.FT_LOCK_COUNT_A (s : State) : Nat := getNum s 0x480109 16
/-- Entry 0x4801.0A. -/
def E.FT_OUTLIER_NS_A : Nat := 0x48010A
/-- Value of `FT_OUTLIER_NS_A`. -/
def Cfg.FT_OUTLIER_NS_A (s : State) : Nat := getNum s 0x48010A 50
/-- Entry 0x4801.0B. -/
def E.FT_SYNC_TIMEOUT_TICKS_A : Nat := 0x48010B
/-- Value of `FT_SYNC_TIMEOUT_TICKS_A`. -/
def Cfg.FT_SYNC_TIMEOUT_TICKS_A (s : State) : Nat := getNum s 0x48010B 1024
/-- Entry 0x4801.0C. -/
def E.FT_SERVO_STATE_A : Nat := 0x48010C
/-- Entry 0x4801.0D. -/
def E.FT_OFFSET_A : Nat := 0x48010D
/-- Entry 0x4802.00. -/
def E.FT_ENABLE_B : Nat := 0x480200
/-- Value of `FT_ENABLE_B`. -/
def Cfg.FT_ENABLE_B (s : State) : Nat := getNum s 0x480200 1
/-- Entry 0x4802.01. -/
def E.FT_DOMAIN_NUMBER_B : Nat := 0x480201
/-- Value of `FT_DOMAIN_NUMBER_B`. -/
def Cfg.FT_DOMAIN_NUMBER_B (s : State) : Nat := getNum s 0x480201 1
/-- Entry 0x4802.02. -/
def E.FT_GM_IDENTITY_B : Nat := 0x480202
/-- Entry 0x4802.03. -/
def E.FT_DELAY_MECH_B : Nat := 0x480203
/-- Value of `FT_DELAY_MECH_B`. -/
def Cfg.FT_DELAY_MECH_B (s : State) : Nat := getNum s 0x480203 0
/-- Entry 0x4802.04. -/
def E.FT_PPS_USE_B : Nat := 0x480204
/-- Value of `FT_PPS_USE_B`. -/
def Cfg.FT_PPS_USE_B (s : State) : Nat := getNum s 0x480204 0
/-- Entry 0x4802.05. -/
def E.FT_PPS_CABLE_NS_B : Nat := 0x480205
/-- Value of `FT_PPS_CABLE_NS_B`. -/
def Cfg.FT_PPS_CABLE_NS_B (s : State) : Int := toSigned 32 (getNum s 0x480205 0)
/-- Entry 0x4802.06. -/
def E.FT_KP_B : Nat := 0x480206
/-- Value of `FT_KP_B`. -/
def Cfg.FT_KP_B (s : State) : Nat := getNum s 0x480206 1048576000
/-- Entry 0x4802.07. -/
def E.FT_KI_B : Nat := 0x480207
/-- Value of `FT_KI_B`. -/
def Cfg.FT_KI_B (s : State) : Nat := getNum s 0x480207 1006632960
/-- Entry 0x4802.08. -/
def E.FT_LOCK_NS_B : Nat := 0x480208
/-- Value of `FT_LOCK_NS_B`. -/
def Cfg.FT_LOCK_NS_B (s : State) : Nat := getNum s 0x480208 5
/-- Entry 0x4802.09. -/
def E.FT_LOCK_COUNT_B : Nat := 0x480209
/-- Value of `FT_LOCK_COUNT_B`. -/
def Cfg.FT_LOCK_COUNT_B (s : State) : Nat := getNum s 0x480209 16
/-- Entry 0x4802.0A. -/
def E.FT_OUTLIER_NS_B : Nat := 0x48020A
/-- Value of `FT_OUTLIER_NS_B`. -/
def Cfg.FT_OUTLIER_NS_B (s : State) : Nat := getNum s 0x48020A 50
/-- Entry 0x4802.0B. -/
def E.FT_SYNC_TIMEOUT_TICKS_B : Nat := 0x48020B
/-- Value of `FT_SYNC_TIMEOUT_TICKS_B`. -/
def Cfg.FT_SYNC_TIMEOUT_TICKS_B (s : State) : Nat := getNum s 0x48020B 1024
/-- Entry 0x4802.0C. -/
def E.FT_SERVO_STATE_B : Nat := 0x48020C
/-- Entry 0x4802.0D. -/
def E.FT_OFFSET_B : Nat := 0x48020D
/-- Entry 0x4803.00. -/
def E.FT_DOMAIN_SELECT : Nat := 0x480300
/-- Value of `FT_DOMAIN_SELECT`. -/
def Cfg.FT_DOMAIN_SELECT (s : State) : Nat := getNum s 0x480300 2
/-- Entry 0x4803.01. -/
def E.FT_DOMAIN_ACTIVE : Nat := 0x480301
/-- Entry 0x4803.02. -/
def E.FT_LOSS_HOLD_TICKS : Nat := 0x480302
/-- Value of `FT_LOSS_HOLD_TICKS`. -/
def Cfg.FT_LOSS_HOLD_TICKS (s : State) : Nat := getNum s 0x480302 1024
/-- Entry 0x4803.03. -/
def E.FT_RETURN_HOLD_FRAMES : Nat := 0x480303
/-- Value of `FT_RETURN_HOLD_FRAMES`. -/
def Cfg.FT_RETURN_HOLD_FRAMES (s : State) : Nat := getNum s 0x480303 64
/-- Entry 0x4803.04. -/
def E.FT_SPLIT_LIMIT_NS : Nat := 0x480304
/-- Value of `FT_SPLIT_LIMIT_NS`. -/
def Cfg.FT_SPLIT_LIMIT_NS (s : State) : Nat := getNum s 0x480304 10
/-- Entry 0x4803.05. -/
def E.FT_SLEW_REMAINING : Nat := 0x480305
/-- Entry 0x4803.06. -/
def E.FT_SERVO_RESTART : Nat := 0x480306
/-- Entry 0x4803.07. -/
def E.FT_FAULT_HOLD_TICKS : Nat := 0x480307
/-- Value of `FT_FAULT_HOLD_TICKS`. -/
def Cfg.FT_FAULT_HOLD_TICKS (s : State) : Nat := getNum s 0x480307 1048576
/-- Entry 0x4804.00. -/
def E.FT_ALIGN_LIMIT_NS : Nat := 0x480400
/-- Value of `FT_ALIGN_LIMIT_NS`. -/
def Cfg.FT_ALIGN_LIMIT_NS (s : State) : Nat := getNum s 0x480400 10
/-- Entry 0x4804.01. -/
def E.FT_PDELAY_LOG_INTERVAL : Nat := 0x480401
/-- Value of `FT_PDELAY_LOG_INTERVAL`. -/
def Cfg.FT_PDELAY_LOG_INTERVAL (s : State) : Int := toSigned 8 (getNum s 0x480401 253)
/-- Entry 0x4805.00. -/
def E.FT_CORRECTIONS : Nat := 0x480500
/-- Entry 0x4805.01. -/
def E.FT_PORT_ASYMMETRY : Nat := 0x480501
/-- Entry 0x4806.00. -/
def E.FT_PPS_OUT_MODE : Nat := 0x480600
/-- Value of `FT_PPS_OUT_MODE`. -/
def Cfg.FT_PPS_OUT_MODE (s : State) : Nat := getNum s 0x480600 0
/-- Entry 0x4810.00. -/
def E.FT_ACTION_TABLE : Nat := 0x481000
/-- Entry 0x4810.01. -/
def E.FT_ACTION_ADD : Nat := 0x481001
/-- Entry 0x4810.02. -/
def E.FT_ACTION_ARM : Nat := 0x481002
/-- Entry 0x4810.03. -/
def E.FT_ACTION_CANCEL : Nat := 0x481003
/-- Entry 0x4810.04. -/
def E.FT_ACTION_FREE : Nat := 0x481004
/-- Entry 0x4810.05. -/
def E.FT_ARM_LEAD_TICKS : Nat := 0x481005
/-- Entry 0x4810.06. -/
def E.FT_CANCEL_GUARD_TICKS : Nat := 0x481006
/-- Entry 0x4810.07. -/
def E.FT_LAUNCH_SOURCES : Nat := 0x481007
/-- Entry 0x4820.00. -/
def E.FT_MSG_CORRECTED : Nat := 0x482000
/-- Entry 0x4820.01. -/
def E.FT_MSG_DROPPED : Nat := 0x482001
/-- Entry 0x4820.02. -/
def E.FT_LAUNCH_REFUSED : Nat := 0x482002
/-- Entry 0x4820.03. -/
def E.FT_ALIGN_EPISODES : Nat := 0x482003
/-- Entry 0x4820.04. -/
def E.FT_PPS_REJECTS : Nat := 0x482004
/-- Entry 0x5000.00. -/
def E.TB_LPM_WRITE : Nat := 0x500000
/-- Entry 0x5000.01. -/
def E.TB_EXACT_WRITE : Nat := 0x500001
/-- Entry 0x5000.02. -/
def E.TB_NEXTHOP_WRITE : Nat := 0x500002
/-- Entry 0x5000.03. -/
def E.TB_GROUP_WRITE : Nat := 0x500003
/-- Entry 0x5000.04. -/
def E.TB_WRITE_STATE : Nat := 0x500004
/-- Entry 0x5001.00. -/
def E.TB_LPM_ACTIVE : Nat := 0x500100
/-- Entry 0x5001.01. -/
def E.TB_EXACT_ACTIVE : Nat := 0x500101
/-- Entry 0x5001.02. -/
def E.TB_NEXTHOP_ACTIVE : Nat := 0x500102
/-- Entry 0x5001.03. -/
def E.TB_GROUP_ACTIVE : Nat := 0x500103
/-- Entry 0x5001.04. -/
def E.TB_OCCUPANCY : Nat := 0x500104
/-- Entry 0x5002.00. -/
def E.TB_SEED_ACTIVE : Nat := 0x500200
/-- Entry 0x5002.01. -/
def E.TB_SEED_NEXT : Nat := 0x500201
/-- Entry 0x5002.02. -/
def E.TB_REHASH_PENDING : Nat := 0x500202
/-- Entry 0x5003.00. -/
def E.TB_AGE_QUANTUM_US : Nat := 0x500300
/-- Value of `TB_AGE_QUANTUM_US`. -/
def Cfg.TB_AGE_QUANTUM_US (s : State) : Nat := getNum s 0x500300 1000
/-- Entry 0x5003.01. -/
def E.TB_AGE_LIMIT : Nat := 0x500301
/-- Value of `TB_AGE_LIMIT`. -/
def Cfg.TB_AGE_LIMIT (s : State) : Nat := getNum s 0x500301 10000
/-- Entry 0x5003.02. -/
def E.TB_SCAN_PERIOD : Nat := 0x500302
/-- Value of `TB_SCAN_PERIOD`. -/
def Cfg.TB_SCAN_PERIOD (s : State) : Nat := getNum s 0x500302 1024
/-- Entry 0x5003.03. -/
def E.TB_MOVE_HOLD : Nat := 0x500303
/-- Value of `TB_MOVE_HOLD`. -/
def Cfg.TB_MOVE_HOLD (s : State) : Nat := getNum s 0x500303 50
/-- Entry 0x5003.04. -/
def E.TB_LEARN_PORTS : Nat := 0x500304
/-- Entry 0x5003.05. -/
def E.TB_LEARN_QUEUE_DEPTH : Nat := 0x500305
/-- Entry 0x5003.06. -/
def E.TB_PROBES_PER_CYCLE : Nat := 0x500306
/-- Entry 0x5004.00. -/
def E.TB_SUBSTITUTE : Nat := 0x500400
/-- Entry 0x5004.01. -/
def E.TB_SUBST_COUNTER : Nat := 0x500401
/-- Entry 0x5010.00. -/
def E.TB_NO_ROUTE : Nat := 0x501000
/-- Entry 0x5010.01. -/
def E.TB_NO_SAFE_ROUTE : Nat := 0x501001
/-- Entry 0x5010.02. -/
def E.TB_DISCARD_DROPS : Nat := 0x501002
/-- Entry 0x5010.03. -/
def E.TB_HAIRPIN_DROPS : Nat := 0x501003
/-- Entry 0x5010.04. -/
def E.TB_NO_GROUP : Nat := 0x501004
/-- Entry 0x5010.05. -/
def E.TB_GRACE_FORWARDED : Nat := 0x501005
/-- Entry 0x5010.06. -/
def E.TB_EPOCH_DROPS : Nat := 0x501006
/-- Entry 0x5010.07. -/
def E.TB_LEARNS : Nat := 0x501007
/-- Entry 0x5010.08. -/
def E.TB_LEARN_MOVES : Nat := 0x501008
/-- Entry 0x5010.09. -/
def E.TB_LEARN_CONFLICTS : Nat := 0x501009
/-- Entry 0x5010.0A. -/
def E.TB_LEARN_FAILS : Nat := 0x50100A
/-- Entry 0x5010.0B. -/
def E.TB_LEARN_OVERRUNS : Nat := 0x50100B
/-- Entry 0x5010.0C. -/
def E.TB_AGED_OUT : Nat := 0x50100C
/-- Entry 0x5010.0D. -/
def E.TB_REHASH_LOST_LEARNS : Nat := 0x50100D
/-- Entry 0x5010.0E. -/
def E.TB_ECC_CORRECTED : Nat := 0x50100E
/-- Entry 0x5010.0F. -/
def E.TB_ECC_UNCORRECTED : Nat := 0x50100F
/-- Entry 0x5010.10. -/
def E.TB_ECC_DROPS : Nat := 0x501010
/-- Entry 0x5010.11. -/
def E.TB_SUBST_REFUSED : Nat := 0x501011
/-- Entry 0x5800.00. -/
def E.OT_SHAPER_CONFIG : Nat := 0x580000
/-- Entry 0x5800.01. -/
def E.OT_SHAPER_STATE : Nat := 0x580001
/-- Entry 0x5800.02. -/
def E.OT_SHAPER_MAP : Nat := 0x580002
/-- Entry 0x5801.00. -/
def E.OT_POLICER_CONFIG : Nat := 0x580100
/-- Entry 0x5801.01. -/
def E.OT_POLICER_STATE : Nat := 0x580101
/-- Entry 0x5801.02. -/
def E.OT_POLICER_MAP : Nat := 0x580102
/-- Entry 0x5802.00. -/
def E.OT_HEAD_DROP_US : Nat := 0x580200
/-- Value of `OT_HEAD_DROP_US`. -/
def Cfg.OT_HEAD_DROP_US (s : State) : Nat := getNum s 0x580200 2000
/-- Entry 0x5802.01. -/
def E.OT_HEAD_DROP_MARKED_US : Nat := 0x580201
/-- Value of `OT_HEAD_DROP_MARKED_US`. -/
def Cfg.OT_HEAD_DROP_MARKED_US (s : State) : Nat := getNum s 0x580201 200
/-- Entry 0x5802.02. -/
def E.OT_WHEEL_ENTRIES : Nat := 0x580202
/-- Entry 0x5802.03. -/
def E.OT_WHEEL_GRANULE_PS : Nat := 0x580203
/-- Entry 0x5810.00. -/
def E.OT_POLICE_CONFORM : Nat := 0x581000
/-- Entry 0x5810.01. -/
def E.OT_POLICE_MARKED : Nat := 0x581001
/-- Entry 0x5810.02. -/
def E.OT_POLICE_DROPPED : Nat := 0x581002
/-- Entry 0x5810.03. -/
def E.OT_HEAD_DROPS : Nat := 0x581003
/-- Entry 0x5810.04. -/
def E.OT_HEAD_DROPS_MARKED : Nat := 0x581004
/-- Entry 0x5810.05. -/
def E.OT_GAP_PASSES : Nat := 0x581005
/-- Entry 0x5810.06. -/
def E.OT_SHAPER_HOLDS : Nat := 0x581006
/-- Entry 0x6000.00. -/
def E.FM_REGION_DEFINE : Nat := 0x600000
/-- Entry 0x6000.01. -/
def E.FM_REGION_TABLE : Nat := 0x600001
/-- Entry 0x6000.02. -/
def E.FM_STACK_FREE : Nat := 0x600002
/-- Entry 0x6000.03. -/
def E.FM_MAX_REGIONS : Nat := 0x600003
/-- Entry 0x6000.04. -/
def E.FM_MAX_REGION_BYTES_PER_STACK : Nat := 0x600004
/-- Entry 0x6001.00. -/
def E.FM_ORDER_WINDOW : Nat := 0x600100
/-- Entry 0x6001.01. -/
def E.FM_REPLAY_DEPTH : Nat := 0x600101
/-- Entry 0x6001.02. -/
def E.FM_GAP_HOLD_US : Nat := 0x600102
/-- Value of `FM_GAP_HOLD_US`. -/
def Cfg.FM_GAP_HOLD_US (s : State) : Nat := getNum s 0x600102 20
/-- Entry 0x6001.03. -/
def E.FM_SOURCE_IDLE_MS : Nat := 0x600103
/-- Value of `FM_SOURCE_IDLE_MS`. -/
def Cfg.FM_SOURCE_IDLE_MS (s : State) : Nat := getNum s 0x600103 2000
/-- Entry 0x6001.04. -/
def E.FM_HELD_FLAGS_MAX : Nat := 0x600104
/-- Entry 0x6002.00. -/
def E.FM_SOURCES : Nat := 0x600200
/-- Entry 0x6003.00. -/
def E.FM_MIRROR_PARTNER : Nat := 0x600300
/-- Value of `FM_MIRROR_PARTNER`. -/
def Cfg.FM_MIRROR_PARTNER (s : State) : Nat := getNum s 0x600300 0
/-- Entry 0x6003.01. -/
def E.FM_MIRROR_OUT_KEY : Nat := 0x600301
/-- Entry 0x6003.02. -/
def E.FM_MIRROR_OUT_GEN : Nat := 0x600302
/-- Value of `FM_MIRROR_OUT_GEN`. -/
def Cfg.FM_MIRROR_OUT_GEN (s : State) : Nat := getNum s 0x600302 1
/-- Entry 0x6003.03. -/
def E.FM_MIRROR_FROM : Nat := 0x600303
/-- Value of `FM_MIRROR_FROM`. -/
def Cfg.FM_MIRROR_FROM (s : State) : Nat := getNum s 0x600303 0
/-- Entry 0x6003.04. -/
def E.FM_MIRROR_IN_KEY : Nat := 0x600304
/-- Entry 0x6003.05. -/
def E.FM_MIRROR_IN_GEN : Nat := 0x600305
/-- Value of `FM_MIRROR_IN_GEN`. -/
def Cfg.FM_MIRROR_IN_GEN (s : State) : Nat := getNum s 0x600305 1
/-- Entry 0x6003.06. -/
def E.FM_MIRROR_STATE : Nat := 0x600306
/-- Entry 0x6003.07. -/
def E.FM_MIRROR_LAG_NS : Nat := 0x600307
/-- Entry 0x6003.08. -/
def E.FM_MIRROR_LAG_LIMIT_US : Nat := 0x600308
/-- Value of `FM_MIRROR_LAG_LIMIT_US`. -/
def Cfg.FM_MIRROR_LAG_LIMIT_US (s : State) : Nat := getNum s 0x600308 100
/-- Entry 0x6003.09. -/
def E.FM_MIRROR_ACK_US : Nat := 0x600309
/-- Value of `FM_MIRROR_ACK_US`. -/
def Cfg.FM_MIRROR_ACK_US (s : State) : Nat := getNum s 0x600309 50
/-- Entry 0x6003.0A. -/
def E.FM_MIRROR_IN_STEP : Nat := 0x60030A
/-- Entry 0x6004.00. -/
def E.FM_CHECKPOINT_STEP : Nat := 0x600400
/-- Value of `FM_CHECKPOINT_STEP`. -/
def Cfg.FM_CHECKPOINT_STEP (s : State) : Nat := getNum s 0x600400 0
/-- Entry 0x6004.01. -/
def E.FM_CHECKPOINT_STATE : Nat := 0x600401
/-- Entry 0x6004.02. -/
def E.FM_CHECKPOINT_RESTORE : Nat := 0x600402
/-- Entry 0x6005.00. -/
def E.FM_MCAST_LOCAL : Nat := 0x600500
/-- Entry 0x6010.00. -/
def E.FM_REQUESTS : Nat := 0x601000
/-- Entry 0x6010.01. -/
def E.FM_APPLIED : Nat := 0x601001
/-- Entry 0x6010.02. -/
def E.FM_REPLAYS : Nat := 0x601002
/-- Entry 0x6010.03. -/
def E.FM_SEQ_DECLARED_LOST : Nat := 0x601003
/-- Entry 0x6010.04. -/
def E.FM_FLAG_HOLDS : Nat := 0x601004
/-- Entry 0x6010.05. -/
def E.FM_RSP_UNBOUND : Nat := 0x601005
/-- Entry 0x6010.06. -/
def E.FM_STRAY_RESPONSES : Nat := 0x601006
/-- Entry 0x6010.07. -/
def E.FM_MEDIA_ERRORS : Nat := 0x601007
/-- Entry 0x6010.08. -/
def E.FM_MIRROR_WRITES : Nat := 0x601008
/-- Entry 0x6010.09. -/
def E.FM_MIRROR_RESENDS : Nat := 0x601009
/-- Entry 0x6010.0A. -/
def E.FM_MCAST_LOCAL_REFUSED : Nat := 0x60100A
/-- Entry 0x6011.00. -/
def E.FM_NACK_COUNTS : Nat := 0x601100
/-- Entry 0x7000.00. -/
def E.CR_CONVERT_BYTES_PER_CYCLE : Nat := 0x700000
/-- Entry 0x7000.01. -/
def E.CR_COMBINE_LANES : Nat := 0x700001
/-- Entry 0x7000.02. -/
def E.CR_COMBINE_PER_TICK : Nat := 0x700002
/-- Entry 0x7000.03. -/
def E.CR_MAX_INPUTS_PER_BENCH : Nat := 0x700003
/-- Entry 0x7000.04. -/
def E.CR_XBAR_UNITS_PER_TICK : Nat := 0x700004
/-- Entry 0x7000.05. -/
def E.CR_ABANDON_EVENT_LIMIT : Nat := 0x700005
/-- Value of `CR_ABANDON_EVENT_LIMIT`. -/
def Cfg.CR_ABANDON_EVENT_LIMIT (s : State) : Nat := getNum s 0x700005 0
/-- Entry 0x7001.00. -/
def E.CR_RECIPE_STATE : Nat := 0x700100
/-- Entry 0x7001.01. -/
def E.CR_RECIPE_STATS : Nat := 0x700101
/-- Entry 0x7002.00. -/
def E.CR_MISSING_LOG : Nat := 0x700200
/-- Entry 0x7002.01. -/
def E.CR_MISSING_LOG_WRITTEN : Nat := 0x700201
/-- Entry 0x7002.02. -/
def E.CR_MISSING_LOG_CLEAR : Nat := 0x700202
/-- Entry 0x7010.00. -/
def E.CR_CHUNKS_DONE : Nat := 0x701000
/-- Entry 0x7010.01. -/
def E.CR_CHUNKS_ABANDONED : Nat := 0x701001
/-- Entry 0x7010.02. -/
def E.CR_LATE : Nat := 0x701002
/-- Entry 0x7010.03. -/
def E.CR_WINDOW_DROPS : Nat := 0x701003
/-- Entry 0x7010.04. -/
def E.CR_BUFFER_DROPS : Nat := 0x701004
/-- Entry 0x7010.05. -/
def E.CR_LENGTH_DROPS : Nat := 0x701005
/-- Entry 0x7010.06. -/
def E.CR_RESULT_DEADLINE_DROPS : Nat := 0x701006
/-- Entry 0x7010.07. -/
def E.CR_RESULT_EMPTY : Nat := 0x701007
/-- Entry 0x7010.08. -/
def E.CR_STORE_REFUSED : Nat := 0x701008
/-- Entry 0x7010.09. -/
def E.CR_SATURATED_ELEMENTS : Nat := 0x701009
/-- Entry 0x7010.0A. -/
def E.CR_NAN_ELEMENTS : Nat := 0x70100A
/-- Entry 0x7010.0B. -/
def E.CR_LOG_OVERWRITES : Nat := 0x70100B
/-- Entry 0x8000.00. -/
def E.HL_RULES : Nat := 0x800000
/-- Entry 0x8000.01. -/
def E.HL_RULE_STATE : Nat := 0x800001
/-- Entry 0x8001.00. -/
def E.HL_DI_CONFIG : Nat := 0x800100
/-- Entry 0x8001.01. -/
def E.HL_DI_STATE : Nat := 0x800101
/-- Entry 0x8001.02. -/
def E.HL_DI_UNMASK : Nat := 0x800102
/-- Entry 0x8001.03. -/
def E.HL_GPO : Nat := 0x800103
/-- Value of `HL_GPO`. -/
def Cfg.HL_GPO (s : State) : Nat := getNum s 0x800103 3
/-- Entry 0x8001.04. -/
def E.HL_FAULT_CAUSE : Nat := 0x800104
/-- Entry 0x8001.05. -/
def E.HL_FAULT_CLEAR : Nat := 0x800105
/-- Entry 0x8001.06. -/
def E.HL_ATTN_CAUSE : Nat := 0x800106
/-- Entry 0x8001.07. -/
def E.HL_ATTN_CLEAR : Nat := 0x800107
/-- Entry 0x8002.00. -/
def E.HL_HB_INTERVAL_TICKS : Nat := 0x800200
/-- Value of `HL_HB_INTERVAL_TICKS`. -/
def Cfg.HL_HB_INTERVAL_TICKS (s : State) : Nat := getNum s 0x800200 16
/-- Entry 0x8002.01. -/
def E.HL_HB_MISS_LIMIT : Nat := 0x800201
/-- Value of `HL_HB_MISS_LIMIT`. -/
def Cfg.HL_HB_MISS_LIMIT (s : State) : Nat := getNum s 0x800201 4
/-- Entry 0x8002.02. -/
def E.HL_HB_CLEAR_COUNT : Nat := 0x800202
/-- Value of `HL_HB_CLEAR_COUNT`. -/
def Cfg.HL_HB_CLEAR_COUNT (s : State) : Nat := getNum s 0x800202 4
/-- Entry 0x8002.03. -/
def E.HL_NEIGHBOURS : Nat := 0x800203
/-- Entry 0x8002.04. -/
def E.HL_EVIDENCE_PKTS : Nat := 0x800204
/-- Value of `HL_EVIDENCE_PKTS`. -/
def Cfg.HL_EVIDENCE_PKTS (s : State) : Nat := getNum s 0x800204 1024
/-- Entry 0x8002.05. -/
def E.HL_MISSING_LIMIT : Nat := 0x800205
/-- Value of `HL_MISSING_LIMIT`. -/
def Cfg.HL_MISSING_LIMIT (s : State) : Nat := getNum s 0x800205 8
/-- Entry 0x8003.00. -/
def E.HL_CERT_SUBMIT : Nat := 0x800300
/-- Entry 0x8003.01. -/
def E.HL_CERT_COUNTER : Nat := 0x800301
/-- Entry 0x8003.02. -/
def E.HL_FENCES : Nat := 0x800302
/-- Entry 0x8004.00. -/
def E.HL_WDT_US : Nat := 0x800400
/-- Value of `HL_WDT_US`. -/
def Cfg.HL_WDT_US (s : State) : Nat := getNum s 0x800400 1000
/-- Entry 0x8004.01. -/
def E.HL_WDT_ESCALATE_COUNT : Nat := 0x800401
/-- Value of `HL_WDT_ESCALATE_COUNT`. -/
def Cfg.HL_WDT_ESCALATE_COUNT (s : State) : Nat := getNum s 0x800401 3
/-- Entry 0x8004.02. -/
def E.HL_WDT_ESCALATE_ACTION : Nat := 0x800402
/-- Value of `HL_WDT_ESCALATE_ACTION`. -/
def Cfg.HL_WDT_ESCALATE_ACTION (s : State) : Nat := getNum s 0x800402 0
/-- Entry 0x8004.03. -/
def E.HL_CONTROLLERS : Nat := 0x800403
/-- Entry 0x8010.00. -/
def E.HL_RULE_FIRES : Nat := 0x801000
/-- Entry 0x8010.01. -/
def E.HL_DI_GLITCHES : Nat := 0x801001
/-- Entry 0x8010.02. -/
def E.HL_DI_CHATTER : Nat := 0x801002
/-- Entry 0x8010.03. -/
def E.HL_HB_RECEIVED : Nat := 0x801003
/-- Entry 0x8010.04. -/
def E.HL_HB_STALE : Nat := 0x801004
/-- Entry 0x8010.05. -/
def E.HL_SUSPECTS : Nat := 0x801005
/-- Entry 0x8010.06. -/
def E.HL_EVIDENCE_CONFLICTS : Nat := 0x801006
/-- Entry 0x8010.07. -/
def E.HL_FENCE_DROPS : Nat := 0x801007
/-- Entry 0x8010.08. -/
def E.HL_CERT_REFUSED : Nat := 0x801008
/-- Entry 0x8010.09. -/
def E.HL_WDT_RESTARTS : Nat := 0x801009
/-- Entry 0x8010.0A. -/
def E.HL_MOTH_RESTARTS : Nat := 0x80100A
/-- Entry 0x9000.00. -/
def E.RP_POSITION_FA : Nat := 0x900000
/-- Value of `RP_POSITION_FA`. -/
def Cfg.RP_POSITION_FA (s : State) : Nat := getNum s 0x900000 0
/-- Entry 0x9000.01. -/
def E.RP_SYNC_STATE : Nat := 0x900001
/-- Entry 0x9000.02. -/
def E.RP_HELD_EPOCH : Nat := 0x900002
/-- Entry 0x9000.03. -/
def E.RP_FABRIC_EPOCH : Nat := 0x900003
/-- Entry 0x9000.04. -/
def E.RP_JOIN_FRAME : Nat := 0x900004
/-- Entry 0x9001.00. -/
def E.RP_WITHDRAW : Nat := 0x900100
/-- Entry 0x9001.01. -/
def E.RP_LOSS_SET : Nat := 0x900101
/-- Value of `RP_LOSS_SET`. -/
def Cfg.RP_LOSS_SET (s : State) : Nat := getNum s 0x900101 0
/-- Entry 0x9001.02. -/
def E.RP_WITHDRAW_STATE : Nat := 0x900102
/-- Entry 0x9001.03. -/
def E.RP_PARTNER_WITHDRAWS : Nat := 0x900103
/-- Entry 0x9002.00. -/
def E.RP_RESET : Nat := 0x900200
/-- Entry 0x9002.01. -/
def E.RP_BENCH_RESET : Nat := 0x900201
/-- Entry 0x9002.02. -/
def E.RP_LAST_RESET : Nat := 0x900202
/-- Entry 0x9003.00. -/
def E.RP_BENCH_STATE : Nat := 0x900300
/-- Entry 0x9004.00. -/
def E.RP_POSITION_RECORD : Nat := 0x900400
/-- Entry 0x9004.01. -/
def E.RP_POSITION_IMPORT : Nat := 0x900401
/-- Entry 0x9004.02. -/
def E.RP_IMPORT_STATE : Nat := 0x900402
/-- Entry 0x9005.00. -/
def E.RP_STREAM_START : Nat := 0x900500
/-- Entry 0x9005.01. -/
def E.RP_STREAM_ACCEPT : Nat := 0x900501
/-- Entry 0x9005.02. -/
def E.RP_STREAM_ABORT : Nat := 0x900502
/-- Entry 0x9005.03. -/
def E.RP_STREAM_STATE : Nat := 0x900503
/-- Entry 0x9005.04. -/
def E.RP_STREAM_TIMEOUT_MS : Nat := 0x900504
/-- Value of `RP_STREAM_TIMEOUT_MS`. -/
def Cfg.RP_STREAM_TIMEOUT_MS (s : State) : Nat := getNum s 0x900504 50
/-- Entry 0x9005.05. -/
def E.RP_STREAM_RATE_GBPS : Nat := 0x900505
/-- Value of `RP_STREAM_RATE_GBPS`. -/
def Cfg.RP_STREAM_RATE_GBPS (s : State) : Nat := getNum s 0x900505 200
/-- Entry 0x9010.00. -/
def E.RP_STALE_DROPS : Nat := 0x901000
/-- Entry 0x9010.01. -/
def E.RP_WITHDRAW_DROPS : Nat := 0x901001
/-- Entry 0x9010.02. -/
def E.RP_ROTATIONS : Nat := 0x901002
/-- Entry 0x9010.03. -/
def E.RP_ROTATIONS_REFUSED : Nat := 0x901003
/-- Entry 0x9010.04. -/
def E.RP_BENCHES_RETIRED : Nat := 0x901004
/-- Entry 0x9010.05. -/
def E.RP_WARM_RESETS : Nat := 0x901005
/-- Entry 0x9010.06. -/
def E.RP_COLD_RESETS : Nat := 0x901006
/-- Entry 0x9010.07. -/
def E.RP_STREAM_BYTES : Nat := 0x901007
/-- Entry 0x9010.08. -/
def E.RP_REGIONS_LOST : Nat := 0x901008
/-- Entry 0xA000.00. -/
def E.SE_VENDOR_KEY_HASH : Nat := 0xA00000
/-- Entry 0xA000.01. -/
def E.SE_ROLLBACK_FUSED : Nat := 0xA00001
/-- Entry 0xA000.02. -/
def E.SE_FW_STATE : Nat := 0xA00002
/-- Entry 0xA000.03. -/
def E.SE_FW_RUNNING : Nat := 0xA00003
/-- Entry 0xA000.04. -/
def E.SE_FW_IMAGE : Nat := 0xA00004
/-- Entry 0xA000.05. -/
def E.SE_FW_ACTIVATE : Nat := 0xA00005
/-- Value of `SE_FW_ACTIVATE`. -/
def Cfg.SE_FW_ACTIVATE (s : State) : Nat := getNum s 0xA00005 0
/-- Entry 0xA000.06. -/
def E.SE_ROLLBACK_COMMIT : Nat := 0xA00006
/-- Value of `SE_ROLLBACK_COMMIT`. -/
def Cfg.SE_ROLLBACK_COMMIT (s : State) : Nat := getNum s 0xA00006 0
/-- Entry 0xA001.00. -/
def E.SE_OWNER_KEYS : Nat := 0xA00100
/-- Entry 0xA001.01. -/
def E.SE_OWNER_ENROL : Nat := 0xA00101
/-- Entry 0xA001.02. -/
def E.SE_OWNER_REVOKE : Nat := 0xA00102
/-- Value of `SE_OWNER_REVOKE`. -/
def Cfg.SE_OWNER_REVOKE (s : State) : Nat := getNum s 0xA00102 0
/-- Entry 0xA001.03. -/
def E.SE_SIGNED_COUNTER : Nat := 0xA00103
/-- Entry 0xA002.00. -/
def E.SE_MANAGER_KEYS : Nat := 0xA00200
/-- Entry 0xA002.01. -/
def E.SE_QUORUM : Nat := 0xA00201
/-- Value of `SE_QUORUM`. -/
def Cfg.SE_QUORUM (s : State) : Nat := getNum s 0xA00201 1
/-- Entry 0xA003.00. -/
def E.SE_ID_CERT : Nat := 0xA00300
/-- Entry 0xA003.01. -/
def E.SE_ID_CHAIN : Nat := 0xA00301
/-- Entry 0xA003.02. -/
def E.SE_ID_PUBLIC : Nat := 0xA00302
/-- Entry 0xA004.00. -/
def E.SE_ATTEST_REQUEST : Nat := 0xA00400
/-- Entry 0xA004.01. -/
def E.SE_ATTEST_REPORT : Nat := 0xA00401
/-- Entry 0xA010.00. -/
def E.SE_SIG_REFUSED : Nat := 0xA01000
/-- Entry 0xA010.01. -/
def E.SE_CERT_SIG_FAILED : Nat := 0xA01001
/-- Entry 0xA010.02. -/
def E.SE_FW_REFUSED : Nat := 0xA01002
/-- Entry 0xA010.03. -/
def E.SE_BOOT_FALLBACKS : Nat := 0xA01003
/-- Entry 0xA010.04. -/
def E.SE_ATTEST_REPORTS : Nat := 0xA01004
/-- Entry 0xB000.00. -/
def E.TM_EVENT_NAMES : Nat := 0xB00000
/-- Entry 0xB000.01. -/
def E.TM_FIXED_LIVE : Nat := 0xB00001
/-- Entry 0xB000.02. -/
def E.TM_PROG_CONFIG : Nat := 0xB00002
/-- Entry 0xB000.03. -/
def E.TM_PROG_LIVE : Nat := 0xB00003
/-- Entry 0xB000.04. -/
def E.TM_CLEAR : Nat := 0xB00004
/-- Entry 0xB001.00. -/
def E.TM_DUMP_FRAMES : Nat := 0xB00100
/-- Value of `TM_DUMP_FRAMES`. -/
def Cfg.TM_DUMP_FRAMES (s : State) : Nat := getNum s 0xB00100 1
/-- Entry 0xB001.01. -/
def E.TM_DUMP_DEST : Nat := 0xB00101
/-- Value of `TM_DUMP_DEST`. -/
def Cfg.TM_DUMP_DEST (s : State) : Nat := getNum s 0xB00101 0
/-- Entry 0xB001.02. -/
def E.TM_DUMP_RING_MIB : Nat := 0xB00102
/-- Value of `TM_DUMP_RING_MIB`. -/
def Cfg.TM_DUMP_RING_MIB (s : State) : Nat := getNum s 0xB00102 64
/-- Entry 0xB001.03. -/
def E.TM_DUMP_HOST : Nat := 0xB00103
/-- Entry 0xB001.04. -/
def E.TM_DUMP_HOST_CONSUMED : Nat := 0xB00104
/-- Value of `TM_DUMP_HOST_CONSUMED`. -/
def Cfg.TM_DUMP_HOST_CONSUMED (s : State) : Nat := getNum s 0xB00104 0
/-- Entry 0xB001.05. -/
def E.TM_DUMP_WRITTEN : Nat := 0xB00105
/-- Entry 0xB001.06. -/
def E.TM_DUMP_RING : Nat := 0xB00106
/-- Entry 0xB001.07. -/
def E.TM_LATCHED : Nat := 0xB00107
/-- Entry 0xB001.08. -/
def E.TM_LATCH_NOW : Nat := 0xB00108
/-- Entry 0xB001.09. -/
def E.TM_DEVICE_COUNTER_LIST : Nat := 0xB00109
/-- Entry 0xB002.00. -/
def E.TM_SAMPLER_CONFIG : Nat := 0xB00200
/-- Entry 0xB002.01. -/
def E.TM_CAPTURE_RING_MIB : Nat := 0xB00201
/-- Value of `TM_CAPTURE_RING_MIB`. -/
def Cfg.TM_CAPTURE_RING_MIB (s : State) : Nat := getNum s 0xB00201 256
/-- Entry 0xB002.02. -/
def E.TM_CAPTURE_WRITTEN : Nat := 0xB00202
/-- Entry 0xB002.03. -/
def E.TM_CAPTURE_RING : Nat := 0xB00203
/-- Entry 0xB002.04. -/
def E.TM_CAPTURE_MODE : Nat := 0xB00204
/-- Value of `TM_CAPTURE_MODE`. -/
def Cfg.TM_CAPTURE_MODE (s : State) : Nat := getNum s 0xB00204 0
/-- Entry 0xB002.05. -/
def E.TM_CAPTURE_RESTART : Nat := 0xB00205
/-- Entry 0xB003.00. -/
def E.TM_EVENT_RING : Nat := 0xB00300
/-- Entry 0xB003.01. -/
def E.TM_EVENT_LAST : Nat := 0xB00301
/-- Entry 0xB010.00. -/
def E.TM_DUMPS : Nat := 0xB01000
/-- Entry 0xB010.01. -/
def E.TM_DUMPS_SKIPPED : Nat := 0xB01001
/-- Entry 0xB010.02. -/
def E.TM_LATCH_SKIPPED : Nat := 0xB01002
/-- Entry 0xB010.03. -/
def E.TM_CAPTURES : Nat := 0xB01003
/-- Entry 0xB010.04. -/
def E.TM_CAPTURES_LOST : Nat := 0xB01004
/-- Entry 0xB010.05. -/
def E.TM_PROG_OVERFLOWS : Nat := 0xB01005
/-- Entry 0xC000.00. -/
def E.BI_STATE : Nat := 0xC00000
/-- Entry 0xC000.01. -/
def E.BI_PHASE : Nat := 0xC00001
/-- Entry 0xC000.02. -/
def E.BI_DURATION_MS : Nat := 0xC00002
/-- Entry 0xC000.03. -/
def E.BI_SUMMARY : Nat := 0xC00003
/-- Entry 0xC000.04. -/
def E.BI_RESULTS : Nat := 0xC00004
/-- Entry 0xC000.05. -/
def E.BI_POWER_LIMIT_W : Nat := 0xC00005
/-- Value of `BI_POWER_LIMIT_W`. -/
def Cfg.BI_POWER_LIMIT_W (s : State) : Nat := getNum s 0xC00005 2600
/-- Entry 0xC000.06. -/
def E.BI_POWER_PEAK_W : Nat := 0xC00006
/-- Entry 0xC000.07. -/
def E.BI_MATRIX_PATTERNS : Nat := 0xC00007
/-- Entry 0xC000.08. -/
def E.BI_ELS_START_PCT : Nat := 0xC00008
/-- Value of `BI_ELS_START_PCT`. -/
def Cfg.BI_ELS_START_PCT (s : State) : Nat := getNum s 0xC00008 120
/-- Entry 0xC001.00. -/
def E.BI_RT_ENABLE : Nat := 0xC00100
/-- Value of `BI_RT_ENABLE`. -/
def Cfg.BI_RT_ENABLE (s : State) : Nat := getNum s 0xC00100 1
/-- Entry 0xC001.01. -/
def E.BI_STRATA_INTERVAL_FRAMES : Nat := 0xC00101
/-- Value of `BI_STRATA_INTERVAL_FRAMES`. -/
def Cfg.BI_STRATA_INTERVAL_FRAMES (s : State) : Nat := getNum s 0xC00101 64
/-- Entry 0xC001.02. -/
def E.BI_STRATA_TEST_NOW : Nat := 0xC00102
/-- Entry 0xC001.03. -/
def E.BI_STRATA_BANKS : Nat := 0xC00103
/-- Entry 0xC010.00. -/
def E.BI_RT_BANK_TESTS : Nat := 0xC01000
/-- Entry 0xC010.01. -/
def E.BI_RT_BANK_FAILS : Nat := 0xC01001
/-- Entry 0xC010.02. -/
def E.BI_RT_BENCH_TESTS : Nat := 0xC01002
/-- Entry 0xC010.03. -/
def E.BI_RT_BENCH_FAILS : Nat := 0xC01003
/-- Entry 0xE000.00. -/
def E.DX_ENTRY_COUNT : Nat := 0xE00000
/-- Entry 0xE000.01. -/
def E.DX_ENTRY_LIST : Nat := 0xE00001
/-- Entry 0xE000.02. -/
def E.DX_EVENT_LIST : Nat := 0xE00002
/-- Entry 0xE000.03. -/
def E.DX_PCI_IDS : Nat := 0xE00003
/-- Entry 0xE000.04. -/
def E.DX_TICK_LEAD : Nat := 0xE00004
/-- Entry 0xE001.00. -/
def E.DX_SESSIONS : Nat := 0xE00100
/-- Entry 0xE001.01. -/
def E.DX_LEASE_MS : Nat := 0xE00101
/-- Value of `DX_LEASE_MS`. -/
def Cfg.DX_LEASE_MS (s : State) : Nat := getNum s 0xE00101 1000
/-- Entry 0xE001.02. -/
def E.DX_AREA_OWNERS : Nat := 0xE00102
/-- Entry 0xE001.03. -/
def E.DX_AREA_CLAIMERS : Nat := 0xE00103
/-- Entry 0xE002.00. -/
def E.DX_MC_SOURCES : Nat := 0xE00200
/-- Entry 0xE002.01. -/
def E.DX_T1S_ADDR : Nat := 0xE00201
/-- Entry 0xE002.02. -/
def E.DX_T1S_PLCA_ID : Nat := 0xE00202
/-- Value of `DX_T1S_PLCA_ID`. -/
def Cfg.DX_T1S_PLCA_ID (s : State) : Nat := getNum s 0xE00202 1
/-- Entry 0xE002.03. -/
def E.DX_T1S_BOARD_ADDR : Nat := 0xE00203
/-- Entry 0xE003.00. -/
def E.DX_TRANSFERS : Nat := 0xE00300
/-- Entry 0xE003.01. -/
def E.DX_BLOCK_IDLE_MS : Nat := 0xE00301
/-- Value of `DX_BLOCK_IDLE_MS`. -/
def Cfg.DX_BLOCK_IDLE_MS (s : State) : Nat := getNum s 0xE00301 10000
/-- Entry 0xE003.02. -/
def E.DX_SUBSCRIPTIONS : Nat := 0xE00302
/-- Entry 0xE003.03. -/
def E.DX_EVENT_PKT_LIMIT : Nat := 0xE00303
/-- Value of `DX_EVENT_PKT_LIMIT`. -/
def Cfg.DX_EVENT_PKT_LIMIT (s : State) : Nat := getNum s 0xE00303 32
/-- Entry 0xE004.00. -/
def E.DX_PENDING : Nat := 0xE00400
/-- Entry 0xE010.00. -/
def E.DX_COMMANDS : Nat := 0xE01000
/-- Entry 0xE010.01. -/
def E.DX_STATUS_COUNTS : Nat := 0xE01001
/-- Entry 0xE010.02. -/
def E.DX_SUPERSEDED : Nat := 0xE01002
/-- Entry 0xE010.03. -/
def E.DX_REPLAYED : Nat := 0xE01003
/-- Entry 0xE010.04. -/
def E.DX_BLOCK_BYTES : Nat := 0xE01004
/-- Entry 0xE010.05. -/
def E.DX_EVENTS_SENT : Nat := 0xE01005
/-- Entry 0xE010.06. -/
def E.DX_EVENTS_DROPPED : Nat := 0xE01006

/-! ### The listings -/

/-- Listing, area 0. -/
def catalog0_0 : List Entry := [
  { id := 0x000000, ty := 12, acc := 5, eff := 0, retained := false, name := "ID_VENDOR", size := 6 },
  { id := 0x000001, ty := 12, acc := 5, eff := 0, retained := false, name := "ID_PART_NUMBER", size := 9 },
  { id := 0x000002, ty := 12, acc := 5, eff := 0, retained := false, name := "ID_ORDERING_CODE", size := 12 },
  { id := 0x000003, ty := 12, acc := 5, eff := 0, retained := false, name := "ID_SERIAL", size := 16 },
  { id := 0x000004, ty := 3, acc := 5, eff := 0, retained := false, name := "ID_BUILD_CODE", size := 2, hi := 65535 },
  { id := 0x000100, ty := 3, acc := 5, eff := 0, retained := false, name := "BEHAVIOUR_LEVEL_MAX", size := 2, dfl := 1024, hi := 65535 },
  { id := 0x000101, ty := 3, acc := 4, eff := 3, retained := true, name := "BEHAVIOUR_LEVEL_SET", size := 2, dfl := 1024, hi := 65535 },
  { id := 0x000102, ty := 3, acc := 1, eff := 0, retained := false, name := "BEHAVIOUR_LEVEL_ACTIVE", size := 2, dfl := 1024, hi := 65535 },
  { id := 0x000200, ty := 3, acc := 5, eff := 0, retained := false, name := "INV_PORTS", size := 2, dfl := 512, hi := 65535 },
  { id := 0x000201, ty := 2, acc := 5, eff := 0, retained := false, name := "INV_FACE_DIES", size := 1, dfl := 4, hi := 255 },
  { id := 0x000202, ty := 3, acc := 5, eff := 0, retained := false, name := "INV_BENCHES_PHYSICAL", size := 2, dfl := 136, hi := 65535 },
  { id := 0x000203, ty := 3, acc := 5, eff := 0, retained := false, name := "INV_BENCHES_ACTIVE", size := 2, dfl := 128, hi := 65535 },
  { id := 0x000204, ty := 2, acc := 5, eff := 0, retained := false, name := "INV_WINGS", size := 1, dfl := 16, hi := 255 },
  { id := 0x000205, ty := 3, acc := 5, eff := 0, retained := false, name := "INV_RINGS", size := 2, dfl := 5120, hi := 65535 },
  { id := 0x000206, ty := 2, acc := 5, eff := 0, retained := false, name := "INV_ELS_POSITIONS", size := 1, dfl := 80, hi := 255 },
  { id := 0x000207, ty := 3, acc := 5, eff := 0, retained := false, name := "INV_SRAM_MIB", size := 2, dfl := 640, hi := 65535 },
  { id := 0x000208, ty := 4, acc := 5, eff := 0, retained := false, name := "INV_STRATA_MIB", size := 4, dfl := 16384, hi := 4294967295 },
  { id := 0x000209, ty := 4, acc := 5, eff := 0, retained := false, name := "INV_GDDR7_MIB", size := 4, dfl := 65536, hi := 4294967295 },
  { id := 0x00020A, ty := 4, acc := 5, eff := 0, retained := false, name := "INV_CORE_CLOCK_KHZ", size := 4, dfl := 1600000, hi := 4294967295 },
  { id := 0x000300, ty := 14, acc := 1, eff := 0, retained := false, name := "INV_BENCH_MAP", size := 128, recSize := 1, fixed := true } ]

/-- Listing, area 1. -/
def catalog1_0 : List Entry := [
  { id := 0x100000, ty := 2, acc := 1, eff := 0, retained := false, name := "PS_STATE", size := 1, hi := 255 },
  { id := 0x100001, ty := 2, acc := 2, eff := 2, retained := false, name := "PS_REQUEST", size := 1, hi := 2 },
  { id := 0x100002, ty := 2, acc := 2, eff := 1, retained := true, name := "PS_WAKE_SOURCES", size := 1, dfl := 3, hi := 3, mask := 0x3 },
  { id := 0x100003, ty := 14, acc := 1, eff := 0, retained := false, name := "PS_LAST_WAKE", size := 128, recSize := 16, fixed := true, layout := [(1, 8), (4, 1), (1, 4)] },
  { id := 0x100004, ty := 14, acc := 1, eff := 0, retained := false, name := "PS_GATED", size := 16, recSize := 16, fixed := true },
  { id := 0x100005, ty := 2, acc := 1, eff := 0, retained := false, name := "PS_OFF_CAUSE", size := 1, hi := 255 },
  { id := 0x100006, ty := 14, acc := 1, eff := 0, retained := false, name := "PS_INPUT", size := 12, recSize := 12, fixed := true, layout := [(1, 4), (1, 4), (1, 4)] },
  { id := 0x100007, ty := 14, acc := 1, eff := 0, retained := false, name := "PS_THROTTLE", size := 4, recSize := 1, fixed := true },
  { id := 0x100008, ty := 5, acc := 1, eff := 0, retained := false, name := "PS_TRIM_WAKES", size := 8, hi := 18446744073709551615 } ]

/-- Listing, area 2. -/
def catalog2_0 : List Entry := [
  { id := 0x201000, ty := 14, acc := 2, eff := 2, retained := true, name := "PORT_CONFIG", size := 2048, recSize := 4, fixed := true },
  { id := 0x201001, ty := 14, acc := 1, eff := 0, retained := false, name := "PORT_PARTNER", size := 16384, recSize := 32, fixed := true },
  { id := 0x201100, ty := 4, acc := 2, eff := 2, retained := true, name := "PKT_CREDIT_LIMIT_OC0", size := 4, dfl := 1024, lo := 16, hi := 16384 },
  { id := 0x201101, ty := 4, acc := 2, eff := 2, retained := true, name := "PKT_CREDIT_LIMIT_OC1", size := 4, dfl := 256, lo := 16, hi := 16384 },
  { id := 0x201102, ty := 4, acc := 2, eff := 2, retained := true, name := "PKT_CREDIT_LIMIT_MC", size := 4, dfl := 128, lo := 16, hi := 16384 },
  { id := 0x201103, ty := 4, acc := 2, eff := 1, retained := true, name := "PKT_ESCAPE_NS", size := 4, dfl := 2000, lo := 100, hi := 1000000 },
  { id := 0x201104, ty := 3, acc := 2, eff := 1, retained := true, name := "PKT_CREDIT_STALL_US", size := 2, dfl := 100, lo := 1, hi := 65535 },
  { id := 0x201105, ty := 4, acc := 2, eff := 1, retained := true, name := "PKT_ERROR_EVENT_LIMIT", size := 4, dfl := 16, hi := 4294967295 },
  { id := 0x201106, ty := 2, acc := 2, eff := 1, retained := true, name := "PKT_ORIGIN_HOP_LIMIT", size := 1, dfl := 4, lo := 1, hi := 255 },
  { id := 0x201107, ty := 2, acc := 2, eff := 1, retained := true, name := "PKT_CELL_HOP_LIMIT", size := 1, dfl := 4, lo := 1, hi := 255 },
  { id := 0x201200, ty := 5, acc := 1, eff := 0, retained := false, name := "PKT_HDR_DROPS", size := 8, hi := 18446744073709551615 },
  { id := 0x201201, ty := 5, acc := 1, eff := 0, retained := false, name := "PKT_CRC_DROPS", size := 8, hi := 18446744073709551615 },
  { id := 0x201202, ty := 5, acc := 1, eff := 0, retained := false, name := "PKT_STOMPED_OUT", size := 8, hi := 18446744073709551615 },
  { id := 0x201203, ty := 5, acc := 1, eff := 0, retained := false, name := "PKT_STOMPED_IN", size := 8, hi := 18446744073709551615 },
  { id := 0x201204, ty := 5, acc := 1, eff := 0, retained := false, name := "PKT_FORMAT_DROPS", size := 8, hi := 18446744073709551615 },
  { id := 0x201205, ty := 5, acc := 1, eff := 0, retained := false, name := "PKT_HOP_DROPS", size := 8, hi := 18446744073709551615 },
  { id := 0x201206, ty := 5, acc := 1, eff := 0, retained := false, name := "PKT_ESCAPE_MOVES", size := 8, hi := 18446744073709551615 },
  { id := 0x201207, ty := 5, acc := 1, eff := 0, retained := false, name := "PKT_CREDIT_LOST_BLOCKS", size := 8, hi := 18446744073709551615 },
  { id := 0x201208, ty := 5, acc := 1, eff := 0, retained := false, name := "PKT_CREDIT_RESYNC", size := 8, hi := 18446744073709551615 },
  { id := 0x201209, ty := 5, acc := 1, eff := 0, retained := false, name := "PKT_MARKER_MISMATCH", size := 8, hi := 18446744073709551615 } ]

/-- Listing, area 2. -/
def catalog2_1 : List Entry := [
  { id := 0x20120A, ty := 5, acc := 1, eff := 0, retained := false, name := "PKT_LINK_MISMATCH", size := 8, hi := 18446744073709551615 },
  { id := 0x20120B, ty := 5, acc := 1, eff := 0, retained := false, name := "PKT_CELL_UNREPRESENTABLE", size := 8, hi := 18446744073709551615 },
  { id := 0x20120C, ty := 5, acc := 1, eff := 0, retained := false, name := "PKT_CELL_LOST", size := 8, hi := 18446744073709551615 },
  { id := 0x210000, ty := 4, acc := 2, eff := 3, retained := true, name := "DP_RESEQ_HOLD_NS", size := 4, dfl := 400, lo := 40, hi := 100000 },
  { id := 0x210001, ty := 3, acc := 2, eff := 3, retained := true, name := "DP_RESEQ_WINDOW", size := 2, dfl := 256, lo := 1, hi := 256 },
  { id := 0x210002, ty := 3, acc := 2, eff := 3, retained := true, name := "DP_RESEQ_IDLE_US", size := 2, dfl := 1000, lo := 10, hi := 65535 },
  { id := 0x210003, ty := 3, acc := 2, eff := 1, retained := true, name := "DP_FLAP_HOLD_US", size := 2, dfl := 20, hi := 1000 },
  { id := 0x210004, ty := 2, acc := 2, eff := 3, retained := true, name := "DP_HEAD_BLOCKS", size := 1, dfl := 8, lo := 1, hi := 64 },
  { id := 0x210005, ty := 2, acc := 2, eff := 3, retained := true, name := "DP_SAT_HIGH_PCT", size := 1, dfl := 95, lo := 50, hi := 100 },
  { id := 0x210006, ty := 2, acc := 2, eff := 3, retained := true, name := "DP_SAT_IDLE_PCT", size := 1, dfl := 20, hi := 49 },
  { id := 0x210007, ty := 4, acc := 2, eff := 3, retained := true, name := "DP_RESEQ_EVENT_LIMIT", size := 4, hi := 4294967295 },
  { id := 0x210100, ty := 14, acc := 1, eff := 0, retained := false, name := "DP_PORT_STATE", size := 2048, recSize := 4, fixed := true },
  { id := 0x210200, ty := 14, acc := 1, eff := 0, retained := false, name := "DP_SAT_STATE", size := 536, recSize := 4, fixed := true, layout := [(1, 2), (1, 2)] },
  { id := 0x212000, ty := 14, acc := 5, eff := 0, retained := false, name := "LAT_TERMS", size := 60, recSize := 4, fixed := true, layout := [(1, 4)] },
  { id := 0x214000, ty := 5, acc := 1, eff := 0, retained := false, name := "DP_SC_DRAWN", size := 8, hi := 18446744073709551615 },
  { id := 0x214001, ty := 5, acc := 1, eff := 0, retained := false, name := "DP_OPEN_SENT", size := 8, hi := 18446744073709551615 },
  { id := 0x214002, ty := 5, acc := 1, eff := 0, retained := false, name := "DP_ENTRIES_LOST", size := 8, hi := 18446744073709551615 },
  { id := 0x214003, ty := 5, acc := 1, eff := 0, retained := false, name := "DP_FLAP_DROPS", size := 8, hi := 18446744073709551615 },
  { id := 0x214004, ty := 5, acc := 1, eff := 0, retained := false, name := "DP_NO_EGRESS_DROPS", size := 8, hi := 18446744073709551615 },
  { id := 0x214005, ty := 5, acc := 1, eff := 0, retained := false, name := "DP_RESEQ_HOLDS", size := 8, hi := 18446744073709551615 } ]

/-- Listing, area 2. -/
def catalog2_2 : List Entry := [
  { id := 0x214006, ty := 5, acc := 1, eff := 0, retained := false, name := "DP_RESEQ_TIMEOUTS", size := 8, hi := 18446744073709551615 },
  { id := 0x214007, ty := 5, acc := 1, eff := 0, retained := false, name := "DP_RESEQ_LATE", size := 8, hi := 18446744073709551615 },
  { id := 0x214008, ty := 5, acc := 1, eff := 0, retained := false, name := "DP_RESEQ_SKIPPED", size := 8, hi := 18446744073709551615 },
  { id := 0x214009, ty := 5, acc := 1, eff := 0, retained := false, name := "DP_MCAST_COPY_DROPS", size := 8, hi := 18446744073709551615 },
  { id := 0x21400A, ty := 5, acc := 1, eff := 0, retained := false, name := "DP_MCAST_PARTIAL", size := 8, hi := 18446744073709551615 },
  { id := 0x21400B, ty := 5, acc := 1, eff := 0, retained := false, name := "DP_STRATA_SPILLS", size := 8, hi := 18446744073709551615 },
  { id := 0x21400C, ty := 5, acc := 1, eff := 0, retained := false, name := "DP_STRATA_ERRORS", size := 8, hi := 18446744073709551615 },
  { id := 0x21400D, ty := 5, acc := 1, eff := 0, retained := false, name := "DP_TX_ABORTED", size := 8, hi := 18446744073709551615 },
  { id := 0x21400E, ty := 5, acc := 1, eff := 0, retained := false, name := "DP_CLOSE_DROPS", size := 8, hi := 18446744073709551615 },
  { id := 0x21400F, ty := 5, acc := 1, eff := 0, retained := false, name := "DP_SAT_EPISODES", size := 8, hi := 18446744073709551615 } ]

/-- Listing, area 3. -/
def catalog3_0 : List Entry := [
  { id := 0x300000, ty := 14, acc := 5, eff := 0, retained := false, name := "OP_WAVELENGTHS", size := 20, recSize := 4, fixed := true, layout := [(1, 4)] },
  { id := 0x300001, ty := 14, acc := 5, eff := 0, retained := false, name := "OP_RX_SENSITIVITY_DBM", size := 4, recSize := 2, fixed := true, layout := [(1, 2)] },
  { id := 0x300100, ty := 14, acc := 1, eff := 0, retained := false, name := "OP_LANE_STATE", size := 8192, recSize := 16, fixed := true },
  { id := 0x300101, ty := 14, acc := 1, eff := 0, retained := false, name := "OP_MOVES", size := 24576, recSize := 24, layout := [(1, 4), (1, 2), (6, 1), (1, 8), (4, 1)] },
  { id := 0x300102, ty := 13, acc := 3, eff := 1, retained := false, name := "OP_LANE_COMMAND", size := 8 },
  { id := 0x300200, ty := 10, acc := 2, eff := 1, retained := true, name := "OP_KP", size := 4, dfl := 1056964608, hi := 4294967295 },
  { id := 0x300201, ty := 10, acc := 2, eff := 1, retained := true, name := "OP_KI", size := 4, dfl := 1028443341, hi := 4294967295 },
  { id := 0x300202, ty := 3, acc := 2, eff := 1, retained := true, name := "OP_LOCK_GHZ", size := 2, dfl := 20, lo := 5, hi := 100 },
  { id := 0x300203, ty := 3, acc := 2, eff := 1, retained := true, name := "OP_UNLOCK_GHZ", size := 2, dfl := 60, hi := 400 },
  { id := 0x300204, ty := 2, acc := 2, eff := 1, retained := true, name := "OP_LOCK_COUNT", size := 1, dfl := 16, lo := 4, hi := 64 },
  { id := 0x300205, ty := 2, acc := 2, eff := 1, retained := true, name := "OP_UNLOCK_COUNT", size := 1, dfl := 4, lo := 1, hi := 32 },
  { id := 0x300206, ty := 3, acc := 2, eff := 1, retained := true, name := "OP_SEARCH_GHZ", size := 2, dfl := 400, lo := 100, hi := 400 },
  { id := 0x300207, ty := 7, acc := 2, eff := 3, retained := true, name := "OP_TX_DETUNE_GHZ", size := 2, dfl := 120, lo := -400, hi := 400 },
  { id := 0x300208, ty := 3, acc := 2, eff := 1, retained := true, name := "OP_RX_DITHER_UW", size := 2, dfl := 50, lo := 10, hi := 500 },
  { id := 0x300209, ty := 3, acc := 2, eff := 1, retained := true, name := "OP_RETURN_HOLD_TICKS", size := 2, dfl := 1024, lo := 64, hi := 65535 },
  { id := 0x30020A, ty := 14, acc := 1, eff := 0, retained := false, name := "OP_RING_STATE", size := 40960, recSize := 8, fixed := true, layout := [(1, 2), (1, 2), (4, 1)] },
  { id := 0x300300, ty := 1, acc := 2, eff := 1, retained := true, name := "OP_FF_ENABLE", size := 1, dfl := 1, hi := 1 },
  { id := 0x300301, ty := 3, acc := 2, eff := 1, retained := true, name := "OP_FF_DIE_IDLE_W", size := 2, dfl := 120, hi := 340 },
  { id := 0x300302, ty := 3, acc := 2, eff := 1, retained := true, name := "OP_FF_DIE_SPAN_W", size := 2, dfl := 176, hi := 340 },
  { id := 0x300303, ty := 3, acc := 2, eff := 1, retained := true, name := "OP_FF_MEAS_LIMIT_W", size := 2, dfl := 15, lo := 2, hi := 200 } ]

/-- Listing, area 3. -/
def catalog3_1 : List Entry := [
  { id := 0x300304, ty := 14, acc := 5, eff := 0, retained := false, name := "OP_FF_COUPLING", size := 20480, recSize := 4, fixed := true, layout := [(1, 4)] },
  { id := 0x300305, ty := 14, acc := 1, eff := 0, retained := true, name := "OP_HEATER_EFFICIENCY", size := 20480, recSize := 4, fixed := true, layout := [(1, 4)] },
  { id := 0x300400, ty := 14, acc := 2, eff := 1, retained := true, name := "OP_ELS_ADDR", size := 640, recSize := 8, fixed := true },
  { id := 0x300401, ty := 14, acc := 1, eff := 0, retained := false, name := "OP_ELS_STATE", size := 1280, recSize := 16, fixed := true },
  { id := 0x300402, ty := 7, acc := 2, eff := 1, retained := true, name := "OP_FEED_TARGET_DBM", size := 2, dfl := 1500, lo := 1400, hi := 1700 },
  { id := 0x300403, ty := 2, acc := 2, eff := 1, retained := true, name := "OP_ELS_WARN_PCT", size := 1, dfl := 85, lo := 50, hi := 99 },
  { id := 0x300404, ty := 3, acc := 2, eff := 1, retained := true, name := "OP_MARGIN_WARN_DB", size := 2, dfl := 150, lo := 50, hi := 500 },
  { id := 0x300405, ty := 2, acc := 2, eff := 1, retained := true, name := "OP_ELS_POLL_FRAMES", size := 1, dfl := 16, lo := 1, hi := 255 },
  { id := 0x300406, ty := 2, acc := 2, eff := 1, retained := true, name := "OP_ELS_BIAS_STEP_PCT", size := 1, dfl := 1, lo := 1, hi := 10 },
  { id := 0x300407, ty := 14, acc := 2, eff := 1, retained := true, name := "OP_ELS_BIAS_CEIL", size := 1280, recSize := 2, fixed := true, layout := [(1, 2)] },
  { id := 0x300408, ty := 2, acc := 3, eff := 1, retained := false, name := "OP_ELS_REPLACE_PREPARE", size := 1, hi := 79 },
  { id := 0x300500, ty := 14, acc := 1, eff := 0, retained := false, name := "OP_MONITORS", size := 17664, recSize := 16, fixed := true, layout := [(1, 2), (1, 2), (1, 2), (1, 2), (1, 2), (1, 2), (1, 2), (1, 2)] },
  { id := 0x300501, ty := 14, acc := 1, eff := 0, retained := false, name := "OP_LOSS_LOCATION", size := 5120, recSize := 10, fixed := true },
  { id := 0x300502, ty := 3, acc := 2, eff := 1, retained := true, name := "OP_MOD_LOSS_LIMIT_DB", size := 2, dfl := 600, hi := 65535 },
  { id := 0x300503, ty := 3, acc := 2, eff := 1, retained := true, name := "OP_LINK_LOSS_LIMIT_DB", size := 2, dfl := 400, hi := 65535 },
  { id := 0x300504, ty := 2, acc := 2, eff := 1, retained := true, name := "OP_WING_TEMP_WARN_C", size := 1, dfl := 80, lo := 60, hi := 85 },
  { id := 0x301000, ty := 5, acc := 1, eff := 0, retained := false, name := "OP_LOCK_LOSSES", size := 8, hi := 18446744073709551615 },
  { id := 0x301001, ty := 5, acc := 1, eff := 0, retained := false, name := "OP_RELOCKS", size := 8, hi := 18446744073709551615 },
  { id := 0x301002, ty := 5, acc := 1, eff := 0, retained := false, name := "OP_FAULT_MOVES", size := 8, hi := 18446744073709551615 },
  { id := 0x301003, ty := 5, acc := 1, eff := 0, retained := false, name := "OP_PLANNED_MOVES", size := 8, hi := 18446744073709551615 } ]

/-- Listing, area 3. -/
def catalog3_2 : List Entry := [
  { id := 0x301004, ty := 5, acc := 1, eff := 0, retained := false, name := "OP_RETURNS", size := 8, hi := 18446744073709551615 },
  { id := 0x301005, ty := 5, acc := 1, eff := 0, retained := false, name := "OP_MOVES_ABANDONED", size := 8, hi := 18446744073709551615 },
  { id := 0x301006, ty := 5, acc := 1, eff := 0, retained := false, name := "OP_MOVES_REFUSED", size := 8, hi := 18446744073709551615 },
  { id := 0x301007, ty := 5, acc := 1, eff := 0, retained := false, name := "OP_LANES_DROPPED", size := 8, hi := 18446744073709551615 },
  { id := 0x301008, ty := 5, acc := 1, eff := 0, retained := false, name := "OP_FAULT_AT_RISK", size := 8, hi := 18446744073709551615 },
  { id := 0x301009, ty := 5, acc := 1, eff := 0, retained := false, name := "OP_FAULT_RX_DROPS", size := 8, hi := 18446744073709551615 },
  { id := 0x30100A, ty := 5, acc := 1, eff := 0, retained := false, name := "OP_BOOST_YIELDED", size := 8, hi := 18446744073709551615 },
  { id := 0x30100B, ty := 5, acc := 1, eff := 0, retained := false, name := "OP_DUP_RESCUES", size := 8, hi := 18446744073709551615 },
  { id := 0x30100C, ty := 5, acc := 1, eff := 0, retained := false, name := "OP_CAL_DONE", size := 8, hi := 18446744073709551615 },
  { id := 0x30100D, ty := 5, acc := 1, eff := 0, retained := false, name := "OP_CAL_SKIPPED", size := 8, hi := 18446744073709551615 },
  { id := 0x30100E, ty := 5, acc := 1, eff := 0, retained := false, name := "OP_FF_UNFORECAST", size := 8, hi := 18446744073709551615 },
  { id := 0x30100F, ty := 5, acc := 1, eff := 0, retained := false, name := "OP_ELS_TIMEOUTS", size := 8, hi := 18446744073709551615 } ]

/-- Listing, area 4. -/
def catalog4_0 : List Entry := [
  { id := 0x380000, ty := 14, acc := 1, eff := 0, retained := false, name := "CH_PORT_STATE", size := 2048, recSize := 4, fixed := true },
  { id := 0x380001, ty := 14, acc := 1, eff := 0, retained := false, name := "CH_CELL_STATE", size := 1024, recSize := 64, fixed := true },
  { id := 0x380002, ty := 14, acc := 5, eff := 0, retained := false, name := "CH_DELAY", size := 32768, recSize := 2, fixed := true, layout := [(1, 2)] },
  { id := 0x380003, ty := 14, acc := 5, eff := 0, retained := false, name := "CH_LOSS", size := 32768, recSize := 2, fixed := true, layout := [(1, 2)] },
  { id := 0x380004, ty := 3, acc := 2, eff := 1, retained := true, name := "CH_PATH_LOSS_LIMIT_DB", size := 2, dfl := 950, lo := 100, hi := 2000 },
  { id := 0x380005, ty := 13, acc := 3, eff := 1, retained := false, name := "CH_LOOP_COMMAND", size := 8 },
  { id := 0x381000, ty := 5, acc := 1, eff := 0, retained := false, name := "CH_SETS", size := 8, hi := 18446744073709551615 },
  { id := 0x381001, ty := 5, acc := 1, eff := 0, retained := false, name := "CH_CLEARS", size := 8, hi := 18446744073709551615 },
  { id := 0x381002, ty := 5, acc := 1, eff := 0, retained := false, name := "CH_SET_FAILURES", size := 8, hi := 18446744073709551615 },
  { id := 0x381003, ty := 5, acc := 1, eff := 0, retained := false, name := "CH_CELL_FAULTS", size := 8, hi := 18446744073709551615 },
  { id := 0x381004, ty := 5, acc := 1, eff := 0, retained := false, name := "CH_INGRESS_DROPS", size := 8, hi := 18446744073709551615 } ]

/-- Listing, area 5. -/
def catalog5_0 : List Entry := [
  { id := 0x400000, ty := 13, acc := 3, eff := 1, retained := false, name := "TT_NEXT_IMAGE", size := 268435456 },
  { id := 0x400001, ty := 2, acc := 1, eff := 0, retained := false, name := "TT_NEXT_STATE", size := 1, hi := 255 },
  { id := 0x400002, ty := 4, acc := 1, eff := 0, retained := false, name := "TT_NEXT_EPOCH", size := 4, hi := 4294967295 },
  { id := 0x400003, ty := 5, acc := 1, eff := 0, retained := false, name := "TT_NEXT_ACTIVATION_FRAME", size := 8, hi := 18446744073709551615 },
  { id := 0x400004, ty := 13, acc := 1, eff := 0, retained := false, name := "TT_NEXT_DIGEST", size := 48 },
  { id := 0x400005, ty := 14, acc := 1, eff := 0, retained := false, name := "TT_NEXT_CHECK_LOG", size := 256, recSize := 16 },
  { id := 0x400006, ty := 1, acc := 3, eff := 1, retained := false, name := "TT_NEXT_DISCARD", size := 1, hi := 1 },
  { id := 0x400100, ty := 4, acc := 1, eff := 0, retained := false, name := "TT_ACTIVE_EPOCH", size := 4, hi := 4294967295 },
  { id := 0x400101, ty := 13, acc := 1, eff := 0, retained := false, name := "TT_ACTIVE_DIGEST", size := 48 },
  { id := 0x400102, ty := 5, acc := 1, eff := 0, retained := false, name := "TT_ACTIVE_ACTIVATION_FRAME", size := 8, hi := 18446744073709551615 },
  { id := 0x400103, ty := 3, acc := 1, eff := 0, retained := false, name := "TT_ACTIVE_PERIOD", size := 2, hi := 65535 },
  { id := 0x400104, ty := 3, acc := 1, eff := 0, retained := false, name := "TT_ACTIVE_VARIANT", size := 2, hi := 65535 },
  { id := 0x400200, ty := 3, acc := 2, eff := 2, retained := false, name := "TT_VARIANT_SELECT", size := 2, hi := 65535 },
  { id := 0x400201, ty := 3, acc := 2, eff := 3, retained := false, name := "TT_VARIANT_NEXT", size := 2, hi := 65535 },
  { id := 0x400300, ty := 2, acc := 2, eff := 1, retained := true, name := "TT_LOAD_LEAD_FRAMES", size := 1, dfl := 2, lo := 2, hi := 255 },
  { id := 0x400301, ty := 4, acc := 2, eff := 3, retained := true, name := "TT_UNDERRUN_EVENT_LIMIT", size := 4, hi := 4294967295 },
  { id := 0x400400, ty := 14, acc := 1, eff := 0, retained := false, name := "TT_PARTITIONS_ACTIVE", size := 1048576, recSize := 16 },
  { id := 0x400401, ty := 14, acc := 1, eff := 0, retained := false, name := "TT_LEASES_ACTIVE", size := 2621440, recSize := 40 },
  { id := 0x401000, ty := 5, acc := 1, eff := 0, retained := false, name := "TT_BREACH_COUNT.00", size := 8, hi := 18446744073709551615 },
  { id := 0x401001, ty := 5, acc := 1, eff := 0, retained := false, name := "TT_BREACH_COUNT.01", size := 8, hi := 18446744073709551615 } ]

/-- Listing, area 5. -/
def catalog5_1 : List Entry := [
  { id := 0x401002, ty := 5, acc := 1, eff := 0, retained := false, name := "TT_BREACH_COUNT.02", size := 8, hi := 18446744073709551615 },
  { id := 0x401003, ty := 5, acc := 1, eff := 0, retained := false, name := "TT_BREACH_COUNT.03", size := 8, hi := 18446744073709551615 },
  { id := 0x401004, ty := 5, acc := 1, eff := 0, retained := false, name := "TT_BREACH_COUNT.04", size := 8, hi := 18446744073709551615 },
  { id := 0x401005, ty := 5, acc := 1, eff := 0, retained := false, name := "TT_BREACH_COUNT.05", size := 8, hi := 18446744073709551615 },
  { id := 0x401006, ty := 5, acc := 1, eff := 0, retained := false, name := "TT_BREACH_COUNT.06", size := 8, hi := 18446744073709551615 },
  { id := 0x401007, ty := 5, acc := 1, eff := 0, retained := false, name := "TT_SWAP_ORPHANS", size := 8, hi := 18446744073709551615 },
  { id := 0x401008, ty := 5, acc := 1, eff := 0, retained := false, name := "TT_STAGE_FAULTS", size := 8, hi := 18446744073709551615 } ]

/-- Listing, area 6. -/
def catalog6_0 : List Entry := [
  { id := 0x480000, ty := 11, acc := 1, eff := 0, retained := false, name := "FT_NOW", size := 10, hi := 1208925819614629174706175 },
  { id := 0x480001, ty := 5, acc := 1, eff := 0, retained := false, name := "FT_TICK", size := 8, hi := 18446744073709551615 },
  { id := 0x480002, ty := 2, acc := 1, eff := 0, retained := false, name := "FT_GEN_STATE", size := 1, hi := 255 },
  { id := 0x480003, ty := 5, acc := 4, eff := 1, retained := true, name := "FT_ORIGIN_SECONDS", size := 8, hi := 18446744073709551615 },
  { id := 0x480100, ty := 1, acc := 2, eff := 1, retained := true, name := "FT_ENABLE_A", size := 1, dfl := 1, hi := 1 },
  { id := 0x480101, ty := 2, acc := 2, eff := 1, retained := true, name := "FT_DOMAIN_NUMBER_A", size := 1, hi := 255 },
  { id := 0x480102, ty := 13, acc := 2, eff := 1, retained := true, name := "FT_GM_IDENTITY_A", size := 8 },
  { id := 0x480103, ty := 2, acc := 2, eff := 3, retained := true, name := "FT_DELAY_MECH_A", size := 1, hi := 1 },
  { id := 0x480104, ty := 1, acc := 2, eff := 1, retained := true, name := "FT_PPS_USE_A", size := 1, hi := 1 },
  { id := 0x480105, ty := 8, acc := 2, eff := 1, retained := true, name := "FT_PPS_CABLE_NS_A", size := 4, lo := -2147483648, hi := 2147483647 },
  { id := 0x480106, ty := 10, acc := 2, eff := 1, retained := true, name := "FT_KP_A", size := 4, dfl := 1048576000, hi := 4294967295 },
  { id := 0x480107, ty := 10, acc := 2, eff := 1, retained := true, name := "FT_KI_A", size := 4, dfl := 1006632960, hi := 4294967295 },
  { id := 0x480108, ty := 3, acc := 2, eff := 1, retained := true, name := "FT_LOCK_NS_A", size := 2, dfl := 5, lo := 1, hi := 1000 },
  { id := 0x480109, ty := 2, acc := 2, eff := 1, retained := true, name := "FT_LOCK_COUNT_A", size := 1, dfl := 16, lo := 1, hi := 255 },
  { id := 0x48010A, ty := 3, acc := 2, eff := 1, retained := true, name := "FT_OUTLIER_NS_A", size := 2, dfl := 50, hi := 65535 },
  { id := 0x48010B, ty := 3, acc := 2, eff := 1, retained := true, name := "FT_SYNC_TIMEOUT_TICKS_A", size := 2, dfl := 1024, hi := 65535 },
  { id := 0x48010C, ty := 2, acc := 1, eff := 0, retained := false, name := "FT_SERVO_STATE_A", size := 1, hi := 255 },
  { id := 0x48010D, ty := 9, acc := 1, eff := 0, retained := false, name := "FT_OFFSET_A", size := 8, lo := -9223372036854775808, hi := 9223372036854775807 },
  { id := 0x480200, ty := 1, acc := 2, eff := 1, retained := true, name := "FT_ENABLE_B", size := 1, dfl := 1, hi := 1 },
  { id := 0x480201, ty := 2, acc := 2, eff := 1, retained := true, name := "FT_DOMAIN_NUMBER_B", size := 1, dfl := 1, hi := 255 } ]

/-- Listing, area 6. -/
def catalog6_1 : List Entry := [
  { id := 0x480202, ty := 13, acc := 2, eff := 1, retained := true, name := "FT_GM_IDENTITY_B", size := 8 },
  { id := 0x480203, ty := 2, acc := 2, eff := 3, retained := true, name := "FT_DELAY_MECH_B", size := 1, hi := 1 },
  { id := 0x480204, ty := 1, acc := 2, eff := 1, retained := true, name := "FT_PPS_USE_B", size := 1, hi := 1 },
  { id := 0x480205, ty := 8, acc := 2, eff := 1, retained := true, name := "FT_PPS_CABLE_NS_B", size := 4, lo := -2147483648, hi := 2147483647 },
  { id := 0x480206, ty := 10, acc := 2, eff := 1, retained := true, name := "FT_KP_B", size := 4, dfl := 1048576000, hi := 4294967295 },
  { id := 0x480207, ty := 10, acc := 2, eff := 1, retained := true, name := "FT_KI_B", size := 4, dfl := 1006632960, hi := 4294967295 },
  { id := 0x480208, ty := 3, acc := 2, eff := 1, retained := true, name := "FT_LOCK_NS_B", size := 2, dfl := 5, lo := 1, hi := 1000 },
  { id := 0x480209, ty := 2, acc := 2, eff := 1, retained := true, name := "FT_LOCK_COUNT_B", size := 1, dfl := 16, lo := 1, hi := 255 },
  { id := 0x48020A, ty := 3, acc := 2, eff := 1, retained := true, name := "FT_OUTLIER_NS_B", size := 2, dfl := 50, hi := 65535 },
  { id := 0x48020B, ty := 3, acc := 2, eff := 1, retained := true, name := "FT_SYNC_TIMEOUT_TICKS_B", size := 2, dfl := 1024, hi := 65535 },
  { id := 0x48020C, ty := 2, acc := 1, eff := 0, retained := false, name := "FT_SERVO_STATE_B", size := 1, hi := 255 },
  { id := 0x48020D, ty := 9, acc := 1, eff := 0, retained := false, name := "FT_OFFSET_B", size := 8, lo := -9223372036854775808, hi := 9223372036854775807 },
  { id := 0x480300, ty := 2, acc := 2, eff := 1, retained := true, name := "FT_DOMAIN_SELECT", size := 1, dfl := 2, hi := 3 },
  { id := 0x480301, ty := 2, acc := 1, eff := 0, retained := false, name := "FT_DOMAIN_ACTIVE", size := 1, hi := 255 },
  { id := 0x480302, ty := 3, acc := 2, eff := 1, retained := true, name := "FT_LOSS_HOLD_TICKS", size := 2, dfl := 1024, hi := 65535 },
  { id := 0x480303, ty := 3, acc := 2, eff := 1, retained := true, name := "FT_RETURN_HOLD_FRAMES", size := 2, dfl := 64, hi := 65535 },
  { id := 0x480304, ty := 3, acc := 2, eff := 1, retained := true, name := "FT_SPLIT_LIMIT_NS", size := 2, dfl := 10, hi := 65535 },
  { id := 0x480305, ty := 8, acc := 1, eff := 0, retained := false, name := "FT_SLEW_REMAINING", size := 4, lo := -2147483648, hi := 2147483647 },
  { id := 0x480306, ty := 2, acc := 3, eff := 1, retained := false, name := "FT_SERVO_RESTART", size := 1, hi := 255, mask := 0x3 },
  { id := 0x480307, ty := 4, acc := 2, eff := 1, retained := true, name := "FT_FAULT_HOLD_TICKS", size := 4, dfl := 1048576, hi := 4294967295 } ]

/-- Listing, area 6. -/
def catalog6_2 : List Entry := [
  { id := 0x480400, ty := 3, acc := 2, eff := 1, retained := true, name := "FT_ALIGN_LIMIT_NS", size := 2, dfl := 10, hi := 65535 },
  { id := 0x480401, ty := 6, acc := 2, eff := 1, retained := true, name := "FT_PDELAY_LOG_INTERVAL", size := 1, dfl := -3, lo := -7, hi := 4 },
  { id := 0x480500, ty := 14, acc := 5, eff := 0, retained := false, name := "FT_CORRECTIONS", size := 12288, recSize := 24, fixed := true, layout := [(1, 4), (1, 4), (1, 4), (1, 4), (1, 4), (1, 4)] },
  { id := 0x480501, ty := 14, acc := 2, eff := 1, retained := true, name := "FT_PORT_ASYMMETRY", size := 2048, recSize := 4, fixed := true, layout := [(1, 4)] },
  { id := 0x480600, ty := 2, acc := 2, eff := 2, retained := true, name := "FT_PPS_OUT_MODE", size := 1, hi := 2 },
  { id := 0x481000, ty := 14, acc := 1, eff := 0, retained := false, name := "FT_ACTION_TABLE", size := 49152, recSize := 48, fixed := true, layout := [(36, 1), (1, 4), (1, 4), (1, 4)] },
  { id := 0x481001, ty := 13, acc := 3, eff := 1, retained := false, name := "FT_ACTION_ADD", size := 32 },
  { id := 0x481002, ty := 3, acc := 3, eff := 1, retained := false, name := "FT_ACTION_ARM", size := 2, hi := 65535 },
  { id := 0x481003, ty := 3, acc := 3, eff := 1, retained := false, name := "FT_ACTION_CANCEL", size := 2, hi := 65535 },
  { id := 0x481004, ty := 3, acc := 1, eff := 0, retained := false, name := "FT_ACTION_FREE", size := 2, dfl := 1024, hi := 65535 },
  { id := 0x481005, ty := 3, acc := 5, eff := 0, retained := false, name := "FT_ARM_LEAD_TICKS", size := 2, dfl := 256, hi := 65535 },
  { id := 0x481006, ty := 3, acc := 5, eff := 0, retained := false, name := "FT_CANCEL_GUARD_TICKS", size := 2, dfl := 64, hi := 65535 },
  { id := 0x481007, ty := 14, acc := 2, eff := 1, retained := true, name := "FT_LAUNCH_SOURCES", size := 64, recSize := 4, layout := [(1, 4)] },
  { id := 0x482000, ty := 5, acc := 1, eff := 0, retained := false, name := "FT_MSG_CORRECTED", size := 8, hi := 18446744073709551615 },
  { id := 0x482001, ty := 5, acc := 1, eff := 0, retained := false, name := "FT_MSG_DROPPED", size := 8, hi := 18446744073709551615 },
  { id := 0x482002, ty := 5, acc := 1, eff := 0, retained := false, name := "FT_LAUNCH_REFUSED", size := 8, hi := 18446744073709551615 },
  { id := 0x482003, ty := 5, acc := 1, eff := 0, retained := false, name := "FT_ALIGN_EPISODES", size := 8, hi := 18446744073709551615 },
  { id := 0x482004, ty := 5, acc := 1, eff := 0, retained := false, name := "FT_PPS_REJECTS", size := 8, hi := 18446744073709551615 } ]

/-- Listing, area 7. -/
def catalog7_0 : List Entry := [
  { id := 0x500000, ty := 13, acc := 3, eff := 3, retained := false, name := "TB_LPM_WRITE", size := 2097152 },
  { id := 0x500001, ty := 13, acc := 3, eff := 3, retained := false, name := "TB_EXACT_WRITE", size := 2097152 },
  { id := 0x500002, ty := 13, acc := 3, eff := 3, retained := false, name := "TB_NEXTHOP_WRITE", size := 65520 },
  { id := 0x500003, ty := 13, acc := 3, eff := 3, retained := false, name := "TB_GROUP_WRITE", size := 1179648 },
  { id := 0x500004, ty := 2, acc := 1, eff := 0, retained := false, name := "TB_WRITE_STATE", size := 1, hi := 255 },
  { id := 0x500100, ty := 14, acc := 1, eff := 0, retained := false, name := "TB_LPM_ACTIVE", size := 2097152, recSize := 8 },
  { id := 0x500101, ty := 14, acc := 1, eff := 0, retained := false, name := "TB_EXACT_ACTIVE", size := 2097152, recSize := 8 },
  { id := 0x500102, ty := 14, acc := 1, eff := 0, retained := false, name := "TB_NEXTHOP_ACTIVE", size := 65520, recSize := 16 },
  { id := 0x500103, ty := 14, acc := 1, eff := 0, retained := false, name := "TB_GROUP_ACTIVE", size := 1179648, recSize := 72 },
  { id := 0x500104, ty := 14, acc := 1, eff := 0, retained := false, name := "TB_OCCUPANCY", size := 24, recSize := 4, fixed := true, layout := [(1, 4)] },
  { id := 0x500200, ty := 14, acc := 1, eff := 0, retained := false, name := "TB_SEED_ACTIVE", size := 24, recSize := 8, fixed := true, layout := [(1, 8)] },
  { id := 0x500201, ty := 14, acc := 2, eff := 3, retained := true, name := "TB_SEED_NEXT", size := 24, recSize := 8, fixed := true, layout := [(1, 8)] },
  { id := 0x500202, ty := 2, acc := 1, eff := 0, retained := false, name := "TB_REHASH_PENDING", size := 1, hi := 255 },
  { id := 0x500300, ty := 4, acc := 2, eff := 3, retained := true, name := "TB_AGE_QUANTUM_US", size := 4, dfl := 1000, lo := 16, hi := 1000000 },
  { id := 0x500301, ty := 3, acc := 2, eff := 3, retained := true, name := "TB_AGE_LIMIT", size := 2, dfl := 10000, lo := 1, hi := 32767 },
  { id := 0x500302, ty := 3, acc := 2, eff := 3, retained := true, name := "TB_SCAN_PERIOD", size := 2, dfl := 1024, lo := 16, hi := 16384 },
  { id := 0x500303, ty := 3, acc := 2, eff := 1, retained := true, name := "TB_MOVE_HOLD", size := 2, dfl := 50, hi := 32767 },
  { id := 0x500304, ty := 14, acc := 2, eff := 1, retained := true, name := "TB_LEARN_PORTS", size := 64, recSize := 64, fixed := true },
  { id := 0x500305, ty := 3, acc := 5, eff := 0, retained := false, name := "TB_LEARN_QUEUE_DEPTH", size := 2, dfl := 1024, hi := 65535 },
  { id := 0x500306, ty := 2, acc := 5, eff := 0, retained := false, name := "TB_PROBES_PER_CYCLE", size := 1, dfl := 4, hi := 255 } ]

/-- Listing, area 7. -/
def catalog7_1 : List Entry := [
  { id := 0x500400, ty := 13, acc := 3, eff := 1, retained := false, name := "TB_SUBSTITUTE", size := 128 },
  { id := 0x500401, ty := 4, acc := 1, eff := 0, retained := true, name := "TB_SUBST_COUNTER", size := 4, hi := 4294967295 },
  { id := 0x501000, ty := 5, acc := 1, eff := 0, retained := false, name := "TB_NO_ROUTE", size := 8, hi := 18446744073709551615 },
  { id := 0x501001, ty := 5, acc := 1, eff := 0, retained := false, name := "TB_NO_SAFE_ROUTE", size := 8, hi := 18446744073709551615 },
  { id := 0x501002, ty := 5, acc := 1, eff := 0, retained := false, name := "TB_DISCARD_DROPS", size := 8, hi := 18446744073709551615 },
  { id := 0x501003, ty := 5, acc := 1, eff := 0, retained := false, name := "TB_HAIRPIN_DROPS", size := 8, hi := 18446744073709551615 },
  { id := 0x501004, ty := 5, acc := 1, eff := 0, retained := false, name := "TB_NO_GROUP", size := 8, hi := 18446744073709551615 },
  { id := 0x501005, ty := 5, acc := 1, eff := 0, retained := false, name := "TB_GRACE_FORWARDED", size := 8, hi := 18446744073709551615 },
  { id := 0x501006, ty := 5, acc := 1, eff := 0, retained := false, name := "TB_EPOCH_DROPS", size := 8, hi := 18446744073709551615 },
  { id := 0x501007, ty := 5, acc := 1, eff := 0, retained := false, name := "TB_LEARNS", size := 8, hi := 18446744073709551615 },
  { id := 0x501008, ty := 5, acc := 1, eff := 0, retained := false, name := "TB_LEARN_MOVES", size := 8, hi := 18446744073709551615 },
  { id := 0x501009, ty := 5, acc := 1, eff := 0, retained := false, name := "TB_LEARN_CONFLICTS", size := 8, hi := 18446744073709551615 },
  { id := 0x50100A, ty := 5, acc := 1, eff := 0, retained := false, name := "TB_LEARN_FAILS", size := 8, hi := 18446744073709551615 },
  { id := 0x50100B, ty := 5, acc := 1, eff := 0, retained := false, name := "TB_LEARN_OVERRUNS", size := 8, hi := 18446744073709551615 },
  { id := 0x50100C, ty := 5, acc := 1, eff := 0, retained := false, name := "TB_AGED_OUT", size := 8, hi := 18446744073709551615 },
  { id := 0x50100D, ty := 5, acc := 1, eff := 0, retained := false, name := "TB_REHASH_LOST_LEARNS", size := 8, hi := 18446744073709551615 },
  { id := 0x50100E, ty := 5, acc := 1, eff := 0, retained := false, name := "TB_ECC_CORRECTED", size := 8, hi := 18446744073709551615 },
  { id := 0x50100F, ty := 5, acc := 1, eff := 0, retained := false, name := "TB_ECC_UNCORRECTED", size := 8, hi := 18446744073709551615 },
  { id := 0x501010, ty := 5, acc := 1, eff := 0, retained := false, name := "TB_ECC_DROPS", size := 8, hi := 18446744073709551615 },
  { id := 0x501011, ty := 5, acc := 1, eff := 0, retained := false, name := "TB_SUBST_REFUSED", size := 8, hi := 18446744073709551615 } ]

/-- Listing, area 8. -/
def catalog8_0 : List Entry := [
  { id := 0x580000, ty := 14, acc := 2, eff := 2, retained := true, name := "OT_SHAPER_CONFIG", size := 65536, recSize := 16, fixed := true },
  { id := 0x580001, ty := 14, acc := 1, eff := 0, retained := false, name := "OT_SHAPER_STATE", size := 65536, recSize := 16, fixed := true, layout := [(1, 4), (1, 4), (1, 8)] },
  { id := 0x580002, ty := 14, acc := 2, eff := 2, retained := true, name := "OT_SHAPER_MAP", size := 6144, recSize := 4, fixed := true },
  { id := 0x580100, ty := 14, acc := 2, eff := 2, retained := true, name := "OT_POLICER_CONFIG", size := 65536, recSize := 16, fixed := true },
  { id := 0x580101, ty := 14, acc := 1, eff := 0, retained := false, name := "OT_POLICER_STATE", size := 32768, recSize := 8, fixed := true, layout := [(1, 4), (1, 4)] },
  { id := 0x580102, ty := 14, acc := 2, eff := 2, retained := true, name := "OT_POLICER_MAP", size := 3072, recSize := 2, fixed := true },
  { id := 0x580200, ty := 4, acc := 2, eff := 1, retained := true, name := "OT_HEAD_DROP_US", size := 4, dfl := 2000, hi := 4294967295 },
  { id := 0x580201, ty := 4, acc := 2, eff := 1, retained := true, name := "OT_HEAD_DROP_MARKED_US", size := 4, dfl := 200, hi := 4294967295 },
  { id := 0x580202, ty := 3, acc := 5, eff := 0, retained := false, name := "OT_WHEEL_ENTRIES", size := 2, dfl := 16384, hi := 65535 },
  { id := 0x580203, ty := 3, acc := 5, eff := 0, retained := false, name := "OT_WHEEL_GRANULE_PS", size := 2, dfl := 10240, hi := 65535 },
  { id := 0x581000, ty := 5, acc := 1, eff := 0, retained := false, name := "OT_POLICE_CONFORM", size := 8, hi := 18446744073709551615 },
  { id := 0x581001, ty := 5, acc := 1, eff := 0, retained := false, name := "OT_POLICE_MARKED", size := 8, hi := 18446744073709551615 },
  { id := 0x581002, ty := 5, acc := 1, eff := 0, retained := false, name := "OT_POLICE_DROPPED", size := 8, hi := 18446744073709551615 },
  { id := 0x581003, ty := 5, acc := 1, eff := 0, retained := false, name := "OT_HEAD_DROPS", size := 8, hi := 18446744073709551615 },
  { id := 0x581004, ty := 5, acc := 1, eff := 0, retained := false, name := "OT_HEAD_DROPS_MARKED", size := 8, hi := 18446744073709551615 },
  { id := 0x581005, ty := 5, acc := 1, eff := 0, retained := false, name := "OT_GAP_PASSES", size := 8, hi := 18446744073709551615 },
  { id := 0x581006, ty := 5, acc := 1, eff := 0, retained := false, name := "OT_SHAPER_HOLDS", size := 8, hi := 18446744073709551615 } ]

/-- Listing, area 9. -/
def catalog9_0 : List Entry := [
  { id := 0x600000, ty := 13, acc := 3, eff := 1, retained := false, name := "FM_REGION_DEFINE", size := 32 },
  { id := 0x600001, ty := 14, acc := 1, eff := 0, retained := false, name := "FM_REGION_TABLE", size := 163840, recSize := 40, fixed := true },
  { id := 0x600002, ty := 14, acc := 1, eff := 0, retained := false, name := "FM_STACK_FREE", size := 16, recSize := 4, fixed := true, layout := [(1, 4)] },
  { id := 0x600003, ty := 3, acc := 5, eff := 0, retained := false, name := "FM_MAX_REGIONS", size := 2, dfl := 4096, hi := 65535 },
  { id := 0x600004, ty := 4, acc := 5, eff := 0, retained := false, name := "FM_MAX_REGION_BYTES_PER_STACK", size := 4, dfl := 1073741824, hi := 4294967295 },
  { id := 0x600100, ty := 3, acc := 5, eff := 0, retained := false, name := "FM_ORDER_WINDOW", size := 2, dfl := 256, hi := 65535 },
  { id := 0x600101, ty := 2, acc := 5, eff := 0, retained := false, name := "FM_REPLAY_DEPTH", size := 1, dfl := 64, hi := 255 },
  { id := 0x600102, ty := 3, acc := 2, eff := 3, retained := true, name := "FM_GAP_HOLD_US", size := 2, dfl := 20, lo := 1, hi := 10000 },
  { id := 0x600103, ty := 3, acc := 2, eff := 1, retained := true, name := "FM_SOURCE_IDLE_MS", size := 2, dfl := 2000, lo := 100, hi := 60000 },
  { id := 0x600104, ty := 3, acc := 5, eff := 0, retained := false, name := "FM_HELD_FLAGS_MAX", size := 2, dfl := 1024, hi := 65535 },
  { id := 0x600200, ty := 14, acc := 1, eff := 0, retained := false, name := "FM_SOURCES", size := 131072, recSize := 32, layout := [(1, 4), (1, 2), (1, 2), (1, 2), (1, 1), (1, 1), (1, 2), (6, 1), (1, 8), (4, 1)] },
  { id := 0x600300, ty := 4, acc := 2, eff := 3, retained := true, name := "FM_MIRROR_PARTNER", size := 4, hi := 4294967295, mask := 0xFFFFFF },
  { id := 0x600301, ty := 13, acc := 3, eff := 3, retained := true, name := "FM_MIRROR_OUT_KEY", size := 8 },
  { id := 0x600302, ty := 3, acc := 2, eff := 3, retained := true, name := "FM_MIRROR_OUT_GEN", size := 2, dfl := 1, lo := 1, hi := 4095 },
  { id := 0x600303, ty := 4, acc := 2, eff := 3, retained := true, name := "FM_MIRROR_FROM", size := 4, hi := 4294967295, mask := 0xFFFFFF },
  { id := 0x600304, ty := 13, acc := 3, eff := 3, retained := true, name := "FM_MIRROR_IN_KEY", size := 8 },
  { id := 0x600305, ty := 3, acc := 2, eff := 3, retained := true, name := "FM_MIRROR_IN_GEN", size := 2, dfl := 1, lo := 1, hi := 4095 },
  { id := 0x600306, ty := 2, acc := 1, eff := 0, retained := false, name := "FM_MIRROR_STATE", size := 1, hi := 255 },
  { id := 0x600307, ty := 4, acc := 1, eff := 0, retained := false, name := "FM_MIRROR_LAG_NS", size := 4, hi := 4294967295 },
  { id := 0x600308, ty := 4, acc := 2, eff := 1, retained := true, name := "FM_MIRROR_LAG_LIMIT_US", size := 4, dfl := 100, lo := 1, hi := 1000000 } ]

/-- Listing, area 9. -/
def catalog9_1 : List Entry := [
  { id := 0x600309, ty := 3, acc := 2, eff := 1, retained := true, name := "FM_MIRROR_ACK_US", size := 2, dfl := 50, lo := 5, hi := 10000 },
  { id := 0x60030A, ty := 5, acc := 1, eff := 0, retained := false, name := "FM_MIRROR_IN_STEP", size := 8, hi := 18446744073709551615 },
  { id := 0x600400, ty := 5, acc := 2, eff := 2, retained := false, name := "FM_CHECKPOINT_STEP", size := 8, hi := 18446744073709551615 },
  { id := 0x600401, ty := 14, acc := 1, eff := 0, retained := false, name := "FM_CHECKPOINT_STATE", size := 64, recSize := 32, fixed := true, layout := [(1, 8), (1, 8), (8, 1), (1, 8)] },
  { id := 0x600402, ty := 5, acc := 3, eff := 2, retained := false, name := "FM_CHECKPOINT_RESTORE", size := 8, hi := 18446744073709551615 },
  { id := 0x600500, ty := 14, acc := 2, eff := 1, retained := false, name := "FM_MCAST_LOCAL", size := 4096, recSize := 4, layout := [(1, 4)] },
  { id := 0x601000, ty := 5, acc := 1, eff := 0, retained := false, name := "FM_REQUESTS", size := 8, hi := 18446744073709551615 },
  { id := 0x601001, ty := 5, acc := 1, eff := 0, retained := false, name := "FM_APPLIED", size := 8, hi := 18446744073709551615 },
  { id := 0x601002, ty := 5, acc := 1, eff := 0, retained := false, name := "FM_REPLAYS", size := 8, hi := 18446744073709551615 },
  { id := 0x601003, ty := 5, acc := 1, eff := 0, retained := false, name := "FM_SEQ_DECLARED_LOST", size := 8, hi := 18446744073709551615 },
  { id := 0x601004, ty := 5, acc := 1, eff := 0, retained := false, name := "FM_FLAG_HOLDS", size := 8, hi := 18446744073709551615 },
  { id := 0x601005, ty := 5, acc := 1, eff := 0, retained := false, name := "FM_RSP_UNBOUND", size := 8, hi := 18446744073709551615 },
  { id := 0x601006, ty := 5, acc := 1, eff := 0, retained := false, name := "FM_STRAY_RESPONSES", size := 8, hi := 18446744073709551615 },
  { id := 0x601007, ty := 5, acc := 1, eff := 0, retained := false, name := "FM_MEDIA_ERRORS", size := 8, hi := 18446744073709551615 },
  { id := 0x601008, ty := 5, acc := 1, eff := 0, retained := false, name := "FM_MIRROR_WRITES", size := 8, hi := 18446744073709551615 },
  { id := 0x601009, ty := 5, acc := 1, eff := 0, retained := false, name := "FM_MIRROR_RESENDS", size := 8, hi := 18446744073709551615 },
  { id := 0x60100A, ty := 5, acc := 1, eff := 0, retained := false, name := "FM_MCAST_LOCAL_REFUSED", size := 8, hi := 18446744073709551615 },
  { id := 0x601100, ty := 14, acc := 1, eff := 0, retained := false, name := "FM_NACK_COUNTS", size := 128, recSize := 8, fixed := true, layout := [(1, 8)] } ]

/-- Listing, area 10. -/
def catalog10_0 : List Entry := [
  { id := 0x700000, ty := 3, acc := 5, eff := 0, retained := false, name := "CR_CONVERT_BYTES_PER_CYCLE", size := 2, dfl := 384, hi := 65535 },
  { id := 0x700001, ty := 3, acc := 5, eff := 0, retained := false, name := "CR_COMBINE_LANES", size := 2, dfl := 768, hi := 65535 },
  { id := 0x700002, ty := 4, acc := 5, eff := 0, retained := false, name := "CR_COMBINE_PER_TICK", size := 4, dfl := 1258291, hi := 4294967295 },
  { id := 0x700003, ty := 2, acc := 5, eff := 0, retained := false, name := "CR_MAX_INPUTS_PER_BENCH", size := 1, dfl := 32, hi := 255 },
  { id := 0x700004, ty := 3, acc := 5, eff := 0, retained := false, name := "CR_XBAR_UNITS_PER_TICK", size := 2, dfl := 750, hi := 65535 },
  { id := 0x700005, ty := 4, acc := 2, eff := 3, retained := true, name := "CR_ABANDON_EVENT_LIMIT", size := 4, hi := 4294967295 },
  { id := 0x700100, ty := 14, acc := 1, eff := 0, retained := false, name := "CR_RECIPE_STATE", size := 262144, recSize := 16, fixed := true },
  { id := 0x700101, ty := 14, acc := 1, eff := 0, retained := false, name := "CR_RECIPE_STATS", size := 524288, recSize := 32, fixed := true, layout := [(1, 8), (1, 8), (1, 4), (1, 4), (1, 4), (1, 4)] },
  { id := 0x700200, ty := 14, acc := 1, eff := 0, retained := false, name := "CR_MISSING_LOG", size := 262144, recSize := 64 },
  { id := 0x700201, ty := 5, acc := 1, eff := 0, retained := false, name := "CR_MISSING_LOG_WRITTEN", size := 8, hi := 18446744073709551615 },
  { id := 0x700202, ty := 1, acc := 3, eff := 1, retained := false, name := "CR_MISSING_LOG_CLEAR", size := 1, hi := 1 },
  { id := 0x701000, ty := 5, acc := 1, eff := 0, retained := false, name := "CR_CHUNKS_DONE", size := 8, hi := 18446744073709551615 },
  { id := 0x701001, ty := 5, acc := 1, eff := 0, retained := false, name := "CR_CHUNKS_ABANDONED", size := 8, hi := 18446744073709551615 },
  { id := 0x701002, ty := 5, acc := 1, eff := 0, retained := false, name := "CR_LATE", size := 8, hi := 18446744073709551615 },
  { id := 0x701003, ty := 5, acc := 1, eff := 0, retained := false, name := "CR_WINDOW_DROPS", size := 8, hi := 18446744073709551615 },
  { id := 0x701004, ty := 5, acc := 1, eff := 0, retained := false, name := "CR_BUFFER_DROPS", size := 8, hi := 18446744073709551615 },
  { id := 0x701005, ty := 5, acc := 1, eff := 0, retained := false, name := "CR_LENGTH_DROPS", size := 8, hi := 18446744073709551615 },
  { id := 0x701006, ty := 5, acc := 1, eff := 0, retained := false, name := "CR_RESULT_DEADLINE_DROPS", size := 8, hi := 18446744073709551615 },
  { id := 0x701007, ty := 5, acc := 1, eff := 0, retained := false, name := "CR_RESULT_EMPTY", size := 8, hi := 18446744073709551615 },
  { id := 0x701008, ty := 5, acc := 1, eff := 0, retained := false, name := "CR_STORE_REFUSED", size := 8, hi := 18446744073709551615 } ]

/-- Listing, area 10. -/
def catalog10_1 : List Entry := [
  { id := 0x701009, ty := 5, acc := 1, eff := 0, retained := false, name := "CR_SATURATED_ELEMENTS", size := 8, hi := 18446744073709551615 },
  { id := 0x70100A, ty := 5, acc := 1, eff := 0, retained := false, name := "CR_NAN_ELEMENTS", size := 8, hi := 18446744073709551615 },
  { id := 0x70100B, ty := 5, acc := 1, eff := 0, retained := false, name := "CR_LOG_OVERWRITES", size := 8, hi := 18446744073709551615 } ]

/-- Listing, area 11. Bits of `HL_FAULT_CLEAR` and `HL_ATTN_CLEAR` whose cause bits are reserved are accepted and clear nothing. DESIGN
CHOICE, log entry 38. -/
def catalog11_0 : List Entry := [
  { id := 0x800000, ty := 14, acc := 2, eff := 1, retained := true, name := "HL_RULES", size := 8192, recSize := 32, fixed := true },
  { id := 0x800001, ty := 14, acc := 1, eff := 0, retained := false, name := "HL_RULE_STATE", size := 4096, recSize := 16, fixed := true, layout := [(1, 4), (4, 1), (1, 8)] },
  { id := 0x800100, ty := 14, acc := 2, eff := 1, retained := true, name := "HL_DI_CONFIG", size := 56, recSize := 8, fixed := true, layout := [(1, 2), (2, 1), (1, 2), (1, 2)] },
  { id := 0x800101, ty := 14, acc := 1, eff := 0, retained := false, name := "HL_DI_STATE", size := 14, recSize := 2, fixed := true },
  { id := 0x800102, ty := 2, acc := 3, eff := 1, retained := false, name := "HL_DI_UNMASK", size := 1, hi := 255, mask := 0x7F },
  { id := 0x800103, ty := 2, acc := 2, eff := 1, retained := true, name := "HL_GPO", size := 1, dfl := 3, hi := 3, mask := 0x3 },
  { id := 0x800104, ty := 4, acc := 1, eff := 0, retained := false, name := "HL_FAULT_CAUSE", size := 4, hi := 4294967295 },
  { id := 0x800105, ty := 4, acc := 3, eff := 1, retained := false, name := "HL_FAULT_CLEAR", size := 4, hi := 4294967295 },
  { id := 0x800106, ty := 4, acc := 1, eff := 0, retained := false, name := "HL_ATTN_CAUSE", size := 4, hi := 4294967295 },
  { id := 0x800107, ty := 4, acc := 3, eff := 1, retained := false, name := "HL_ATTN_CLEAR", size := 4, hi := 4294967295 },
  { id := 0x800200, ty := 3, acc := 2, eff := 3, retained := true, name := "HL_HB_INTERVAL_TICKS", size := 2, dfl := 16, lo := 4, hi := 1024 },
  { id := 0x800201, ty := 2, acc := 2, eff := 1, retained := true, name := "HL_HB_MISS_LIMIT", size := 1, dfl := 4, lo := 2, hi := 64 },
  { id := 0x800202, ty := 2, acc := 2, eff := 1, retained := true, name := "HL_HB_CLEAR_COUNT", size := 1, dfl := 4, lo := 1, hi := 64 },
  { id := 0x800203, ty := 14, acc := 1, eff := 0, retained := false, name := "HL_NEIGHBOURS", size := 8192, recSize := 16, fixed := true, layout := [(1, 4), (4, 1), (1, 4), (1, 4)] },
  { id := 0x800204, ty := 4, acc := 2, eff := 1, retained := true, name := "HL_EVIDENCE_PKTS", size := 4, dfl := 1024, hi := 4294967295 },
  { id := 0x800205, ty := 3, acc := 2, eff := 1, retained := true, name := "HL_MISSING_LIMIT", size := 2, dfl := 8, hi := 65535 },
  { id := 0x800300, ty := 13, acc := 3, eff := 1, retained := false, name := "HL_CERT_SUBMIT", size := 1704 },
  { id := 0x800301, ty := 4, acc := 1, eff := 0, retained := true, name := "HL_CERT_COUNTER", size := 4, hi := 4294967295 },
  { id := 0x800302, ty := 14, acc := 1, eff := 0, retained := true, name := "HL_FENCES", size := 16384, recSize := 16, layout := [(1, 4), (1, 4), (1, 8)] },
  { id := 0x800400, ty := 3, acc := 2, eff := 1, retained := true, name := "HL_WDT_US", size := 2, dfl := 1000, lo := 100, hi := 10000 } ]

/-- Listing, area 11. -/
def catalog11_1 : List Entry := [
  { id := 0x800401, ty := 2, acc := 2, eff := 1, retained := true, name := "HL_WDT_ESCALATE_COUNT", size := 1, dfl := 3, lo := 1, hi := 16 },
  { id := 0x800402, ty := 2, acc := 2, eff := 1, retained := true, name := "HL_WDT_ESCALATE_ACTION", size := 1, hi := 1 },
  { id := 0x800403, ty := 14, acc := 1, eff := 0, retained := false, name := "HL_CONTROLLERS", size := 64, recSize := 16, fixed := true, layout := [(4, 1), (1, 4), (1, 8)] },
  { id := 0x801000, ty := 5, acc := 1, eff := 0, retained := false, name := "HL_RULE_FIRES", size := 8, hi := 18446744073709551615 },
  { id := 0x801001, ty := 5, acc := 1, eff := 0, retained := false, name := "HL_DI_GLITCHES", size := 8, hi := 18446744073709551615 },
  { id := 0x801002, ty := 5, acc := 1, eff := 0, retained := false, name := "HL_DI_CHATTER", size := 8, hi := 18446744073709551615 },
  { id := 0x801003, ty := 5, acc := 1, eff := 0, retained := false, name := "HL_HB_RECEIVED", size := 8, hi := 18446744073709551615 },
  { id := 0x801004, ty := 5, acc := 1, eff := 0, retained := false, name := "HL_HB_STALE", size := 8, hi := 18446744073709551615 },
  { id := 0x801005, ty := 5, acc := 1, eff := 0, retained := false, name := "HL_SUSPECTS", size := 8, hi := 18446744073709551615 },
  { id := 0x801006, ty := 5, acc := 1, eff := 0, retained := false, name := "HL_EVIDENCE_CONFLICTS", size := 8, hi := 18446744073709551615 },
  { id := 0x801007, ty := 5, acc := 1, eff := 0, retained := false, name := "HL_FENCE_DROPS", size := 8, hi := 18446744073709551615 },
  { id := 0x801008, ty := 5, acc := 1, eff := 0, retained := false, name := "HL_CERT_REFUSED", size := 8, hi := 18446744073709551615 },
  { id := 0x801009, ty := 5, acc := 1, eff := 0, retained := false, name := "HL_WDT_RESTARTS", size := 8, hi := 18446744073709551615 },
  { id := 0x80100A, ty := 5, acc := 1, eff := 0, retained := false, name := "HL_MOTH_RESTARTS", size := 8, hi := 18446744073709551615 } ]

/-- Listing, area 12. -/
def catalog12_0 : List Entry := [
  { id := 0x900000, ty := 4, acc := 2, eff := 1, retained := true, name := "RP_POSITION_FA", size := 4, hi := 4294967295, mask := 0xFFFFFF },
  { id := 0x900001, ty := 2, acc := 1, eff := 0, retained := false, name := "RP_SYNC_STATE", size := 1, hi := 255 },
  { id := 0x900002, ty := 4, acc := 1, eff := 0, retained := false, name := "RP_HELD_EPOCH", size := 4, hi := 4294967295 },
  { id := 0x900003, ty := 14, acc := 1, eff := 0, retained := false, name := "RP_FABRIC_EPOCH", size := 8, recSize := 8, fixed := true, layout := [(1, 4), (1, 2), (1, 2)] },
  { id := 0x900004, ty := 5, acc := 1, eff := 0, retained := false, name := "RP_JOIN_FRAME", size := 8, hi := 18446744073709551615 },
  { id := 0x900100, ty := 13, acc := 3, eff := 1, retained := false, name := "RP_WITHDRAW", size := 16 },
  { id := 0x900101, ty := 3, acc := 2, eff := 1, retained := true, name := "RP_LOSS_SET", size := 2, hi := 65535 },
  { id := 0x900102, ty := 14, acc := 1, eff := 0, retained := false, name := "RP_WITHDRAW_STATE", size := 16, recSize := 16, fixed := true, layout := [(1, 8), (1, 2), (6, 1)] },
  { id := 0x900103, ty := 14, acc := 1, eff := 0, retained := false, name := "RP_PARTNER_WITHDRAWS", size := 16384, recSize := 32, fixed := true },
  { id := 0x900200, ty := 13, acc := 4, eff := 1, retained := true, name := "RP_RESET", size := 16 },
  { id := 0x900201, ty := 2, acc := 3, eff := 1, retained := false, name := "RP_BENCH_RESET", size := 1, hi := 135 },
  { id := 0x900202, ty := 14, acc := 1, eff := 0, retained := false, name := "RP_LAST_RESET", size := 128, recSize := 16, fixed := true, layout := [(1, 8), (4, 1), (1, 4)] },
  { id := 0x900300, ty := 14, acc := 1, eff := 0, retained := false, name := "RP_BENCH_STATE", size := 1088, recSize := 8, fixed := true, layout := [(4, 1), (1, 4)] },
  { id := 0x900400, ty := 13, acc := 1, eff := 0, retained := false, name := "RP_POSITION_RECORD", size := 536870912 },
  { id := 0x900401, ty := 13, acc := 3, eff := 1, retained := false, name := "RP_POSITION_IMPORT", size := 536870912 },
  { id := 0x900402, ty := 2, acc := 1, eff := 0, retained := false, name := "RP_IMPORT_STATE", size := 1, hi := 255 },
  { id := 0x900500, ty := 13, acc := 3, eff := 1, retained := false, name := "RP_STREAM_START", size := 24 },
  { id := 0x900501, ty := 13, acc := 3, eff := 1, retained := false, name := "RP_STREAM_ACCEPT", size := 24 },
  { id := 0x900502, ty := 1, acc := 3, eff := 1, retained := false, name := "RP_STREAM_ABORT", size := 1, hi := 1 },
  { id := 0x900503, ty := 14, acc := 1, eff := 0, retained := false, name := "RP_STREAM_STATE", size := 32, recSize := 32, fixed := true, layout := [(4, 1), (1, 4), (1, 8), (1, 2), (1, 2), (4, 1), (1, 8)] } ]

/-- Listing, area 12. -/
def catalog12_1 : List Entry := [
  { id := 0x900504, ty := 3, acc := 2, eff := 1, retained := true, name := "RP_STREAM_TIMEOUT_MS", size := 2, dfl := 50, lo := 5, hi := 10000 },
  { id := 0x900505, ty := 3, acc := 2, eff := 1, retained := true, name := "RP_STREAM_RATE_GBPS", size := 2, dfl := 200, lo := 10, hi := 800 },
  { id := 0x901000, ty := 5, acc := 1, eff := 0, retained := false, name := "RP_STALE_DROPS", size := 8, hi := 18446744073709551615 },
  { id := 0x901001, ty := 5, acc := 1, eff := 0, retained := false, name := "RP_WITHDRAW_DROPS", size := 8, hi := 18446744073709551615 },
  { id := 0x901002, ty := 5, acc := 1, eff := 0, retained := false, name := "RP_ROTATIONS", size := 8, hi := 18446744073709551615 },
  { id := 0x901003, ty := 5, acc := 1, eff := 0, retained := false, name := "RP_ROTATIONS_REFUSED", size := 8, hi := 18446744073709551615 },
  { id := 0x901004, ty := 5, acc := 1, eff := 0, retained := false, name := "RP_BENCHES_RETIRED", size := 8, hi := 18446744073709551615 },
  { id := 0x901005, ty := 5, acc := 1, eff := 0, retained := false, name := "RP_WARM_RESETS", size := 8, hi := 18446744073709551615 },
  { id := 0x901006, ty := 5, acc := 1, eff := 0, retained := false, name := "RP_COLD_RESETS", size := 8, hi := 18446744073709551615 },
  { id := 0x901007, ty := 5, acc := 1, eff := 0, retained := false, name := "RP_STREAM_BYTES", size := 8, hi := 18446744073709551615 },
  { id := 0x901008, ty := 5, acc := 1, eff := 0, retained := false, name := "RP_REGIONS_LOST", size := 8, hi := 18446744073709551615 } ]

/-- Listing, area 13. -/
def catalog13_0 : List Entry := [
  { id := 0xA00000, ty := 13, acc := 5, eff := 0, retained := false, name := "SE_VENDOR_KEY_HASH", size := 48 },
  { id := 0xA00001, ty := 2, acc := 1, eff := 0, retained := false, name := "SE_ROLLBACK_FUSED", size := 1, hi := 255 },
  { id := 0xA00002, ty := 14, acc := 1, eff := 0, retained := false, name := "SE_FW_STATE", size := 112, recSize := 56, fixed := true, layout := [(4, 1), (1, 4), (48, 1)] },
  { id := 0xA00003, ty := 2, acc := 1, eff := 0, retained := false, name := "SE_FW_RUNNING", size := 1, hi := 255 },
  { id := 0xA00004, ty := 13, acc := 3, eff := 1, retained := false, name := "SE_FW_IMAGE", size := 67108864 },
  { id := 0xA00005, ty := 2, acc := 4, eff := 1, retained := true, name := "SE_FW_ACTIVATE", size := 1, hi := 255 },
  { id := 0xA00006, ty := 2, acc := 4, eff := 1, retained := true, name := "SE_ROLLBACK_COMMIT", size := 1, hi := 255 },
  { id := 0xA00100, ty := 14, acc := 1, eff := 0, retained := false, name := "SE_OWNER_KEYS", size := 448, recSize := 112, fixed := true },
  { id := 0xA00101, ty := 13, acc := 4, eff := 1, retained := true, name := "SE_OWNER_ENROL", size := 112 },
  { id := 0xA00102, ty := 2, acc := 4, eff := 1, retained := true, name := "SE_OWNER_REVOKE", size := 1, hi := 255 },
  { id := 0xA00103, ty := 5, acc := 1, eff := 0, retained := false, name := "SE_SIGNED_COUNTER", size := 8, hi := 18446744073709551615 },
  { id := 0xA00200, ty := 14, acc := 4, eff := 1, retained := true, name := "SE_MANAGER_KEYS", size := 1792, recSize := 112, fixed := true },
  { id := 0xA00201, ty := 2, acc := 4, eff := 1, retained := true, name := "SE_QUORUM", size := 1, dfl := 1, hi := 255 },
  { id := 0xA00300, ty := 13, acc := 5, eff := 0, retained := false, name := "SE_ID_CERT", size := 2048 },
  { id := 0xA00301, ty := 13, acc := 5, eff := 0, retained := false, name := "SE_ID_CHAIN", size := 8192 },
  { id := 0xA00302, ty := 13, acc := 5, eff := 0, retained := false, name := "SE_ID_PUBLIC", size := 97 },
  { id := 0xA00400, ty := 13, acc := 3, eff := 1, retained := false, name := "SE_ATTEST_REQUEST", size := 32 },
  { id := 0xA00401, ty := 13, acc := 1, eff := 0, retained := false, name := "SE_ATTEST_REPORT", size := 448 },
  { id := 0xA01000, ty := 5, acc := 1, eff := 0, retained := false, name := "SE_SIG_REFUSED", size := 8, hi := 18446744073709551615 },
  { id := 0xA01001, ty := 5, acc := 1, eff := 0, retained := false, name := "SE_CERT_SIG_FAILED", size := 8, hi := 18446744073709551615 } ]

/-- Listing, area 13. -/
def catalog13_1 : List Entry := [
  { id := 0xA01002, ty := 5, acc := 1, eff := 0, retained := false, name := "SE_FW_REFUSED", size := 8, hi := 18446744073709551615 },
  { id := 0xA01003, ty := 5, acc := 1, eff := 0, retained := false, name := "SE_BOOT_FALLBACKS", size := 8, hi := 18446744073709551615 },
  { id := 0xA01004, ty := 5, acc := 1, eff := 0, retained := false, name := "SE_ATTEST_REPORTS", size := 8, hi := 18446744073709551615 } ]

/-- Listing, area 14. -/
def catalog14_0 : List Entry := [
  { id := 0xB00000, ty := 14, acc := 5, eff := 0, retained := false, name := "TM_EVENT_NAMES", size := 32768, recSize := 32, fixed := true, layout := [(1, 2), (30, 1)] },
  { id := 0xB00001, ty := 14, acc := 1, eff := 0, retained := false, name := "TM_FIXED_LIVE", size := 393216, recSize := 12, fixed := true, layout := [(1, 12)] },
  { id := 0xB00002, ty := 14, acc := 2, eff := 2, retained := true, name := "TM_PROG_CONFIG", size := 16384, recSize := 8, fixed := true },
  { id := 0xB00003, ty := 14, acc := 1, eff := 0, retained := false, name := "TM_PROG_LIVE", size := 24576, recSize := 12, fixed := true, layout := [(1, 12)] },
  { id := 0xB00004, ty := 2, acc := 3, eff := 2, retained := false, name := "TM_CLEAR", size := 1, hi := 255, mask := 0x3 },
  { id := 0xB00100, ty := 3, acc := 2, eff := 3, retained := true, name := "TM_DUMP_FRAMES", size := 2, dfl := 1, hi := 1024 },
  { id := 0xB00101, ty := 2, acc := 2, eff := 3, retained := true, name := "TM_DUMP_DEST", size := 1, hi := 2 },
  { id := 0xB00102, ty := 3, acc := 2, eff := 3, retained := true, name := "TM_DUMP_RING_MIB", size := 2, dfl := 64, lo := 1, hi := 1024 },
  { id := 0xB00103, ty := 14, acc := 2, eff := 3, retained := false, name := "TM_DUMP_HOST", size := 16, recSize := 16, fixed := true, layout := [(1, 8), (1, 4), (4, 1)] },
  { id := 0xB00104, ty := 5, acc := 2, eff := 1, retained := false, name := "TM_DUMP_HOST_CONSUMED", size := 8, hi := 18446744073709551615 },
  { id := 0xB00105, ty := 5, acc := 1, eff := 0, retained := false, name := "TM_DUMP_WRITTEN", size := 8, hi := 18446744073709551615 },
  { id := 0xB00106, ty := 14, acc := 1, eff := 0, retained := false, name := "TM_DUMP_RING", size := 1073481472, recSize := 434432 },
  { id := 0xB00107, ty := 14, acc := 1, eff := 0, retained := false, name := "TM_LATCHED", size := 434432, recSize := 434432, fixed := true },
  { id := 0xB00108, ty := 1, acc := 3, eff := 2, retained := false, name := "TM_LATCH_NOW", size := 1, hi := 1 },
  { id := 0xB00109, ty := 14, acc := 5, eff := 0, retained := false, name := "TM_DEVICE_COUNTER_LIST", size := 4096, recSize := 4, layout := [(1, 4)] },
  { id := 0xB00200, ty := 14, acc := 2, eff := 2, retained := true, name := "TM_SAMPLER_CONFIG", size := 2048, recSize := 32, fixed := true },
  { id := 0xB00201, ty := 3, acc := 2, eff := 3, retained := true, name := "TM_CAPTURE_RING_MIB", size := 2, dfl := 256, lo := 16, hi := 2048 },
  { id := 0xB00202, ty := 5, acc := 1, eff := 0, retained := false, name := "TM_CAPTURE_WRITTEN", size := 8, hi := 18446744073709551615 },
  { id := 0xB00203, ty := 14, acc := 1, eff := 0, retained := false, name := "TM_CAPTURE_RING", size := 2147483648, recSize := 128 },
  { id := 0xB00204, ty := 2, acc := 2, eff := 1, retained := true, name := "TM_CAPTURE_MODE", size := 1, hi := 1 } ]

/-- Listing, area 14. -/
def catalog14_1 : List Entry := [
  { id := 0xB00205, ty := 1, acc := 3, eff := 1, retained := false, name := "TM_CAPTURE_RESTART", size := 1, hi := 1 },
  { id := 0xB00300, ty := 14, acc := 1, eff := 0, retained := false, name := "TM_EVENT_RING", size := 2097152, recSize := 32, fixed := true },
  { id := 0xB00301, ty := 4, acc := 1, eff := 0, retained := false, name := "TM_EVENT_LAST", size := 4, hi := 4294967295 },
  { id := 0xB01000, ty := 5, acc := 1, eff := 0, retained := false, name := "TM_DUMPS", size := 8, hi := 18446744073709551615 },
  { id := 0xB01001, ty := 5, acc := 1, eff := 0, retained := false, name := "TM_DUMPS_SKIPPED", size := 8, hi := 18446744073709551615 },
  { id := 0xB01002, ty := 5, acc := 1, eff := 0, retained := false, name := "TM_LATCH_SKIPPED", size := 8, hi := 18446744073709551615 },
  { id := 0xB01003, ty := 5, acc := 1, eff := 0, retained := false, name := "TM_CAPTURES", size := 8, hi := 18446744073709551615 },
  { id := 0xB01004, ty := 5, acc := 1, eff := 0, retained := false, name := "TM_CAPTURES_LOST", size := 8, hi := 18446744073709551615 },
  { id := 0xB01005, ty := 5, acc := 1, eff := 0, retained := false, name := "TM_PROG_OVERFLOWS", size := 8, hi := 18446744073709551615 } ]

/-- Listing, area 15. -/
def catalog15_0 : List Entry := [
  { id := 0xC00000, ty := 2, acc := 1, eff := 0, retained := false, name := "BI_STATE", size := 1, hi := 255 },
  { id := 0xC00001, ty := 2, acc := 1, eff := 0, retained := false, name := "BI_PHASE", size := 1, hi := 255 },
  { id := 0xC00002, ty := 4, acc := 1, eff := 0, retained := false, name := "BI_DURATION_MS", size := 4, hi := 4294967295 },
  { id := 0xC00003, ty := 14, acc := 1, eff := 0, retained := false, name := "BI_SUMMARY", size := 168, recSize := 12, fixed := true, layout := [(1, 4), (1, 4), (1, 4)] },
  { id := 0xC00004, ty := 14, acc := 1, eff := 0, retained := false, name := "BI_RESULTS", size := 65536, recSize := 16, layout := [(4, 1), (1, 4), (1, 4), (1, 4)] },
  { id := 0xC00005, ty := 3, acc := 2, eff := 1, retained := true, name := "BI_POWER_LIMIT_W", size := 2, dfl := 2600, lo := 1500, hi := 2600 },
  { id := 0xC00006, ty := 3, acc := 1, eff := 0, retained := false, name := "BI_POWER_PEAK_W", size := 2, hi := 65535 },
  { id := 0xC00007, ty := 14, acc := 5, eff := 0, retained := false, name := "BI_MATRIX_PATTERNS", size := 256, recSize := 32, fixed := true },
  { id := 0xC00008, ty := 2, acc := 2, eff := 1, retained := true, name := "BI_ELS_START_PCT", size := 1, dfl := 120, lo := 20, hi := 180 },
  { id := 0xC00100, ty := 1, acc := 2, eff := 1, retained := true, name := "BI_RT_ENABLE", size := 1, dfl := 1, hi := 1 },
  { id := 0xC00101, ty := 3, acc := 2, eff := 3, retained := true, name := "BI_STRATA_INTERVAL_FRAMES", size := 2, dfl := 64, lo := 8, hi := 65535 },
  { id := 0xC00102, ty := 3, acc := 3, eff := 1, retained := false, name := "BI_STRATA_TEST_NOW", size := 2, hi := 65535 },
  { id := 0xC00103, ty := 14, acc := 1, eff := 0, retained := false, name := "BI_STRATA_BANKS", size := 1088, recSize := 2, fixed := true },
  { id := 0xC01000, ty := 5, acc := 1, eff := 0, retained := false, name := "BI_RT_BANK_TESTS", size := 8, hi := 18446744073709551615 },
  { id := 0xC01001, ty := 5, acc := 1, eff := 0, retained := false, name := "BI_RT_BANK_FAILS", size := 8, hi := 18446744073709551615 },
  { id := 0xC01002, ty := 5, acc := 1, eff := 0, retained := false, name := "BI_RT_BENCH_TESTS", size := 8, hi := 18446744073709551615 },
  { id := 0xC01003, ty := 5, acc := 1, eff := 0, retained := false, name := "BI_RT_BENCH_FAILS", size := 8, hi := 18446744073709551615 } ]

/-- Listing, area 17. -/
def catalog17_0 : List Entry := [
  { id := 0xE00000, ty := 4, acc := 5, eff := 0, retained := false, name := "DX_ENTRY_COUNT", size := 4, hi := 4294967295 },
  { id := 0xE00001, ty := 14, acc := 5, eff := 0, retained := false, name := "DX_ENTRY_LIST", size := 32256, recSize := 64, layout := [(1, 4), (4, 1), (1, 4), (1, 4), (48, 1)] },
  { id := 0xE00002, ty := 14, acc := 5, eff := 0, retained := false, name := "DX_EVENT_LIST", size := 16128, recSize := 96, layout := [(1, 2), (94, 1)] },
  { id := 0xE00003, ty := 14, acc := 5, eff := 0, retained := false, name := "DX_PCI_IDS", size := 8, recSize := 2, fixed := true, layout := [(1, 2)] },
  { id := 0xE00004, ty := 3, acc := 5, eff := 0, retained := false, name := "DX_TICK_LEAD", size := 2, dfl := 4, hi := 65535 },
  { id := 0xE00100, ty := 14, acc := 1, eff := 0, retained := false, name := "DX_SESSIONS", size := 2048, recSize := 32, fixed := true, layout := [(1, 2), (2, 1), (1, 4), (1, 4), (1, 4), (1, 8), (1, 8)] },
  { id := 0xE00101, ty := 4, acc := 4, eff := 1, retained := true, name := "DX_LEASE_MS", size := 4, dfl := 1000, lo := 100, hi := 60000 },
  { id := 0xE00102, ty := 14, acc := 1, eff := 0, retained := false, name := "DX_AREA_OWNERS", size := 76, recSize := 4, fixed := true, layout := [(1, 2), (2, 1)] },
  { id := 0xE00103, ty := 14, acc := 4, eff := 1, retained := true, name := "DX_AREA_CLAIMERS", size := 19, recSize := 1, fixed := true },
  { id := 0xE00200, ty := 14, acc := 4, eff := 1, retained := true, name := "DX_MC_SOURCES", size := 64, recSize := 4, layout := [(1, 4)] },
  { id := 0xE00201, ty := 13, acc := 5, eff := 0, retained := false, name := "DX_T1S_ADDR", size := 6 },
  { id := 0xE00202, ty := 2, acc := 4, eff := 1, retained := true, name := "DX_T1S_PLCA_ID", size := 1, dfl := 1, lo := 1, hi := 254 },
  { id := 0xE00203, ty := 14, acc := 4, eff := 1, retained := true, name := "DX_T1S_BOARD_ADDR", size := 32, recSize := 8 },
  { id := 0xE00300, ty := 14, acc := 1, eff := 0, retained := false, name := "DX_TRANSFERS", size := 640, recSize := 40, fixed := true, layout := [(1, 4), (1, 2), (2, 1), (1, 8), (1, 8), (1, 8), (1, 8)] },
  { id := 0xE00301, ty := 4, acc := 4, eff := 1, retained := true, name := "DX_BLOCK_IDLE_MS", size := 4, dfl := 10000, lo := 100, hi := 600000 },
  { id := 0xE00302, ty := 14, acc := 1, eff := 0, retained := false, name := "DX_SUBSCRIPTIONS", size := 1024, recSize := 16, fixed := true, layout := [(1, 2), (1, 2), (4, 1), (1, 4), (1, 4)] },
  { id := 0xE00303, ty := 3, acc := 4, eff := 1, retained := true, name := "DX_EVENT_PKT_LIMIT", size := 2, dfl := 32, lo := 1, hi := 1024 },
  { id := 0xE00400, ty := 14, acc := 1, eff := 0, retained := false, name := "DX_PENDING", size := 16384, recSize := 16, layout := [(1, 4), (1, 2), (2, 1), (1, 8)] },
  { id := 0xE01000, ty := 5, acc := 1, eff := 0, retained := false, name := "DX_COMMANDS", size := 8, hi := 18446744073709551615 },
  { id := 0xE01001, ty := 14, acc := 1, eff := 0, retained := false, name := "DX_STATUS_COUNTS", size := 168, recSize := 8, fixed := true, layout := [(1, 8)] } ]

/-- Listing, area 17. -/
def catalog17_1 : List Entry := [
  { id := 0xE01002, ty := 5, acc := 1, eff := 0, retained := false, name := "DX_SUPERSEDED", size := 8, hi := 18446744073709551615 },
  { id := 0xE01003, ty := 5, acc := 1, eff := 0, retained := false, name := "DX_REPLAYED", size := 8, hi := 18446744073709551615 },
  { id := 0xE01004, ty := 5, acc := 1, eff := 0, retained := false, name := "DX_BLOCK_BYTES", size := 8, hi := 18446744073709551615 },
  { id := 0xE01005, ty := 5, acc := 1, eff := 0, retained := false, name := "DX_EVENTS_SENT", size := 8, hi := 18446744073709551615 },
  { id := 0xE01006, ty := 5, acc := 1, eff := 0, retained := false, name := "DX_EVENTS_DROPPED", size := 8, hi := 18446744073709551615 } ]

/-- Every entry of the dictionary at level 4.0, in entry order (R409). -/
def catalog : List Entry :=
  catalog0_0 ++
  catalog1_0 ++
  catalog2_0 ++
  catalog2_1 ++
  catalog2_2 ++
  catalog3_0 ++
  catalog3_1 ++
  catalog3_2 ++
  catalog4_0 ++
  catalog5_0 ++
  catalog5_1 ++
  catalog6_0 ++
  catalog6_1 ++
  catalog6_2 ++
  catalog7_0 ++
  catalog7_1 ++
  catalog8_0 ++
  catalog9_0 ++
  catalog9_1 ++
  catalog10_0 ++
  catalog10_1 ++
  catalog11_0 ++
  catalog11_1 ++
  catalog12_0 ++
  catalog12_1 ++
  catalog13_0 ++
  catalog13_1 ++
  catalog14_0 ++
  catalog14_1 ++
  catalog15_0 ++
  catalog17_0 ++
  catalog17_1

/-- The listing row of an entry. -/
def findEntry (id : Nat) : Option Entry := catalog.find? fun e => e.id == id

/-! ### Event codes -/

/-- `EV_TT_READY`. -/
def Ev.TT_READY : Nat := 0x0101
/-- `EV_TT_REFUSED`. -/
def Ev.TT_REFUSED : Nat := 0x0102
/-- `EV_TT_SWAPPED`. -/
def Ev.TT_SWAPPED : Nat := 0x0103
/-- `EV_TT_SWAP_MISSED`. -/
def Ev.TT_SWAP_MISSED : Nat := 0x0104
/-- `EV_TT_STAGE_FAULT`. -/
def Ev.TT_STAGE_FAULT : Nat := 0x0105
/-- `EV_TT_VARIANT`. -/
def Ev.TT_VARIANT : Nat := 0x0106
/-- `EV_TT_LEASE`. -/
def Ev.TT_LEASE : Nat := 0x0107
/-- `EV_TT_USER_ACTION`. -/
def Ev.TT_USER_ACTION : Nat := 0x0108
/-- `EV_TT_BAD_HEADER`. -/
def Ev.TT_BAD_HEADER : Nat := 0x0110
/-- `EV_TT_BAD_LAYOUT`. -/
def Ev.TT_BAD_LAYOUT : Nat := 0x0111
/-- `EV_TT_RESERVED_SET`. -/
def Ev.TT_RESERVED_SET : Nat := 0x0112
/-- `EV_TT_WRONG_POSITION`. -/
def Ev.TT_WRONG_POSITION : Nat := 0x0113
/-- `EV_TT_EPOCH_ORDER`. -/
def Ev.TT_EPOCH_ORDER : Nat := 0x0114
/-- `EV_TT_LATE`. -/
def Ev.TT_LATE : Nat := 0x0115
/-- `EV_TT_BAD_REFERENCE`. -/
def Ev.TT_BAD_REFERENCE : Nat := 0x0116
/-- `EV_TT_DUPLICATE`. -/
def Ev.TT_DUPLICATE : Nat := 0x0117
/-- `EV_TT_PARTITION`. -/
def Ev.TT_PARTITION : Nat := 0x0118
/-- `EV_TT_LANE_STATE`. -/
def Ev.TT_LANE_STATE : Nat := 0x0119
/-- `EV_TT_BRIDGE_LOAD`. -/
def Ev.TT_BRIDGE_LOAD : Nat := 0x011A
/-- `EV_TT_CONSERVATION`. -/
def Ev.TT_CONSERVATION : Nat := 0x011B
/-- `EV_TT_FAN_IN`. -/
def Ev.TT_FAN_IN : Nat := 0x011C
/-- `EV_TT_SLEW`. -/
def Ev.TT_SLEW : Nat := 0x011D
/-- `EV_TT_CHUTE`. -/
def Ev.TT_CHUTE : Nat := 0x011E
/-- `EV_TT_BAD_LEASE`. -/
def Ev.TT_BAD_LEASE : Nat := 0x011F
/-- `EV_TT_TIMED_ACTION`. -/
def Ev.TT_TIMED_ACTION : Nat := 0x0120
/-- `EV_TT_BAD_VARIANT`. -/
def Ev.TT_BAD_VARIANT : Nat := 0x0121
/-- `EV_TT_STAGING_LIMIT`. -/
def Ev.TT_STAGING_LIMIT : Nat := 0x0122
/-- `EV_SC_UNBOUND`. -/
def Ev.SC_UNBOUND : Nat := 0x0140
/-- `EV_SC_PARTITION`. -/
def Ev.SC_PARTITION : Nat := 0x0141
/-- `EV_SC_VOQ_BOUND`. -/
def Ev.SC_VOQ_BOUND : Nat := 0x0142
/-- `EV_SC_DEADLINE`. -/
def Ev.SC_DEADLINE : Nat := 0x0143
/-- `EV_SC_UNDERRUN`. -/
def Ev.SC_UNDERRUN : Nat := 0x0144
/-- `EV_SC_FOREIGN_MEMBER`. -/
def Ev.SC_FOREIGN_MEMBER : Nat := 0x0145
/-- `EV_SC_BLANK_ARRIVAL`. -/
def Ev.SC_BLANK_ARRIVAL : Nat := 0x0146
/-- `EV_FT_SERVO_STATE`. -/
def Ev.FT_SERVO_STATE : Nat := 0x0201
/-- `EV_FT_DOMAIN_SWITCH`. -/
def Ev.FT_DOMAIN_SWITCH : Nat := 0x0202
/-- `EV_FT_SLEW_DONE`. -/
def Ev.FT_SLEW_DONE : Nat := 0x0203
/-- `EV_FT_ALIGN`. -/
def Ev.FT_ALIGN : Nat := 0x0204
/-- `EV_FT_SPLIT`. -/
def Ev.FT_SPLIT : Nat := 0x0205
/-- `EV_FT_GEN_HOLDOVER`. -/
def Ev.FT_GEN_HOLDOVER : Nat := 0x0206
/-- `EV_FT_PPS_MISSING`. -/
def Ev.FT_PPS_MISSING : Nat := 0x0207
/-- `EV_FT_ACTION_FIRED`. -/
def Ev.FT_ACTION_FIRED : Nat := 0x0210
/-- `EV_FT_ACTION_EXPIRED`. -/
def Ev.FT_ACTION_EXPIRED : Nat := 0x0211
/-- `EV_FT_ACTION_CANCELLED`. -/
def Ev.FT_ACTION_CANCELLED : Nat := 0x0212
/-- `EV_FT_CANCEL_LATE`. -/
def Ev.FT_CANCEL_LATE : Nat := 0x0213
/-- `EV_FT_TABLE_FULL`. -/
def Ev.FT_TABLE_FULL : Nat := 0x0214
/-- `EV_PKT_MARKER`. -/
def Ev.PKT_MARKER : Nat := 0x0301
/-- `EV_PKT_LINK_MISMATCH`. -/
def Ev.PKT_LINK_MISMATCH : Nat := 0x0302
/-- `EV_PKT_CREDIT_LOSS`. -/
def Ev.PKT_CREDIT_LOSS : Nat := 0x0303
/-- `EV_PKT_CREDIT_STALL`. -/
def Ev.PKT_CREDIT_STALL : Nat := 0x0304
/-- `EV_PKT_ERRORS`. -/
def Ev.PKT_ERRORS : Nat := 0x0305
/-- `EV_PKT_CELL_UNREPRESENTABLE`. -/
def Ev.PKT_CELL_UNREPRESENTABLE : Nat := 0x0306
/-- `EV_PKT_CREDIT_RESYNC`. -/
def Ev.PKT_CREDIT_RESYNC : Nat := 0x0307
/-- `EV_DP_PORT_DOWN`. -/
def Ev.DP_PORT_DOWN : Nat := 0x0310
/-- `EV_DP_PORT_UP`. -/
def Ev.DP_PORT_UP : Nat := 0x0311
/-- `EV_DP_FLAP_DROP`. -/
def Ev.DP_FLAP_DROP : Nat := 0x0312
/-- `EV_DP_RESEQ_TIMEOUT`. -/
def Ev.DP_RESEQ_TIMEOUT : Nat := 0x0313
/-- `EV_DP_MCAST_PARTIAL`. -/
def Ev.DP_MCAST_PARTIAL : Nat := 0x0314
/-- `EV_DP_SATURATION`. -/
def Ev.DP_SATURATION : Nat := 0x0315
/-- `EV_DP_STRATA_ERROR`. -/
def Ev.DP_STRATA_ERROR : Nat := 0x0316
/-- `EV_CR_CHUNK_ABANDONED`. -/
def Ev.CR_CHUNK_ABANDONED : Nat := 0x0401
/-- `EV_CR_LATE`. -/
def Ev.CR_LATE : Nat := 0x0402
/-- `EV_CR_WINDOW`. -/
def Ev.CR_WINDOW : Nat := 0x0403
/-- `EV_CR_BUFFER`. -/
def Ev.CR_BUFFER : Nat := 0x0404
/-- `EV_CR_RESULT_DEADLINE`. -/
def Ev.CR_RESULT_DEADLINE : Nat := 0x0405
/-- `EV_CR_STORE_REFUSED`. -/
def Ev.CR_STORE_REFUSED : Nat := 0x0406
/-- `EV_CR_LENGTH`. -/
def Ev.CR_LENGTH : Nat := 0x0407
/-- `EV_FM_REGION_STATE`. -/
def Ev.FM_REGION_STATE : Nat := 0x0501
/-- `EV_FM_KEY_REFUSED`. -/
def Ev.FM_KEY_REFUSED : Nat := 0x0502
/-- `EV_FM_SEQ_LOST`. -/
def Ev.FM_SEQ_LOST : Nat := 0x0503
/-- `EV_FM_SOURCE_LIMIT`. -/
def Ev.FM_SOURCE_LIMIT : Nat := 0x0504
/-- `EV_FM_HELD_FULL`. -/
def Ev.FM_HELD_FULL : Nat := 0x0505
/-- `EV_FM_MEDIA_ERROR`. -/
def Ev.FM_MEDIA_ERROR : Nat := 0x0506
/-- `EV_FM_FENCED_ACCESS`. -/
def Ev.FM_FENCED_ACCESS : Nat := 0x0507
/-- `EV_FM_MIRROR_STATE`. -/
def Ev.FM_MIRROR_STATE : Nat := 0x0508
/-- `EV_FM_MIRROR_LAG`. -/
def Ev.FM_MIRROR_LAG : Nat := 0x0509
/-- `EV_FM_CHECKPOINT_DONE`. -/
def Ev.FM_CHECKPOINT_DONE : Nat := 0x050A
/-- `EV_FM_CHECKPOINT_SKIPPED`. -/
def Ev.FM_CHECKPOINT_SKIPPED : Nat := 0x050B
/-- `EV_FM_RESTORE_DONE`. -/
def Ev.FM_RESTORE_DONE : Nat := 0x050C
/-- `EV_TB_REHASH_REQUEST`. -/
def Ev.TB_REHASH_REQUEST : Nat := 0x0601
/-- `EV_TB_LEARN_CONFLICT`. -/
def Ev.TB_LEARN_CONFLICT : Nat := 0x0602
/-- `EV_TB_LEARN_MOVE`. -/
def Ev.TB_LEARN_MOVE : Nat := 0x0603
/-- `EV_TB_SUBSTITUTED`. -/
def Ev.TB_SUBSTITUTED : Nat := 0x0604
/-- `EV_TB_SUBST_REFUSED`. -/
def Ev.TB_SUBST_REFUSED : Nat := 0x0605
/-- `EV_TB_EPOCH_DROP`. -/
def Ev.TB_EPOCH_DROP : Nat := 0x0606
/-- `EV_TB_NO_ROUTE`. -/
def Ev.TB_NO_ROUTE : Nat := 0x0607
/-- `EV_TB_ECC`. -/
def Ev.TB_ECC : Nat := 0x0608
/-- `EV_TB_LEARN_OVERRUN`. -/
def Ev.TB_LEARN_OVERRUN : Nat := 0x0609
/-- `EV_TB_WRITE_DONE`. -/
def Ev.TB_WRITE_DONE : Nat := 0x060A
/-- `EV_TB_WRITE_REFUSED`. -/
def Ev.TB_WRITE_REFUSED : Nat := 0x060B
/-- `EV_OT_HEAD_DROP`. -/
def Ev.OT_HEAD_DROP : Nat := 0x0701
/-- `EV_OT_POLICER_DROP`. -/
def Ev.OT_POLICER_DROP : Nat := 0x0702
/-- `EV_OT_CONFIG_REFUSED`. -/
def Ev.OT_CONFIG_REFUSED : Nat := 0x0703
/-- `EV_OP_LOCK_LOST`. -/
def Ev.OP_LOCK_LOST : Nat := 0x0801
/-- `EV_OP_RELOCKED`. -/
def Ev.OP_RELOCKED : Nat := 0x0802
/-- `EV_OP_SEARCH_FAILED`. -/
def Ev.OP_SEARCH_FAILED : Nat := 0x0803
/-- `EV_OP_LANE_MOVED`. -/
def Ev.OP_LANE_MOVED : Nat := 0x0804
/-- `EV_OP_LANE_RETURNED`. -/
def Ev.OP_LANE_RETURNED : Nat := 0x0805
/-- `EV_OP_LANE_DROPPED`. -/
def Ev.OP_LANE_DROPPED : Nat := 0x0806
/-- `EV_OP_MOVE_REFUSED`. -/
def Ev.OP_MOVE_REFUSED : Nat := 0x0807
/-- `EV_OP_PARTNER_SILENT`. -/
def Ev.OP_PARTNER_SILENT : Nat := 0x0808
/-- `EV_OP_BOOST_YIELD`. -/
def Ev.OP_BOOST_YIELD : Nat := 0x0809
/-- `EV_OP_ELS_WARN`. -/
def Ev.OP_ELS_WARN : Nat := 0x080A
/-- `EV_OP_ELS_REPLACE`. -/
def Ev.OP_ELS_REPLACE : Nat := 0x080B
/-- `EV_OP_ELS_LOST`. -/
def Ev.OP_ELS_LOST : Nat := 0x080C
/-- `EV_OP_ELS_NO_RESPONSE`. -/
def Ev.OP_ELS_NO_RESPONSE : Nat := 0x080D
/-- `EV_OP_ELS_READY`. -/
def Ev.OP_ELS_READY : Nat := 0x080E
/-- `EV_OP_MARGIN_LOW`. -/
def Ev.OP_MARGIN_LOW : Nat := 0x080F
/-- `EV_OP_UNFORECAST`. -/
def Ev.OP_UNFORECAST : Nat := 0x0810
/-- `EV_OP_LOSS_LOCATED`. -/
def Ev.OP_LOSS_LOCATED : Nat := 0x0811
/-- `EV_OP_CAL_DONE`. -/
def Ev.OP_CAL_DONE : Nat := 0x0812
/-- `EV_OP_CAL_SKIPPED`. -/
def Ev.OP_CAL_SKIPPED : Nat := 0x0813
/-- `EV_OP_WING_TEMP`. -/
def Ev.OP_WING_TEMP : Nat := 0x0814
/-- `EV_CH_SET_FAILED`. -/
def Ev.CH_SET_FAILED : Nat := 0x0901
/-- `EV_CH_CELL_FAULT`. -/
def Ev.CH_CELL_FAULT : Nat := 0x0902
/-- `EV_CH_PATH_LOSS`. -/
def Ev.CH_PATH_LOSS : Nat := 0x0903
/-- `EV_CH_INGRESS_DROPS`. -/
def Ev.CH_INGRESS_DROPS : Nat := 0x0904
/-- `EV_CH_CLEARED`. -/
def Ev.CH_CLEARED : Nat := 0x0905
/-- `EV_CH_LOOP`. -/
def Ev.CH_LOOP : Nat := 0x0906
/-- `EV_DX_SESSION`. -/
def Ev.DX_SESSION : Nat := 0x0A01
/-- `EV_DX_OWNER`. -/
def Ev.DX_OWNER : Nat := 0x0A02
/-- `EV_DX_BLOCK`. -/
def Ev.DX_BLOCK : Nat := 0x0A03
/-- `EV_DX_CHECK`. -/
def Ev.DX_CHECK : Nat := 0x0A04
/-- `EV_DX_EVENTS_DROPPED`. -/
def Ev.DX_EVENTS_DROPPED : Nat := 0x0A05
/-- `EV_HL_RULE`. -/
def Ev.HL_RULE : Nat := 0x0B01
/-- `EV_HL_THROTTLE`. -/
def Ev.HL_THROTTLE : Nat := 0x0B02
/-- `EV_HL_TRIP`. -/
def Ev.HL_TRIP : Nat := 0x0B03
/-- `EV_HL_DI_CHATTER`. -/
def Ev.HL_DI_CHATTER : Nat := 0x0B04
/-- `EV_HL_DI_STUCK`. -/
def Ev.HL_DI_STUCK : Nat := 0x0B05
/-- `EV_HL_SUSPECT`. -/
def Ev.HL_SUSPECT : Nat := 0x0B06
/-- `EV_HL_ALIVE`. -/
def Ev.HL_ALIVE : Nat := 0x0B07
/-- `EV_HL_EVIDENCE`. -/
def Ev.HL_EVIDENCE : Nat := 0x0B08
/-- `EV_HL_CERT_ACCEPTED`. -/
def Ev.HL_CERT_ACCEPTED : Nat := 0x0B09
/-- `EV_HL_CERT_REFUSED`. -/
def Ev.HL_CERT_REFUSED : Nat := 0x0B0A
/-- `EV_HL_FENCE`. -/
def Ev.HL_FENCE : Nat := 0x0B0B
/-- `EV_HL_WDT_RESTART`. -/
def Ev.HL_WDT_RESTART : Nat := 0x0B0C
/-- `EV_HL_WDT_ESCALATE`. -/
def Ev.HL_WDT_ESCALATE : Nat := 0x0B0D
/-- `EV_HL_MOTH_RESTART`. -/
def Ev.HL_MOTH_RESTART : Nat := 0x0B0E
/-- `EV_HL_ATTN_IN`. -/
def Ev.HL_ATTN_IN : Nat := 0x0B0F
/-- `EV_RP_SYNC_STATE`. -/
def Ev.RP_SYNC_STATE : Nat := 0x0C01
/-- `EV_RP_WITHDRAW`. -/
def Ev.RP_WITHDRAW : Nat := 0x0C02
/-- `EV_RP_JOINED`. -/
def Ev.RP_JOINED : Nat := 0x0C03
/-- `EV_RP_ROTATION`. -/
def Ev.RP_ROTATION : Nat := 0x0C04
/-- `EV_RP_BENCH_FAILED`. -/
def Ev.RP_BENCH_FAILED : Nat := 0x0C05
/-- `EV_RP_IMPORT`. -/
def Ev.RP_IMPORT : Nat := 0x0C06
/-- `EV_RP_STREAM`. -/
def Ev.RP_STREAM : Nat := 0x0C07
/-- `EV_RP_REGION_LOST`. -/
def Ev.RP_REGION_LOST : Nat := 0x0C08
/-- `EV_RP_RESET`. -/
def Ev.RP_RESET : Nat := 0x0C09
/-- `EV_RP_EPOCH_SPLIT`. -/
def Ev.RP_EPOCH_SPLIT : Nat := 0x0C0A
/-- `EV_SE_BOOT`. -/
def Ev.SE_BOOT : Nat := 0x0D01
/-- `EV_SE_FW_STAGED`. -/
def Ev.SE_FW_STAGED : Nat := 0x0D02
/-- `EV_SE_FW_REFUSED`. -/
def Ev.SE_FW_REFUSED : Nat := 0x0D03
/-- `EV_SE_SIG_REFUSED`. -/
def Ev.SE_SIG_REFUSED : Nat := 0x0D04
/-- `EV_SE_ROLLBACK`. -/
def Ev.SE_ROLLBACK : Nat := 0x0D05
/-- `EV_SE_OWNER_KEY`. -/
def Ev.SE_OWNER_KEY : Nat := 0x0D06
/-- `EV_SE_MANAGER_KEYS`. -/
def Ev.SE_MANAGER_KEYS : Nat := 0x0D07
/-- `EV_TM_LATCH_SKIPPED`. -/
def Ev.TM_LATCH_SKIPPED : Nat := 0x0E01
/-- `EV_TM_DUMP_SKIPPED`. -/
def Ev.TM_DUMP_SKIPPED : Nat := 0x0E02
/-- `EV_TM_CAPTURE_LOST`. -/
def Ev.TM_CAPTURE_LOST : Nat := 0x0E03
/-- `EV_TM_CAPTURE_FULL`. -/
def Ev.TM_CAPTURE_FULL : Nat := 0x0E04
/-- `EV_TM_PROG_OVERFLOW`. -/
def Ev.TM_PROG_OVERFLOW : Nat := 0x0E05
/-- `EV_PS_STATE`. -/
def Ev.PS_STATE : Nat := 0x0F01
/-- `EV_PS_WAKE`. -/
def Ev.PS_WAKE : Nat := 0x0F02
/-- `EV_PS_REST_REFUSED`. -/
def Ev.PS_REST_REFUSED : Nat := 0x0F03
/-- `EV_BI_DONE`. -/
def Ev.BI_DONE : Nat := 0x0F10
/-- `EV_BI_BLOCKED`. -/
def Ev.BI_BLOCKED : Nat := 0x0F11
/-- `EV_BI_UNIT_FAILED`. -/
def Ev.BI_UNIT_FAILED : Nat := 0x0F12
/-- `EV_BI_BANK_FAILED`. -/
def Ev.BI_BANK_FAILED : Nat := 0x0F13

end Sys2Proof.Machine
end

