-- ==== Sys2Proof/Machine/Flags.lean ====
section
/-! DEFINITION. Status codes, op codes, virtual channels and NACK codes by their names (R117, R387). -/
namespace Sys2Proof.Machine

/-! ### Status codes of R387 -/

def St.DONE : Nat := 0x00
def St.CHECK_FAILED : Nat := 0x01
def St.BAD_COMMAND : Nat := 0x02
def St.NO_SESSION : Nat := 0x03
def St.NO_ENTRY : Nat := 0x04
def St.ACCESS : Nat := 0x05
def St.NOT_OWNER : Nat := 0x06
def St.BAD_LENGTH : Nat := 0x07
def St.RESERVED_SET : Nat := 0x08
def St.OUT_OF_RANGE : Nat := 0x09
def St.BAD_TICK : Nat := 0x0A
def St.REFUSED : Nat := 0x0B
def St.BUSY : Nat := 0x0C
def St.NO_RESOURCES : Nat := 0x0D
def St.SIGNATURE : Nat := 0x0E
def St.TRANSFER_STATE : Nat := 0x0F
def St.INCOMPLETE : Nat := 0x10
def St.DIGEST_MISMATCH : Nat := 0x11
def St.TOO_LARGE : Nat := 0x12
def St.NOT_AVAILABLE : Nat := 0x13
def St.SOURCE_REFUSED : Nat := 0x14

/-! ### Virtual channels (R111) -/

def Vc.SC : Nat := 0
def Vc.OC0 : Nat := 1
def Vc.OC1 : Nat := 2
def Vc.MC : Nat := 3

/-! ### Op codes (R117) -/

def Op.CREDIT : Nat := 0x01
def Op.LINK_PARAMS : Nat := 0x02
def Op.LAUNCH : Nat := 0x03
def Op.WITHDRAW : Nat := 0x04
def Op.HEARTBEAT : Nat := 0x05
def Op.LANE_MOVE : Nat := 0x06
def Op.MEM_ACK : Nat := 0x07
def Op.MEM_NACK : Nat := 0x08
def Op.DATA : Nat := 0x10
def Op.PTP : Nat := 0x11
def Op.CMD : Nat := 0x12
def Op.CMD_RSP : Nat := 0x13
def Op.RED_CONTRIB : Nat := 0x20
def Op.RED_RESULT : Nat := 0x21
def Op.BARRIER : Nat := 0x22
def Op.MEM_LOAD : Nat := 0x30
def Op.MEM_LOAD_RSP : Nat := 0x31
def Op.MEM_STORE : Nat := 0x32
def Op.MEM_STORE_FLAG : Nat := 0x33
def Op.MEM_ATOMIC : Nat := 0x34
def Op.MEM_ATOMIC_RSP : Nat := 0x35
def Op.MEM_REDUCE_STORE : Nat := 0x36
def Op.MEM_MCAST_STORE : Nat := 0x37

/-- Kind of an op code (R117): 0 reserved, 1 control, 2 data. -/
def opKind (op : Nat) : Nat :=
  if 1 ≤ op ∧ op ≤ 8 then 1
  else if (0x10 ≤ op ∧ op ≤ 0x13) ∨ (0x20 ≤ op ∧ op ≤ 0x22) ∨ (0x30 ≤ op ∧ op ≤ 0x37) then 2
  else 0

/-- Whether R117 lists the op code on a virtual channel. -/
def opOnVc (op vc : Nat) : Bool :=
  if op ∈ [0x01, 0x02, 0x03, 0x04, 0x05, 0x06, 0x11, 0x12, 0x13] then vc == Vc.MC
  else if op ∈ [0x20, 0x21, 0x22] then vc == Vc.SC
  else if op ∈ [0x07, 0x08, 0x10] ∨ (0x30 ≤ op ∧ op ≤ 0x37) then vc ≤ 2
  else false

/-- Link-local op codes are taken by the receiving device and never forwarded (R117). -/
def opLinkLocal (op : Nat) : Bool := op ∈ [0x01, 0x02, 0x04, 0x05, 0x06]

/-- Memory op codes. -/
def opMemory (op : Nat) : Bool := (0x30 ≤ op && op ≤ 0x37) || op == 0x07 || op == 0x08

/-- Memory requests. -/
def opRequest (op : Nat) : Bool := op ∈ [0x30, 0x32, 0x33, 0x34, 0x36, 0x37]

/-- Responses that memory requesters receive. -/
def opResponse (op : Nat) : Bool := op ∈ [0x07, 0x08, 0x31, 0x35]

end Sys2Proof.Machine
end

