-- ==== Sys2Proof/Machine/Operands.lean ====
section
/-! DEFINITION. The forms a command's operands take: packet headers (R111 to R116), cells (R129, R130) and command
headers (R385). -/
namespace Sys2Proof.Machine
open Sys2Proof

/-! ### Packet fields -/

def pkBits (p : Packet) (off len lo w : Nat) : Nat := bits (beAt p.bytes off len) lo w
def pkFormat (p : Packet) : Nat := pkBits p 0 4 28 4
def pkVc (p : Packet) : Nat := pkBits p 0 4 26 2
def pkE (p : Packet) : Nat := pkBits p 0 4 25 1
def pkDest (p : Packet) : Nat := pkBits p 0 4 0 24
def pkOp (p : Packet) : Nat := pkBits p 4 4 24 8
def pkSrc (p : Packet) : Nat := pkBits p 4 4 0 24
def pkFlow (p : Packet) : Nat := pkBits p 8 4 12 20
def pkM (p : Packet) : Bool := bit (beAt p.bytes 8 4) 11
def pkK (p : Packet) : Bool := bit (beAt p.bytes 8 4) 10
def pkSeq (p : Packet) : Nat := beAt p.bytes 0x0C 2
def pkJob (p : Packet) : Nat := beAt p.bytes 0x0E 2
def pkLen (p : Packet) : Nat := pkBits p 0x10 4 19 13
def pkHdrCheck (p : Packet) : Nat := beAt p.bytes 0x12 2
def pkMember (p : Packet) : Nat := beAt p.bytes 0x14 2
def pkHop (p : Packet) : Nat := beAt p.bytes 0x17 1
/-- Collective id of reduction op codes. -/
def pkColl (p : Packet) : Nat := beAt p.bytes 0x1A 3
/-- Chunk index of reduction op codes. -/
def pkChunk (p : Packet) : Nat := beAt p.bytes 0x1D 3
/-- FMA offset of memory op codes. -/
def pkOffset (p : Packet) : Nat := beAt p.bytes 0x1B 5
/-- The 40 B header and payload and trailer of a data packet. -/
def pkPayload (p : Packet) : Bytes := (p.bytes.drop 32).take (p.bytes.length - 40)
/-- Body of a control packet (R116). -/
def pkBody (p : Packet) : Bytes := slice p.bytes 0x18 32
/-- Sending port of a control packet. -/
def pkSendPort (p : Packet) : Nat := beAt p.bytes 0x12 2
/-- Sender epoch of a control packet. -/
def pkEpoch (p : Packet) : Nat := beAt p.bytes 0x14 4
/-- Wire length (R107). -/
def pkWire (p : Packet) : Nat := p.bytes.length
/-- Launch stamp: bits [47:16] of fabric time in ns (R112). -/
def pkStamp (p : Packet) : Nat := beAt p.bytes (p.bytes.length - 8) 4
/-- Blocks of 256 B that a packet uses. -/
def pkBlocks (p : Packet) : Nat := ceilDiv (pkWire p) 256
def pkControl (p : Packet) : Bool := opKind (pkOp p) == 1

/-! ### Checks of a packet (R112, R113) -/

/-- The header check the header calls for: bytes 0x12 and 0x13 taken as zero. -/
def hdrCheckOf (bs : Bytes) : Nat := crc16 (slice bs 0 0x12 ++ [0, 0] ++ slice bs 0x14 0x0C)

/-- The CRC-32C over everything before it. -/
def crcOf (bs : Bytes) : Nat := crc32c (bs.take (bs.length - 4))

def pkHdrOk (p : Packet) : Bool := pkHdrCheck p == hdrCheckOf p.bytes
def pkCrc (p : Packet) : Nat := beAt p.bytes (p.bytes.length - 4) 4
def pkCrcOk (p : Packet) : Bool := pkCrc p == crcOf p.bytes
/-- A stomped packet: the correct value XOR all ones (R128). -/
def pkStomped (p : Packet) : Bool := pkCrc p == crcOf p.bytes ^^^ 0xFFFFFFFF

/-- Set the CRC-32C field. -/
def setCrc (bs : Bytes) (v : Nat) : Bytes := bs.take (bs.length - 4) ++ beBytes 4 v

/-- Change header bytes in flight: both stored checks move by the difference the change makes (R113). -/
def pkChange (p : Packet) (f : Bytes → Bytes) : Packet :=
  let new := f p.bytes
  let new := if pkControl p then new
    else splice new 0x12 (beBytes 2 (pkHdrCheck p ^^^ hdrCheckOf p.bytes ^^^ hdrCheckOf new))
  ⟨setCrc new (pkCrc p ^^^ crcOf p.bytes ^^^ crcOf new)⟩

/-- Overwrite `len` bytes at `off` under R113. -/
def pkSet (p : Packet) (off len v : Nat) : Packet := pkChange p fun bs => splice bs off (beBytes len v)

/-- Set the VC (R126). -/
def pkSetVc (p : Packet) (vc : Nat) : Packet :=
  let w := beAt p.bytes 0 4
  pkSet p 0 4 (w - bits w 26 2 * 2 ^ 26 + vc * 2 ^ 26)

/-- Set K (R299). -/
def pkSetK (p : Packet) : Packet := if pkK p then p else pkSet p 8 4 (beAt p.bytes 8 4 + 2 ^ 10)

/-- Take one from the hop limit (R115). -/
def pkHopDown (p : Packet) : Packet := pkSet p 0x17 1 (pkHop p - 1)

/-- Fill both checks of a packet the part originates. -/
def pkFinish (data : Bool) (bs : Bytes) : Packet :=
  let bs := if data then splice bs 0x12 (beBytes 2 (hdrCheckOf bs)) else bs
  ⟨setCrc bs (crcOf bs)⟩

/-- A data packet (R111, R112). -/
structure DataHdr where
  vc : Nat
  e : Nat := 0
  dest : Nat
  op : Nat
  src : Nat
  flow : Nat := 0
  m : Bool := false
  seq : Nat := 0
  job : Nat := 0
  member : Nat := 0
  hop : Nat
  operand : Nat := 0
deriving DecidableEq, Repr

/-- A data packet the part originates, with its launch stamp. -/
def mkData (h : DataHdr) (payload : Bytes) (stamp : Nat) : Packet :=
  pkFinish true
    (beBytes 4 (0x5 * 2 ^ 28 + h.vc * 2 ^ 26 + h.e * 2 ^ 25 + h.dest)
      ++ beBytes 4 (h.op * 2 ^ 24 + h.src)
      ++ beBytes 4 (h.flow * 2 ^ 12 + b2n h.m * 2 ^ 11)
      ++ beBytes 2 h.seq ++ beBytes 2 h.job
      ++ beBytes 4 (payload.length * 2 ^ 19)
      ++ beBytes 2 h.member ++ [0] ++ beBytes 1 h.hop
      ++ beBytes 8 h.operand ++ payload ++ beBytes 4 stamp ++ [0, 0, 0, 0])

/-- A control packet the part originates (R116). -/
def mkControl (vc e dest op src flow : Nat) (m : Bool) (seq job port epoch : Nat) (body : Bytes) (stamp : Nat) : Packet :=
  pkFinish false
    (beBytes 4 (0x6 * 2 ^ 28 + vc * 2 ^ 26 + e * 2 ^ 25 + dest)
      ++ beBytes 4 (op * 2 ^ 24 + src)
      ++ beBytes 4 (flow * 2 ^ 12 + b2n m * 2 ^ 11)
      ++ beBytes 2 seq ++ beBytes 2 job ++ [0, 0] ++ beBytes 2 port ++ beBytes 4 epoch
      ++ padTo 32 body ++ beBytes 4 stamp ++ [0, 0, 0, 0])

/-- On each copy of a control packet the part writes its own egress port and active epoch (R116). -/
def pkRestamp (p : Packet) (port epoch : Nat) : Packet :=
  if pkControl p then pkChange p fun bs => splice (splice bs 0x12 (beBytes 2 port)) 0x14 (beBytes 4 epoch) else p

/-! ### Slot markers (R108) -/

def markerBody (slot tick e role carried : Nat) : Nat :=
  slot * 2 ^ 27 + (tick % 1024) * 2 ^ 17 + e * 2 ^ 16 + role * 2 ^ 12 + carried * 2 ^ 9

/-- A slot marker with its check. -/
def mkMarker (slot tick e role carried : Nat) : Nat :=
  let b := markerBody slot tick e role carried
  b + crc8 (beBytes 3 (b / 256))

def markerOk (m : Nat) : Bool := m % 256 == crc8 (beBytes 3 (m / 256))

/-! ### Cells (R129, R130) -/

/-- A cell: header, 56 bytes of data, CRC-32C. -/
def mkCell (pos valid cnt : Nat) (data : Bytes) : Bytes :=
  let b := beBytes 4 (pos * 2 ^ 30 + valid * 2 ^ 24 + cnt * 2 ^ 16) ++ padTo 56 data
  b ++ beBytes 4 (crc32c b)

def cellPos (c : Bytes) : Nat := bits (beAt c 0 4) 30 2
def cellValid (c : Bytes) : Nat := bits (beAt c 0 4) 24 6
def cellCount (c : Bytes) : Nat := bits (beAt c 0 4) 16 8
def cellData (c : Bytes) : Bytes := slice c 4 (min (cellValid c) 56)
def cellOk (c : Bytes) : Bool := c.length == 64 && beAt c 60 4 == crc32c (c.take 60)

/-- Op classes of R131: class, native op code. -/
def cellClasses : List (Nat × Nat) :=
  [(0x01, 0x10), (0x02, 0x11), (0x03, 0x12), (0x04, 0x13), (0x05, 0x30), (0x06, 0x31), (0x07, 0x32), (0x08, 0x07)]

def classOfOp (op : Nat) : Option Nat := (cellClasses.find? fun x => x.2 == op).map (·.1)
def opOfClass (c : Nat) : Option Nat := (cellClasses.find? fun x => x.1 == c).map (·.2)

/-! ### Commands (R385) -/

/-- Whether the transport's order is little-endian (R384). -/
def srcLe : Source → Bool
  | .pcie _ => true
  | _ => false

/-- A number in the transport's order. -/
def numBytes (le : Bool) (n v : Nat) : Bytes := if le then leBytes n v else beBytes n v

/-- The 48-byte command header, its check field as given. -/
def hdrBytes (le : Bool) (op flags session tag entry status len offset tick operand detail check rsv : Nat) : Bytes :=
  numBytes le 4 (op * 2 ^ 24 + flags * 2 ^ 16 + session) ++ numBytes le 4 tag ++ numBytes le 4 (entry * 256 + status)
    ++ numBytes le 4 len ++ numBytes le 8 offset ++ numBytes le 8 tick ++ numBytes le 4 operand
    ++ numBytes le 4 detail ++ numBytes le 4 check ++ numBytes le 4 rsv

/-- The header of a command as it travelled, with the check field replaced. -/
def cmdHdr (op : Nat) (c : Cmd) (check : Nat) : Bytes :=
  hdrBytes (srcLe c.src) op c.flags.toNat c.session.toNat c.tag.toNat c.entry.toNat c.status.toNat c.bodyLen.toNat
    c.offset.toNat c.tick.toNat c.operand.toNat c.detail.toNat check c.reserved.toNat

/-- The check a command calls for. -/
def cmdCheck (op : Nat) (c : Cmd) : Nat := crc32c (cmdHdr op c 0 ++ c.body)

/-- A number read in a transport's order. -/
def numAt (le : Bool) (bs : Bytes) (off n : Nat) : Nat := if le then leNat (slice bs off n) else beAt bs off n

/-- The op code and the command that a payload carries. -/
def parseCmd (src : Source) (bs : Bytes) : Nat × Cmd :=
  let le := srcLe src
  let w0 := numAt le bs 0 4
  let w2 := numAt le bs 8 4
  (bits w0 24 8,
   { src := src, flags := BitVec.ofNat 8 (bits w0 16 8), session := BitVec.ofNat 16 w0,
     tag := BitVec.ofNat 32 (numAt le bs 4 4), entry := BitVec.ofNat 24 (w2 / 256), status := BitVec.ofNat 8 w2,
     bodyLen := BitVec.ofNat 32 (numAt le bs 0xC 4), offset := BitVec.ofNat 64 (numAt le bs 0x10 8),
     tick := BitVec.ofNat 64 (numAt le bs 0x18 8), operand := BitVec.ofNat 32 (numAt le bs 0x20 4),
     detail := BitVec.ofNat 32 (numAt le bs 0x24 4), check := BitVec.ofNat 32 (numAt le bs 0x28 4),
     reserved := BitVec.ofNat 32 (numAt le bs 0x2C 4), body := bs.drop 48 })

/-- A response as a payload (R385). -/
def respBytes (r : Resp) (phase : Bool) : Bytes :=
  let le := srcLe r.dest
  let h := fun chk => hdrBytes le r.op (b2n phase * 128 + b2n r.replayed * 2) r.session r.tag r.entry r.status r.body.length
    0 r.tick r.operand r.detail chk 0
  h (crc32c (h 0 ++ r.body)) ++ r.body

/-- Turn the pieces of one record round (R384). -/
def flipPieces : List (Nat × Nat) → Bytes → Bytes
  | [], bs => bs
  | (n, k) :: r, bs =>
    if k ≤ 1 then bs.take (n * k) ++ flipPieces r (bs.drop (n * k))
    else ((chunks k (bs.take (n * k))).map List.reverse).flatten ++ flipPieces r (bs.drop (n * k))

end Sys2Proof.Machine
end

