-- ==== Sys2Proof/Machine/Ops.lean ====
section
/-! DEFINITION. Operations every family shares: running a command, time, settings, counters, events and what leaves the part. -/
namespace Sys2Proof.Machine
open Sys2Proof

/-! ### Running a command -/

/-- What a command answers. -/
abbrev Out := Host.Outcome State Fault Refusal

/-- Picoseconds in a tick. -/
def tickPs : Nat := 1024000

/-- The state in which a command begins: nothing sent yet. -/
def start (s : State) : State := { s with out := [] }

/-- A command leaves time and the queue as they are, whatever else it does. -/
def settle (s t : State) : State := { t with clk := s.clk, pending := s.pending }

/-- Run an effect as one command. -/
def run (f : State → State) (s : State) : Out := .next (settle s (f (start s)))

/-- Move time forward inside the running tick. -/
def atPs (a : Nat) (s : State) : State :=
  { s with clk := { s.clk with ps := max s.clk.ps (min a (tickPs - 1)) } }

/-- Run an effect at `a` ps into the running tick, or now if that has passed. -/
def runAt (a : Nat) (f : State → State) (s : State) : Out := run f (atPs a s)

/-- Whether an instant (in ps of fabric time) lies before the end of the running tick. -/
def due (d : Nat) (s : State) : Bool := d < (s.clk.tick + 1) * tickPs

/-- A timer's expiry: without such a timer, or before the tick in which it ends, nothing happens. -/
def runDue (d : Option Nat) (f : State → State) (s : State) : Out :=
  match d with
  | some d => if due d s then runAt (d - s.clk.tick * tickPs) f s else run id s
  | none => run id s

/-- Fabric time in ps. -/
def now (s : State) : Nat := s.clk.tick * tickPs + s.clk.ps

/-- Fabric time in units of 2^-16 ns. -/
def now16 (s : State) : Nat := now s * 65536 / 1000

/-- Frame index. -/
def frameOf (s : State) : Nat := s.clk.tick / 1024

/-- The launch stamp that a packet leaving now carries (R112). -/
def stampNow (s : State) : Nat := now s / 1000 % 2 ^ 32

/-! ### Counters and what leaves -/

/-- Add to a 64-bit device counter. -/
def count (e n : Nat) (s : State) : State := setNum e ((getNum s e 0 + n) % 2 ^ 64) s

/-- Note something the part sends or drives. -/
def emit (o : Output) (s : State) : State := { s with out := s.out ++ [o] }

/-! ### Tables -/

/-- The bytes of a table or BLOB setting, or its default. -/
def tabBytes (s : State) (e : Nat) (d : Bytes) : Bytes := SMap.getD s.dict.tabs e d

/-- Set a table or BLOB. -/
def setTab (e : Nat) (v : Bytes) (s : State) : State := { s with dict := { s.dict with tabs := SMap.set s.dict.tabs e v } }

/-- Record `i` of `n` bytes of a table whose default is the same record everywhere. -/
def tabRec (s : State) (e n i : Nat) (d : Bytes) : Bytes :=
  match SMap.get? s.dict.tabs e with
  | some b => slice b (i * n) n
  | none => d

/-- Record `i` as a number, most significant byte first. -/
def tabNum (s : State) (e n i d : Nat) : Nat :=
  match SMap.get? s.dict.tabs e with
  | some b => beAt b (i * n) n
  | none => d

/-- The records of a variable table. -/
def tabList (s : State) (e n : Nat) : List Bytes := chunks n (tabBytes s e [])

/-! ### Bench counters (R512 to R515) -/

/-- Logical bench of a port. -/
def benchOf (p : Nat) : Nat := p / 4

/-- Attributes of an occurrence: port-in-bench, VC, job tag. -/
structure OccAttr where
  q : Option Nat := none
  vc : Option Nat := none
  job : Option Nat := none
deriving DecidableEq, Repr

/-- Whether a programmable counter's record counts an occurrence. -/
def progMatches (r ev : Nat) (a : OccAttr) : Bool :=
  bit r 63 && bits r 61 2 == 0 && bits r 0 10 == ev
    && (match a.q with | some q => bits r 56 4 == 0 || bit r (56 + q) | none => true)
    && (match a.vc with | some v => bits r 52 4 == 0 || bit r (55 - v) | none => true)
    && (match a.job with | some j => !bit r 51 || bits r 32 16 == j | none => true)

/-- Whether a programmable counter is the low half of a chained pair. -/
def progChained (s : State) (b k : Nat) : Bool :=
  k % 2 == 0 && (let r := tabNum s E.TM_PROG_CONFIG 8 (b * 16 + k) 0; bit r 63 && bit r 60)

/-- Whether an event has been raised this frame for a unit; noting it. -/
def onceKey (code key : Nat) (s : State) : Bool := (code, key) ∈ s.ev.once

/-- A programmable counter and its neighbour after `n` more occurrences (R514, R515). -/
def progAdd (b k n : Nat) (s : State) : State :=
  let i := b * 16 + k
  let c := SMap.getD s.tm.prog i { value := 0, overflow := false, level := false }
  let v := c.value + n
  let wraps := v / 2 ^ 48
  let c' := { c with value := v % 2 ^ 48 }
  if wraps = 0 then { s with tm := { s.tm with prog := SMap.set s.tm.prog i c' } }
  else if progChained s b k then
    let h := SMap.getD s.tm.prog (i + 1) { value := 0, overflow := false, level := false }
    { s with tm := { s.tm with prog := SMap.set (SMap.set s.tm.prog i c') (i + 1) { h with value := (h.value + wraps) % 2 ^ 48 } } }
  else
    count E.TM_PROG_OVERFLOWS wraps
      { s with tm := { s.tm with prog := SMap.set s.tm.prog i { c' with overflow := true } } }

/-! ### Events (R398 to R401, R406, R523, R577) -/

/-- Class of an event code (R398). -/
def evClass (code : Nat) : Nat := code / 256

/-- The MSI-X table before anything is written: every vector masked, as PCIe defines it (R405). PRESUMED, log entry 65. -/
def msixReset : Bytes := (List.range 128).map fun i => if i % 16 = 12 then 1 else 0

/-- Register state of a host port before anything is written (R405). -/
def pcieReset : PcieFn :=
  { sqBase := 0, sqLog2 := 4, sqTail := 0, sqHead := 0, cqBase := 0, cqLog2 := 4, cqHead := 0, cqTail := 0, cqPhase := true,
    eqBase := 0, eqLog2 := 6, eqHead := 0, eqTail := 0, ctrl := 0, holdoff := 2000, queueError := false, eqOverflow := false,
    vectors := [], msix := msixReset, perst := false, linkUp := false, waiting := [] }

def pcOf (s : State) (h : Nat) : PcieFn := SMap.getD s.pc h pcieReset

def setPc (h : Nat) (f : PcieFn → PcieFn) (s : State) : State := { s with pc := SMap.set s.pc h (f (pcOf s h)) }

/-- Whether the mask bit of a vector is set: bit 0 of the last word of its 16 B, as PCIe defines it. PRESUMED, log entry 65. -/
def msixMasked (f : PcieFn) (v : Nat) : Bool := bit (leNat (slice f.msix (16 * v + 12) 4)) 0

/-- Signal an MSI-X vector, or leave it pending while its holdoff runs (R407) or while it is masked. -/
def signal (h v : Nat) (s : State) : State :=
  let f := pcOf s h
  let (e, _) := SMap.getD f.vectors v (0, false)
  if now s < e || msixMasked f v then setPc h (fun f => { f with vectors := SMap.set f.vectors v (e, true) }) s
  else
    emit (.msix h v) (setPc h (fun f => { f with vectors := SMap.set f.vectors v (now s + f.holdoff * 1000, false) }) s)

/-- Add to a frame total (R577). -/
def accum (code key : Nat) (first : List Item) (counts : List Nat) (limit : Option Nat) (s : State) : State :=
  let a := s.ev.acc
  if a.any (fun x => x.code == code && x.key == key) then
    { s with ev := { s.ev with acc := a.map fun x =>
      if x.code == code && x.key == key then { x with counts := List.zipWith (· + ·) x.counts counts } else x } }
  else { s with ev := { s.ev with acc := a ++ [{ code := code, key := key, first := first, counts := counts, limit := limit }] } }

/-- An event that could not be delivered: the frame's total for its subscription or host (R401, R406). The key is the
subscription number, or 65,536 and the host number after it. -/
def dropEvent (key : Nat) (s : State) : State :=
  count E.DX_EVENTS_DROPPED 1 (accum Ev.DX_EVENTS_DROPPED key [.u16 (key % 65536)] [1] none s)

/-- Write an event into one host's event queue (R406). -/
def hostQueue (e : EventRec) (h : Nat) (s : State) : State :=
  let f := pcOf s h
  if !bit f.ctrl 1 then s
  else if (f.eqTail + 1) % 2 ^ f.eqLog2 = f.eqHead % 2 ^ f.eqLog2 then
    dropEvent (65536 + h) (setPc h (fun f => { f with eqOverflow := true }) s)
  else
    let s := emit (.hostEvent h e) (setPc h (fun f => { f with eqTail := (f.eqTail + 1) % 2 ^ f.eqLog2 }) s)
    signal h (if evClass e.code ∈ [0x0B, 0x0D, 0x0F] then 2 else 1) s

def controllerZero : Controller :=
  { restarting := false, restarts := [], lastTick := 0, challenge := none, nextAt := 0, heldCmds := [], heldEvents := [] }
def controllerOf (s : State) (d : Nat) : Controller := SMap.getD s.hl.controllers d controllerZero
def setController (d : Nat) (f : Controller → Controller) (s : State) : State :=
  { s with hl := { s.hl with controllers := SMap.set s.hl.controllers d (f (controllerOf s d)) } }

/-- Bed die on which a host port ends (R18): host A on 0, host B on 2. -/
def hostDie (h : Nat) : Nat := 2 * h

/-- Deliver an event to a host; while the controller of its port restarts, the event is held (R441). -/
def toHost (e : EventRec) (h : Nat) (s : State) : State :=
  if (controllerOf s (hostDie h)).restarting then
    setController (hostDie h) (fun c => { c with heldEvents := c.heldEvents ++ [e] }) s
  else hostQueue e h s

/-- Body limit of a transport (R402). -/
def bodyLimit (s : State) : Source → Nat
  | .pcie _ => 4048
  | .t1s _ => 1452
  | .mc _ p => if bits (tabNum s E.PORT_CONFIG 4 p 0x100) 8 8 == 2 then 2000 else 4048

/-- Event records that one EVENT response holds. -/
def eventsPer (s : State) (d : Source) : Nat := bodyLimit s d / 32

/-- Send an event to one subscription: it waits for the tick's EVENT responses, or is dropped where the frame's responses
could not hold it (R401). -/
def toSub (e : EventRec) (n : Nat) (s : State) : State :=
  match s.dx.subs.find? (fun x => x.num == n) with
  | none => s
  | some b =>
    if b.kind != 1 || !bit b.arg (evClass e.code) then s
    else if b.queue.length ≥ (Cfg.DX_EVENT_PKT_LIMIT s - b.sent) * eventsPer s b.dest then dropEvent n s
    else { s with dx := { s.dx with subs := s.dx.subs.map fun x => if x.num == n then { x with queue := x.queue ++ [e] } else x } }

/-- The ring with an event at its place, number mod 65,536 (R523). -/
def ringPut (e : EventRec) (r : List EventRec) : List EventRec := e :: r.filter fun x => x.seq % 65536 != e.seq % 65536

/-- Raise an event: into the ring, into the host queues and to the subscriptions (R399, R523). In Rest it goes to the
moth's ring of 1,024 in place of the event ring (R529). -/
def raise (code : Nat) (items : List Item) (s : State) : State :=
  let e : EventRec := { code := code, seq := s.ev.next, tick := s.clk.tick, items := items }
  let s := { s with ev := { s.ev with next := (s.ev.next + 1) % 2 ^ 32 } }
  let s := if s.hl.power = .rest then { s with tm := { s.tm with mothRing := (e :: s.tm.mothRing).take 1024 } }
    else { s with ev := { s.ev with ring := ringPut e s.ev.ring } }
  let s := toHost e 1 (toHost e 0 s)
  (s.dx.subs.map (·.num)).foldl (fun s n => toSub e n s) s

/-- Raise an event at most once a frame for a unit, at its first occurrence (R577). -/
def raiseOnce (code key : Nat) (items : List Item) (s : State) : State :=
  if onceKey code key s then s else raise code items { s with ev := { s.ev with once := s.ev.once ++ [(code, key)] } }

/-- Count an occurrence of a bench's count event, in the fixed counter and in every programmable counter that is set
to it. -/
def occ (b ev n : Nat) (a : OccAttr) (s : State) : State :=
  let s := if ev < 256 then
      { s with tm := { s.tm with fixed := SMap.set s.tm.fixed (b * 256 + ev) ((SMap.getD s.tm.fixed (b * 256 + ev) 0 + n) % 2 ^ 96) } }
    else s
  match SMap.get? s.dict.tabs E.TM_PROG_CONFIG with
  | none => s
  | some t =>
    (List.range 16).foldl (fun s k =>
      if progMatches (beAt t ((b * 16 + k) * 8) 8) ev a && !(k % 2 == 1 && progChained s b (k - 1)) then
        let before := getNum s E.TM_PROG_OVERFLOWS 0
        let s := progAdd b k n s
        if getNum s E.TM_PROG_OVERFLOWS 0 != before then
          raiseOnce Ev.TM_PROG_OVERFLOW b [.u16 b, .u16 k] s
        else s
      else s) s

/-- A device counter and a bench occurrence together. -/
def tally (e b ev n : Nat) (a : OccAttr) (s : State) : State := occ b ev n a (count e n s)

/-! ### Busy counts (R162, R512) -/

/-- Add to a sum of the running frame: all of it, and what SC and crusher traffic used. Keys: bench b for its ingress cycles,
128 + b and 256 + b for its crossbar port's cycles in and out, 384 + 4d + e for the bridge bytes from die d to e, 512 + b and
640 + b for its egress lane-slots used and in service, 768 + b and 896 + b for its SC and open queue blocks summed once a tick,
1,024 + d for the probes of die d. -/
def busyAdd (key n sc : Nat) (s : State) : State :=
  let (a, b) := SMap.getD s.dp.busy key (0, 0)
  { s with dp := { s.dp with busy := SMap.set s.dp.busy key (a + n, b + sc) } }

/-- Cycles of one of a bench's paths: event `ev` counts them all, the event after it those of SC and crusher traffic. -/
def occCycles (base ev b n : Nat) (sc : Bool) (s : State) : State :=
  let s := occ b ev n {} s
  busyAdd (base + b) n (if sc then n else 0) (if sc then occ b (ev + 1) n {} s else s)

/-! ### Identity, ports and epochs -/

/-- The part's position FA (R453). -/
def posFa (s : State) : Nat := Cfg.RP_POSITION_FA s % 2 ^ 24

/-- The active epoch: without an active image the default of `TT_ACTIVE_EPOCH`. DESIGN CHOICE, log entry 59. -/
def activeEpoch (s : State) : Nat := (s.tt.active.map (·.epoch)).getD 0

/-- Bit 0 of the active epoch: E of packets that the part originates (R269). -/
def eBit (s : State) : Nat := activeEpoch s % 2

/-- A port's record of `PORT_CONFIG`. -/
def portCfg (s : State) (p : Nat) : Nat := tabNum s E.PORT_CONFIG 4 p 0x100
/-- 0 disabled, 1 native, 2 cell. -/
def portFormat (s : State) (p : Nat) : Nat := if s.bi.deadWings.contains (p / 32) then 0 else bits (portCfg s p) 8 8
/-- 0 mode S, 1 mode L. -/
def portFec (s : State) (p : Nat) : Nat := bits (portCfg s p) 0 8
def portCell (s : State) (p : Nat) : Bool := portFormat s p == 2

/-- Datapath state of a port (R164). -/
def portOf (s : State) (p : Nat) : PortDp := SMap.getD s.dp.ports p { state := .training, holdEnd := 0, trained := false }
def portState (s : State) (p : Nat) : PortSt := if portFormat s p = 0 then .disabled else (portOf s p).state
def portUp (s : State) (p : Nat) : Bool := portState s p == .inService
def setPort (p : Nat) (v : PortDp) (s : State) : State := { s with dp := { s.dp with ports := SMap.set s.dp.ports p v } }

/-- Physical bench that serves a logical bench (R12, R464). -/
def physBench (s : State) (b : Nat) : Nat := SMap.getD s.rp.benchMap b (b / 32 * 34 + b % 32)

/-- State of a physical bench (R465): slots 0 to 31 of a die serve and 32 and 33 are spare until something changes them. -/
def physSlot (s : State) (x : Nat) : PhysSlot :=
  SMap.getD s.rp.bench x { state := if x % 34 < 32 then .serving else .spare, result := 0, frame := 0, leaseEnd := 0 }

def setPhys (x : Nat) (v : PhysSlot) (s : State) : State := { s with rp := { s.rp with bench := SMap.set s.rp.bench x v } }

/-- Whether a logical bench is served (R467, R537). -/
def benchServes (s : State) (b : Nat) : Bool := (physSlot s (physBench s b)).state == .serving

/-- Whether the face dies serve the datapath: powered, released and not in Rest (R428, R532). -/
def dpLive (s : State) : Bool :=
  (s.hl.power == .active || s.hl.power == .trim) && s.bi.state == 2

/-- A free number for a purpose; the next one differs from it for all the model says. -/
def freshNat (purpose : Nat) (s : State) : Nat × State :=
  (Config.freeNat purpose s.free, { s with free := s.free + 1 })

/-- A native packet's wire time in ps: 40 ps a byte (R70). -/
def wirePs (n : Nat) : Nat := n * 40

/-! ### Links (chapter 4) -/

def creditZero : Credit := { sent := 0, freed := 0, received := 0, pFreed := 0, shift := 0, limit := 0, stallSince := none }
def linkZero : Link :=
  { oc0 := creditZero, oc1 := creditZero, mc := creditZero, based := false, params := false, mismatch := false,
    partner := List.replicate 32 0, told := [], markers := 0, firstMarker := 0, cells := [],
    since := [], gapTicks := [], credit := none }
/-- A link that trains starts its accounts afresh (R120); the frame's markers and the partner's last LINK_PARAMS stay (R109, R135). -/
def linkTrain (l : Link) : Link := { linkZero with partner := l.partner, markers := l.markers, firstMarker := l.firstMarker }

def linkOf (s : State) (p : Nat) : Link := SMap.getD s.links p linkZero
def setLink (p : Nat) (f : Link → Link) (s : State) : State := { s with links := SMap.set s.links p (f (linkOf s p)) }

/-- The credit account of a VC (1 OC0, 2 OC1, 3 MC). -/
def Link.vc (l : Link) (vc : Nat) : Credit := if vc = 1 then l.oc0 else if vc = 2 then l.oc1 else l.mc
def Link.setVc (l : Link) (vc : Nat) (c : Credit) : Link :=
  if vc = 1 then { l with oc0 := c } else if vc = 2 then { l with oc1 := c } else { l with mc := c }

def cellLaneZero : CellLane :=
  { txCount := 0, rxCount := none, asm := none, oc0 := creditZero, oc1 := creditZero, mc := creditZero, based := false,
    creditAt := 0, broken := false }
def Link.cell (l : Link) (lane : Nat) : CellLane := SMap.getD l.cells lane cellLaneZero
def Link.setCell (l : Link) (lane : Nat) (f : CellLane → CellLane) : Link :=
  { l with cells := SMap.set l.cells lane (f (l.cell lane)) }
def CellLane.vc (l : CellLane) (vc : Nat) : Credit := if vc = 1 then l.oc0 else if vc = 2 then l.oc1 else l.mc
def CellLane.setVc (l : CellLane) (vc : Nat) (c : Credit) : CellLane :=
  if vc = 1 then { l with oc0 := c } else if vc = 2 then { l with oc1 := c } else { l with mc := c }

/-- Units that the part has outstanding toward its partner (R120, R137). Units sent before a base and freed after it make it
negative. -/
def Credit.outstanding (c : Credit) : Int := toSigned 32 (serialDist 32 c.sent ((c.pFreed + c.shift) % 2 ^ 32))

/-- The advertised limit of a VC. -/
def ownLimit (s : State) (vc : Nat) : Nat :=
  if vc = 1 then Cfg.PKT_CREDIT_LIMIT_OC0 s else if vc = 2 then Cfg.PKT_CREDIT_LIMIT_OC1 s else Cfg.PKT_CREDIT_LIMIT_MC s

/-- Cells that a packet of a payload fills (R130). -/
def cellsOf (payload : Nat) : Nat := max 1 (ceilDiv (16 + payload) 56)

/-- Units that a packet uses of a port's credit: blocks, or cells in cell mode (R120, R133). -/
def creditUnits (s : State) (port : Nat) (p : Packet) : Nat :=
  if portCell s port then cellsOf (pkWire p - 40) else pkBlocks p

/-- Return a packet's units to Freed when it leaves its buffer or is dropped (R120). Packets the part originates hold
none. -/
def freeCredit (port lane vc : Nat) (p : Packet) (s : State) : State :=
  if port ≥ 512 || vc = 0 || vc > 3 || opLinkLocal (pkOp p) then s
  else
    let n := creditUnits s port p
    setLink port (fun l =>
      if portCell s port then
        l.setCell lane fun c => c.setVc vc { c.vc vc with freed := ((c.vc vc).freed + n) % 2 ^ 32 }
      else l.setVc vc { l.vc vc with freed := ((l.vc vc).freed + n) % 2 ^ 32 }) s

/-- Packets the part has taken for itself and that wait for their own command. -/
def toInbox (p : Nat) (k : Packet) (s : State) : State := { s with dx := { s.dx with inbox := s.dx.inbox ++ [(p, k)] } }
def fromInbox (p : Nat) (k : Packet) (s : State) : State := { s with dx := { s.dx with inbox := s.dx.inbox.erase (p, k) } }

end Sys2Proof.Machine
end

