-- ==== Sys2Proof/Machine/Image.lean ====
section
/-! DEFINITION. Timetable images: their bytes (R26 to R49) read into records, and the lane-slot entries they give. -/
namespace Sys2Proof.Machine
open Sys2Proof

/-! ### Layout -/

/-- Offset of section `k` from its directory entry (R28). -/
def secOff (bs : Bytes) (k : Nat) : Nat := beAt bs (0x30 + 8 * k) 4
/-- Length of section `k`. -/
def secLen (bs : Bytes) (k : Nat) : Nat := beAt bs (0x34 + 8 * k) 4
/-- Bytes of section `k`. -/
def secBytes (bs : Bytes) (k : Nat) : Bytes := slice bs (secOff bs k) (secLen bs k)
/-- Record sizes by directory position; variants vary (R27). -/
def secRecSize (k : Nat) : Nat := [2048, 512, 16, 32, 64, 256, 16, 32, 8, 32, 16].getD k 1
/-- Records of a section of fixed-size records. -/
def secRecs (bs : Bytes) (k : Nat) : List Bytes := chunks (secRecSize k) (secBytes bs k)

/-! ### Records -/

/-- A bit field of a word at a byte offset. -/
def fld (r : Bytes) (off lo w : Nat) : Nat := bits (beAt r off 4) lo w

/-- The entries of a pattern that are not idle: number, kind and operand (R29). -/
def parsePattern (r : Bytes) : SMap (Nat × Nat) :=
  (List.range 480).filterMap fun n =>
    let w := beAt r (4 * n) 4
    if bits w 28 4 = 0 then none else some (n, bits w 28 4, bits w 0 18)

/-- The references of a tick record that are not idle (R31). -/
def parseTick (k : Nat) (r : Bytes) : SMap Nat :=
  (List.range 128).filterMap fun b =>
    let w := beAt r (4 * b) 4
    if bit w 31 then none else some (k * 128 + b, bits w 0 16)

def parsePartition (r : Bytes) : Partition :=
  { job := fld r 0 16 16, first := fld r 0 0 9, last := fld r 4 0 9, lanes := fld r 8 24 5, slots := fld r 8 0 24 }

def parseBinding (r : Bytes) : Binding :=
  { flow := fld r 0 12 20, multi := fld r 0 8 4 == 1, dwell := fld r 0 0 8, job := fld r 4 16 16, egress := fld r 4 0 16,
    ingress := fld r 8 16 16, hold := fld r 8 0 16, window := fld r 0x0C 23 9, gated := bit (beAt r 0x0C 4) 22,
    pkts := beAt r 0x10 4, bound := fld r 0x14 16 16 }

def parseSpray (r : Bytes) : Spray :=
  let n := fld r 0 24 8
  { count := n, entries := (List.range (min n 15)).map fun i => (fld r (4 * i + 4) 0 9, fld r (4 * i + 4) 16 5) }

def parseChute (r : Bytes) : ChuteRec :=
  { tick := fld r 0 16 16, wing := fld r 0 12 4, i := fld r 0 7 5, j := fld r 0 2 5, act := fld r 0 0 2,
    job := fld r 4 16 16, fec := fld r 4 0 2 }

def parseAction (r : Bytes) : ActionRec :=
  { fire := beAt r 0 8, code := fld r 8 16 16, job := fld r 8 0 16, arm := bit (beAt r 0x0C 4) 0, operand := beAt r 0x10 16, raw := r }

def parseSlew (r : Bytes) : SlewRec := { window := fld r 0 16 16, die := fld r 0 0 2, load := fld r 4 0 9 }

def parseLease (r : Bytes) : LeaseRec :=
  { kind := fld r 0 28 4, subject := fld r 4 0 16, unit := fld r 8 0 8, len := fld r 0x0C 16 16, start := beAt r 0x10 8, raw := r }

/-- Ports of a result port map, ascending (R191). -/
def mapPorts (r : Bytes) : List Nat := (List.range 512).filter fun p => bit (beAt r (0xC0 + p / 8) 1) (p % 8)

/-- Benches of a bench list, up to the last one named: 0xFF for no block. -/
def benchList (r : Bytes) : List Nat :=
  ((List.range 128).map fun j => beAt r (0x40 + j) 1).reverse.dropWhile (· == 0xFF) |>.reverse

/-- A recipe record (R191). -/
def parseRecipe (r : Bytes) : Recipe :=
  { coll := fld r 0 8 24, type := fld r 0 4 4, op := fld r 0 0 4, job := fld r 4 16 16, n := fld r 4 0 13,
    inFmt := fld r 8 28 4, outFmt := fld r 8 24 4, partialFmt := fld r 8 22 2, stochastic := bit (beAt r 8 4) 21,
    preOn := bit (beAt r 8 4) 20, postOn := bit (beAt r 8 4) 19, shift := fld r 8 16 3, gated := bit (beAt r 8 4) 15,
    elems := fld r 8 0 12, window := fld r 0x0C 24 8, dwell := fld r 0x0C 16 8, timeout := fld r 0x0C 0 16,
    chunks := beAt r 0x10 4, flow := fld r 0x14 12 20, group := fld r 0x18 0 24, pre := beAt r 0x1C 4, post := beAt r 0x20 4,
    gen := fld r 0x24 20 12, seed := beAt r 0x28 8, fma := beAt r 0x30 8, key := beAt r 0x38 8, benches := benchList r,
    ports := mapPorts r, raw := r }

/-- Bytes that a variant record takes (R49). -/
def variantLen (r : Bytes) : Nat := ceilDiv (16 + 8 * beAt r 4 4) 16 * 16

/-- The variant records of a section, with their bytes. -/
def variantRecs : Nat → Bytes → List Bytes
  | 0, _ => []
  | f + 1, bs => if bs.isEmpty then [] else slice bs 0 (variantLen bs) :: variantRecs f (bs.drop (variantLen bs))

/-- A reference: the pattern number, or 2^31 for idle. -/
def parseRef (w : Nat) : Nat := if bit w 31 then 2 ^ 31 else bits w 0 16

def parseVariant (r : Bytes) : Variant :=
  { id := fld r 0 16 16,
    overs := (List.range (beAt r 4 4)).map fun i =>
      (fld r (16 + 8 * i) 16 16, fld r (16 + 8 * i) 0 7, parseRef (beAt r (20 + 8 * i) 4)) }

/-- Number the elements of a list. -/
def numbered {α : Type} (l : List α) : List (Nat × α) := (List.range l.length).zip l

/-- The image that bytes spell. An all-zero recipe slot holds no recipe. -/
def parseImage (bs digest : Bytes) : Image :=
  { epoch := beAt bs 0x0C 4, frame := beAt bs 0x10 8, level := beAt bs 6 2, position := beAt bs 0x18 4 % 2 ^ 24,
    period := beAt bs 0x1C 2, boost := bit (beAt bs 0x1E 2) 0, voqKib := beAt bs 0x20 4,
    patterns := (secRecs bs 0).map parsePattern,
    ticks := ((numbered (secRecs bs 1)).map fun x => parseTick x.1 x.2).flatten,
    parts := (secRecs bs 2).map parsePartition, binds := (secRecs bs 3).map parseBinding,
    sprays := (secRecs bs 4).map parseSpray,
    recipes := ((numbered (secRecs bs 5)).filter fun x => x.2.any (· != 0)).map fun x => (x.1, parseRecipe x.2),
    chutes := (secRecs bs 6).map parseChute, actions := (secRecs bs 7).map parseAction,
    slews := (secRecs bs 8).map parseSlew, leases := (secRecs bs 9).map parseLease,
    variants := (variantRecs ((secBytes bs 10).length / 16 + 1) (secBytes bs 10)).map parseVariant,
    digest := digest, bytes := bs }

/-! ### Entries -/

/-- Period tick of a tick (R31). -/
def periodTick (img : Image) (t : Nat) : Nat :=
  ((t : Int) - (1024 * img.frame : Nat)).emod (1024 * img.period : Nat) |>.toNat

/-- Pattern that a bench runs in a period tick under a variant; none when idle (R31, R49). The spec neither forbids nor orders two
overrides of one variant for the same bench and period tick: the model runs the first. DESIGN CHOICE, log entry 24. -/
def refAt (img : Image) (v k b : Nat) : Option Nat :=
  let base := SMap.get? img.ticks (k * 128 + b)
  if v = 0 then base
  else match (img.variants.find? fun x => x.id == v).bind (fun x => x.overs.find? fun o => o.1 == k && o.2.1 == b) with
    | some o => if o.2.2 = 2 ^ 31 then none else some o.2.2
    | none => base

/-- Entry number of a lane-slot in its bench's pattern (R29). -/
def entryNo (port lane slot : Nat) : Nat := (port % 4 * 5 + lane) * 24 + slot

/-- Kind and operand of the entry of a lane-slot; kind 0 is idle (R29, R30). -/
def entryAt (img : Image) (v k port lane slot : Nat) : Nat × Nat :=
  match refAt img v k (benchOf port) with
  | none => (0, 0)
  | some r => SMap.getD (img.patterns.getD r []) (entryNo port lane slot) (0, 0)

/-- All references of a schedule: period tick, bench and pattern. -/
def allRefs (img : Image) (v : Nat) : List (Nat × Nat × Nat) :=
  let base := img.ticks.map fun x => (x.1 / 128, x.1 % 128, x.2)
  match img.variants.find? fun x => x.id == v with
  | none => base
  | some w =>
    base.filter (fun x => !w.overs.any fun o => o.1 == x.1 && o.2.1 == x.2.1)
      ++ (w.overs.filter fun o => o.2.2 != 2 ^ 31)

/-- A scheduled lane-slot: period tick, port, lane, slot, kind, operand and pattern. -/
structure Use where
  tick : Nat
  port : Nat
  lane : Nat
  slot : Nat
  kind : Nat
  opd : Nat
  pat : Nat
deriving DecidableEq, Repr

/-- Every entry of a schedule that is not idle. -/
def allUses (img : Image) (v : Nat) : List Use :=
  (allRefs img v).flatMap fun r =>
    (img.patterns.getD r.2.2 []).map fun e =>
      { tick := r.1, port := r.2.1 * 4 + e.1 / 120, lane := e.1 / 24 % 5, slot := e.1 % 24, kind := e.2.1, opd := e.2.2, pat := r.2.2 }

/-- The spray set of a number; an empty one where there is none. -/
def sprayOf (img : Image) (n : Nat) : Spray := img.sprays.getD n { count := 0, entries := [] }

/-- Ports of a spray set. -/
def sprayPorts (sp : Spray) : List Nat := sp.entries.map (·.1)

/-- Whether a spray set includes a port and lane. -/
def sprayHas (sp : Spray) (port lane : Nat) : Bool := sp.entries.any fun e => e.1 == port && bit e.2 lane

/-- Face die of a port (R11). -/
def dieOf (port : Nat) : Nat := port / 128

/-- Whether two lists of keys hold a repeat; the number of the first repeating element. -/
def firstRepeat {α : Type} [BEq α] : Nat → List α → List α → Option Nat
  | _, _, [] => none
  | n, seen, x :: r => if seen.contains x then some n else firstRepeat (n + 1) (x :: seen) r

/-! ### The chute map (R39 to R41) -/

/-- Whether the map has the chute of a record's circuit set in a period tick: the latest record at or before it, around
the period. -/
def chuteSetAt (img : Image) (k w i j : Nat) : Bool :=
  let rs := img.chutes.filter fun c => c.wing == w && c.i == i && c.j == j
  match (rs.filter fun c => c.tick ≤ k).getLast? with
  | some c => c.act == 0
  | none => match rs.getLast? with
    | some c => c.act == 0
    | none => false

/-- The circuits that a map names. -/
def chuteCircuits (img : Image) : List (Nat × Nat × Nat) :=
  (img.chutes.map fun c => (c.wing, c.i, c.j)).eraseDups

/-- The circuits set in a period tick. -/
def chutesAt (img : Image) (k : Nat) : List (Nat × Nat × Nat) :=
  (chuteCircuits img).filter fun c => chuteSetAt img k c.1 c.2.1 c.2.2

/-- The period tick after `k`. -/
def nextPt (img : Image) (k : Nat) : Nat := (k + 1) % (1024 * img.period)

/-- Whether period tick `k` is the blanked tick of a change of a circuit (R40). -/
def chuteBlankedAt (img : Image) (k w i j : Nat) : Bool :=
  img.chutes.any fun c => c.tick == nextPt img k && c.wing == w && c.i == i && c.j == j

/-- Whether the map has a chute set from a port's ingress, or to its egress, in a period tick. -/
def ingressSet (img : Image) (k port : Nat) : Bool := (chutesAt img k).any fun c => c.1 * 32 + c.2.1 == port
def egressSet (img : Image) (k port : Nat) : Bool := (chutesAt img k).any fun c => c.1 * 32 + c.2.2 == port

/-- Whether the map blanks or chutes the ingress of a port in a period tick (R354). -/
def ingressDark (img : Image) (k port : Nat) : Bool :=
  (chuteCircuits img).any fun c => c.1 * 32 + c.2.1 == port && (chuteSetAt img k c.1 c.2.1 c.2.2 || chuteBlankedAt img k c.1 c.2.1 c.2.2)

/-- Whether it blanks or chutes the egress of a port (R40, R41). -/
def egressDark (img : Image) (k port : Nat) : Bool :=
  (chuteCircuits img).any fun c => c.1 * 32 + c.2.2 == port && (chuteSetAt img k c.1 c.2.1 c.2.2 || chuteBlankedAt img k c.1 c.2.1 c.2.2)

end Sys2Proof.Machine
end

