-- ==== Sys2Proof/Machine/Latency.lean ====
section
/-! DEFINITION. The latency budget (chapter 12): its terms and what a transit takes, in ps. Each is a maximum for its stated
conditions (R369); the modes are 0 S, 1 L and 2 cell. -/
namespace Sys2Proof.Machine
open Sys2Proof

/-- The terms of R370 and R375, in the order of `LAT_TERMS` (R378). -/
def latTerms : List Nat := [2800, 3200, 87000, 44000, 134000, 58000, 18000, 62000, 34000, 22000, 14000, 40000, 42000, 5000, 4000]

def latTerm (n : Nat) : Nat := latTerms.getD n 0

/-- Wing receive pass, and wing transmit pass; together T_opt (R370). -/
def wingRx : Nat := latTerm 0
def wingTx : Nat := latTerm 1
def tOpt : Nat := wingRx + wingTx
def tRx (mode : Nat) : Nat := latTerm (2 + mode)
def tIn : Nat := latTerm 5
def tInt (across : Bool) : Nat := latTerm (6 + b2n across)
def tOut : Nat := latTerm 8
def tTx (mode : Nat) : Nat := latTerm (9 + mode)

/-- A hop between benches (R375, R376): nothing on one bench, else T_int. -/
def benchHop (a b : Nat) : Nat := if a = b then 0 else tInt (a / 32 != b / 32)

/-- A packet's transit where nothing holds it (R371, R373): the terms that depend on its ports alone. -/
def transit (mi mo : Nat) (across : Bool) : Nat := tOpt + tRx mi + tIn + tInt across + tOut + tTx mo

/-- The earliest start of a lane-slot of a port's scheduled traffic at or after an instant. -/
def slotFrom (t : Nat) : Nat :=
  let k := t / tickPs
  let n := ceilDiv (t % tickPs) 40960
  if n < 24 then k * tickPs + n * 40960 else (k + 1) * tickPs

/-- W of R371: from the earliest lane-slot that a packet could have taken to the one whose entry draws it. -/
def slotWait (ready lead start : Nat) : Nat := start - slotFrom (ready + lead)

/-- L_SC (R371), with the time that the resequencer held the packet and its wait for the lane-slot. -/
def latScheduled (mi mo : Nat) (across : Bool) (held wait : Nat) : Nat := transit mi mo across + held + wait

/-- L_open (R373), with the wait for the crossbar grant and for the lane. -/
def latOpen (mi mo : Nat) (across : Bool) (q wait : Nat) : Nat := transit mi mo across + q + wait

/-- What storing a packet whole adds to T_in (R374): `n` cells of a cell-mode lane, or bytes of wire length on a native lane. -/
def wholeExtra (cell : Bool) (n : Nat) : Nat := (if cell then n * 5120 else n * 40) - 10240

/-- ⌈log2 k⌉. -/
def log2Up (k : Nat) : Nat := if k ≤ 1 then 0 else Nat.log2 (k - 1) + 1

/-- L_RED (R375): by level, the hop that brings the inputs and the number of present inputs; then the downward hops. -/
def latReduction (mi mo : Nat) (levels : List (Nat × Nat)) (downs : List Nat) (wait : Nat) : Nat :=
  wingRx + tRx mi + tIn + (levels.map fun l => l.1 + latTerm 12 + latTerm 13 * log2Up l.2).foldl (· + ·) 0
    + downs.foldl (· + ·) 0 + tOut + wait + tTx mo + wingTx

/-- What applying a request takes (R376): a load or store, an atomic or a reduce-store. -/
inductive ApplyKind where
  | plain
  | atomic
  | reduce
deriving DecidableEq, Repr

def applyTime : ApplyKind → Nat
  | .plain => 48000
  | .atomic => 64000
  | .reduce => 112000

/-- L_MEM (R376) from the benches that the request and its response cross: ingress, home, serving, egress. -/
def latMemory (mi mo inBench home serving outBench : Nat) (k : ApplyKind) (wait : Nat) : Nat :=
  tOpt + tRx mi + tIn + benchHop inBench home + 12000 + benchHop home serving + applyTime k + benchHop serving outBench
    + tOut + tTx mo + wait

/-- The same for an answer that leaves from the home bench (R376). -/
def latHome (mi mo inBench home outBench wait : Nat) : Nat :=
  tOpt + tRx mi + tIn + benchHop inBench home + 12000 + benchHop home outBench + tOut + tTx mo + wait

/-- A chuted signal (R377): select cell to select cell at most; connector to connector it takes its value of `CH_DELAY`. -/
def latChute : Nat := latTerm 14
def latChuteFace (wing i j : Nat) : Nat := beAt (Config.moduleBytes E.CH_DELAY) (2 * ((wing * 32 + i) * 32 + j)) 2

end Sys2Proof.Machine
end

