-- ==== Sys2Proof/Machine/Lanes.lean ====
section
/-! DEFINITION. What every family asks about lanes and the schedule in force: lane states (R312), reserve roles (R313),
dark directions (R40, R354) and the entry of a lane-slot (R30). -/
namespace Sys2Proof.Machine
open Sys2Proof

/-! ### The schedule in force -/

/-- The loss set that the next image starts with, a write that takes effect at the epoch included. -/
def variantNext (s : State) : Nat :=
  match (s.dx.pending.filter fun w => w.entry == E.TT_VARIANT_NEXT && w.tick.isNone).getLast? with
  | some w => beNat w.body
  | none => Cfg.TT_VARIANT_NEXT s

/-- The value that the at-tick writes of a list give a scalar by a tick: the latest tick's, and of that tick the last. -/
def pendingBy (ws : List PendWrite) (id t : Nat) : Option Nat :=
  ((ws.filter fun w => w.entry == id && w.tick.any (· ≤ t)).foldl (fun (m : Option PendWrite) w => match m with
    | some x => if x.tick.getD 0 ≤ w.tick.getD 0 then some w else m
    | none => some w) none).map fun w => beNat w.body

/-- Whether an image has a loss set; 0 is the base schedule. -/
def variantHeld (img : Option Image) (v : Nat) : Bool :=
  v == 0 || (match img with | some i => i.variants.any fun x => x.id == v | none => false)

/-- The variant of the active image that runs in a tick: the one in force, or the latest selected by then (R50). -/
def variantAt (s : State) (t : Nat) : Nat :=
  ((pendingBy s.dx.pending E.TT_VARIANT_SELECT t).filter fun v => variantHeld s.tt.active v).getD s.tt.variant

/-- The image and the variant that run in a tick; the next image from its activation frame (R55), the selected variant
from its frame (R60). -/
def imageAt (s : State) (t : Nat) : Option (Image × Nat) :=
  let act := s.tt.active.map fun i => (i, variantAt s t)
  match s.tt.next, s.tt.nextImage with
  | .ready, some n => if s.frame < n.frame ∧ n.frame ≤ t / 1024 then some (n, variantNext s) else act
  | _, _ => act

/-- The binding of a flow tag in the active image. -/
def bindingOf (s : State) (flow : Nat) : Option Binding := s.tt.active.bind fun i => i.binds.find? fun b => b.flow == flow

/-- Gate of a binding (R43, R56). -/
def gateOf (s : State) (b : Binding) : Gate := SMap.getD s.tt.gates b.flow (if b.gated then .gated else .openn)

/-- Whether a staging fault blanks a bench's tick: its reference, or the pattern that it references, could not be read (R62). -/
def stageBlank (s : State) (t b : Nat) : Bool :=
  (SMap.getD s.tt.blank (t / 1024 * 128 + b) []).any fun x => match x with
    | .ref k => k % 1024 == t % 1024
    | .pattern n => (imageAt s t).any fun i => refAt i.1 i.2 (periodTick i.1 t) b == some n

/-- Kind and operand of the entry of a lane-slot in a tick (R30): 0 idle, 1 flow, 2 recipe result, 4 blank. -/
def entryIn (s : State) (t port lane slot : Nat) : Nat × Nat :=
  match imageAt s t with
  | none => (0, 0)
  | some (i, v) => if stageBlank s t (benchOf port) then (4, 0) else entryAt i v (periodTick i t) port lane slot

/-- Whether the schedule in force has entries on a port's reserve lane; blank ones carry nothing (R40). -/
def hasBoost (s : State) (port : Nat) : Bool :=
  match s.tt.active with
  | none => false
  | some i => i.boost && (allRefs i s.tt.variant).any fun r =>
      r.2.1 == benchOf port && (i.patterns.getD r.2.2 []).any fun e => e.1 / 24 == port % 4 * 5 + 4 && e.2.1 != 4

/-- Whether the map in force in a tick holds under a test of an image and its period tick. -/
def mapAt (s : State) (t : Nat) (f : Image → Nat → Bool) : Bool := (imageAt s t).any fun i => f i.1 (periodTick i.1 t)

/-- Whether the ingress of a port is blanked or chuted in the running tick (R354). The tick before a swap is the blanked tick of
the chutes that the next image has set at its tick 0 (R40, R365). -/
def darkIn (s : State) (port : Nat) : Bool :=
  mapAt s s.clk.tick (fun i k => ingressDark i k port) || mapAt s (s.clk.tick + 1) (fun i k => ingressSet i k port)

/-- Whether the egress of a port is blanked or chuted in a tick (R40, R41), across a swap too. -/
def darkOut (s : State) (t port : Nat) : Bool :=
  mapAt s t (fun i k => egressDark i k port) || mapAt s (t + 1) (fun i k => egressSet i k port)

/-! ### Lanes -/

/-- Key of a lane: port × 10 + direction × 5 + lane; direction 0 egress, 1 ingress. -/
def laneKey (p d l : Nat) : Nat := p * 10 + d * 5 + l

/-- State of a primary lane (R312). -/
def laneSt (s : State) (p d l : Nat) : LaneSt :=
  if portFormat s p = 0 then .disabled else SMap.getD s.op.lanes (laneKey p d l) .training

def setLane (p d l : Nat) (v : LaneSt) (s : State) : State :=
  { s with op := { s.op with lanes := SMap.put .training s.op.lanes (laneKey p d l) v } }

/-- What holds a reserve lane. -/
def reserveHeld (s : State) (p d : Nat) : Reserve := SMap.getD s.op.reserves (p * 2 + d) .idle

def setReserve (p d : Nat) (v : Reserve) (s : State) : State :=
  { s with op := { s.op with reserves := SMap.put .idle s.op.reserves (p * 2 + d) v } }

/-- Role of a reserve lane (R313): boost where nothing holds it and the schedule has boost entries. -/
def reserveOf (s : State) (p d : Nat) : Reserve :=
  match reserveHeld s p d with
  | .idle =>
    let seen := match SMap.get? s.op.roles (p * 5 + 4) with | some (_, r, _) => r == 3 | none => false
    if (if d = 0 then hasBoost s p else seen) then .boost else .idle
  | r => r

/-- Throttle level of a die (R425). -/
def throttleOf (s : State) (d : Nat) : Nat := SMap.getD s.hl.throttle d 0

/-- A ring before it has been seen: after power-up it searches. -/
def ringZero : Ring :=
  { state := .searching, heater := 0, e := 0, acc := 0, base := 0, pref := 0, good := 0, bad := 0, fresh := true, again := false,
    retry := false, quiet := 0, lockedAt := none }
def ringOf (s : State) (n : Nat) : Ring := SMap.getD s.op.rings n ringZero
def setRing (n : Nat) (x : Ring) (s : State) : State := { s with op := { s.op with rings := SMap.set s.op.rings n x } }

/-- Number of a ring (R318): 10p + 5d + λ, d 0 transmit, 1 receive. -/
def ringNo (p d l : Nat) : Nat := 10 * p + 5 * d + l

/-- Lane on which an egress lane's entries leave; none where they draw nothing (R157, R312, R313, R425). Boost
needs a reserve lane that is locked. -/
def servingLane (s : State) (p l : Nat) : Option Nat :=
  if l = 4 then (if reserveOf s p 0 == .boost && throttleOf s (dieOf p) == 0 && (ringOf s (ringNo p 0 4)).state == .locked then some 4 else none)
  else match laneSt s p 0 l with
    | .inService => some l
    | .moved | .calibrating | .spared => if reserveHeld s p 0 == .carrying l then some 4 else none
    | _ => none

/-- Lane whose entries a wire lane carries for open traffic; boost carries none. -/
def carriedLane (s : State) (p w : Nat) : Option Nat :=
  if w < 4 then (if laneSt s p 0 w == .inService then some w else none)
  else match reserveHeld s p 0 with
    | .carrying k => if laneSt s p 0 k != .inService then some k else none
    | _ => none

/-- Primary egress lanes in service. -/
def egressLanes (s : State) (p : Nat) : List Nat := (List.range 4).filter fun l => laneSt s p 0 l == .inService

/-- The lowest-numbered primary lane in service, for link-local packets. -/
def lowLane (s : State) (p : Nat) : Option Nat := (egressLanes s p).head?

/-- Whether a lane of a port is watched: all lanes while the datapath runs, the keep-alive lane in Rest (R347, R428). -/
def laneWatched (s : State) (p l : Nat) : Bool :=
  (dpLive s && benchServes s (benchOf p))
    || (s.hl.power == .rest && (List.range 4).find? (fun i => laneSt s p 1 i == .inService) == some l)

/-- Whether a lane of a port is driven: all lanes while the datapath runs, the keep-alive lane in Rest. -/
def laneDriven (s : State) (p l : Nat) : Bool := dpLive s || (s.hl.power == .rest && lowLane s p == some l)

/-- Whether some ingress lane of a native port carries valid markers: one has come in this tick or the one before (R158). -/
def markersSeen (s : State) (p : Nat) : Bool := (List.range 5).any fun l => match SMap.get? s.op.roles (p * 5 + l) with
  | some (t, _, _) => s.clk.tick ≤ t + 1
  | none => false

/-- Role and carried lane that a lane's markers show, where one arrived in this tick or the one before. -/
def shownRole (s : State) (p l : Nat) : Option (Nat × Nat) :=
  match SMap.get? s.op.roles (p * 5 + l) with
  | some (t, r, c) => if s.clk.tick ≤ t + 1 then some (r, c) else none
  | none => none

/-- Role and carried lane of the slot marker that a lane sends (R108, R314); none where it sends none. Role 0 while
training. -/
def markerRole (s : State) (p l : Nat) : Option (Nat × Nat) :=
  if l < 4 then
    match laneSt s p 0 l with
    | .inService => some (1, 0)
    | .moved | .spared | .training => some (0, 0)
    | _ => none
  else match reserveOf s p 0 with
    | .idle => some (0, 0)
    | .boost => some (3, 0)
    | .carrying k => some (2, k)
    | .unavailable => none

/-- Start of a lane-slot in ps of fabric time (R70). -/
def slotStart (t slot : Nat) : Nat := t * tickPs + slot * 40960

/-- What the running tick gains (positive) or loses of true time, in ps (R87). -/
def slewPs (s : State) : Int :=
  if s.ft.gen = .slewing then (max (-65536) (min 65536 s.ft.slew)) * 1000 / 65536 else 0

/-- Length of the running tick in ps of true time, which the lanes run on (R70). -/
def tickLen (s : State) : Nat := ((tickPs : Int) - slewPs s).toNat

/-- Whether `n` ps of wire time from an instant of the running tick end within the tick. -/
def inTick (s : State) (t n : Nat) : Bool := t + n ≤ s.clk.tick * tickPs + tickLen s

/-- The instant in fabric time at which `n` ps of wire time from an instant end: the running tick may be shorter or longer. -/
def wireEnd (s : State) (t n : Nat) : Nat :=
  let next := (s.clk.tick + 1) * tickPs
  if next ≤ t then t + n
  else if inTick s t n then min (t + n) next
  else next + (t + n - (s.clk.tick * tickPs + tickLen s))

/-- Path term T_int + T_out between the benches of two ports, in ps (R145, R370). -/
def pathLead (inPort outPort : Nat) : Nat :=
  tInt (dieOf inPort != dieOf outPort) + tOut

/-! ### Time stamps at the connector face (R73 to R75) -/

/-- Column of a port's corrections: mode S, mode L, cell. -/
def corrCol (s : State) (p : Nat) : Nat := if portCell s p then 2 else if portFec s p = 1 then 1 else 0

/-- Nominal total correction of a direction (0 ingress, 1 egress) and column, in hundredths of a ns (R74). -/
def nominalCorr (d col : Nat) : Nat := ([[8805, 4505, 13505], [2345, 1545, 4145]].getD d []).getD col 0

/-- The value that manufacture gave a port's correction: within 2 ns of the nominal total, in 2^-16 ns (R75). -/
def corrValue (p d col : Nat) : Int :=
  let lo := ceilDiv (nominalCorr d col * 65536) 100 - 131072
  let hi := nominalCorr d col * 65536 / 100 + 131072
  ((lo + Config.openFn 29 [p, d, col] % (hi + 1 - lo) : Nat) : Int)

/-- `FT_CORRECTIONS`: 512 records, ingress then egress, each mode S, mode L, cell. -/
def corrTable : Bytes := ((List.range 3072).map fun n => beBytes 4 (ofSigned 32 (corrValue (n / 6) (n / 3 % 2) (n % 3)))).flatten

/-- The correction of a port in force: direction 0 ingress, 1 egress. -/
def correction (s : State) (p d : Nat) : Int := corrValue p d (corrCol s p)

/-- Where in its FEC codeword a packet starts, in bits, as the part measures it (R74). The manual gives neither the lengths of the
codewords nor their places in time: a free value. -/
def codewordPos (p d t : Nat) : Nat := Config.openFn 27 [p, d, t]

/-- What the start in the codeword takes from the fixed correction's delay, in 2^-16 ns (R74): a function of the FEC mode and
the position, which the manual does not give. -/
def phaseComp (s : State) (p d t : Nat) : Int := toSigned 32 (Config.openFn 28 [corrCol s p, codewordPos p d t])

/-- Corrected ingress stamp of an arrival at an instant in ps, in 2^-16 ns. -/
def stampAt (s : State) (p t : Nat) : Int := (t * 65536 / 1000 : Nat) - correction s p 0 - phaseComp s p 0 t

/-- Corrected ingress stamp of an arrival now. -/
def stampIn (s : State) (p : Nat) : Int := stampAt s p (now s)

/-- Corrected egress stamp of a start at an instant in ps. -/
def stampOut (s : State) (p t : Nat) : Int := (t * 65536 / 1000 : Nat) + correction s p 1 + phaseComp s p 1 t

/-! ### Launch stamps (R98, R99) -/

/-- The instant, in ns of fabric time, at which a packet with a launch stamp was launched, as seen at `ns` of fabric time. -/
def unwrapLaunch (ns stamp : Nat) : Int :=
  let d : Nat := (stamp + 4294967296 - ns % 4294967296) % 4294967296
  (ns : Int) + (if 2147483648 ≤ d then (d : Int) - 4294967296 else (d : Int))

/-- When a packet that the part holds was launched (R112). -/
def launchNs (s : State) (k : Packet) : Int := unwrapLaunch (now s / 1000) (pkStamp k)

end Sys2Proof.Machine
end

