-- ==== Sys2Proof/Machine/AtTick.lean ====
section
/-! DEFINITION. Rules of the owning chapters for writes that take effect at a tick (R382), which a command's write meets when it
is made and a timed action's when it is loaded and again when it fires (R575). -/
namespace Sys2Proof.Machine
open Sys2Proof

/-! ### Rest (R428) -/

def diZero : DiState := { raw := false, rawAt := 0, filtered := false, masked := false, stuck := false, edges := [], since := none }
def diOf (s : State) (d : Nat) : DiState := SMap.getD s.hl.di d diZero

/-- Whether an input acts: those that carry the cold reset are never masked (R432). -/
def diAsserted (s : State) (d : Nat) : Bool := (diOf s d).filtered && (d < 2 || !(diOf s d).masked)

/-- Whether a request of Rest is refused, and its cause (R428): 1 WAKE_N, 2 WITHDRAWING, 3 no loss set. -/
def restRefusal (s : State) : Option Nat :=
  if diAsserted s 3 then some 1
  else if s.rp.sync == .withdrawing then some 2
  else if s.rp.sync == .current && Cfg.RP_LOSS_SET s == 0 then some 3
  else none

/-! ### Credit limits (R148) -/

/-- The credit limits of R120 with their defaults. -/
def creditEntries : List (Nat × Nat) := [(E.PKT_CREDIT_LIMIT_OC0, 1024), (E.PKT_CREDIT_LIMIT_OC1, 256), (E.PKT_CREDIT_LIMIT_MC, 128)]

/-- Whether a write of a limit makes the sum of the three exceed 32,768 at its tick, or at a later tick at which a pending
write changes one of them (R148). -/
def creditSumBad (s : State) (id v tick : Nat) : Bool :=
  let ws := s.dx.pending ++ [{ entry := id, session := 0, tick := some tick, offset := 0, body := beBytes 4 v }]
  let ts := (ws.filter fun w => creditEntries.any fun c => c.1 == w.entry).filterMap fun w => w.tick.filter (tick ≤ ·)
  ts.any fun t => sumNat (creditEntries.map fun c => (pendingBy ws c.1 t).getD (getNum s c.1 c.2)) > 32768

/-! ### All of them -/

/-- Whether the owning chapter refuses a value of an at-tick scalar. `img` is the image in force at its tick. -/
def atTickRefused (s : State) (img : Option Image) (id v tick : Nat) : Bool :=
  if creditEntries.any fun c => c.1 == id then creditSumBad s id v tick
  else if id = E.TT_VARIANT_SELECT then !variantHeld img v
  else if id = E.FM_CHECKPOINT_RESTORE then !(s.fm.complete.any fun c => c.step == v)
  else if id = E.PS_REQUEST then v == 2 && (restRefusal s).isSome
  else false

/-- Rules for the tick of an at-tick write of `v`: what acts at frame boundaries names one, and Rest names one at least two
frames ahead (R428). -/
def tickRule (s : State) (id v tick : Nat) : Bool :=
  if id ∈ [E.PORT_CONFIG, E.TT_VARIANT_SELECT] then tick % 1024 == 0
  else if id = E.PS_REQUEST && v == 2 then tick % 1024 == 0 && tick / 1024 ≥ frameOf s + 2
  else true

end Sys2Proof.Machine
end

