-- ==== Sys2Proof/Machine/Matrix.lean ====
section
/-! DEFINITION. Routing of a wing's chute matrix, a recursive Beneš network on 32 inputs (R349, R352). -/
namespace Sys2Proof.Machine
open Sys2Proof

/-- The cells that path `p` of a circuit takes, with the setting each needs (true is cross). Cell 16 × stage + row. -/
def benesAux : Nat → Nat → Nat → Nat → Nat → Nat → List (Nat × Bool)
  | 0, _, _, _, _, _ => []
  | f + 1, st, base, i, j, p =>
    if st = 4 then [(64 + base, i != j)]
    else
      let c := bits p (3 - st) 1
      let half := 8 / 2 ^ st
      [(16 * st + base + i / 2, i % 2 != c), (16 * (8 - st) + base + j / 2, j % 2 != c)]
        ++ benesAux f (st + 1) (base + c * half) (i / 2) (j / 2) p

def benesPath (i j p : Nat) : List (Nat × Bool) := benesAux 5 0 0 i j p

/-- Whether every cell of a path is free or already set as the path needs. -/
def pathFits (held : List (Nat × Bool)) (path : List (Nat × Bool)) : Bool :=
  path.all fun c => match held.find? (fun h => h.1 == c.1) with
    | some h => h.2 == c.2
    | none => true

/-- The lowest path number that fits. -/
def findPath (held : List (Nat × Bool)) (i j : Nat) : Option Nat :=
  (List.range 16).find? fun p => pathFits held (benesPath i j p)

/-- Route circuits in the order given over what is held: circuit and path, or none where the routing fails. -/
def routeAll : List (Nat × Bool) → List (Nat × Nat) → List (Nat × Nat × Option Nat)
  | _, [] => []
  | held, (i, j) :: r =>
    match findPath held i j with
    | some p => (i, j, some p) :: routeAll (held ++ benesPath i j p) r
    | none => (i, j, none) :: routeAll held r

/-- Circuits in ascending ingress order. -/
def byIngress (l : List (Nat × Nat)) : List (Nat × Nat) := l.mergeSort fun a b => a.1 ≤ b.1

/-- One routing step of a wing at load: held circuits with their paths, after the circuits `gone` leave and `new` join. -/
def routeStep (cur : List (Nat × Nat × Nat)) (gone new : List (Nat × Nat)) : Option (List (Nat × Nat × Nat)) :=
  let stay := cur.filter fun c => !(gone.contains (c.1, c.2.1))
  let held := stay.flatMap fun c => benesPath c.1 c.2.1 c.2.2
  let got := routeAll held (byIngress new)
  if got.all fun g => g.2.2.isSome then some (stay ++ got.map fun g => (g.1, g.2.1, g.2.2.getD 0)) else none

/-- Whether a wing of an image routes at every change of its period, with no cell faulted (R352, R357 detail 0x07):
from the circuits set at the period's end, through every change in order. -/
def wingRoutes (img : Image) (w : Nat) : Bool :=
  let ticks := (img.chutes.filter fun c => c.wing == w).map (·.tick) |>.eraseDups
  let last := 1024 * img.period - 1
  let first := (chutesAt img last).filter (·.1 == w) |>.map (·.2)
  match routeStep [] [] first with
  | none => false
  | some cur0 =>
    (ticks.foldl (fun acc k =>
      match acc with
      | none => none
      | some cur =>
        let rs := img.chutes.filter fun c => c.wing == w && c.tick == k
        routeStep cur ((rs.filter (·.act == 1)).map fun c => (c.i, c.j)) ((rs.filter (·.act == 0)).map fun c => (c.i, c.j)))
      (some cur0)).isSome

end Sys2Proof.Machine
end

