-- ==== Sys2Proof/Machine/RecipeTree.lean ====
section
/-! DEFINITION. The reduction tree of a recipe (R187 to R190) and the sizes of its payloads (R175, R191). -/
namespace Sys2Proof.Machine
open Sys2Proof

/-- Payload bytes of `n` elements in a format (R175); none for a reserved code or an MX count that is no multiple of 32. -/
def fmtBytes (f n : Nat) : Option Nat :=
  if f ∈ [0x0, 0xC] then some (4 * n) else if f ∈ [0x1, 0x2] then some (2 * n)
  else if f ∈ [0x3, 0x4, 0xB] then some n else if f = 0xD then some (8 * n)
  else if n % 32 ≠ 0 then none
  else if f ∈ [0x5, 0x6, 0xA] then some (33 * (n / 32)) else if f ∈ [0x7, 0x8] then some (25 * (n / 32))
  else if f = 0x9 then some (17 * (n / 32)) else none

def fmtFloat (f : Nat) : Bool := f ≤ 0xA
def fmtInt (f : Nat) : Bool := 0xB ≤ f && f ≤ 0xD
def fmtMx (f : Nat) : Bool := 0x5 ≤ f && f ≤ 0xA

/-- Contribution payload and result payload of a chunk. -/
def inBytes (r : Recipe) : Nat := (fmtBytes r.inFmt r.elems).getD 0
def outBytes (r : Recipe) : Nat := (fmtBytes r.outFmt r.elems).getD 0

def rBarrier (r : Recipe) : Bool := r.type == 4

/-- Number of blocks B. -/
def rBlocks (r : Recipe) : Nat := ceilDiv r.n (2 ^ r.shift)

/-- The top level H. -/
def rTop (r : Recipe) : Nat := ((List.range 8).find? fun h => rBlocks r ≤ 4 ^ h).getD 7

/-- Whether node (l, j) exists. -/
def nodeExists (r : Recipe) (l j : Nat) : Bool := l ≤ rTop r && 4 ^ l * j < rBlocks r

/-- Bench of block `j`; 0xFF for none. -/
def blockBench (r : Recipe) (j : Nat) : Nat := r.benches.getD j 0xFF

/-- The bench a node runs on (R187, R188). -/
def nodeBench (r : Recipe) (l j : Nat) : Nat :=
  if l = 0 then blockBench r j
  else if 4 ^ l * j + l < rBlocks r then blockBench r (4 ^ l * j + l) else blockBench r (4 ^ l * j)

/-- Members of block `j`. -/
def blockMembers (r : Recipe) (j : Nat) : Nat := min (2 ^ r.shift) (r.n - j * 2 ^ r.shift)

/-- Present inputs of a node. -/
def nodeInputs (r : Recipe) (l j : Nat) : Nat :=
  if l = 0 then blockMembers r j else ((List.range 4).filter fun c => nodeExists r (l - 1) (4 * j + c)).length

/-- Member range of a node: start and size. -/
def nodeRange (r : Recipe) (l j : Nat) : Nat × Nat := (4 ^ l * j * 2 ^ r.shift, 4 ^ l * 2 ^ r.shift)

/-- Every node, level by level. -/
def allNodes (r : Recipe) : List (Nat × Nat) :=
  (List.range (rTop r + 1)).flatMap fun l => ((List.range (rBlocks r)).filter fun j => nodeExists r l j).map fun j => (l, j)

/-- Bytes of an upward transfer (R189). -/
def upBytes (r : Recipe) : Nat :=
  if rBarrier r then 0 else if r.partialFmt = 0 then 8 * r.elems else if r.partialFmt = 1 then 4 * r.elems else outBytes r

/-- Bytes of a downward transfer. -/
def downBytes (r : Recipe) : Nat := if rBarrier r then 0 else outBytes r

/-- Whether a bench has a port in the result map. -/
def benchInMap (r : Recipe) (b : Nat) : Bool := r.ports.any fun p => benchOf p == b

/-- Whether a node's range holds a block whose bench has a port in the map. -/
def nodeServes (r : Recipe) (l j : Nat) : Bool :=
  (List.range (4 ^ l)).any fun k => 4 ^ l * j + k < rBlocks r && benchInMap r (blockBench r (4 ^ l * j + k))

/-- Transfers between benches that a chunk makes: from, to and bytes (R189). -/
def transfers (r : Recipe) : List (Nat × Nat × Nat) :=
  let ns := allNodes r
  let up := (ns.filter fun x => x.1 < rTop r).map fun x => (nodeBench r x.1 x.2, nodeBench r (x.1 + 1) (x.2 / 4), upBytes r)
  let down := (ns.filter fun x => x.1 < rTop r && nodeServes r x.1 x.2).map
    fun x => (nodeBench r (x.1 + 1) (x.2 / 4), nodeBench r x.1 x.2, downBytes r)
  let blocks := (List.range (rBlocks r)).map (blockBench r)
  let direct := ((r.ports.map benchOf).eraseDups.filter fun b => !blocks.contains b).map
    fun b => (nodeBench r (rTop r) 0, b, downBytes r)
  (up ++ down ++ direct).filter fun t => t.1 != t.2.1

/-- Units of a transfer (R194). -/
def xferUnits (bytes : Nat) : Nat := max 1 (ceilDiv bytes 1024)

/-- Inputs of a bench per chunk (R190): the members of its block and the partials from other benches. -/
def benchInputs (r : Recipe) (b : Nat) : Nat :=
  sumNat (((List.range (rBlocks r)).filter fun j => blockBench r j == b).map (blockMembers r))
    + ((allNodes r).filter fun x => x.1 < rTop r && nodeBench r (x.1 + 1) (x.2 / 4) == b && nodeBench r x.1 x.2 != b).length

/-- Combines that a chunk costs a bench (R194). -/
def benchCombines (r : Recipe) (b : Nat) : Nat :=
  sumNat (((allNodes r).filter fun x => nodeBench r x.1 x.2 == b).map
    fun x => if rBarrier r then 1 else (nodeInputs r x.1 x.2 - 1) * r.elems)

/-- Die that hands an entry on `port` its result (R194). -/
def resultDie (r : Recipe) (port : Nat) : Nat :=
  if ((List.range (rBlocks r)).map (blockBench r)).contains (benchOf port) then dieOf port else nodeBench r (rTop r) 0 / 32

end Sys2Proof.Machine
end

