-- ==== Sys2Proof/Machine/ImageChecks.lean ====
section
/-! DEFINITION. The checks that every timetable image passes at load (R57), in the order of the table, each as the list of
its failures. -/
namespace Sys2Proof.Machine
open Sys2Proof

/-- A failure in record `r` of a section. -/
def fail (code sec r : Nat) (detail : Nat := 0) : CheckFail := { code := code, sec := sec, record := r, detail := detail }

/-- A failure of the header: section 0xFF, with the byte offset of the field (R59). -/
def failHdr (code off : Nat) : CheckFail := fail code 0xFF 0 off

/-- Records of a numbered list that break a rule. -/
def failWhere {α : Type} (code sec : Nat) (bad : α → Bool) (l : List α) (detail : Nat := 0) : List CheckFail :=
  ((numbered l).filter fun x => bad x.2).map fun x => fail code sec x.1 detail

/-- The fabric epoch F: the value that most ports in service report; none on a tie or without ports (R455). -/
def fabricEpoch (s : State) : Option Nat :=
  let hs := (s.rp.heard.filter fun x => portUp s x.1).map (·.2)
  let vs := hs.eraseDups.map fun v => (hs.count v, v)
  match vs.mergeSort (fun a b => a.1 ≥ b.1) with
  | [] => none
  | [a] => some a.2
  | a :: b :: _ => if a.1 = b.1 then none else some a.2

/-! ### Header and layout (R26 to R28) -/

def checkHeader (s : State) (bs : Bytes) : List CheckFail :=
  let c := 0x0110
  let level := getNum s E.BEHAVIOUR_LEVEL_ACTIVE 0x0400
  if beAt bs 0 4 ≠ 0x5754494D then [failHdr c 0]
  else if beAt bs 4 2 ≠ 1 then [failHdr c 4]
  else if beAt bs 6 2 > level then [failHdr c 6]
  else if beAt bs 0x20 4 < 1 ∨ beAt bs 0x20 4 > 65536 then [failHdr c 0x20]
  else []

/-- Where section `k` ends. -/
def secEnd (bs : Bytes) (k : Nat) : Nat := secOff bs k + secLen bs k

/-- Where an empty section `k` starts: the first multiple of 64 at or after the end of the one before it. -/
def emptyAt (bs : Bytes) (k : Nat) : Nat := ceilDiv (if k = 0 then 0x100 else secEnd bs (k - 1)) 64 * 64

/-- Whether the record count of section `k` is as R27 gives it. -/
def countOk (bs : Bytes) (k : Nat) : Bool :=
  let n := secLen bs k
  let l := beAt bs 0x1C 2
  let c := n / secRecSize k
  (n % secRecSize k == 0) &&
    (match k with
    | 0 => decide (c ≤ 65535)
    | 1 => c == 1024 * l
    | 2 => decide (c ≤ 4096)
    | 3 => decide (c ≤ 262144)
    | 4 => decide (c ≤ 65536)
    | 5 => decide (c ≤ 16384)
    | 6 => decide (c ≤ 8192)
    | 7 => decide (c ≤ 1024)
    | 8 => c == 32 * l
    | 9 => decide (c ≤ 1024)
    | _ =>
      let vs := variantRecs (n / 16 + 1) (secBytes bs 10)
      decide (vs.length ≤ 1024) && sumNat (vs.map variantLen) == n)

/-- Whether section `k` is not placed as R26 asks. -/
def placeBad (bs : Bytes) (k : Nat) : Bool :=
  secOff bs k % 64 ≠ 0 || secOff bs k < 0x100 || secEnd bs k > bs.length || (secLen bs k == 0 && secOff bs k != emptyAt bs k)
    || (List.range k).any fun j => secLen bs j != 0 && secLen bs k != 0 && secOff bs j < secEnd bs k && secOff bs k < secEnd bs j

/-- Sections whose placement or record count breaks R26 or R27. -/
def badSections (bs : Bytes) : List Nat := (List.range 11).filter fun k => placeBad bs k || !countOk bs k

/-- Whether bytes outside the header and the sections are not zero. -/
def paddingBad (bs : Bytes) : Bool :=
  let used := (0, 0x100) :: ((List.range 11).filter fun k => secLen bs k != 0).map fun k => (secOff bs k, secEnd bs k)
  let gaps := used.map fun u => (u.2, (used.filter fun v => v.1 ≥ u.2).foldl (fun m v => min m v.1) bs.length)
  gaps.any fun g => (slice bs g.1 (g.2 - g.1)).any (· != 0)

/-- R26 to R28. Bytes between and after the sections belong to no header field and no section; where they are not zero the model
logs a header failure with the offset of the directory, 0x30. DESIGN CHOICE, log entry 25. -/
def checkLayout (bs : Bytes) : List CheckFail :=
  let c := 0x0111
  let len := bs.length
  let bad := badSections bs
  (if beAt bs 8 4 ≠ len ∨ len % 64 ≠ 0 ∨ len > 268435456 ∨ len < 0x100 then [failHdr c 8]
    else if beAt bs 0x1C 2 < 1 ∨ beAt bs 0x1C 2 > 64 then [failHdr c 0x1C] else [])
    ++ bad.map (fun k => fail c k 0) ++ (if bad = [] && paddingBad bs then [failHdr c 0x30] else [])

/-- The image as the other checks read it: a section that breaks its placement or its count has no records. DESIGN CHOICE, log
entry 25. -/
def readable (bs : Bytes) : Bytes := (badSections bs).foldl (fun b k => splice b (0x34 + 8 * k) (List.replicate 4 0)) bs

/-! ### Reserved fields (R8) -/

/-- Whether a pattern entry keeps its reserved fields and codes (R29). -/
def entryClean (w : Nat) : Bool :=
  let k := bits w 28 4
  let o := bits w 0 18
  k ∈ [0, 1, 2, 4] && bits w 18 10 == 0 && (k == 1 || (k == 2 && o < 16384) || o == 0)

def patternClean (r : Bytes) : Bool :=
  ((List.range 480).all fun n => entryClean (beAt r (4 * n) 4)) && (r.drop 1920).all (· == 0)

def refClean (w : Nat) : Bool := bits w 16 15 == 0 && (!bit w 31 || bits w 0 16 == 0)

def recipeClean (r : Bytes) : Bool :=
  fld r 0 4 4 ∈ [1, 2, 3, 4, 5] && fld r 0 0 4 ≤ 5 && fld r 4 13 3 == 0 && fld r 8 28 4 ≤ 0xD && fld r 8 24 4 ≤ 0xD
    && fld r 8 22 2 != 3 && fld r 8 12 3 == 0 && fld r 0x14 0 12 == 0 && fld r 0x18 24 8 == 0 && fld r 0x24 0 20 == 0

def recordClean (k : Nat) (r : Bytes) : Bool :=
  match k with
  | 0 => patternClean r
  | 1 => (List.range 128).all fun b => refClean (beAt r (4 * b) 4)
  | 2 => fld r 0 9 7 == 0 && fld r 4 9 23 == 0 && fld r 8 29 3 == 0 && beAt r 0x0C 4 == 0
  | 3 => fld r 0 8 4 ≤ 1 && fld r 0x0C 0 22 == 0 && fld r 0x14 0 16 == 0 && beAt r 0x18 8 == 0
  | 4 => fld r 0 0 24 == 0 && (List.range 15).all fun i => fld r (4 * i + 4) 21 11 == 0 && fld r (4 * i + 4) 9 7 == 0
  | 5 => r.all (· == 0) || recipeClean r
  | 6 => fld r 0 0 2 ≤ 1 && fld r 4 2 14 == 0 && fld r 4 0 2 != 3 && beAt r 8 8 == 0
  | 7 => fld r 0x0C 1 31 == 0
  | 8 => fld r 0 2 14 == 0 && fld r 4 9 23 == 0
  | 9 => fld r 0 28 4 ∈ [1, 2, 3] && fld r 0 0 28 == 0 && fld r 4 16 16 == 0 && fld r 8 8 24 == 0 && fld r 0x0C 0 16 == 0 && beAt r 0x18 8 == 0
  | _ =>
    let n := beAt r 4 4
    fld r 0 0 16 == 0 && beAt r 8 8 == 0
      && ((List.range n).all fun i => fld r (16 + 8 * i) 7 9 == 0 && refClean (beAt r (20 + 8 * i) 4))
      && (r.drop (16 + 8 * n)).all (· == 0)

def checkReserved (bs : Bytes) : List CheckFail :=
  let c := 0x0112
  let hdr := if bits (beAt bs 0x18 4) 24 8 ≠ 0 then [failHdr c 0x18]
    else if beAt bs 0x1E 2 ≥ 2 then [failHdr c 0x1E]
    else if (slice bs 0x88 120).any (· != 0) then [failHdr c 0x88] else []
  hdr ++ ((List.range 10).flatMap fun k => failWhere c k (fun r => !recordClean k r) (secRecs bs k))
    ++ failWhere c 10 (fun r => !recordClean 10 r) (variantRecs ((secBytes bs 10).length / 16 + 1) (secBytes bs 10))

/-! ### Checks of the records against one another -/

def checkPosition (s : State) (img : Image) : List CheckFail :=
  if img.position = posFa s then [] else [failHdr 0x0113 0x18]

/-- A part that is STALE joins the fabric's epoch (R458); otherwise the epoch is serially after the active one. -/
def checkEpoch (s : State) (img : Image) : List CheckFail :=
  if s.rp.sync = .stale then (if fabricEpoch s = some img.epoch then [] else [failHdr 0x0114 0x0C])
  else if serialAfter 32 img.epoch (activeEpoch s) then [] else [failHdr 0x0114 0x0C]

/-- R53; a join image has no such bound (R458). -/
def checkLate (s : State) (img : Image) : List CheckFail :=
  if s.rp.sync = .stale then []
  else if img.frame < frameOf s + Cfg.TT_LOAD_LEAD_FRAMES s then [failHdr 0x0115 0x10]
  else match s.tt.active with
    | some a => if img.frame < a.frame + 3 then [failHdr 0x0115 0x10] else []
    | none => []

def sprayBad (img : Image) (bs : Bytes) (n : Nat) : Bool :=
  let r := (secRecs bs 4).getD n []
  let sp := sprayOf img n
  sp.count < 1 || sp.count > 15 || (firstRepeat 0 [] (sprayPorts sp)).isSome || (List.range 15).any (fun i => i ≥ sp.count && beAt r (4 * i + 4) 4 != 0)

def bindingBad (img : Image) (b : Binding) : Bool :=
  b.egress ≥ img.sprays.length || b.ingress ≥ img.sprays.length || b.dwell < 1 || b.window > 256 || b.bound < 1

/-- References of a schedule that are out of range, and flow entries off their egress spray set (R36). -/
def checkUses (code sec : Nat) (img : Image) (v : Nat) : List CheckFail :=
  ((allRefs img v).filter fun r => r.2.2 ≥ img.patterns.length).map (fun r => fail code sec r.1)
    ++ ((allUses img v).filter fun u => u.kind == 1
        && (img.binds[u.opd]?).any fun b => !sprayHas (sprayOf img b.egress) u.port u.lane).map (fun u => fail code sec u.tick)

/-- Whether a pattern names a binding or a recipe slot that the image does not hold. -/
def patternBad (img : Image) (p : SMap (Nat × Nat)) : Bool :=
  p.any fun e => (e.2.1 == 1 && e.2.2 ≥ img.binds.length) || (e.2.1 == 2 && (SMap.get? img.recipes e.2.2).isNone)

def checkReference (img : Image) (bs : Bytes) : List CheckFail :=
  let c := 0x0116
  failWhere c 0 (patternBad img) img.patterns ++ checkUses c 1 img 0 ++ failWhere c 3 (bindingBad img) img.binds
    ++ ((List.range img.sprays.length).filter (sprayBad img bs)).map fun n => fail c 4 n

def checkDuplicate (img : Image) : List CheckFail :=
  let c := 0x0117
  let f := fun sec (l : List Nat) (nos : List Nat) =>
    ((numbered l).filter fun x => (l.take x.1).contains x.2).map fun x => fail c sec (nos.getD x.1 x.1)
  f 3 (img.binds.map (·.flow)) [] ++ f 5 (img.recipes.map (·.2.coll)) (img.recipes.map (·.1)) ++ f 10 (img.variants.map (·.id)) []

/-- Whether two partitions share a lane-slot. -/
def partsMeet (a b : Partition) : Bool :=
  a.first ≤ b.last && b.first ≤ a.last && (a.lanes &&& b.lanes) != 0 && (a.slots &&& b.slots) != 0

/-- Job tag of a use's binding or recipe. -/
def useJob (img : Image) (u : Use) : Option Nat :=
  if u.kind = 1 then img.binds[u.opd]?.map (·.job) else if u.kind = 2 then (SMap.get? img.recipes u.opd).map (·.job) else none

def useCovered (img : Image) (u : Use) : Bool :=
  match useJob img u with
  | none => true
  | some j => img.parts.any fun p => p.job == j && p.first ≤ u.port && u.port ≤ p.last && bit p.lanes u.lane && bit p.slots u.slot

def checkCover (code sec : Nat) (img : Image) (v : Nat) : List CheckFail :=
  ((allUses img v).filter fun u => !useCovered img u).map fun u => fail code sec u.tick

def checkPartition (img : Image) : List CheckFail :=
  let c := 0x0118
  failWhere c 2 (fun p => p.job == 0 || p.first > p.last) img.parts
    ++ ((numbered img.parts).filter fun x => (img.parts.take x.1).any fun q => q.job != x.2.job && partsMeet q x.2).map (fun x => fail c 2 x.1)
    ++ failWhere c 3 (fun b => b.job == 0) img.binds
    ++ (img.recipes.filter fun r => r.2.job == 0).map (fun r => fail c 5 r.1)
    ++ failWhere c 6 (fun r => r.job == 0) img.chutes
    ++ checkCover c 1 img 0

/-- R57, `EV_TT_LANE_STATE`. A blank entry schedules nothing on a reserve lane: R40 asks for one on every lane of a port. DEDUCED, log
entry 61. -/
def checkLaneState (code sec : Nat) (s : State) (img : Image) (v : Nat) : List CheckFail :=
  ((allUses img v).filter fun u => portFormat s u.port != 1 || (u.lane == 4 && u.kind != 4 && !img.boost)).map fun u => fail code sec u.tick

/-! ### Loads (R37, R45, R193, R194) -/

/-- Add up amounts by key. -/
def sumBy (l : List (Nat × Nat)) : SMap Nat := l.foldl (fun m x => SMap.update 0 m x.1 (· + x.2)) []

/-- The first key whose sum exceeds a limit. -/
def overLimit (l : List (Nat × Nat)) (lim : Nat) : List Nat := ((sumBy l).filter fun x => x.2 > lim).map (·.1)

/-- Dies that hold a port of a spray set. -/
def sprayDies (sp : Spray) : List Nat := ((sprayPorts sp).map dieOf).eraseDups

/-- Chunks charged to recipes (R194): period tick, slot, recipe slot and number. -/
def charges (img : Image) (v : Nat) : List (Nat × Nat × Nat × Nat) :=
  let us := (allUses img v).filter fun u => u.kind == 2
  ((us.map fun u => (u.tick, u.slot, u.opd)).eraseDups).map fun k =>
    let same := us.filter fun u => u.tick == k.1 && u.slot == k.2.1 && u.opd == k.2.2
    (k.1, k.2.1, k.2.2, ((same.map (·.port)).eraseDups.map fun p => (same.filter fun u => u.port == p).length).foldl max 0)

/-- Units on the bridges: key ((tick × 24 + slot) × 4 + from) × 4 + to. -/
def bridgeUnits (img : Image) (v : Nat) : List (Nat × Nat) :=
  let key := fun t sl d e => ((t * 24 + sl) * 4 + d) * 4 + e
  let flows := (allUses img v).flatMap fun u =>
    if u.kind = 1 then
      match img.binds[u.opd]? with
      | some b => ((sprayDies (sprayOf img b.ingress)).filter (· != dieOf u.port)).map fun d => (key u.tick u.slot d (dieOf u.port), 1)
      | none => []
    else if u.kind = 2 then
      match SMap.get? img.recipes u.opd with
      | some r => let d := resultDie r u.port; if d = dieOf u.port then [] else [(key u.tick u.slot d (dieOf u.port), 1)]
      | none => []
    else []
  let trees := (charges img v).flatMap fun c =>
    match SMap.get? img.recipes c.2.2.1 with
    | none => []
    | some r => ((transfers r).filter fun t => t.1 / 32 != t.2.1 / 32).map fun t =>
        (key c.1 c.2.1 (t.1 / 32) (t.2.1 / 32), c.2.2.2 * xferUnits t.2.2)
  flows ++ trees

def checkBridge (code sec : Nat) (img : Image) (v : Nat) : List CheckFail :=
  ((overLimit (bridgeUnits img v) 240).map fun k => k / 16 / 24).eraseDups.map fun t => fail code sec t

def checkConservation (img : Image) : List CheckFail :=
  let us := (allUses img 0).filter fun u => u.kind == 1
  ((numbered img.binds).filter fun x =>
    (us.filter fun u => u.opd == x.1).length != x.2.pkts * (if x.2.multi then (sprayOf img x.2.egress).count else 1)).map
    fun x => fail 0x011B 3 x.1

/-- Combine counts: key tick × 128 + bench. -/
def combineUnits (img : Image) (v : Nat) : List (Nat × Nat) :=
  (charges img v).flatMap fun c => match SMap.get? img.recipes c.2.2.1 with
    | none => []
    | some r => (r.benches.filter (· < 128)).eraseDups.map fun b => (c.1 * 128 + b, c.2.2.2 * benchCombines r b)

/-- Crossbar units into benches (`out` false) or out of them: key tick × 128 + bench (R194). -/
def xbarUnits (out : Bool) (img : Image) (v : Nat) : List (Nat × Nat) :=
  let trees := (charges img v).flatMap fun c => match SMap.get? img.recipes c.2.2.1 with
    | none => []
    | some r => (transfers r).map fun t => (c.1 * 128 + (if out then t.1 else t.2.1), c.2.2.2 * xferUnits t.2.2)
  let flows := ((allUses img v).filter fun u => u.kind == 1).flatMap fun u =>
    if out then match img.binds[u.opd]? with
      | some b => (((sprayPorts (sprayOf img b.ingress)).map benchOf).eraseDups).map fun n => (u.tick * 128 + n, 1)
      | none => []
    else [(u.tick * 128 + benchOf u.port, 1)]
  trees ++ flows

def f32Ok (x : Nat) : Bool := bits x 23 8 != 255 && bits x 0 31 != 0

/-- Whether the operation and the formats combine (R179). -/
def opFormatsOk (r : Recipe) : Bool :=
  let noScale := !r.preOn && !r.postOn
  if r.op ≤ 2 && fmtFloat r.inFmt then fmtFloat r.outFmt && r.partialFmt ≤ 2
  else if r.op ≤ 2 then
    fmtInt r.inFmt && fmtInt r.outFmt && r.outFmt ≥ r.inFmt && noScale && r.partialFmt == 0
  else r.op ≤ 5 && fmtInt r.inFmt && r.outFmt == r.inFmt && noScale && r.partialFmt == 0

/-- Whether a recipe holds no reserved type, operation, format or partial code; one that does fails R8 alone (R193). -/
def codesOk (r : Recipe) : Bool := r.type ∈ [1, 2, 3, 4, 5] && r.op ≤ 5 && r.inFmt ≤ 0xD && r.outFmt ≤ 0xD && r.partialFmt ≤ 2

/-- Whether the operation, the formats and the type's own rules hold (R179, R192). -/
def typeOk (s : State) (r : Recipe) : Bool :=
  opFormatsOk r && match r.type with
  | 1 => r.ports.length ≥ 1
  | 2 => r.ports.length == 1
  | 3 => r.n == 1 && r.shift == 0 && r.op == 0 && r.inFmt == r.outFmt && !r.preOn && !r.postOn && !r.stochastic && r.partialFmt == 2
      && r.ports.length ≥ 1
  | 4 => r.elems == 0 && r.inFmt == 0 && r.outFmt == 0 && r.op == 0 && !r.stochastic && r.partialFmt == 0 && !r.preOn && !r.postOn
      && r.pre == 0 && r.post == 0 && r.ports.length ≥ 1
  | 5 => r.ports.length == 1 && bits r.fma 40 24 == posFa s && bits r.fma 0 40 + r.chunks * outBytes r ≤ 2 ^ 40
  | _ => false

/-- Whether block shift and bench list keep their rules. -/
def benchesOk (r : Recipe) : Bool :=
  let all := (List.range 128).map fun j => beAt r.raw (0x40 + j) 1
  let used := all.take (rBlocks r)
  r.shift ≤ 5 && rBlocks r ≤ 128 && used.all (· < 128) && used.eraseDups.length == used.length && (all.drop (rBlocks r)).all (· == 0xFF)

def payloadOk (r : Recipe) : Bool :=
  rBarrier r || ((match fmtBytes r.inFmt r.elems with | some n => n ≤ 984 | none => false)
    && (match fmtBytes r.outFmt r.elems with | some n => n ≤ 984 | none => false))

def recipeFieldsOk (r : Recipe) : Bool :=
  1 ≤ r.n && r.n ≤ 4096 && r.window ≥ 1 && r.dwell ≥ 1 && r.timeout ≥ 1 && r.chunks ≥ 1 && r.flow != 0
    && (if r.preOn then f32Ok r.pre else r.pre == 0) && (if r.postOn then f32Ok r.post else r.post == 0)
    && (r.stochastic || r.seed == 0)
    && (r.type == 5 || (r.gen == 0 && r.fma == 0 && r.key == 0))

/-- Failures of R193 that concern the recipe alone. -/
def checkRecipe (s : State) (slot : Nat) (r : Recipe) : List CheckFail :=
  let f := fun d (ok : Bool) => if ok then [] else [fail 0x011C 5 slot d]
  f 0x01 (!codesOk r || typeOk s r) ++ f 0x02 (benchesOk r) ++ f 0x03 (!codesOk r || payloadOk r)
    ++ f 0x04 (r.benches.all fun b => benchInputs r b ≤ 32) ++ f 0x09 (recipeFieldsOk r)

/-- Failures of R193 that concern the schedule. A bench over a limit of details 7 and 8 is reported for the first recipe charged
in that tick, else for the image's lowest recipe; an image without recipes has none to fail. -/
def checkRecipeUses (code : Nat) (sec : Option Nat) (img : Image) (v : Nat) : List CheckFail :=
  let us := (allUses img v).filter fun u => u.kind == 2
  let mk := fun slot d => match sec with | none => fail code 5 slot d | some n => fail code 10 n d
  let perRecipe := img.recipes.flatMap fun x =>
    let mine := us.filter fun u => u.opd == x.1
    (if mine.any fun u => !x.2.ports.contains u.port then [mk x.1 0x05] else [])
      ++ (if x.2.ports.any fun p => (mine.filter fun u => u.port == p).length != x.2.chunks then [mk x.1 0x06] else [])
  let lowest := ((img.recipes.map (·.1)).head?).getD 0
  let firstIn := fun t => ((charges img v).find? fun c => c.1 == t).map (·.2.2.1) |>.getD lowest
  if img.recipes.isEmpty then perRecipe else
  perRecipe
    ++ ((overLimit (combineUnits img v) 1258291).map fun k => mk (firstIn (k / 128)) 0x07)
    ++ ((overLimit (xbarUnits false img v) 750 ++ overLimit (xbarUnits true img v) 750).map fun k => mk (firstIn (k / 128)) 0x08)

/-- Load units: key window × 4 + die (R45). -/
def loadUnits (img : Image) (v : Nat) : SMap Nat :=
  sumBy ((allUses img v).flatMap fun u =>
    let k := fun d => u.tick / 128 * 4 + d
    if u.kind = 1 then
      (k (dieOf u.port), 1) :: (match img.binds[u.opd]? with
        | some b => (sprayDies (sprayOf img b.ingress)).map fun d => (k d, 1)
        | none => [])
    else if u.kind = 2 then [(k (dieOf u.port), 1)] else [])

/-- Declared load of a die in a window. -/
def declared (img : Image) (w d : Nat) : Nat := ((img.slews.find? fun x => x.window == w && x.die == d).map (·.load)).getD 0

def diffOver (a b lim : Nat) : Bool := a > b + lim || b > a + lim

/-- The declared load covers the computed one, by at most 8 more. -/
def checkLoad (code : Nat) (sec : Option Nat) (img : Image) (v : Nat) : List CheckFail :=
  let loads := loadUnits img v
  ((numbered img.slews).filter fun x =>
    let c := ceilDiv (SMap.getD loads (x.2.window * 4 + x.2.die) 0 * 256) 3145728
    x.2.load < c || x.2.load > c + 8).map fun x => match sec with | none => fail code 8 x.1 | some n => fail code 10 n

/-- Whether cross-image checks apply, and against which image (R54). -/
def crossImage (s : State) : Option Image := if s.rp.sync = .stale then none else s.tt.active

def checkSlewSwap (s : State) (img : Image) : List CheckFail :=
  match crossImage s with
  | none => []
  | some a =>
    let w := periodTick a (1024 * img.frame - 1) / 128
    ((List.range 4).filter fun d => diffOver (declared a w d) (declared img 0 d) 32).map fun d =>
      fail 0x011D 8 (((numbered img.slews).find? fun x => x.2.window == 0 && x.2.die == d).map (·.1) |>.getD 0)

def checkSlew (s : State) (img : Image) : List CheckFail :=
  let n := 8 * img.period
  failWhere 0x011D 8 (fun x => x.window ≥ n || x.load > 320) img.slews
    ++ ((numbered img.slews).filter fun x => (img.slews.take x.1).any fun y => y.window == x.2.window && y.die == x.2.die).map (fun x => fail 0x011D 8 x.1)
    ++ checkLoad 0x011D none img 0
    ++ ((numbered img.slews).filter fun x => diffOver x.2.load (declared img ((x.2.window + 1) % n) x.2.die) 32).map (fun x => fail 0x011D 8 x.1)
    ++ checkSlewSwap s img

/-! ### Chutes (R357) -/

/-- Whether every entry of a port's egress in a period tick is blank. -/
def egressBlank (img : Image) (v k port : Nat) : Bool :=
  (List.range 5).all fun l => (List.range 24).all fun sl => (entryAt img v k port l sl).1 == 4

/-- Configured FEC mode of a port as chutes use it (R351). -/
def chuteFec (s : State) (p : Nat) : Option Nat :=
  if portFormat s p = 1 then some (portFec s p) else if portFormat s p = 2 then some 2 else none

/-- Whether the records, run in order from the state at the period's end, ever set a set chute, clear a clear one, or
share a port; the record number. -/
def chuteOrder (img : Image) : List Nat :=
  let stepR := fun (acc : List (Nat × Nat × Nat) × List Nat) (x : Nat × ChuteRec) =>
    let c := (x.2.wing, x.2.i, x.2.j)
    if x.2.act = 1 then (acc.1.filter (· != c), if acc.1.contains c then acc.2 else acc.2 ++ [x.1])
    else (acc.1 ++ [c], if acc.1.any fun d => d.1 == c.1 && (d.2.1 == c.2.1 || d.2.2 == c.2.2) then acc.2 ++ [x.1] else acc.2)
  -- clears of a tick act before its sets
  let recs := (numbered img.chutes).mergeSort fun a b => a.2.tick * 2 + (1 - a.2.act) ≤ b.2.tick * 2 + (1 - b.2.act)
  (recs.foldl stepR (chutesAt img (1024 * img.period - 1), [])).2

/-- Details 0x04 and 0x05 for a record: the egress is not blank where the map needs it. -/
def chuteEgressBad (img : Image) (v : Nat) (c : ChuteRec) : Option Nat :=
  let p := c.wing * 32 + c.j
  let n := 1024 * img.period
  if !egressBlank img v ((c.tick + n - 1) % n) p then some 0x04
  else if c.act == 0 && (List.range n).any fun k => chuteSetAt img k c.wing c.i c.j && !egressBlank img v k p then some 0x05
  else none

/-- Detail 0x08: circuits whose state changes at the swap while the active image's last tick leaves the egress unblanked, under the
variant that is selected for that tick (R54). -/
def chuteSwapBad (s : State) (img : Image) : List (Nat × Nat × Nat) :=
  match crossImage s with
  | none => []
  | some a =>
    let k := periodTick a (1024 * img.frame - 1)
    ((chuteCircuits img ++ chuteCircuits a).eraseDups).filter fun c =>
      chuteSetAt img 0 c.1 c.2.1 c.2.2 != chuteSetAt a k c.1 c.2.1 c.2.2
        && !egressBlank a (variantAt s (1024 * img.frame - 1)) k (c.1 * 32 + c.2.2)

/-- Whether a lease is in force at some tick of frame `f`. -/
def leaseCovers (l : LeaseRec) (f : Nat) : Bool := l.start ≤ f && (l.len == 0 || f < l.start + l.len)

/-- The period frames that a lease touches from the activation frame on. -/
def leaseFrames (img : Image) (l : LeaseRec) : List Nat :=
  (List.range img.period).filter fun f => (List.range (if l.len = 0 then img.period else min l.len (2 * img.period) + 1)).any fun d =>
    let g := max l.start img.frame + d
    leaseCovers l g && (g - img.frame) % img.period == f

/-- Detail 0x09 for a record. -/
def chuteLeaseBad (img : Image) (c : ChuteRec) : Bool :=
  img.leases.any fun l => l.kind ≤ 2 && (l.subject == c.wing * 32 + c.i || l.subject == c.wing * 32 + c.j)
    && (leaseFrames img l).any fun f => (List.range 1024).any fun t =>
      chuteSetAt img (f * 1024 + t) c.wing c.i c.j || chuteBlankedAt img (f * 1024 + t) c.wing c.i c.j

/-- The first detail code that applies to a chute record (R357). -/
def chuteDetail (s : State) (img : Image) (n : Nat) (c : ChuteRec) : Option Nat :=
  if c.tick % 8 ≠ 0 ∨ c.tick ≥ 1024 * img.period ∨ (img.chutes.take n).any (fun d => d.tick > c.tick) then some 0x01
  else if c.i = c.j then some 0x02
  else if (chuteOrder img).contains n then some 0x03
  else match chuteEgressBad img 0 c with
    | some d => some d
    | none =>
      if chuteFec s (c.wing * 32 + c.i) ≠ some c.fec ∨ chuteFec s (c.wing * 32 + c.j) ≠ some c.fec then some 0x06
      else if !wingRoutes img c.wing then some 0x07
      else if (chuteSwapBad s img).contains (c.wing, c.i, c.j) then some 0x08
      else if chuteLeaseBad img c then some 0x09 else none

/-- Circuits of the active image alone whose chute ends at the swap with the egress unblanked: record 0. -/
def chuteSwapOld (s : State) (img : Image) : List CheckFail :=
  if (chuteSwapBad s img).any fun c => !(chuteCircuits img).contains c then [fail 0x011E 6 0 0x08] else []

def checkChute (s : State) (img : Image) : List CheckFail :=
  ((numbered img.chutes).filterMap fun x => (chuteDetail s img x.1 x.2).map fun d => fail 0x011E 6 x.1 d) ++ chuteSwapOld s img

/-! ### Leases (R46 to R48) -/

/-- Whether two leases are the same but for their length. -/
def leaseSame (a b : LeaseRec) : Bool := a.kind == b.kind && a.subject == b.subject && a.unit == b.unit && a.start == b.start

/-- Whether a lease of the active image is in force over the activation frame of the next one. -/
def leaseCarries (l : LeaseRec) (f : Nat) : Bool := l.len != 0 && l.start < f && f < l.start + l.len

def leasesMeet (a b : LeaseRec) : Bool :=
  (a.len == 0 || b.start < a.start + a.len) && (b.len == 0 || a.start < b.start + b.len)

/-- Whether every entry of the port's reserve lane that falls in the lease is idle or blank. -/
def leaseLaneIdle (img : Image) (v : Nat) (l : LeaseRec) : Bool :=
  l.kind == 3 || (leaseFrames img l).all fun f => (List.range 1024).all fun t => (List.range 24).all fun sl =>
    let k := (entryAt img v (f * 1024 + t) l.subject 4 sl).1
    k == 0 || k == 4

/-- Whether a lease of the next image continues one of the active image (R48, R466): one that is in force up to the swap, or over it. -/
def leaseContinues (s : State) (img : Image) (l : LeaseRec) : Bool :=
  match crossImage s with
  | some a => a.leases.any fun m => leaseSame m l && m.start < img.frame && (m.len == 0 || img.frame < m.start + m.len)
  | none => false

def leaseBad (s : State) (img : Image) (n : Nat) (l : LeaseRec) : Bool :=
  (l.kind ≤ 2 && (l.subject > 511 || l.unit > 3))
    || (l.kind == 3 && (l.subject > 127 || l.unit > 135 || l.unit / 34 != l.subject / 32))
    || (l.len == 0 && l.kind != 2)
    || !leaseLaneIdle img 0 l
    || (l.kind ≤ 2 && (img.leases.take n).any fun m => m.kind ≤ 2 && m.subject == l.subject && leasesMeet m l)
    || (l.kind == 3 && (img.leases.filter fun m => m.kind == 3 && m.unit / 34 == l.unit / 34 && leaseCovers m l.start).length > 2)
    || (l.kind == 3 && (physSlot s l.unit).state != .spare && !leaseContinues s img l)
    || (s.rp.sync != .stale && l.start < img.frame && !leaseContinues s img l)

/-- Leases of the active image that the next one must continue and does not. -/
def leaseDropped (s : State) (img : Image) : Bool :=
  match crossImage s with
  | none => false
  | some a => a.leases.any fun l => leaseCarries l img.frame && !img.leases.any fun m => leaseSame l m

def checkLease (s : State) (img : Image) : List CheckFail :=
  ((numbered img.leases).filter fun x => leaseBad s img x.1 x.2).map (fun x => fail 0x011F 9 x.1)
    ++ (if leaseDropped s img then [fail 0x011F 9 0] else [])

/-! ### Timed actions (R42, R43, R575) -/

/-- Entries of the timed-action table that are FREE (R90). -/
def actFree (s : State) : Nat := 1024 - s.ft.acts.length

/-- Whether a scalar value of a type fits its width, sign and range (R575). -/
def operandFits (e : Entry) (v : Nat) : Bool :=
  let w := 8 * e.size
  if e.ty ≤ 5 then v < 2 ^ w && e.lo ≤ v && (v : Int) ≤ e.hi && v &&& e.mask == v
  else if e.ty ≤ 9 then v == ofSigned 64 (toSigned w v) && e.lo ≤ toSigned w v && toSigned w v ≤ e.hi
  else if e.ty = 10 then v < 2 ^ 32 && bits v 23 8 != 255
  else false

/-- A DICT_WRITE's operand: entry and value. -/
def dictEntry (a : ActionRec) : Nat := a.operand >>> 104
def dictValue (a : ActionRec) : Nat := a.operand % 2 ^ 64

/-- Whether a timed-action record keeps the rules of R43 and R575, with the owning chapter's for its fire tick; `img` is the image
in force at that tick. -/
def actionRuleOk (s : State) (img : Option Image) (a : ActionRec) : Bool :=
  (if a.code = 1 ∨ a.code = 2 then a.job != 0 else a.job == 0) &&
    (match a.code with
    | 1 => a.operand == 0
    | 2 => a.operand == 0
    | 3 => a.operand == 0
    | 4 => a.operand % 2 ^ 112 == 0
    | 5 => bits a.operand 64 40 == 0 &&
        (match findEntry (dictEntry a) with
        | none => false
        | some e => (e.acc == 2 || e.acc == 3) && e.eff == 2 && e.ty ≤ 10 && operandFits e (dictValue a)
            && tickRule s e.id (dictValue a) a.fire && !atTickRefused s img e.id (dictValue a) a.fire)
    | _ => false)

def checkActions (s : State) (img : Image) : List CheckFail :=
  failWhere 0x0120 7 (fun a => a.fire < 1024 * img.frame || !actionRuleOk s (some img) a) img.actions
    ++ (if img.actions.length > actFree s then [fail 0x0120 7 0] else [])

/-! ### Variants and staging (R32, R49) -/

/-- The first failing check of a schedule under a variant. -/
def variantBad (s : State) (img : Image) (n : Nat) (w : Variant) : Bool :=
  w.id == 0 || w.overs.any (fun o => o.1 ≥ 1024 * img.period)
    || !(checkUses 0 0 img w.id ++ checkCover 0 0 img w.id ++ checkLaneState 0 0 s img w.id ++ checkBridge 0 0 img w.id
        ++ checkRecipeUses 0 (some n) img w.id ++ checkLoad 0 (some n) img w.id).isEmpty
    || img.chutes.any (fun c => (chuteEgressBad img w.id c).isSome) || img.leases.any (fun l => !leaseLaneIdle img w.id l)

def checkVariants (s : State) (img : Image) : List CheckFail :=
  ((numbered img.variants).filter fun x => variantBad s img x.1 x.2).map fun x => fail 0x0121 10 x.1

/-- Distinct patterns that a bench references in a frame of the period, with those of every variant. -/
def stagedPatterns (img : Image) (f b : Nat) : Nat :=
  ((((0 :: img.variants.map (·.id)).flatMap fun v => allRefs img v).filter fun r => r.1 / 1024 == f && r.2.1 == b).map (·.2.2)).eraseDups.length

def checkStaging (img : Image) : List CheckFail :=
  (List.range img.period).flatMap fun f =>
    if (List.range 128).any fun b => stagedPatterns img f b > 256 then [fail 0x0122 1 (f * 1024)] else []

/-! ### All of them -/

/-- The cross-image checks (R54), which a recheck repeats; the lane states are checked again too (R141). -/
def crossChecks (s : State) (img : Image) : List CheckFail :=
  checkLaneState 0x0119 1 s img 0 ++ checkSlewSwap s img ++ checkChute s img
    ++ (if leaseDropped s img then [fail 0x011F 9 0] else [])

/-- The part with the port configuration that pending writes will have put in force by a tick (R141). -/
def configAt (tick : Nat) (s : State) : State :=
  let old := tabBytes s E.PORT_CONFIG (List.replicate 512 [0, 0, 1, 0]).flatten
  let ws := (s.dx.pending.filter fun w => w.entry == E.PORT_CONFIG && w.tick.any (· ≤ tick)).mergeSort fun a b => a.tick.getD 0 ≤ b.tick.getD 0
  let ws := ws.filter fun w => !(ws.filter fun x => x.tick == w.tick).getLast?.any (· != w)
  if ws = [] then s else setTab E.PORT_CONFIG (ws.foldl (fun b w => splice b w.offset w.body) old) s

/-- Every failure of an image, in the order of R57: each check runs on every image, with the ports as they will be configured at
its activation frame (R141). -/
def imageFails (s : State) (bs digest : Bytes) : List CheckFail :=
  let rs := readable bs
  let img := parseImage rs digest
  let c := configAt (1024 * img.frame) s
  checkHeader s bs ++ checkLayout bs ++ checkReserved rs ++ checkPosition s img ++ checkEpoch s img ++ checkLate s img
    ++ checkReference img rs ++ checkDuplicate img ++ checkPartition img ++ checkLaneState 0x0119 1 c img 0
    ++ checkBridge 0x011A 1 img 0 ++ checkConservation img ++ (img.recipes.flatMap fun r => checkRecipe s r.1 r.2)
    ++ checkRecipeUses 0x011C none img 0 ++ checkSlew s img ++ checkChute c img ++ checkLease s img ++ checkActions s img
    ++ checkVariants c img ++ checkStaging img

end Sys2Proof.Machine
end

