-- ==== Sys2Proof/Machine/Capture.lean ====
section
/-! DEFINITION. Precise sampling (R520 to R522). -/
namespace Sys2Proof.Machine
open Sys2Proof

/-- Record of a sampler. -/
def samplerRec (s : State) (i : Nat) : Bytes := tabRec s E.TM_SAMPLER_CONFIG 32 i (List.replicate 32 0)

/-- Whether a packet on a VC matches a sampler's record (R520). -/
def samplerMatches (r : Bytes) (k : Packet) : Bool :=
  let w := beAt r 4 4
  bit (beAt r 0 4) 31
    && (bits w 28 4 == 0 || bit w (31 - pkVc k))
    && (!bit w 15 || bits w 16 8 == pkOp k)
    && (!bit w 14 || bits (beAt r 8 4) 12 20 == pkFlow k)
    && (!bit w 13 || beAt r 0xC 2 == pkJob k)
    && (!bit w 12 || (beAt r 0x10 4 &&& beAt r 0x14 4) % 2 ^ 24 == (pkSrc k &&& beAt r 0x14 4) % 2 ^ 24)
    && (!bit w 11 || (beAt r 0x18 4 &&& beAt r 0x1C 4) % 2 ^ 24 == (pkDest k &&& beAt r 0x1C 4) % 2 ^ 24)

/-- A stamp's 64 bits. -/
def stamp64 (z : Int) : Bytes := beBytes 8 (ofSigned 64 z)

/-- The part of a record known at ingress; `stamp` is the packet's corrected ingress time stamp (R521). -/
def capHead (s : State) (p lane i : Nat) (k : Packet) (stamp : Int) : Bytes :=
  let red := pkOp k ∈ [Op.RED_CONTRIB, Op.RED_RESULT, Op.BARRIER]
  padTo 32 k.bytes ++ beBytes 4 (i * 2 ^ 26 + p) ++ beBytes 4 (lane * 2 ^ 29) ++ beBytes 8 0
    ++ stamp64 stamp ++ beBytes 8 0 ++ beBytes 16 0
    ++ beBytes 4 (if red then pkColl k * 256 else 0) ++ beBytes 4 (if red then pkChunk k * 256 else 0)
    ++ beBytes 8 0 ++ beBytes 4 (activeEpoch s) ++ beBytes 4 0 ++ beBytes 8 0 ++ beBytes 16 0

/-- Count a packet that has passed step 3 of R143 in every sampler it matches, and capture it where a count comes due. -/
def capIngress (p lane id : Nat) (k : Packet) (stamp : Int) (s : State) : State :=
  if (SMap.get? s.dict.tabs E.TM_SAMPLER_CONFIG).isNone || p ≥ 512 then s
  else (List.range 64).foldl (fun s i =>
    let r := samplerRec s i
    if samplerMatches r k then
      let key := benchOf p * 64 + i
      let n := SMap.getD s.tm.matchCount key 0 + 1
      let s := { s with tm := { s.tm with matchCount := SMap.set s.tm.matchCount key n } }
      if n % max 1 (bits (beAt r 0 4) 0 24) = 0 then
        { s with tm := { s.tm with tracking := s.tm.tracking ++ [{ id := id, sampler := i, record := capHead s p lane i k stamp }] } }
      else s
    else s) s

/-- Write the VOQ depths that captures of a packet show. -/
def capDepth (id pkts blocks : Nat) (s : State) : State :=
  { s with tm := { s.tm with tracking := s.tm.tracking.map fun c =>
      if c.id = id then { c with record := splice c.record 0x40 (beBytes 4 pkts ++ beBytes 4 blocks) } else c } }

/-- Stage a record at its ingress bench, or lose it (R522). -/
def capStage (r : Bytes) (s : State) : State :=
  let b := benchOf (bits (beAt r 0x20 4) 0 9)
  if s.hl.power = .rest then s
  else if (s.tm.staged.filter fun x => x.1 == b).length ≥ 64 then
    accum Ev.TM_CAPTURE_LOST b [.u16 b] [1] none (count E.TM_CAPTURES_LOST 1 s)
  else { s with tm := { s.tm with staged := s.tm.staged ++ [(b, r)] } }

/-- Captures of a packet. -/
def capsOf (s : State) (id : Nat) : List Capture := s.tm.tracking.filter fun c => c.id == id

/-- No copy of the packet is left in the part. -/
def capForget (id : Nat) (s : State) : State :=
  { s with tm := { s.tm with tracking := s.tm.tracking.filter fun c => c.id != id } }

/-- Records of a copy that the part drops, under the event code of the rule that drops it. -/
def capDrop (id code : Nat) (s : State) : State :=
  (capsOf s id).foldl (fun s c =>
    if bit (beAt (samplerRec s c.sampler) 0 4) 30 then
      capStage (splice (splice c.record 0x20 (beBytes 4 (beAt c.record 0x20 4 + 2 ^ 24))) 0x24
        (beBytes 4 (beAt c.record 0x24 4 + code) ++ beBytes 8 s.clk.tick)) s
    else s) s

/-- Records of a packet that the part takes. -/
def capTaken (id : Nat) (s : State) : State :=
  capForget id ((capsOf s id).foldl (fun s c =>
    if bit (beAt (samplerRec s c.sampler) 0 4) 29 then
      capStage (splice (splice c.record 0x20 (beBytes 4 (beAt c.record 0x20 4 + 2 * 2 ^ 24))) 0x28 (beBytes 8 s.clk.tick)) s
    else s) s)

/-- Where and when a copy leaves, and what its record shows of its waits. -/
structure CapOut where
  port : Nat
  lane : Nat
  slot : Nat
  /-- Fabric time of the start in ps. -/
  at' : Nat
  /-- Resequencer hold and Q in ns; W in ps. -/
  hold : Nat := 0
  q : Nat := 0
  w : Nat := 0
  /-- Period tick, pattern number and entry of a scheduled departure. -/
  entry : Option (Nat × Nat × Nat) := none
deriving DecidableEq, Repr

/-- Records of a copy that leaves. -/
def capSent (id : Nat) (o : CapOut) (s : State) : State :=
  (capsOf s id).foldl (fun s c =>
    let r := splice c.record 0x20 (beBytes 4 (beAt c.record 0x20 4 + o.port * 2 ^ 9))
    let r := splice r 0x24 (beBytes 4 (beAt r 0x24 4 + o.lane * 2 ^ 26 + o.slot * 2 ^ 21) ++ beBytes 8 (o.at' / tickPs))
    let r := splice r 0x38 (stamp64 (stampOut s o.port o.at'))
    let r := splice r 0x48 (beBytes 4 o.hold ++ beBytes 4 o.q)
    let r := match o.entry with
      | some (k, pat, e) => splice r 0x58 (beBytes 2 k ++ beBytes 2 pat ++ beBytes 4 e)
      | none => r
    capStage (splice (splice r 0x60 (beBytes 4 (activeEpoch s))) 0x64 (beBytes 4 o.w)) s) s

/-- Place of a capture record, and the ring's capacity (R522). -/
def captureCap (s : State) : Nat := Cfg.TM_CAPTURE_RING_MIB s * 1048576 / 128

/-- Write one staged record into the ring. -/
def capWrite (r : Bytes) (s : State) : State :=
  let n := s.tm.captureSeq + 1
  let cap := captureCap s
  count E.TM_CAPTURES 1 { s with tm := { s.tm with
    captureSeq := n
    captures := SMap.set s.tm.captures ((n - 1) % cap) (splice r 0x68 (beBytes 8 n))
    captureLen := min cap (s.tm.captureLen + 1) } }

/-- Write up to 64 staged records, in order; in mode 1 the part stops when the ring is full. -/
def capWriteUp : Nat → State → State
  | 0, s => s
  | f + 1, s =>
    match s.tm.staged with
    | [] => s
    | (_, r) :: rest =>
      if Cfg.TM_CAPTURE_MODE s = 1 && s.tm.captureLen ≥ captureCap s then
        if s.tm.full then s else raise Ev.TM_CAPTURE_FULL [] { s with tm := { s.tm with full := true } }
      else capWriteUp f (capWrite r { s with tm := { s.tm with staged := rest } })

end Sys2Proof.Machine
end

