-- ==== Sys2Proof/Machine/OpenTraffic.lean ====
section
/-! DEFINITION. Shapers and policers (chapter 9). -/
namespace Sys2Proof.Machine
open Sys2Proof

/-! ### Shapers (R289 to R296) -/

/-- A shaper's configuration record (R291). -/
structure ShaperCfg where
  on : Bool
  full : Bool
  rate : Nat
  overhead : Nat
  depth : Nat
deriving DecidableEq, Repr

def parseShaper (w : Nat) : ShaperCfg :=
  { on := bit w 127, full := bit w 126, rate := bits w 96 20, overhead := bits w 88 8, depth := bits w 64 24 }

def shaperCfg (s : State) (n : Nat) : ShaperCfg := parseShaper (tabNum s E.OT_SHAPER_CONFIG 16 n 0)

def shaperZero : Shaper := { tokens := 0, last := 0, wheel := none }
def shaperOf (s : State) (n : Nat) : Shaper := SMap.getD s.ot.shapers n shaperZero
def setShaper (n : Nat) (v : Shaper) (s : State) : State := { s with ot := { s.ot with shapers := SMap.set s.ot.shapers n v } }

/-- Bytes (in 2^-16 B) that a rate gives in a time (in ps): r Mb/s is r ÷ 8,000 bytes a ns. -/
def gained (dt rate : Nat) : Nat := dt * rate * 65536 / 8000000

/-- `update(t)` of R292. Time never goes back: an instant that has been passed gains nothing. -/
def shaperUpdate (c : ShaperCfg) (x : Shaper) (t : Nat) : Shaper :=
  { x with tokens := min (c.depth * 65536 : Nat) (x.tokens + (gained (t - x.last) c.rate : Nat)), last := max t x.last }

/-- The first granule boundary at or after a time (R293). -/
def granuleUp (t : Nat) : Nat := ceilDiv t 10240 * 10240

/-- The time (ps) at which tokens reach zero. -/
def nextEligible (c : ShaperCfg) (x : Shaper) : Nat := x.last + ceilDiv ((-x.tokens).toNat * 8000000) (max c.rate 1 * 65536)

/-- Enter an ineligible shaper on the wheel. -/
def shaperWheel (c : ShaperCfg) (x : Shaper) : Shaper :=
  if x.tokens < 0 then { x with wheel := some (granuleUp (nextEligible c x)) } else { x with wheel := none }

/-- Charge a start of `l` bytes at `t` (R292). -/
def shaperCharge (c : ShaperCfg) (x : Shaper) (l t : Nat) : Shaper :=
  let x := shaperUpdate c x t
  shaperWheel c { x with tokens := x.tokens - (l * 65536 : Nat) }

/-- The shapers that a pair of egress port and VC names (R290): class, then group. -/
def pairShapers (s : State) (port vc : Nat) : List Nat :=
  let w := tabNum s E.OT_SHAPER_MAP 4 (3 * port + (vc - 1)) 0
  (if bit w 31 then [bits w 16 12] else []) ++ (if bit w 15 then [bits w 0 12] else [])

def pairOn (s : State) (port vc : Nat) : List Nat := (pairShapers s port vc).filter fun n => (shaperCfg s n).on

/-- Whether every enabled shaper of the pair is eligible. -/
def pairEligible (s : State) (port vc : Nat) : Bool := (pairOn s port vc).all fun n => (shaperOf s n).wheel.isNone

/-- Counted length of a packet on a port with an overhead (R289). -/
def countedLen (s : State) (port : Nat) (k : Packet) (overhead : Nat) : Nat :=
  (if portCell s port then 64 * cellsOf (pkWire k - 40) else pkWire k) + overhead

/-- Charge a packet that starts on a port to the shapers of its pair. -/
def chargePair (port vc : Nat) (k : Packet) (s : State) : State :=
  (pairOn s port vc).foldl (fun s n =>
    let c := shaperCfg s n
    setShaper n (shaperCharge c (shaperOf s n) (countedLen s port k c.overhead) (now s)) s) s

/-- SHAPER_WHEEL_EXPIRY (R293). -/
def execShaperWheelExpiry (n : Nat) (s : State) : Out :=
  runDue (SMap.get? s.ot.shapers n |>.bind (·.wheel))
    (fun s => let c := shaperCfg s n; setShaper n (shaperWheel c (shaperUpdate c (shaperOf s n) (now s))) s) s

/-- Start an enabled shaper afresh (R296, R310): tokens by its reset bit, the last update at the tick's boundary, off the wheel. -/
def shaperReset (n : Nat) (s : State) : State :=
  let c := shaperCfg s n
  if c.on then setShaper n { tokens := if c.full then (c.depth * 65536 : Nat) else 0, last := s.clk.tick * tickPs, wheel := none } s
  else { s with ot := { s.ot with shapers := SMap.erase s.ot.shapers n } }

/-! ### Policers (R297 to R299) -/

/-- A policer's configuration record (R297). -/
structure PolicerCfg where
  on : Bool
  full : Bool
  action : Nat
  rate : Nat
  overhead : Nat
  depth : Nat
  excess : Nat
deriving DecidableEq, Repr

def parsePolicer (w : Nat) : PolicerCfg :=
  { on := bit w 127, full := bit w 126, action := bits w 124 2, rate := bits w 96 20, overhead := bits w 88 8,
    depth := bits w 64 24, excess := bits w 32 24 }

def policerCfg (s : State) (n : Nat) : PolicerCfg := parsePolicer (tabNum s E.OT_POLICER_CONFIG 16 n 0)

def policerOf (s : State) (n : Nat) : Policer := SMap.getD s.ot.policers n { c := 0, e := 0, last := 0 }

/-- Outcomes of R299. -/
inductive PoliceOut where
  | conforming
  | exceeding
  | violating
deriving DecidableEq, Repr

/-- Judge `l` bytes at `t` (R299). Buckets are in 2^-16 B. -/
def policeJudge (g : PolicerCfg) (x : Policer) (l t : Nat) : Policer × PoliceOut :=
  let gain := gained (t - x.last) g.rate
  let room := g.depth * 65536 - x.c
  let c := x.c + min gain room
  let e := min (g.excess * 65536) (x.e + (gain - room))
  let l := l * 65536
  let last := max t x.last
  if c ≥ l then ({ c := c - l, e := e, last := last }, .conforming)
  else if g.action = 3 ∧ e ≥ l then ({ c := c, e := e - l, last := last }, .exceeding)
  else ({ c := c, e := e, last := last }, if g.action ≤ 1 then .exceeding else .violating)

/-- Start an enabled policer afresh. -/
def policerReset (n : Nat) (s : State) : State :=
  let g := policerCfg s n
  let x : Policer := { c := if g.full then g.depth * 65536 else 0, e := if g.full then g.excess * 65536 else 0, last := s.clk.tick * tickPs }
  if g.on then { s with ot := { s.ot with policers := SMap.set s.ot.policers n x } }
  else { s with ot := { s.ot with policers := SMap.erase s.ot.policers n } }

/-- The policer that a pair of ingress port and VC names (R298), if it is enabled. -/
def pairPolicer (s : State) (port vc : Nat) : Option Nat :=
  let w := tabNum s E.OT_POLICER_MAP 2 (3 * port + (vc - 1)) 0
  if bit w 15 && (policerCfg s (bits w 0 12)).on then some (bits w 0 12) else none

/-- Apply the policer of a packet's pair at its ingress time stamp: the packet as it goes on, or none where it is dropped. -/
def police (p vc at' : Nat) (k : Packet) (s : State) : State × Option Packet :=
  let a : OccAttr := { q := some (p % 4), vc := some vc, job := some (pkJob k) }
  let b := benchOf p
  match pairPolicer s p vc with
  | none => (tally E.OT_POLICE_CONFORM b 112 1 a s, some k)
  | some n =>
    let g := policerCfg s n
    let (x, o) := policeJudge g (policerOf s n) (countedLen s p k g.overhead) at'
    let s := { s with ot := { s.ot with policers := SMap.set s.ot.policers n x } }
    match o with
    | .conforming => (tally E.OT_POLICE_CONFORM b 112 1 a s, some k)
    | .exceeding => (tally E.OT_POLICE_MARKED b 113 1 a s, some (if g.action = 0 then k else pkSetK k))
    | .violating =>
      (accum Ev.OT_POLICER_DROP n [.u16 n, .u16 p] [1] none (tally E.OT_POLICE_DROPPED b 114 1 a s), none)

end Sys2Proof.Machine
end

