-- ==== Sys2Proof/Machine/Ptp.lean ====
section
/-! DEFINITION. IEEE 1588 messages as payloads (R73 to R79). The offsets of the message fields are those of
IEEE 1588-2019, which the manual names and does not restate. PRESUMED. -/
namespace Sys2Proof.Machine
open Sys2Proof

/-! ### Fields of a message in the payload of a packet -/

/-- Message type: 0 Sync, 1 Delay_Req, 2 Pdelay_Req, 3 Pdelay_Resp, 8 Follow_Up, 9 Delay_Resp, 11 Announce. -/
def ptpType (k : Packet) : Nat := bits (beAt k.bytes 32 1) 0 4
def ptpDomain (k : Packet) : Nat := beAt k.bytes 36 1
/-- Two-step flag. -/
def ptpTwoStep (k : Packet) : Bool := bit (beAt k.bytes 38 1) 1
/-- correctionField, in 2^-16 ns. -/
def ptpCorr (k : Packet) : Int := toSigned 64 (beAt k.bytes 40 8)
/-- clockIdentity of the sender. -/
def ptpClock (k : Packet) : Nat := beAt k.bytes 52 8
/-- Port number of the sender. -/
def ptpPortNo (k : Packet) : Nat := beAt k.bytes 60 2
def ptpSeq (k : Packet) : Nat := beAt k.bytes 62 2
/-- The time stamp that the body carries, in 2^-16 ns. -/
def ptpStamp (k : Packet) : Int := ((beAt k.bytes 66 6 * 1000000000 + beAt k.bytes 72 4) * 65536 : Nat)
/-- Identity of the port that a response answers. -/
def ptpReqClock (k : Packet) : Nat := beAt k.bytes 76 8
def ptpReqPort (k : Packet) : Nat := beAt k.bytes 84 2

/-- The time domain (0 A, 1 B) that a domainNumber names (R69). -/
def ptpOf (s : State) (k : Packet) : Option Nat :=
  if ptpDomain k = Cfg.FT_DOMAIN_NUMBER_A s then some 0
  else if ptpDomain k = Cfg.FT_DOMAIN_NUMBER_B s then some 1 else none

/-- Whether a domain's delay mechanism is peer-to-peer. -/
def ptpPeer (s : State) (d : Nat) : Bool := (if d = 0 then Cfg.FT_DELAY_MECH_A s else Cfg.FT_DELAY_MECH_B s) == 1

/-- Whether a packet carries a message of domain A or B that the part queues as a time message (R79). -/
def isTime (s : State) (k : Packet) : Bool := pkOp k == Op.PTP && (ptpOf s k).isSome

/-- Whether it carries an event message that the part corrects in flight. -/
def isEvent (s : State) (k : Packet) : Bool := isTime s k && ptpType k ≤ 3

/-- delayAsymmetry of a port in 2^-16 ns. -/
def portAsym (s : State) (p : Nat) : Int := toSigned 32 (tabNum s E.FT_PORT_ASYMMETRY 4 p 0)

/-- Set the correctionField, held to its largest value (R76). -/
def ptpSetCorr (k : Packet) (v : Int) : Packet := pkSet k 40 8 (ofSigned 64 (min v 0x7FFFFFFFFFFFFFFF))

/-- Note the stamp of an event message that the part takes (R73). -/
def noteStamp (p : Nat) (k : Packet) (stamp : Int) (s : State) : State :=
  if isEvent s k then { s with ft := { s.ft with stamps := s.ft.stamps ++ [(p, k, stamp)] } } else s

/-- The ingress stamp of a message for the part: that of its arrival, where it has been kept, and else of now. -/
def takenStamp (s : State) (p : Nat) (k : Packet) : Int :=
  ((s.ft.stamps.find? fun x => x.1 == p && x.2.1 == k).map (·.2.2)).getD (stampIn s p)

/-- A PTP message is acted on: it leaves the inbox, and its stamp goes. -/
def ptpTake (p : Nat) (k : Packet) (s : State) : State :=
  let s := fromInbox p k s
  { s with ft := { s.ft with stamps := s.ft.stamps.eraseP fun x => x.1 == p && x.2.1 == k } }

/-- Correct a forwarded event message (R76): its residence from the ingress stamp to the egress stamp, the link delay of
the ingress port on a Sync in peer-to-peer mode, and the asymmetry of the ingress port (Sync, Pdelay_Resp) or, taken
away, of the egress port (Delay_Req, Pdelay_Req). -/
def ptpCorrect (s : State) (k : Packet) (inPort outPort : Nat) (inAt outAt : Int) : Packet :=
  let d := (ptpOf s k).getD 0
  let t := ptpType k
  let link := if ptpPeer s d && t == 0 then ((SMap.get? s.ft.pdelay inPort).map (·.mean)).getD 0 else 0
  let asym := if t = 0 ∨ t = 3 then portAsym s inPort else -portAsym s outPort
  ptpSetCorr k (ptpCorr k + (outAt - inAt) + link + asym)

/-! ### Servos, and the messages the part itself sends -/

def servoOf (s : State) (d : Nat) : Servo := if d = 0 then s.ft.servoA else s.ft.servoB

def setServo (d : Nat) (f : Servo → Servo) (s : State) : State :=
  if d = 0 then { s with ft := { s.ft with servoA := f s.ft.servoA } } else { s with ft := { s.ft with servoB := f s.ft.servoB } }

def pdelayOf (s : State) (p : Nat) : Pdelay := SMap.getD s.ft.pdelay p { seq := 0, sent := none, held := none, mean := 0, nextAt := 0 }

def setPdelay (p : Nat) (f : Pdelay → Pdelay) (s : State) : State :=
  { s with ft := { s.ft with pdelay := SMap.set s.ft.pdelay p (f (pdelayOf s p)) } }

/-- PTP time of fabric time 0, in 2^-16 ns (R69). -/
def origin16 (s : State) : Int := (Cfg.FT_ORIGIN_SECONDS s * 1000000000 * 65536 : Nat)

/-- A PTP message of the part leaves on a port: its egress stamp is kept, or completes the turnaround time that a one-step
Pdelay_Resp carries (R78). -/
def ptpLeaves (p : Nat) (k : Packet) (s : State) : Packet × State :=
  if !isTime s k then (k, s)
  else
    let t := stampOut s p (now s) + origin16 s
    match ptpType k with
    | 1 => (k, setServo ((ptpOf s k).getD 0) (fun v => { v with req := some (ptpSeq k, t) }) s)
    | 2 => (k, setPdelay p (fun v => { v with sent := some t }) s)
    | 3 => (ptpSetCorr k (ptpCorr k + t), s)
    | _ => (k, s)

end Sys2Proof.Machine
end

