-- ==== Sys2Proof/Machine/Tables.lean ====
section
/-! DEFINITION. Forwarding tables and learning (chapter 8). -/
namespace Sys2Proof.Machine
open Sys2Proof

/-! ### Hashing and placement (R255, R256) -/

/-- The 64-bit mixing function of R255. -/
def mix (x : Nat) : Nat :=
  let x := (x ^^^ (x >>> 30)) * 0xBF58476D1CE4E5B9 % 2 ^ 64
  let x := (x ^^^ (x >>> 27)) * 0x94D049BB133111EB % 2 ^ 64
  x ^^^ (x >>> 31)

/-- Key of an LPM route. -/
def lpmKey (len prefix_ : Nat) : Nat := len * 2 ^ 24 + prefix_

/-- First place number of the two buckets of a key. -/
def hashBuckets (seed key : Nat) : Nat × Nat :=
  let h := mix (seed ^^^ key)
  let slice := h % 32
  let b1 := (h >>> 8) % 2560
  let b2 := (h >>> 32) % 2560
  let b2 := if b2 = b1 then (b1 + 1) % 2560 else b2
  ((slice * 2560 + b1) * 4, (slice * 2560 + b2) * 4)

/-- First free place of a bucket. -/
def freePlace (m : SMap Nat) (b : Nat) : Option Nat := ([b, b + 1, b + 2, b + 3]).find? fun p => (SMap.get? m p).isNone

/-- Displacements (R256): put `key` into a full bucket and move what was there on; at most 64. -/
def displace : Nat → Nat → Nat → SMap Nat → Nat → Nat → Option (SMap Nat)
  | 0, _, _, _, _, _ => none
  | f + 1, seed, n, m, key, b =>
    let pl := b + n % 4
    let old := SMap.getD m pl 0
    let m := SMap.set m pl key
    let (o1, o2) := hashBuckets seed old
    let other := if o1 = b then o2 else o1
    match freePlace m other with
    | some q => some (SMap.set m q old)
    | none => displace f seed (n + 1) m old other

/-- Whether a key has a place. -/
def hasPlace (m : SMap Nat) (key : Nat) : Bool := m.any fun e => e.2 == key

/-- Insert a key; none when the insertion fails. -/
def insertKey (seed : Nat) (m : SMap Nat) (key : Nat) : Option (SMap Nat) :=
  if hasPlace m key then some m
  else if m.length ≥ 262144 then none
  else
    let (b1, b2) := hashBuckets seed key
    match freePlace m b1 with
    | some q => some (SMap.set m q key)
    | none => match freePlace m b2 with
      | some q => some (SMap.set m q key)
      | none => displace 64 seed 0 m key b2

/-- Free a key's place. -/
def removeKey (m : SMap Nat) (key : Nat) : SMap Nat := m.filter fun e => e.2 != key

/-- An empty route set under its seeds. -/
def emptySet (lpm exact sel : Nat) : RouteSet :=
  { exact := [], lpm := [], hops := [], groups := [], seedLpm := lpm, seedExact := exact, seedSel := sel, unlearn := [],
    exactPlaces := [], lpmPlaces := [] }

/-! ### Lookups (R261 to R263, R269) -/

/-- The prefix of `d` of a length. -/
def prefixOf (d len : Nat) : Nat := d / 2 ^ (24 - len) * 2 ^ (24 - len)

/-- The length filter's word for an index: bit `l` for a route of length `l` whose first min(l, 12) bits agree. -/
def filterMask (rs : RouteSet) (idx : Nat) : List Nat :=
  (List.range 25).filter fun l => rs.lpm.any fun e =>
    e.1 / 2 ^ 24 == l && (let m := min l 12; (e.1 % 2 ^ 24) / 2 ^ (24 - m) == idx / 2 ^ (12 - m))

/-- What an entry names: next hop and safe next hop, 0 for none. -/
inductive RouteEntry where
  | route (hop safe : Nat)
  | learned (port : Nat)
deriving DecidableEq, Repr

/-- The entry that a destination finds in a route set (R261). -/
def lookupEntry (rs : RouteSet) (learned : SMap Learned) (d : Nat) : Option RouteEntry :=
  match SMap.get? rs.exact d with
  | some r => some (.route r.hop r.safe)
  | none => match SMap.get? learned d with
    | some l => some (.learned l.port)
    | none =>
      let hits := (filterMask rs (d / 2 ^ 12)).filterMap fun l => SMap.get? rs.lpm (lpmKey l (prefixOf d l))
      hits.getLast?.map fun r => .route r.hop r.safe

/-- The next hop that a number names in a set; unused numbers name nothing. -/
def hopOf (rs : RouteSet) (n : Nat) : Option Hop := if n = 0 then none else SMap.get? rs.hops n

/-- Next hop that an entry gives a VC, and its safe next hop. -/
def entryHop (rs : RouteSet) (e : RouteEntry) (vc : Nat) : Option Hop :=
  match e with
  | .learned p => some { kind := 1, ports := [p] }
  | .route h sf => hopOf rs (if vc = Vc.OC0 then h else sf)

def entrySafe (rs : RouteSet) (e : RouteEntry) : Option Hop := entryHop rs e Vc.OC1

/-- The attributes of a packet on a port. -/
def attrOf (p : Nat) (k : Packet) : OccAttr := { q := some (p % 4), vc := some (pkVc k), job := some (pkJob k) }

/-- A drop or pass counted by the device and by the ingress bench. -/
def tallyPort (e ev p : Nat) (k : Packet) (s : State) : State :=
  if p < 512 then tally e (benchOf p) ev 1 (attrOf p k) s else count e 1 s

/-- Choose an egress port from a next hop (R262); `p` is the ingress port, 512 for the part's own packets. -/
def selectPort (hop : Hop) (p : Nat) (k : Packet) (s : State) : State × Option Nat :=
  if hop.kind = 2 then (tallyPort E.TB_DISCARD_DROPS 100 p k s, none)
  else
    let c := hop.ports.filter fun q => portState s q != .down && portState s q != .disabled && q != p
    if c.isEmpty then
      if hop.ports.contains p then (tallyPort E.TB_HAIRPIN_DROPS 101 p k s, none)
      else (tallyPort E.DP_NO_EGRESS_DROPS 39 p k s, none)
    else
      let x := mix (s.tb.active.seedSel ^^^ (pkSrc k * 2 ^ 40 % 2 ^ 64) ^^^ (pkDest k * 2 ^ 20) ^^^ pkFlow k)
      (s, (c.drop (x % c.length)).head?)

/-! ### Stored words (R254, R257, R259, R260) -/

/-- Slice of a flow tag's index word (R257). -/
def tagFold (t : Nat) : Nat := bits t 0 5 ^^^ bits t 5 5 ^^^ bits t 10 5 ^^^ bits t 15 5

/-- Slice that holds a word (R254, R257). -/
def wordSlice (w : TableWord) : Nat := match w.table with
  | .exact | .lpm => w.place.key / 10240 % 32
  | .nextHop | .filter => w.place.slice.val
  | .group | .flowData => w.place.key % 32
  | .flowIndex => tagFold w.place.key

/-- The word that a place names: only tables with a copy in every slice tell copies apart. -/
def wordAt (die : Die) (t : TableKind) (p : WordPlace) : TableWord :=
  { die := die, table := t, place := if t = .nextHop || t = .filter then p else { p with slice := 0 } }

/-- Remove a learned entry from every die and both buffers. -/
def unlearn (fa : Nat) (s : State) : State :=
  let drop := fun (r : RouteSet) => if (SMap.get? r.exact fa).isSome then r else { r with exactPlaces := removeKey r.exactPlaces fa }
  { s with tb := { s.tb with learned := SMap.erase s.tb.learned fa, active := drop s.tb.active, shadow := drop s.tb.shadow } }

/-- The learned entry that a word holds, if it holds one. -/
def learnedIn (w : TableWord) (s : State) : Option Nat :=
  if w.table = .exact then
    let rs := if w.place.shadow then s.tb.shadow else s.tb.active
    (SMap.get? rs.exactPlaces w.place.key).filter fun fa => (SMap.get? rs.exact fa).isNone && (SMap.get? s.tb.learned fa).isSome
  else none

/-- A read finds a word in error (R259): it is counted at the bench whose slice holds it. -/
def eccRead (w : TableWord) (err : EccErr) (s : State) : State :=
  let b := 32 * w.die.val + wordSlice w
  let s := { s with tb := { s.tb with upset := s.tb.upset.filter fun u => u.1 != w } }
  match err with
  | .none => s
  | .corrected => tally E.TB_ECC_CORRECTED b 109 1 {} s
  | .unreadable =>
    let s := raiseOnce Ev.TB_ECC w.die [.u8 w.die] (tally E.TB_ECC_UNCORRECTED b 110 1 {} s)
    match learnedIn w s with
    | some fa => unlearn fa s
    | none => { s with tb := { s.tb with bad := addNew w s.tb.bad } }

/-- A lookup reads words of its die: errors that it meets are found, and it fails where a word cannot be read (R259). -/
def readWords (die : Nat) (ws : List (TableKind × WordPlace)) (s : State) : State × Bool :=
  let mine := fun (w : TableWord) => w.die.val == die && ws.contains (w.table, w.place)
  let s := (s.tb.upset.filter fun u => mine u.1).foldl (fun s u => eccRead u.1 u.2 s) s
  (s, s.tb.bad.any mine)

/-- The words that a probe of a hashed table reads: the eight places of the key's two buckets. -/
def probeWords (t : TableKind) (shadow : Bool) (seed key : Nat) : List (TableKind × WordPlace) :=
  let (a, b) := hashBuckets seed key
  [a, a + 1, a + 2, a + 3, b, b + 1, b + 2, b + 3].map fun n => (t, { shadow := shadow, key := n })

/-- A word of a table that every slice copies, as the ingress bench `b` reads it. -/
def copyWord (t : TableKind) (shadow : Bool) (b key : Nat) : TableKind × WordPlace :=
  (t, { shadow := shadow, slice := Fin.ofNat 32 b, key := key })

/-- The words of the exact, filter and LPM tables that a lookup of `d` reads (R261). -/
def lookupWords (rs : RouteSet) (shadow : Bool) (b d : Nat) : List (TableKind × WordPlace) :=
  probeWords .exact shadow rs.seedExact d ++ [copyWord .filter shadow b (d / 2 ^ 12)]
    ++ (filterMask rs (d / 2 ^ 12)).flatMap fun l => probeWords .lpm shadow rs.seedLpm (lpmKey l (prefixOf d l))

/-- The words that a flow-tag lookup reads in the active buffer: the index word, and the data word of the binding it names. -/
def flowWords (s : State) (flow : Nat) : List (TableKind × WordPlace) :=
  let n := s.tt.active.bind fun i => i.binds.findIdx? fun b => b.flow == flow
  (.flowIndex, { key := flow }) :: n.toList.map fun k => (.flowData, { key := k })

/-- Probes of a bench's die (R264). -/
def countProbes (b n : Nat) (a : OccAttr) (s : State) : State :=
  busyAdd (1024 + b / 32) n (if a.vc = some 0 then n else 0) (occ b 97 n a s)

/-- The route set that a packet's E bit selects (R269); none where the packet is dropped. -/
def chooseSet (p : Nat) (k : Packet) (s : State) : State × Option RouteSet :=
  if pkE k = eBit s then (s, some s.tb.active)
  else match s.tb.grace with
    | some g => (tallyPort E.TB_GRACE_FORWARDED 104 p k s, some g)
    | none =>
      (raiseOnce Ev.TB_EPOCH_DROP p [.u16 p, .u8 (pkE k)] (tallyPort E.TB_EPOCH_DROPS 103 p k s), none)

/-- Bench that looks a packet up: that of its ingress port; for packets of the part's own, bench 0. -/
def lookupBench (p : Nat) : Nat := if p < 512 then benchOf p else 0

/-- Whether a packet uses the grace set, which lies in the buffer of the shadow (R269). -/
def usesGrace (s : State) (k : Packet) : Bool := pkE k != eBit s

/-- Route an open packet: the egress port and the safe next hop kept for R126 (R261), or the event of the rule by which the lookup
drops it; 0 where the rule has none. -/
def routeLookup (p : Nat) (k : Packet) (vc : Nat) (rs : RouteSet) (s : State) : State × Except Nat (Nat × Option Hop) :=
  let d := pkDest k
  let b := lookupBench p
  let sh := usesGrace s k
  let probes := 1 + (filterMask rs (d / 2 ^ 12)).length
  let s := if p < 512 then countProbes b probes (attrOf p k) (occ b 96 1 (attrOf p k) s) else s
  match readWords (b / 32) (lookupWords rs sh b d) s with
  | (s, true) => (tallyPort E.TB_ECC_DROPS 111 p k s, .error Ev.TB_ECC)
  | (s, false) => match lookupEntry rs s.tb.learned d with
    | none => (raiseOnce Ev.TB_NO_ROUTE p [.u32 d, .u16 p] (tallyPort E.TB_NO_ROUTE 98 p k s), .error Ev.TB_NO_ROUTE)
    | some e =>
      let n := match e with | .route h sf => if vc = Vc.OC0 then h else sf | .learned _ => 0
      match readWords (b / 32) (if n = 0 then [] else [copyWord .nextHop sh b n]) s with
      | (s, true) => (tallyPort E.TB_ECC_DROPS 111 p k s, .error Ev.TB_ECC)
      | (s, false) => match entryHop rs e vc with
        | none => (tallyPort E.TB_NO_SAFE_ROUTE 99 p k s, .error 0)
        | some hop =>
          let (s, q) := selectPort hop p k s
          (s, match q with | some q => .ok (q, entrySafe rs e) | none => .error 0)

/-- The ports of a group for a packet (R263), or the event under which it is dropped. -/
def routeGroup (p : Nat) (k : Packet) (rs : RouteSet) (s : State) : State × Except Nat (List Nat) :=
  let g := pkDest k
  match readWords (lookupBench p / 32) (if g ≤ 16383 then [(.group, { shadow := usesGrace s k, key := g })] else []) s with
  | (s, true) => (tallyPort E.TB_ECC_DROPS 111 p k s, .error Ev.TB_ECC)
  | (s, false) => match (if g ≤ 16383 then SMap.get? rs.groups g else none) with
    | none => (tallyPort E.TB_NO_GROUP 102 p k s, .error 0)
    | some gr => (s, .ok (gr.ports.filter fun q => q != p || gr.reflect))

/-! ### Learning (R274, R275, R278) -/

/-- The age quantum counter. -/
def nowQ (s : State) : Nat := now s / 1000 / (Cfg.TB_AGE_QUANTUM_US s * 1000) % 65536

def ageOf (s : State) (l : Learned) : Nat := serialDist 16 (nowQ s) l.stamp

/-- Whether learning is enabled on a port. -/
def learnOn (s : State) (p : Nat) : Bool :=
  match SMap.get? s.dict.tabs E.TB_LEARN_PORTS with
  | some b => bit (beAt b (p / 8) 1) (p % 8)
  | none => true

/-- A failed insertion: the table's bit and the request to rehash (R272). Table 0 is LPM, 1 exact. -/
def rehashRequest (table occupancy : Nat) (s : State) : State :=
  raiseOnce Ev.TB_REHASH_REQUEST table [.u32 occupancy, .u8 table, .u8 0xFF]
    { s with tb := { s.tb with rehash := s.tb.rehash ||| 2 ^ table } }

/-- Bind an FA to a port now, in both buffers; a failed insertion makes no entry. -/
def bindLearned (fa port : Nat) (s : State) : Option State :=
  let stamp := nowQ s
  if (SMap.get? s.tb.learned fa).isSome then
    some { s with tb := { s.tb with learned := SMap.set s.tb.learned fa { port := port, stamp := stamp } } }
  else
    match insertKey s.tb.active.seedExact s.tb.active.exactPlaces fa, insertKey s.tb.shadow.seedExact s.tb.shadow.exactPlaces fa with
    | some a, some b =>
      some { s with tb := { s.tb with
        learned := SMap.set s.tb.learned fa { port := port, stamp := stamp }
        active := { s.tb.active with exactPlaces := a }
        shadow := { s.tb.shadow with exactPlaces := b } } }
    | _, _ => none

/-- Queue a creation or move on the packet's die, under the packet's ingress time stamp (R274, R283). -/
def learnQueue (fa p at' : Nat) (s : State) : State :=
  let die := p / 128
  if (s.tb.queue.filter fun r => r.port / 128 == die).length ≥ 1024 then
    raiseOnce Ev.TB_LEARN_OVERRUN die [.u8 die] (tally E.TB_LEARN_OVERRUNS (benchOf p) 108 1 {} s)
  else { s with tb := { s.tb with queue := s.tb.queue ++ [{ fa := fa, port := p, at' := at' }] } }

/-- A conflict: the entry stays with its port (R275). -/
def learnConflict (fa q p : Nat) (s : State) : State :=
  raiseOnce Ev.TB_LEARN_CONFLICT fa [.u32 fa, .u16 q, .u16 p] (tally E.TB_LEARN_CONFLICTS (benchOf p) 107 1 {} s)

/-- The source probe of a packet (R275) with ingress time stamp `at'`: a hit is written at once; creations and moves are queued. A
probe that meets a word it cannot read finds nothing: nothing is learned from that packet, and it is not dropped for it (DESIGN
CHOICE, log entry 20). -/
def learnProbe (p at' : Nat) (k : Packet) (s : State) : State :=
  let fa := pkSrc k
  if p ≥ 512 || !learnOn s p || fa = posFa s then s
  else match readWords (p / 128) (probeWords .exact false s.tb.active.seedExact fa) (countProbes (benchOf p) 1 (attrOf p k) s) with
    | (s, true) => s
    | (s, false) =>
      if (SMap.get? s.tb.active.exact fa).isSome then s
      else match SMap.get? s.tb.learned fa with
        | none => learnQueue fa p at' s
        | some l =>
          if l.port = p then { s with tb := { s.tb with learned := SMap.set s.tb.learned fa { l with stamp := nowQ s } } }
          else if ageOf s l < Cfg.TB_MOVE_HOLD s then learnConflict fa l.port p s
          else learnQueue fa p at' s

/-- Judge one queued creation or move against the entry as it now stands (R275). -/
def learnApply (r : LearnReq) (s : State) : State :=
  if (SMap.get? s.tb.active.exact r.fa).isSome then s
  else match SMap.get? s.tb.learned r.fa with
    | none =>
      match bindLearned r.fa r.port s with
      | some t => tally E.TB_LEARNS (benchOf r.port) 105 1 {} t
      | none => rehashRequest 1 s.tb.active.exactPlaces.length (count E.TB_LEARN_FAILS 1 s)
    | some l =>
      if l.port = r.port then { s with tb := { s.tb with learned := SMap.set s.tb.learned r.fa { l with stamp := nowQ s } } }
      else if ageOf s l < Cfg.TB_MOVE_HOLD s then learnConflict r.fa l.port r.port s
      else
        raise Ev.TB_LEARN_MOVE [.u32 r.fa, .u16 l.port, .u16 r.port]
          (tally E.TB_LEARN_MOVES (benchOf r.port) 106 1 {}
            { s with tb := { s.tb with learned := SMap.set s.tb.learned r.fa { port := r.port, stamp := nowQ s } } })

/-- The request that the sequencer takes next: earliest ingress time stamp, then lower port (R274). -/
def learnNext (q : List LearnReq) : Option LearnReq :=
  q.foldl (fun b r => match b with
    | none => some r
    | some x => if r.at' < x.at' || (r.at' == x.at' && r.port < x.port) then some r else some x) none

/-- LEARN_APPLY (R274). -/
def execLearnApply (s : State) : Out :=
  run (fun s => match learnNext s.tb.queue with
    | none => s
    | some r => learnApply r { s with tb := { s.tb with queue := s.tb.queue.erase r } }) s

/-- Every learned entry goes, with its places in both buffers (R281). -/
def unlearnAll (t : TbState) : TbState :=
  let drop := fun (r : RouteSet) => { r with exactPlaces := r.exactPlaces.filter fun e => (SMap.get? r.exact e.2).isSome }
  { t with learned := [], queue := [], active := drop t.active, shadow := drop t.shadow, grace := t.grace.map drop }

/-- AGE_SCAN (R278): the scanner visits the learned entry of an FA. -/
def execAgeScan (fa : FA) (s : State) : Out :=
  run (fun s => match SMap.get? s.tb.learned fa.toNat with
    | none => s
    | some l => if ageOf s l > Cfg.TB_AGE_LIMIT s then count E.TB_AGED_OUT 1 (unlearn fa.toNat s) else s) s

/-- SCRUB_VISIT (R260): the scrubber reads one word of either buffer; it finds what stands in the word, or what the command
says of it. -/
def execScrubVisit (die : Die) (table : TableKind) (place : WordPlace) (err : EccErr) (s : State) : Out :=
  run (fun s =>
    let w := wordAt die table place
    eccRead w (((s.tb.upset.find? fun u => u.1 == w).map (·.2)).getD err) s) s

/-- ECC_RELOAD_DONE (R259): the n-th unreadable word is reloaded from the backing store. -/
def execEccReloadDone (n : Nat) (s : State) : Out :=
  run (fun s => { s with tb := { s.tb with bad := listErase s.tb.bad n } }) s

/-- The two buffers of the route tables change places: `flow` for those of the flow-tag table, at a swap. -/
def buffersTurn (flow : Bool) (s : State) : State :=
  let turn := fun (w : TableWord) =>
    if (w.table == .flowIndex || w.table == .flowData) == flow then { w with place := { w.place with shadow := !w.place.shadow } } else w
  { s with tb := { s.tb with bad := s.tb.bad.map turn, upset := s.tb.upset.map fun u => (turn u.1, u.2) } }

/-- The shadow buffer of the route tables is written anew: no word of it stays in error. -/
def shadowFresh (s : State) : State :=
  let old := fun (w : TableWord) => w.place.shadow && w.table != .flowIndex && w.table != .flowData
  { s with tb := { s.tb with bad := s.tb.bad.filter fun w => !old w, upset := s.tb.upset.filter fun u => !old u.1 } }

/-! ### Route writes (R265 to R268, R273, R580) -/

/-- Why a route write is refused: reason of R580, record number, status and detail. -/
structure TbFail where
  reason : Nat
  record : Nat
  status : Nat
  detail : Nat
deriving DecidableEq, Repr

def tbRule (reason i : Nat) : TbFail := { reason := reason, record := i, status := St.REFUSED, detail := i }

/-- Bits of a record of a route write that are not reserved (R265, R266). -/
def tbMask (entry : Nat) : Bytes :=
  if entry = E.TB_LPM_WRITE then ones 4 ++ w32 0x80FFFFFF
  else if entry = E.TB_EXACT_WRITE then w32 0xFFFFFFF0 ++ w32 0x00FFFFFF
  else if entry = E.TB_NEXTHOP_WRITE then w32 0xFFFFF000 ++ (List.replicate 4 [0x1F, 0xF1, 0xFF]).flatten
  else w32 0xFFFFFF03 ++ w32 0 ++ ones 64

/-- Byte of a record that holds a reserved op or kind code. -/
def tbCode (entry : Nat) (r : Bytes) : Option Nat :=
  if entry = E.TB_NEXTHOP_WRITE then (if bits (beAt r 0 4) 16 4 > 2 then some 1 else none)
  else if entry = E.TB_GROUP_WRITE then none
  else if bits (beAt r 0 4) 28 4 = 1 || bits (beAt r 0 4) 28 4 = 2 then none else some 0

/-- First byte of a record that sets a reserved bit or holds a reserved code (R8). -/
def tbReserved (entry : Nat) (r : Bytes) : Option Nat := match maskBreak (tbMask entry) r, tbCode entry r with
  | some i, some j => some (min i j)
  | some i, none => some i
  | none, j => j

/-- Whether a field of a record lies outside the range that R265 or R266 gives it. -/
def tbRange (entry : Nat) (r : Bytes) : Bool :=
  let w := beAt r 0 8
  let x := beAt r 0 4
  if entry = E.TB_LPM_WRITE then bits w 55 5 > 24 || (bits w 60 4 == 1 && bits w 12 12 == 0)
  else if entry = E.TB_EXACT_WRITE then bits w 60 4 == 1 && bits w 12 12 == 0
  else if entry = E.TB_NEXTHOP_WRITE then
    bits x 20 12 == 0 || (if bits x 16 4 = 1 then bits x 12 4 < 1 || bits x 12 4 > 8 else bits x 12 4 != 0)
  else bits x 8 24 > 16383

/-- Port fields of a next-hop record, first to last. -/
def hopFields (r : Bytes) : List Nat := (List.range 8).map fun j => bits (beAt r 4 12) (84 - 12 * j) 12

/-- Whether a record breaks R265 or R266 otherwise. -/
def tbBroken (entry : Nat) (r : Bytes) : Bool :=
  let w := beAt r 0 8
  if entry = E.TB_LPM_WRITE then
    bits w 31 24 % 2 ^ (24 - bits w 55 5) != 0 || (bits w 60 4 == 2 && bits w 0 31 != 0)
  else if entry = E.TB_EXACT_WRITE then bits w 60 4 == 2 && bits w 0 36 != 0
  else if entry = E.TB_NEXTHOP_WRITE then ((hopFields r).drop (bits (beAt r 0 4) 12 4)).any (· != 0)
  else false

/-- The reason of R580 by which a record fails on its own: 2 where nothing but port fields above 511 is wrong with it. -/
def recordReason (entry : Nat) (r : Bytes) : Option Nat :=
  let portsOnly := entry == E.TB_NEXTHOP_WRITE && (maskBreak (w32 0xFFFFF000 ++ ones 12) r).isNone && (tbCode entry r).isNone
    && !tbRange entry r && !tbBroken entry r
  if (tbReserved entry r).isNone && !tbRange entry r && !tbBroken entry r then none else some (if portsOnly then 2 else 1)

/-- The failure of the records of a write on their own: the first failing record gives the reason and the number, and the first
status of R388 that any record draws is answered (R580). -/
def recordsFail (entry : Nat) (recs : List (Nat × Bytes)) : Option TbFail :=
  let size := recs.head?.elim 0 fun x => x.2.length
  let status : Nat × Nat := match recs.findSome? fun x => (tbReserved entry x.2).map fun i => size * x.1 + i with
    | some d => (St.RESERVED_SET, d)
    | none => match recs.find? fun x => tbRange entry x.2 with
      | some x => (St.OUT_OF_RANGE, x.1)
      | none => (St.REFUSED, ((recs.find? fun x => tbBroken entry x.2).map (·.1)).getD 0)
  recs.findSome? fun x => (recordReason entry x.2).map fun n => { reason := n, record := x.1, status := status.1, detail := status.2 }

/-- Bytes of a record of a route-write entry. -/
def tbRecSize (entry : Nat) : Nat := if entry = E.TB_NEXTHOP_WRITE then 16 else if entry = E.TB_GROUP_WRITE then 72 else 8

/-- Apply one record: the set after it, and whether its insertion found a place. -/
def applyRecord (entry : Nat) (rs : RouteSet) (r : Bytes) : RouteSet × Bool :=
  let w := beAt r 0 8
  if entry = E.TB_LPM_WRITE then
    let key := lpmKey (bits w 55 5) (bits w 31 24)
    if bits w 60 4 = 2 then ({ rs with lpm := SMap.erase rs.lpm key, lpmPlaces := removeKey rs.lpmPlaces key }, true)
    else
      let m := insertKey rs.seedLpm rs.lpmPlaces key
      ({ rs with lpm := SMap.set rs.lpm key { hop := bits w 12 12, safe := bits w 0 12 }, lpmPlaces := m.getD rs.lpmPlaces }, m.isSome)
  else if entry = E.TB_EXACT_WRITE then
    let fa := bits w 36 24
    if bits w 60 4 = 2 then
      ({ rs with exact := SMap.erase rs.exact fa, exactPlaces := removeKey rs.exactPlaces fa, unlearn := addNew fa rs.unlearn }, true)
    else
      let m := insertKey rs.seedExact rs.exactPlaces fa
      ({ rs with exact := SMap.set rs.exact fa { hop := bits w 12 12, safe := bits w 0 12 }, exactPlaces := m.getD rs.exactPlaces }, m.isSome)
  else if entry = E.TB_NEXTHOP_WRITE then
    let i := bits (beAt r 0 4) 20 12
    let kind := bits (beAt r 0 4) 16 4
    if kind = 0 then ({ rs with hops := SMap.erase rs.hops i }, true)
    else ({ rs with hops := SMap.set rs.hops i { kind := kind, ports := (hopFields r).take (bits (beAt r 0 4) 12 4) } }, true)
  else
    let g := bits (beAt r 0 4) 8 24
    let gr : Group := { reflect := bit (beAt r 0 4) 1, ports := (List.range 512).filter fun p => bit (beAt r (8 + p / 8) 1) (p % 8) }
    if bit (beAt r 0 4) 0 then ({ rs with groups := SMap.set rs.groups g gr }, true)
    else ({ rs with groups := SMap.erase rs.groups g }, true)

/-- Apply records in order: the set after them, and the number of the first whose insertion fails. -/
def applyRecords (entry : Nat) (rs : RouteSet) (recs : List (Nat × Bytes)) : RouteSet × Option Nat :=
  recs.foldl (fun a x =>
    let (rs, ok) := applyRecord entry a.1 x.2
    (rs, a.2 <|> if ok then none else some x.1)) (rs, none)

/-- Whether a route names a next hop that is unused. -/
def namesUnused (rs : RouteSet) (x : Route) : Bool := (hopOf rs x.hop).isNone || (x.safe != 0 && (hopOf rs x.safe).isNone)

/-- Whether a route of a set names a next hop. -/
def hopNamed (rs : RouteSet) (n : Nat) : Bool :=
  rs.lpm.any (fun e => e.2.hop == n || e.2.safe == n) || rs.exact.any fun e => e.2.hop == n || e.2.safe == n

/-- Whether a record gives the set after the write a route that names an unused next hop. -/
def recordUnused (entry : Nat) (rs : RouteSet) (r : Bytes) : Bool :=
  let w := beAt r 0 8
  let x : Route := { hop := bits w 12 12, safe := bits w 0 12 }
  if bits w 60 4 != 1 then false
  else if entry = E.TB_LPM_WRITE then SMap.get? rs.lpm (lpmKey (bits w 55 5) (bits w 31 24)) == some x && namesUnused rs x
  else if entry = E.TB_EXACT_WRITE then SMap.get? rs.exact (bits w 36 24) == some x && namesUnused rs x
  else false

/-- Whether a record deletes a next hop that a route of the set after the write still names. -/
def recordNamed (entry : Nat) (rs : RouteSet) (r : Bytes) : Bool :=
  let n := bits (beAt r 0 4) 20 12
  entry == E.TB_NEXTHOP_WRITE && bits (beAt r 0 4) 16 4 == 0 && (hopOf rs n).isNone && hopNamed rs n

/-- The failure with the lowest record number; of two on one record, the lower reason. -/
def firstFail (l : List (Option TbFail)) : Option TbFail :=
  (l.filterMap id).foldl (fun m f => match m with
    | none => some f
    | some g => if f.record < g.record then some f else some g) none

/-- A route write on a set: the set after it, or why it is refused whole (R267). -/
def routeWrite (entry : Nat) (body : Bytes) (rs : RouteSet) : Except TbFail RouteSet :=
  let recs := (List.range (body.length / tbRecSize entry)).zip (chunks (tbRecSize entry) body)
  match recordsFail entry recs with
  | some f => .error f
  | none =>
    let (rs', unplaced) := applyRecords entry rs recs
    match firstFail [(recs.find? fun x => recordUnused entry rs' x.2).map fun x => tbRule 3 x.1,
        (recs.find? fun x => recordNamed entry rs' x.2).map fun x => tbRule 4 x.1, unplaced.map (tbRule 5)] with
    | some f => .error f
    | none => .ok rs'

/-- Place every key of a list under a seed; the keys that find no place. -/
def placeAll (seed : Nat) (keys : List Nat) (m : SMap Nat) : SMap Nat × List Nat :=
  keys.foldl (fun a k => match insertKey seed a.1 k with | some m => (m, a.2) | none => (a.1, a.2 ++ [k])) (m, [])

/-- A seed write on a shadow (R273): the set and the learned entries lost; static routes that cannot be placed refuse it. -/
def seedWrite (body : Bytes) (learned : SMap Learned) (rs : RouteSet) : Except TbFail (RouteSet × List Nat) :=
  let sl := beAt body 0 8
  let se := beAt body 8 8
  let sx := beAt body 16 8
  let (lp, lbad) := if sl = rs.seedLpm then (rs.lpmPlaces, []) else placeAll sl (rs.lpm.map (·.1)) []
  if lbad ≠ [] then .error (tbRule 5 0)
  else
    let (ep, ebad) := if se = rs.seedExact then (rs.exactPlaces, []) else placeAll se (rs.exact.map (·.1)) []
    if ebad ≠ [] then .error (tbRule 5 1)
    else
      let (ep, lost) := if se = rs.seedExact then (ep, [])
        else placeAll se ((learned.map (·.1)).filter fun f => (SMap.get? rs.exact f).isNone && !rs.unlearn.contains f) ep
      .ok ({ rs with seedLpm := sl, seedExact := se, seedSel := sx, lpmPlaces := lp, exactPlaces := ep, unlearn := rs.unlearn ++ lost }, lost)

/-- One unit on a set. -/
def applyUnit (learned : SMap Learned) (w : TbWrite) (rs : RouteSet) : Except TbFail (RouteSet × List Nat) :=
  if w.seed then seedWrite w.body learned rs else (routeWrite w.entry w.body rs).map fun r => (r, [])

/-- The copy of the active set that a shadow starts from. -/
def shadowOf (rs : RouteSet) : RouteSet := { rs with unlearn := [] }

/-- The shadow as it will stand when everything that waits has been applied: what a new write is judged against. -/
def futureShadow (s : State) : RouteSet :=
  let base := if s.tb.grace.isSome || s.tb.copying then shadowOf s.tb.active else s.tb.shadow
  (s.tb.applying ++ s.tb.waiting).foldl (fun rs w => match applyUnit s.tb.learned w rs with | .ok r => r.1 | .error _ => rs) base

/-- Records in a write. -/
def unitRecords (w : TbWrite) : Nat := if w.seed then 3 else w.body.length / tbRecSize w.entry

/-- Whether a unit may start: no grace, no copy, and it ends before the boundary that a READY image names (R268). -/
def unitMayStart (s : State) (w : TbWrite) : Bool :=
  s.tb.grace.isNone && !s.tb.copying &&
    (match s.tt.next, s.tt.nextImage with
    | .ready, some i => now s + ceilDiv (unitRecords w) 256 * 1000000 ≤ i.frame * 1024 * tickPs
    | _, _ => true)

/-- Start the next unit if it may start. -/
def tbKick (s : State) : State :=
  match s.tb.applying, s.tb.waiting with
  | [], w :: r => if unitMayStart s w then { s with tb := { s.tb with applying := [w], waiting := r } } else s
  | _, _ => s

/-- The refusal's event, and the request to rehash where an insertion failed (R267, R272). -/
def tbRefuse (entry : Nat) (f : TbFail) (s : State) : State :=
  let s := if f.reason = 5 then
      let table := if entry = E.TB_LPM_WRITE || (entry = E.TB_SEED_NEXT && f.record = 0) then 0 else 1
      rehashRequest table (if table = 0 then s.tb.shadow.lpmPlaces.length else s.tb.shadow.exactPlaces.length) s
    else s
  raise Ev.TB_WRITE_REFUSED [.u32 f.record, .u8 f.reason] s

/-- Take a route write: judged now, applied to the shadow when its turn comes. -/
def tbTake (w : TbWrite) (s : State) : State × Option TbFail :=
  match applyUnit s.tb.learned w (futureShadow s) with
  | .error f => (tbRefuse w.entry f s, some f)
  | .ok _ => (tbKick { s with tb := { s.tb with waiting := s.tb.waiting ++ [w] } }, none)

/-- TB_WRITE_APPLY_DONE (R268): the unit being applied is in every die's shadow. -/
def execTbWriteApplyDone (s : State) : Out :=
  run (fun s =>
    let s := tbKick s
    match s.tb.applying with
    | [] => s
    | w :: _ =>
      let s' := { s with tb := { s.tb with applying := [] } }
      match applyUnit s.tb.learned w s.tb.shadow with
      | .error f => tbKick (tbRefuse w.entry f s')
      | .ok (rs, lost) =>
        let keep := (if beAt w.body 0 8 = s.tb.shadow.seedLpm then 1 else 0) + (if beAt w.body 8 8 = s.tb.shadow.seedExact then 2 else 0)
        let s' := { s' with tb := { s'.tb with
          shadow := rs
          rehash := if w.seed then s'.tb.rehash &&& keep else s'.tb.rehash } }
        let s' := if lost = [] then s' else count E.TB_REHASH_LOST_LEARNS lost.length s'
        tbKick (raise Ev.TB_WRITE_DONE [.u32 (w.entry * 256), .u32 (unitRecords w)] s')) s

/-- The switch of route sets at an epoch boundary (R269, R270); a join runs no grace (R458). -/
def routeSwitch (newEpoch oldEpoch : Nat) (join : Bool) (s : State) : State :=
  let new := s.tb.shadow
  let gone := new.unlearn ++ new.exact.map (·.1)
  let runGrace := !join && newEpoch % 2 != oldEpoch % 2
  { s with tb := { s.tb with
      active := shadowOf new
      shadow := s.tb.active
      learned := s.tb.learned.filter fun e => !gone.contains e.1
      grace := if runGrace then some s.tb.active else none
      graceEnd := frameOf s + 2
      copying := !runGrace
      waiting := s.tb.applying ++ s.tb.waiting
      applying := [] } }
  |> buffersTurn false

/-- GRACE_END (R269): at the second frame boundary after the epoch boundary. -/
def execGraceEnd (s : State) : Out :=
  runDue (s.tb.grace.map fun _ => s.tb.graceEnd * 1024 * tickPs)
    (fun s => { s with tb := { s.tb with grace := none, copying := true } }) s

/-- SHADOW_COPY_DONE (R268): the shadow holds the active set, and waiting writes start. -/
def execShadowCopyDone (s : State) : Out :=
  run (fun s => if s.tb.copying then tbKick (shadowFresh { s with tb := { s.tb with shadow := shadowOf s.tb.active, copying := false } }) else s) s

end Sys2Proof.Machine
end

