-- ==== Sys2Proof/Machine/Queues.lean ====
section
/-! DEFINITION. The queues of the bench datapath (chapter 5) and what leaves them: scheduled draws, the resequencer, open
starts, drops, and ports going down and up. -/
namespace Sys2Proof.Machine
open Sys2Proof

/-! ### Counting -/

/-- Count an event of 24 to 39 in its bench and in its per-lane form (R512). -/
def occLane (p l e n : Nat) (a : OccAttr) (s : State) : State :=
  occ (benchOf p) (256 + 16 * (5 * (p % 4) + l) + (e - 24)) n a (occ (benchOf p) e n a s)

/-- Count a per-port event (R512): 192 + 16q + k. -/
def occPort (p k n : Nat) (a : OccAttr) (s : State) : State := occ (benchOf p) (192 + 16 * (p % 4) + k) n a s

/-- A packet leaves on a lane. -/
def occSent (p l vc : Nat) (k : Packet) (s : State) : State :=
  let a : OccAttr := { q := some (p % 4), vc := some vc, job := some (pkJob k) }
  occPort p 2 1 a (occPort p 3 (pkWire k) a (occLane p l (24 + vc) 1 a (occLane p l (28 + vc) (pkWire k) a s)))

/-- Whether a cause of an event of a bench counts for the frame: one of a recipe that has caused the event at another bench in this
frame raises no second (R195). -/
def causeCounts (code b : Nat) (coll : Option Nat) (s : State) : Bool := match coll with
  | none => true
  | some c => (List.range 128).all fun x => x == b || !onceKey code (2 ^ 32 + c * 128 + x) s

/-- Note the cause of an event of a bench, so that it is raised at the frame's end. -/
def causeNote (code b : Nat) (coll : Option Nat) (s : State) : State :=
  if causeCounts code b coll s then
    let mine := (code, 2 ^ 31 + b) :: (coll.toList.map fun c => (code, 2 ^ 32 + c * 128 + b))
    { s with ev := { s.ev with once := mine.foldl (fun l x => addNew x l) s.ev.once } }
  else s

/-- A breach of R58, by its row; `coll` names the recipe of a contribution (R195). -/
def breachOf (coll : Option Nat) (row b : Nat) (a : OccAttr) (limit : Option Nat) (s : State) : State :=
  causeNote (Ev.SC_UNBOUND + row) b coll
    (accum (Ev.SC_UNBOUND + row) b [.u16 b, .idx s.clk.tick] [1] limit
      (tally (E.TT_BREACH_COUNT_00 + row) b (16 + row) 1 a s))

/-- A breach of R58 that no recipe causes. -/
def breach (row b : Nat) (a : OccAttr) (limit : Option Nat) (s : State) : State := breachOf none row b a limit s

/-- A row of R128 on a port: 0 header, 1 CRC, 2 stomped out, 3 stomped in, 4 format, 5 length, 6 control length, 7 hop. -/
def r128 (row p : Nat) (k : Packet) (s : State) : State :=
  let e := [E.PKT_HDR_DROPS, E.PKT_CRC_DROPS, E.PKT_STOMPED_OUT, E.PKT_STOMPED_IN, E.PKT_FORMAT_DROPS, E.PKT_FORMAT_DROPS,
    E.PKT_FORMAT_DROPS, E.PKT_HOP_DROPS].getD row 0
  let s := tally e (benchOf p) (8 + row) 1 (attrOf p k) s
  let s := if row = 2 then s else occPort p 6 1 (attrOf p k) s
  accum Ev.PKT_ERRORS p [.u16 p] ((List.range 8).map fun i => b2n (i == row)) (some E.PKT_ERROR_EVENT_LIMIT) s

/-! ### The crossbar and the bridges (R14, R151) -/

/-- What a packet from bench `a` to bench `b` crosses: the crossbar port into `b`, 128 + the crossbar port out of `a`, and between
dies 256 + 4 × the die it leaves + the die it reaches. -/
def crossings (a b : Nat) : List Nat := [b, 128 + a] ++ (if a / 32 = b / 32 then [] else [256 + 4 * (a / 32) + b / 32])

/-- Bytes that one of them takes in a lane-slot: 6.0 Tb/s × 40.96 ns for a crossbar port, 240 units of 1,024 B for a bridge. -/
def crossCap (r : Nat) : Nat := if r < 256 then 30720 else 245760

/-- Number of the running lane-slot: tick × 25 + slot. -/
def slotIndex (s : State) : Nat := s.clk.tick * 25 + min 24 (s.clk.ps / 40960)

/-- Whether what is on the way leaves no room for `n` bytes more in the running lane-slot. -/
def crossFull (s : State) (a b n : Nat) : Bool :=
  a < 128 && (crossings a b).any fun r => crossCap r < SMap.getD s.dp.cross (512 * slotIndex s + r) 0 + n

/-- `n` bytes cross in lane-slot `i`; `sc` for scheduled and crusher traffic. -/
def crossAdd (a b n i : Nat) (sc : Bool) (s : State) : State :=
  if a ≥ 128 then s
  else
    let s := { s with dp := { s.dp with cross := (crossings a b).foldl (fun m r =>
      SMap.set m (512 * i + r) (SMap.getD m (512 * i + r) 0 + n)) s.dp.cross } }
    let cycles := ceilDiv (4 * n) 1875
    let s := occCycles 128 162 b cycles sc (occCycles 256 164 a cycles sc s)
    if a / 32 = b / 32 then s else busyAdd (384 + 4 * (a / 32) + b / 32) n (if sc then n else 0) s

/-- Whether a copy of a packet has crossed to a bench: the bench's other ports share it (R155). -/
def hasCrossed (s : State) (id b : Nat) : Bool := s.dp.crossed.contains (id, b)

/-- A packet crosses to a bench, unless a copy of it has. -/
def crossOnce (id a b n i : Nat) (sc : Bool) (s : State) : State :=
  if hasCrossed s id b then s
  else crossAdd a b n i sc { s with dp := { s.dp with crossed := s.dp.crossed ++ [(id, b)] } }

/-! ### Storage (R142, R149) -/

/-- Blocks of a bench's queue pool in use. The copies of one multicast packet share their storage. -/
def poolUsed (s : State) (b : Nat) : Nat :=
  let mine := s.dp.openq.filter fun x => benchOf x.port == b
  let groups := (mine.filterMap fun x => x.parent.map fun g => (g, x.pooled)).foldl (fun m x => SMap.set m x.1 (max x.2 (SMap.getD m x.1 0))) []
  sumNat ((s.dp.sc.filter fun x => benchOf x.port == b).map (·.pooled))
    + sumNat ((mine.filter fun x => x.parent.isNone).map (·.pooled)) + sumNat (groups.map (·.2))

/-- Blocks that an arriving packet of `blocks` takes of the pool, after a VOQ whose packets hold these (pooled, all) blocks: what its
head has left of `DP_HEAD_BLOCKS`; none behind blocks in strata, and none where the pool has no room for the whole packet. -/
def poolTake (s : State) (b : Nat) (voq : List (Nat × Nat)) (blocks : Nat) : Nat :=
  if b ≥ 128 then blocks
  else if voq.any (fun x => x.1 < x.2) || poolUsed s b + blocks > 2976 then 0
  else min blocks (Cfg.DP_HEAD_BLOCKS s - sumNat (voq.map (·.1)))

/-- Blocks that a refill brings to a packet of `blocks` of which `have_` are in the pool, behind `ahead` pooled blocks of its VOQ. -/
def poolRefill (s : State) (b ahead have_ blocks : Nat) : Nat :=
  min (blocks - have_) (min (Cfg.DP_HEAD_BLOCKS s - ahead - have_) (2976 - poolUsed s b))

/-- Whether some of a packet's blocks lie in strata. -/
def ScPkt.inStrata (x : ScPkt) : Bool := x.pooled < pkBlocks x.pkt
def OpenPkt.inStrata (x : OpenPkt) : Bool := x.pooled < pkBlocks x.pkt

/-- Whether a packet cannot leave before a refill: fewer of its blocks are in the pool than a VOQ's head holds. -/
def ScPkt.waits (s : State) (x : ScPkt) : Bool := x.pooled < min (pkBlocks x.pkt) (Cfg.DP_HEAD_BLOCKS s)
def OpenPkt.waits (s : State) (x : OpenPkt) : Bool := x.pooled < min (pkBlocks x.pkt) (Cfg.DP_HEAD_BLOCKS s)

/-- Count a packet written to strata. -/
def countSpill (b : Nat) (a : OccAttr) (s : State) : State := tally E.DP_STRATA_SPILLS b 45 1 a s

/-! ### Multicast copies (R156) -/

/-- Copies of a multicast packet are dropped: `key` is its flow tag, or 2^20 + its group. -/
def mcastLoss (id key seq : Nat) (ports : List Nat) (s : State) : State :=
  if ports = [] then s
  else
    let s := ports.foldl (fun s p => tally E.DP_MCAST_COPY_DROPS (benchOf p) 44 1 {} s) s
    let mcast := if s.dp.mcast.any fun m => m.id == id then
        s.dp.mcast.map fun m => if m.id = id then { m with missed := m.missed ++ ports } else m
      else s.dp.mcast ++ [{ id := id, key := key, seq := seq, missed := ports }]
    { s with dp := { s.dp with mcast := mcast } }

/-- Whether the end of a packet has not come (R144). -/
def isCut (s : State) (id : Nat) : Bool := s.dp.cut.any fun c => c.id == id

/-- Report a packet that has lost copies, once the last of them is settled. -/
def mcastReport (id : Nat) (s : State) : State :=
  match s.dp.mcast.find? fun m => m.id == id with
  | none => s
  | some m =>
    raiseOnce Ev.DP_MCAST_PARTIAL m.key [.u32 (m.key % 2 ^ 20), .u16 m.seq, .units m.missed]
      (count E.DP_MCAST_PARTIAL 1 { s with dp := { s.dp with mcast := s.dp.mcast.filter fun m => m.id != id } })

/-- No copy of a packet is left. While its end has not come, its report waits: the end may stomp more copies. -/
def packetDone (id : Nat) (s : State) : State :=
  let s := if isCut s id then s else mcastReport id s
  capForget id { s with dp := { s.dp with crossed := s.dp.crossed.filter fun x => x.1 != id } }

/-! ### Scheduled queues (R146, R150, R153) -/

/-- Ports of a binding's egress spray set in an image. -/
def egressPorts (i : Image) (b : Binding) : List Nat := sprayPorts (sprayOf i b.egress)

/-- Order states of a binding: flow tag × 1,024, and + 1 + port for an egress port of a multicast binding. -/
def orderKey (b : Binding) (p : Nat) : Nat := b.flow * 1024 + (if b.multi then 1 + p else 0)
def orderZero : Order := { next := none, seen := [], emptySince := none }

/-- Whether a queued packet comes before another at a draw: earlier sequence, then the lower ingress port. -/
def scBefore (a b : ScPkt) : Bool := if a.seq = b.seq then a.port < b.port else serialAfter 16 b.seq a.seq

/-- The earliest of a list. -/
def scFirst (l : List ScPkt) : Option ScPkt :=
  l.foldl (fun m x => match m with
    | none => some x
    | some y => if scBefore x y then some x else some y) none

/-- Note that a flow's VOQs have become empty, or are no longer. -/
def orderIdle (flow : Nat) (s : State) : State :=
  let busy := s.dp.sc.any fun x => x.flow == flow
  { s with dp := { s.dp with orders := s.dp.orders.map fun o =>
      if o.1 / 1024 = flow then
        (o.1, { o.2 with emptySince := if busy then none else some (o.2.emptySince.getD (now s)) })
      else o } }

/-- Forget the order states of a binding (R153, R169). -/
def orderUnset (flow : Nat) (s : State) : State :=
  { s with dp := { s.dp with orders := s.dp.orders.filter fun o => o.1 / 1024 != flow } }

/-- Drop every queued scheduled packet that satisfies `which`: `note` counts each, `loss` the copies it takes with it. -/
def scDropWith (loss : ScPkt → State → State) (which : ScPkt → Bool) (code : Nat) (note : ScPkt → State → State) (s : State) : State :=
  let gone := s.dp.sc.filter which
  let s := { s with dp := { s.dp with sc := s.dp.sc.filter fun x => !which x } }
  gone.foldl (fun s x => orderIdle x.flow (packetDone x.id (capDrop x.id code (loss x (note x s))))) s

/-- Drop queued scheduled packets; copies of multicast packets that go with them are lost (R156). -/
def scDrop (which : ScPkt → Bool) (code : Nat) (note : ScPkt → State → State) (s : State) : State :=
  scDropWith (fun x s => mcastLoss x.id x.flow x.seq x.left s) which code note s

/-- Drop queued scheduled packets for a reason that counts them alone (R168, R169). -/
def scPurge (which : ScPkt → Bool) (note : ScPkt → State → State) (s : State) : State := scDropWith (fun _ s => s) which 0 note s

/-- Enqueue a scheduled packet of a binding; dropped where a bound would be exceeded (R146). -/
def scEnqueue (i : Image) (b : Binding) (id port lane : Nat) (k : Packet) (s : State) : State :=
  let bench := benchOf port
  let mine := s.dp.sc.filter fun x => benchOf x.port == bench
  let voq := mine.filter fun x => x.flow == b.flow
  let blocks := sumNat (mine.map fun x => pkBlocks x.pkt)
  let a := attrOf port k
  if voq.length ≥ b.bound || blocks + pkBlocks k > i.voqKib * 4 then
    packetDone id (capDrop id Ev.SC_VOQ_BOUND (breach 2 bench a none s))
  else
    let vb := sumNat (voq.map fun x => pkBlocks x.pkt)
    let take := poolTake s bench (voq.map fun x => (x.pooled, pkBlocks x.pkt)) (pkBlocks k)
    let s := if take < pkBlocks k then countSpill bench a s else s
    let s := capDepth id voq.length vb s
    let x : ScPkt :=
      { id := id, pkt := k, flow := b.flow, job := pkJob k, seq := pkSeq k, port := port, lane := lane, ready := now s,
        deadline := s.clk.tick + b.dwell, left := if b.multi then egressPorts i b else [], pooled := take }
    orderIdle b.flow { s with dp := { s.dp with sc := s.dp.sc ++ [x] } }

/-- Ports of a binding that are in service. -/
def bindingUp (s : State) (i : Image) (b : Binding) : Bool := (egressPorts i b).any fun p => portUp s p

/-! ### Draws -/

/-- A flow entry that its port and lane cannot serve (R157, R313, R335). -/
def entryLost (p l : Nat) (s : State) : State :=
  let s := occPort p 5 1 {} (occLane p l 37 1 {} (count E.DP_ENTRIES_LOST 1 s))
  if l = 4 && portUp s p then
    raiseOnce Ev.OP_BOOST_YIELD p [.u16 p] (tally E.OP_BOOST_YIELDED (benchOf p) 136 1 {} s)
  else s

/-- Lend a lane-slot to open traffic (R30). -/
def lend (p l t slot : Nat) (s : State) : State :=
  { s with dp := { s.dp with lent := s.dp.lent ++ [(p * 5 + l, t * 25 + slot)] } }

/-- What the resequencer decides of a candidate (R153). -/
inductive Decision where
  /-- Draw it; numbers passed over, and whether it is late. -/
  | draw (skipped : Nat) (late : Bool)
  | hold
deriving DecidableEq, Repr

/-- The rule of R153: `next` before, the candidate's number, how long it has been the candidate and the hold (ps), the
window. -/
def decide153 (next : Option Nat) (seq waited hold window : Nat) : Decision :=
  let n := next.getD seq
  let ahead := serialDist 16 seq n
  if ahead = 0 then .draw 0 false
  else if 2 ^ 15 ≤ ahead then .draw 0 true
  else if ahead ≥ window ∨ waited ≥ hold then .draw ahead false
  else .hold

/-- Take the copy for a port out of its queue (R155). -/
def takeCopy (x : ScPkt) (p : Nat) (s : State) : State :=
  let left := x.left.filter fun q => q != p
  let sc := if left.isEmpty then s.dp.sc.filter fun y => y.id != x.id
    else s.dp.sc.map fun y => if y.id = x.id then { y with left := left } else y
  { s with dp := { s.dp with sc := sc } }

/-- Draw a candidate for a lane-slot. -/
def drawPacket (x : ScPkt) (p l t slot lead hold : Nat) (s : State) : State :=
  let s := takeCopy x p s
  let d : Drawn := { port := p, lane := l, tick := t, slot := slot, pkt := x.pkt, id := x.id, transit := x.lane < 5,
                     ready := x.ready, lead := lead, hold := hold }
  let s := crossOnce x.id (benchOf x.port) (benchOf p) (pkWire x.pkt) (t * 25 + slot) true s
  orderIdle x.flow (count E.DP_SC_DRAWN 1 { s with dp := { s.dp with drawn := s.dp.drawn ++ [d] } })

/-- Whether the queue pool has no room for the blocks of a packet in strata. -/
def poolFull (s : State) (x : ScPkt) : Bool := poolUsed s (benchOf x.port) + (pkBlocks x.pkt - x.pooled) > 2976

/-- Whether a packet's refill from strata is late for a draw: never for the next packet of its binding in sequence while the pool
has room (R149, R173). -/
def refillLate (s : State) (x : ScPkt) (o : Order) : Bool := x.waits s && (poolFull s x || o.next.getD x.seq != x.seq)

/-- Keep what an order state has learned of its candidate: the number expected next, and since when it is the candidate. -/
def orderSee (key : Nat) (o : Order) (x : ScPkt) (since : Nat) (counted : Bool) (s : State) : State :=
  let o' : Order := { o with next := some (o.next.getD x.seq), seen := (o.seen.filter fun e => e.1 != x.id) ++ [(x.id, since, counted)] }
  { s with dp := { s.dp with orders := SMap.set s.dp.orders key o' } }

/-- The draw of a flow entry (R145, R150, R153) for a lane-slot of tick `t`. A packet whose deadline tick has begun by then is no
candidate (R161): its drop leaves the gap that the draw passes. -/
def scDraw (i : Image) (b : Binding) (p l t slot : Nat) (s : State) : State :=
  let begin_ := slotStart t slot
  let all := if gateOf s b == .openn then
      s.dp.sc.filter fun x => x.flow == b.flow && t < x.deadline && (!b.multi || x.left.contains p) else []
  match scFirst (all.filter fun x => x.ready + pathLead x.port p ≤ begin_) with
  | none => lend p l t slot (breach 4 (benchOf p) { q := some (p % 4), vc := some 0, job := some b.job } (some E.TT_UNDERRUN_EVENT_LIMIT) s)
  | some x =>
    let key := orderKey b p
    let o := SMap.getD s.dp.orders key orderZero
    let lead := pathLead x.port p
    let at' := begin_ - lead
    let since := ((o.seen.find? fun e => e.1 == x.id).map (·.2.1)).getD at'
    let counted := ((o.seen.find? fun e => e.1 == x.id).map (·.2.2)).getD false
    let holdNs := if b.hold = 0 then Cfg.DP_RESEQ_HOLD_NS s else b.hold
    let window := if b.window = 0 then Cfg.DP_RESEQ_WINDOW s else b.window
    let bench := if b.multi then benchOf p else benchOf ((egressPorts i b).headD p)
    let a : OccAttr := { vc := some 0, job := some b.job }
    match decide153 o.next x.seq (at' - since) (holdNs * 1000) window with
    | .hold => lend p l t slot (if counted then orderSee key o x since true s else tally E.DP_RESEQ_HOLDS bench 40 1 a (orderSee key o x since true s))
    | .draw skipped late =>
      if refillLate s x o then
        lend p l t slot (orderSee key o x since counted (if poolFull s x then countSpill (benchOf x.port) (attrOf x.port x.pkt) s else s))
      else
        let next := if late then o.next.getD x.seq else (x.seq + 1) % 2 ^ 16
        let o' : Order := { o with next := some next, seen := o.seen.filter fun e => e.1 != x.id }
        let s := { s with dp := { s.dp with orders := SMap.set s.dp.orders key o' } }
        let s := if late then tally E.DP_RESEQ_LATE bench 42 1 a s else s
        let s := if skipped = 0 then s else
          accum Ev.DP_RESEQ_TIMEOUT bench [.u16 bench, .u32 b.flow] [1] (some E.DP_RESEQ_EVENT_LIMIT)
            (tally E.DP_RESEQ_TIMEOUTS bench 41 1 a (tally E.DP_RESEQ_SKIPPED bench 43 skipped a s))
        drawPacket x p l t slot lead ((at' - since) / 1000) s

/-- The tick of the lane-slot that a draw commanded now is for: the next start of that slot. -/
def drawTick (s : State) (slot : Nat) : Nat := if s.clk.ps ≤ slot * 40960 then s.clk.tick else s.clk.tick + 1

/-- Whether the flow entry of a lane-slot has been served: a packet drawn, the lane-slot lent, or the entry lost. -/
def entryServed (s : State) (p l t slot : Nat) : Bool :=
  s.dp.drawn.any (fun d => d.port == p && d.lane == l && d.tick == t && d.slot == slot)
    || s.dp.lent.contains (p * 5 + l, t * 25 + slot) || s.dp.lost.contains (p * 5 + l, t * 25 + slot)

/-- Serve the flow entry of a lane-slot. -/
def serveEntry (i : Image) (b : Binding) (p l t slot : Nat) (s : State) : State :=
  if entryServed s p l t slot || darkOut s t p then s
  else if !portUp s p || (servingLane s p l).isNone then
    entryLost p l { s with dp := { s.dp with lost := s.dp.lost ++ [(p * 5 + l, t * 25 + slot)] } }
  else scDraw i b p l t slot s

/-- Flow entries that the order state of a binding's entry serves before it, of the lane-slots whose draws are on: those of an
earlier slot start that has not come, then of a lower port, then of a lower lane (R150). -/
def entriesBefore (s : State) (i : Image) (b : Binding) (opd p l t slot : Nat) : List (Nat × Nat × Nat × Nat) :=
  let ports := if b.multi then [p] else (egressPorts i b).mergeSort (· ≤ ·)
  let here := t * 25 + slot
  (((List.range 3).map fun k => here + k - 2).filter fun n => n % 25 < 24 && now s ≤ slotStart (n / 25) (n % 25)).flatMap fun n =>
    (ports.flatMap fun q => (List.range 5).map fun m => (q, m, n / 25, n % 25)).filter fun e =>
      (n < here || e.1 < p || (e.1 = p && e.2.1 < l)) && entryIn s e.2.2.1 e.1 e.2.1 e.2.2.2 == (1, opd)

/-- SC_DRAW (R150): the flow entry of a lane-slot draws at its lead, after the entries that its order state serves first. -/
def execScDraw (p : Port) (l : Lane) (sl : Slot) (s : State) : Out :=
  run (fun s =>
    let t := drawTick s sl
    let (kind, opd) := entryIn s t p l sl
    if !dpLive s || kind != 1 || !(s.rp.sync == .current || s.rp.sync == .withdrawing) then s
    else match (imageAt s t).bind fun i => (i.1.binds.drop opd).head?.map fun b => (i.1, b) with
      | none => s
      | some (i, b) =>
        serveEntry i b p l t sl ((entriesBefore s i b opd p l t sl).foldl (fun s e => serveEntry i b e.1 e.2.1 e.2.2.1 e.2.2.2 s) s)) s

/-! ### What leaves on a lane -/

/-- Send on a wire lane; in the duplicate tick of a move the reserve lane carries a copy (R327). -/
def emitOn (p l : Nat) (k : Packet) (s : State) : State :=
  let s := emit (.packet p l k) s
  if l < 4 && laneSt s p 0 l == .inService && reserveHeld s p 0 == .carrying l then emit (.packet p 4 k) s else s

/-- The form in which a packet leaves (R113, R115, R116). -/
def outForm (p : Nat) (transit : Bool) (k : Packet) (s : State) : Packet :=
  let k := if transit && !pkControl k then pkHopDown k else k
  pkRestamp k p (activeEpoch s)

/-- A copy of a packet that arrived by cut-through begins to leave (R128). -/
def cutBegin (id p l : Nat) (s : State) : State :=
  { s with dp := { s.dp with cut := s.dp.cut.map fun c => if c.id = id then { c with begun := c.begun ++ [(p, l)] } else c } }

/-- Put a packet on a lane from now on. -/
def onWire (p l id wire : Nat) (s : State) : State :=
  { s with dp := { s.dp with
      wire := (s.dp.wire.filter fun w => now s < w.doneAt)
        ++ [{ port := p, lane := l, startAt := now s, doneAt := wireEnd s (now s) wire, id := id }] } }

/-- Whether a lane carries a packet now. -/
def laneBusy (s : State) (p l : Nat) : Bool := s.dp.wire.any fun w => w.port == p && w.lane == l && now s < w.doneAt

/-- The running lane-slot of a lane is used: 32 by scheduled traffic, 33 lent, 34 idle and used by open traffic. -/
def slotUsed (p l e : Nat) (s : State) : State :=
  let s := { s with dp := { s.dp with idle := s.dp.idle.filter fun x => x != p * 5 + l } }
  let s := busyAdd (512 + benchOf p) 1 (if e = 32 then 1 else 0) (occPort p 4 1 {} (occ (benchOf p) 167 1 {} (occLane p l e 1 {} s)))
  if e = 32 then occ (benchOf p) 168 1 {} s else s

/-- A lane-slot that ended without use. -/
def slotUnused (key : Nat) (s : State) : State := occLane (key / 5) (key % 5) 35 1 {} s

/-- Note an entry sent, or a packet that failed R128, on a lane (R328). -/
def laneNote (key : Nat) (s : State) : State := { s with op := { s.op with recent := s.op.recent ++ [(key, s.clk.tick)] } }

/-- Write the part's own launch stamp (R112). -/
def ownStamp (k : Packet) (s : State) : Packet :=
  pkChange k fun bs => splice bs (bs.length - 8) (beBytes 4 (stampNow s))

/-- Send a packet that was drawn, on the wire lane `w`; one of the part's own takes its launch stamp now (R112). -/
def sendDrawn (d : Drawn) (w : Nat) (s : State) : State :=
  let k := outForm d.port d.transit (if d.transit then d.pkt else ownStamp d.pkt s) s
  let begin_ := slotStart d.tick d.slot
  let entry := (imageAt s d.tick).bind fun i =>
    (refAt i.1 i.2 (periodTick i.1 d.tick) (benchOf d.port)).map fun r =>
      (periodTick i.1 d.tick, r, (let e := entryIn s d.tick d.port d.lane d.slot; e.1 * 2 ^ 28 + e.2))
  let s := { s with dp := { s.dp with drawn := s.dp.drawn.erase d } }
  let s := onWire d.port w d.id (wirePs (pkWire k)) (emitOn d.port w k s)
  let s := laneNote (laneKey d.port 0 w) (slotUsed d.port w 32 (occSent d.port w 0 k s))
  let s := cutBegin d.id d.port w s
  let s := capSent d.id { port := d.port, lane := w, slot := d.slot, at' := begin_, hold := d.hold,
                          w := begin_ - (d.ready + d.lead + d.hold * 1000), entry := entry } s
  if s.dp.sc.any (fun x => x.id == d.id) || s.dp.drawn.any (fun x => x.id == d.id) then s else packetDone d.id s

/-- LANE_SLOT_START (R107): the slot marker, and the packet drawn for the slot. In Rest the keep-alive lane goes on with its
markers. -/
def execLaneSlotStart (p : Port) (l : Lane) (sl : Slot) (s : State) : Out :=
  runAt (sl.val * 40960) (fun s =>
    let key := p.val * 5 + l.val
    let s := if s.dp.idle.contains key then slotUnused key { s with dp := { s.dp with idle := s.dp.idle.erase key } } else s
    if !laneDriven s p l || portFormat s p != 1 || darkOut s s.clk.tick p then s
    else match markerRole s p l with
      | none => s
      | some (role, c) =>
        let s := emit (.marker p l (mkMarker sl s.clk.tick (eBit s) role c)) s
        if role = 0 || !portUp s p || !dpLive s then s
        else
          let logical := if role = 2 then c else if role = 3 then 4 else l.val
          if role = 2 && laneSt s p 0 c == .inService then s
          else
            let s := busyAdd (640 + benchOf p) 1 0 (occ (benchOf p) 166 1 {} s)
            match s.dp.drawn.find? fun d => d.port == p.val && d.lane == logical && d.tick == s.clk.tick && d.slot == sl.val with
            | some d => sendDrawn d l s
            | none =>
              if laneBusy s p l then slotUsed p l (if (entryIn s s.clk.tick p logical sl).1 = 1 then 33 else 34) s
              else { s with dp := { s.dp with idle := addNew key s.dp.idle } }) s

/-! ### Open and management queues (R147, R119, R300) -/

/-- VC in which the part received an open packet. -/
def inVc (x : OpenPkt) : Nat := if x.escaped then Vc.OC0 else x.vc

/-- Lane of a cell-mode port that the pair of a packet is hashed to (R130, R331). -/
def cellLaneOf (s : State) (p : Nat) (k : Packet) : Option Nat :=
  let ls := egressLanes s p
  if ls.isEmpty then none else (ls.drop (Config.openFn 10 [pkSrc k, pkDest k] % ls.length)).head?

/-- Whether credit cells arrive on a lane of a cell-mode port: the latest came no more than 2 ticks ago. R133 does not say how long
after the last of them they have stopped: DESIGN CHOICE (log 34). -/
def cellMatches (s : State) (c : CellLane) : Bool := c.based && s.clk.tick ≤ c.creditAt + 2

/-- Whether a VC of a port has credit for a packet (R120, R124, R133). -/
def hasCredit (s : State) (p vc : Nat) (k : Packet) : Bool :=
  let l := linkOf s p
  let n := creditUnits s p k
  if portCell s p then
    match cellLaneOf s p k with
    | none => false
    | some w => let c := (l.cell w); cellMatches s c && (c.vc vc).outstanding + n ≤ ownLimit s vc
  else l.params && !l.mismatch && (l.vc vc).outstanding + n ≤ (l.vc vc).limit

/-- Heads of the VOQs of a port and VC, one a bench, in the order of the queue. -/
def voqHeads (s : State) (p vc : Nat) : List OpenPkt :=
  (s.dp.openq.foldl (fun (a : List OpenPkt) x =>
    if x.egress = p && x.vc = vc && !(a.any fun y => benchOf y.port == benchOf x.port) then a ++ [x] else a) [])

/-- Bring the head times, the waits for credit and the stall of a port and VC up to date (R126, R127, R301), counting
heads that find a shaper ineligible. -/
def voqTouch (p vc : Nat) (s : State) : State :=
  let heads := voqHeads s p vc
  let fresh := heads.filter fun x => x.headAt.isNone && x.expire.isNone
  let s := if pairEligible s p vc then s else fresh.foldl (fun s _ => tally E.OT_SHAPER_HOLDS (benchOf p) 118 1 { q := some (p % 4), vc := some vc } s) s
  let q := s.dp.openq.map fun x =>
    if heads.any fun h => h.id == x.id then
      { x with headAt := some (x.headAt.getD (now s)), blocked := if hasCredit s p vc x.pkt then none else some (x.blocked.getD (now s)) }
    else x
  let stalled := !heads.isEmpty && heads.all fun x => !hasCredit s p vc x.pkt
  setLink p (fun l => l.setVc vc { l.vc vc with stallSince := if stalled then some ((l.vc vc).stallSince.getD (now s)) else none })
    { s with dp := { s.dp with openq := q } }

/-- Every VC of a port. -/
def portTouch (p : Nat) (s : State) : State := voqTouch p 3 (voqTouch p 2 (voqTouch p 1 s))

/-- Key of the losses of a group's packet (R156). -/
def groupKey (k : Packet) : Nat := 2 ^ 20 + pkDest k % 2 ^ 20

/-- A packet leaves its buffer, sent or dropped: its credit is freed with its last copy (R120, R155). -/
def openLeave (x : OpenPkt) (s : State) : State :=
  let s := { s with dp := { s.dp with openq := s.dp.openq.filter fun y => y.id != x.id } }
  let last := match x.parent with
    | none => true
    | some g => !(s.dp.openq.any fun y => y.parent == some g)
  let s := if last then packetDone (x.parent.getD x.id) (freeCredit x.port x.lane (inVc x) x.pkt s) else s
  voqTouch x.egress x.vc s

/-- Drop a queued open packet under an event code. -/
def openDrop (code : Nat) (x : OpenPkt) (s : State) : State :=
  let s := capDrop (x.parent.getD x.id) code s
  let s := match x.parent with
    | none => s
    | some g => mcastLoss g (groupKey x.pkt) (pkSeq x.pkt) [x.egress] s
  openLeave x s

/-- Whether a packet goes to more than one port, and the key of its losses (R156). -/
def lossKey (s : State) (k : Packet) : Option Nat :=
  if pkVc k = 0 then ((bindingOf s (pkFlow k)).filter (·.multi)).map (·.flow)
  else if pkM k then some (groupKey k) else none

/-- Copies of a packet for ports are lost, where it goes to more than one (R156). -/
def copiesLost (id : Nat) (k : Packet) (ports : List Nat) (s : State) : State := match lossKey s k with
  | some key => mcastLoss id key (pkSeq k) ports s
  | none => s

/-- Whether a packet can be cut into cells (R132). -/
def cellFits (k : Packet) : Bool :=
  (classOfOp (pkOp k)).isSome && pkVc k != 0 && !pkM k && pkWire k - 40 ≤ 2048 && (!pkControl k || pkOp k == Op.MEM_ACK)

/-- A packet for a port in cell mode has no cell form (R132). -/
def noCell (q : Nat) (s : State) : State :=
  raiseOnce Ev.PKT_CELL_UNREPRESENTABLE q [.u16 q] (count E.PKT_CELL_UNREPRESENTABLE 1 s)

/-- Whether a packet goes to a port as cells and cannot. -/
def cellBad (s : State) (x : OpenPkt) : Bool := portCell s x.egress && !cellFits x.pkt

/-- Enqueue an open packet; time messages go ahead of other packets of their VOQ (R79). A packet for a cell-mode port
that has no cell form is dropped (R132). -/
def openEnqueue (x : OpenPkt) (s : State) : State :=
  if cellBad s x then openDrop Ev.PKT_CELL_UNREPRESENTABLE x (noCell x.egress s)
  else
    let b := benchOf x.port
    let voq := s.dp.openq.filter fun y => benchOf y.port == b && y.egress == x.egress && y.vc == x.vc
    let take := poolTake s b (voq.map fun y => (y.pooled, pkBlocks y.pkt)) (pkBlocks x.pkt)
    let s := if take < pkBlocks x.pkt then countSpill b (attrOf x.port x.pkt) s else s
    let s := capDepth (x.parent.getD x.id) voq.length (sumNat (voq.map fun y => pkBlocks y.pkt)) s
    let x := { x with pooled := take }
    let before := s.dp.openq.takeWhile fun y => !(benchOf y.port == b && y.egress == x.egress && y.vc == x.vc && y.expire.isNone)
    let q := if x.expire.isSome then before ++ [x] ++ s.dp.openq.drop before.length else s.dp.openq ++ [x]
    voqTouch x.egress x.vc { s with dp := { s.dp with openq := q } }

/-- Queue a packet that the part originates on a port (R112: the launch stamp is written when it leaves). -/
def originate (p vc : Nat) (k : Packet) (s : State) : State :=
  let id := s.dp.nextId
  openEnqueue { id := id, pkt := k, port := 512, lane := 0, egress := p, vc := vc, arrived := now s, stamp := 0, headAt := none, safe := none,
                escaped := false, expire := if isTime s k then some (s.clk.tick + 1) else none, blocked := none, pooled := 0,
                parent := none }
    { s with dp := { s.dp with nextId := id + 1 } }

/-- Route a packet that the part originates by its own tables and queue it. -/
def originateRouted (k : Packet) (s : State) : State :=
  let vc := pkVc k
  let (s, r) := routeLookup 512 k vc s.tb.active s
  match r with
  | .error _ => s
  | .ok (q, safe) =>
    let id := s.dp.nextId
    openEnqueue { id := id, pkt := k, port := 512, lane := 0, egress := q, vc := vc, arrived := now s, stamp := 0, headAt := none, safe := safe,
                  escaped := false, expire := if isTime s k then some (s.clk.tick + 1) else none, blocked := none,
                  pooled := 0, parent := none }
      { s with dp := { s.dp with nextId := id + 1 } }

/-! ### Cells (R129 to R132) -/

/-- The head that opens a packet's cells (R130). -/
def cellHead (k : Packet) : Bytes :=
  let len := pkWire k - 40
  beBytes 16 (pkDest k * 2 ^ 104 + pkSrc k * 2 ^ 80 + (pkVc k - 1) * 2 ^ 78 + (classOfOp (pkOp k)).getD 0 * 2 ^ 72
    + len * 2 ^ 60 + pkJob k * 2 ^ 44 + (if opMemory (pkOp k) && !pkControl k then pkOffset k else 0))

/-- The payload that cells carry: of a control packet, its body. -/
def cellPayload (k : Packet) : Bytes := if pkControl k then (pkBody k).take 24 else pkPayload k

/-- Cells of a packet, counted from `n`. -/
def mkCells (k : Packet) (n : Nat) : List Bytes :=
  let parts := chunks 56 (cellHead k ++ cellPayload k)
  (numbered parts).map fun x =>
    let last := x.1 + 1 = parts.length
    mkCell (if x.1 = 0 then (if last then 3 else 2) else if last then 1 else 0) x.2.length ((n + x.1) % 256) x.2

/-! ### Starting an open packet -/

/-- Lane-slot of an instant: tick and slot. -/
def slotOf (t : Nat) : Nat × Nat := (t / tickPs, min 24 (t % tickPs / 40960))

/-- Whether a lane-slot is open to open traffic (R30, R118). -/
def slotOpen (s : State) (p logical t slot : Nat) : Bool :=
  !darkOut s t p &&
    (slot == 24 ||
      (let e := entryIn s t p logical slot
       e.1 == 0 || (e.1 == 1 && s.dp.lent.contains (p * 5 + logical, t * 25 + slot))))

/-- Whether every lane-slot from one on is open until an instant. -/
def runOpen (s : State) (p logical : Nat) : Nat → Nat → Nat → Nat → Bool
  | 0, _, _, _ => true
  | f + 1, t, slot, fin =>
    slotOpen s p logical t slot &&
      (let (t', slot') := if slot = 24 then (t + 1, 0) else (t, slot + 1)
       fin ≤ slotStart t' slot' || runOpen s p logical f t' slot' fin)

/-- Whether a packet of `wire` ps that starts at an instant fits (R119, R70): it ends within the lane-slots open to it, and within
the tick where it starts in the gap slot. -/
def fitsAt (s : State) (p logical at' wire : Nat) : Bool :=
  let (t, slot) := slotOf at'
  if slot = 24 then slotOpen s p logical t slot && (if t = s.clk.tick then inTick s at' wire else at' + wire ≤ (t + 1) * tickPs)
  else runOpen s p logical 10 t slot (wireEnd s at' wire)

def fits (s : State) (p logical wire : Nat) : Bool := fitsAt s p logical (now s) wire

/-- Bench that the round robin of R151 grants: the first after the last one. -/
def nextTurn (last : Nat) (l : List OpenPkt) : Option OpenPkt :=
  let pick := fun (c : List OpenPkt) => c.foldl (fun m x => match m with
    | none => some x
    | some y => if benchOf x.port < benchOf y.port then some x else some y) none
  match pick (l.filter fun x => last < benchOf x.port) with
  | some x => some x
  | none => pick l

/-- The form in which a queued packet leaves: stamped, with its hop taken, a PTP event message corrected (R76, R112). -/
def openForm (p : Nat) (x : OpenPkt) (s : State) : Packet × State :=
  if x.port < 512 then
    let k := outForm p true x.pkt s
    if isEvent s k then
      (ptpCorrect s k x.port p x.stamp (stampOut s p (now s)), count E.FT_MSG_CORRECTED 1 s)
    else (k, s)
  else ptpLeaves p (outForm p false (ownStamp x.pkt s) s) s

/-- A packet leaves as cells on a cell-mode lane (R129 to R133). -/
def cellsOut (p w vc id : Nat) (k : Packet) (s : State) : State :=
  let n := creditUnits s p k
  let cells := mkCells k ((linkOf s p).cell w).txCount
  let s := cells.foldl (fun s b => emit (.cell p w b) s) s
  onWire p w id (cells.length * 5120) (setLink p (fun l => l.setCell w fun c =>
    { c.setVc vc { c.vc vc with sent := ((c.vc vc).sent + n) % 2 ^ 32 } with txCount := (c.txCount + cells.length) % 256 }) s)

/-- A packet leaves on a native lane (R119, R120). -/
def wireOut (p w vc id : Nat) (k : Packet) (s : State) : State :=
  let (t, slot) := slotOf (now s)
  let n := creditUnits s p k
  let s := setLink p (fun l => l.setVc vc { l.vc vc with sent := ((l.vc vc).sent + n) % 2 ^ 32 }) s
  let s := onWire p w id (wirePs (pkWire k)) (emitOn p w k s)
  let s := if slot = 24 then occLane p w 36 (pkWire k) {} s else s
  if s.dp.idle.contains (p * 5 + w) then
    slotUsed p w (if slot < 24 && (entryIn s t p ((carriedLane s p w).getD w) slot).1 = 1 then 33 else 34) s
  else s

/-- The round robin of a port and VC stands at a bench (R151). -/
def takeTurn (p vc b : Nat) (s : State) : State := { s with dp := { s.dp with turn := SMap.set s.dp.turn (p * 4 + vc) b } }

/-- Start a queued packet on wire lane `w`. One that was queued before its port went to cell mode and has no cell form is
dropped (R132). -/
def startOpen (p w : Nat) (x : OpenPkt) (s : State) : State :=
  if cellBad s x then openDrop Ev.PKT_CELL_UNREPRESENTABLE x (noCell p s)
  else
    let (k, s) := openForm p x s
    let id := x.parent.getD x.id
    let s := crossOnce id (benchOf x.port) (benchOf p) (pkWire k) (slotIndex s) false s
    let s := chargePair p x.vc k (takeTurn p x.vc (benchOf x.port) s)
    let s := if portCell s p then cellsOut p w x.vc id k s else wireOut p w x.vc id k s
    let s := cutBegin id p w (count E.DP_OPEN_SENT 1 (occSent p w x.vc k s))
    let lead := if x.port < 512 then pathLead x.port p else tOut
    let s := capSent id { port := p, lane := w, slot := (slotOf (now s)).2, at' := now s, q := (now s - lead - x.arrived) / 1000, w := 0 } s
    openLeave x s

/-- Whether the crossbar and the bridge have room for a packet, or it has crossed (R151). -/
def crossOk (s : State) (p : Nat) (x : OpenPkt) : Bool :=
  hasCrossed s (x.parent.getD x.id) (benchOf p) || !crossFull s (benchOf x.port) (benchOf p) (pkWire x.pkt)

/-- Heads of a port and VC that may start on a lane: time messages alone where one is ready (R79). -/
def openReady (s : State) (p w vc : Nat) (only : OpenPkt → Bool) : List OpenPkt :=
  let cand := (voqHeads s p vc).filter fun x =>
    only x && !x.waits s && !(portCell s p && isCut s (x.parent.getD x.id)) && hasCredit s p vc x.pkt && (x.expire.isSome || pairEligible s p vc)
      && (!portCell s p || cellLaneOf s p x.pkt == some w) && crossOk s p x
  if cand.any fun x => x.expire.isSome then cand.filter fun x => x.expire.isSome else cand

/-- Whether the lane's open lane-slots hold a packet. -/
def laneHolds (s : State) (p w : Nat) (k : Packet) : Bool :=
  if portCell s p then !darkOut s s.clk.tick p && !darkOut s (wireEnd s (now s) (cellsOf (pkWire k - 40) * 5120) / tickPs) p
  else match carriedLane s p w with
    | none => false
    | some logical => fits s p logical (wirePs (pkWire k))

/-- Choose the packet that a free lane starts: MC, then OC1, then OC0; within one VC the round robin over benches. A VC
whose head does not fit passes its turn. -/
def chooseOpen (p w : Nat) (only : OpenPkt → Bool) : List Nat → State → State × Option OpenPkt
  | [], s => (s, none)
  | vc :: r, s =>
    match nextTurn (SMap.getD s.dp.turn (p * 4 + vc) 128) (openReady s p w vc only) with
    | none => chooseOpen p w only r s
    | some x =>
      if laneHolds s p w x.pkt then (s, some x)
      else chooseOpen p w only r (tally E.OT_GAP_PASSES (benchOf p) 117 1 { q := some (p % 4), vc := some vc } s)

/-- End of the gap slot's link-local packets on a lane that carries nothing else: an open packet of that gap slot starts
behind them (R300). -/
def afterLocal (s : State) (p w : Nat) : Option Nat :=
  let ws := s.dp.wire.filter fun x => x.port == p && x.lane == w && now s < x.doneAt
  if ws.isEmpty || portCell s p || s.clk.ps < 24 * 40960 || ws.any (fun x => x.id != 0) then none
  else some (ws.foldl (fun m x => max m x.doneAt) 0 - s.clk.tick * tickPs)

/-- The state at the instant at which a lane may start a packet. -/
def startAfter (p w : Nat) (s : State) : State := match afterLocal s p w with
  | some t => atPs t s
  | none => s

/-- Start the packet chosen, if one is. -/
def startChosen (p w : Nat) (r : State × Option OpenPkt) : State := match r.2 with
  | none => r.1
  | some x => startOpen p w x r.1

/-- Whether a write to a shaper or policer table is due and has not taken effect: it comes before any start of its tick (R305). -/
def shaperDue (s : State) : Bool :=
  s.dx.pending.any fun w => w.tick.any (· ≤ s.clk.tick)
    && [E.OT_SHAPER_CONFIG, E.OT_SHAPER_MAP, E.OT_POLICER_CONFIG, E.OT_POLICER_MAP].contains w.entry

/-- Start the packet that a lane takes, if any, of those that satisfy `only`. -/
def openStart (p w : Nat) (only : OpenPkt → Bool) (s : State) : State :=
  let serves := if portCell s p then (egressLanes s p).contains w else (carriedLane s p w).isSome
  if !dpLive s || !portUp s p || laneBusy (startAfter p w s) p w || !serves || s.hl.gated.contains (benchOf p) || shaperDue s then s
  else
    { startChosen p w (chooseOpen p w only (if throttleOf s (dieOf p) < 2 then [3, 2, 1] else [3, 2]) (startAfter p w s)) with clk := s.clk }

/-- Lanes of a port start packets in ascending order (R300): those below a lane, then it. -/
def lanesStart (p w : Nat) (only : OpenPkt → Bool) (s : State) : State :=
  (List.range (w + 1)).foldl (fun s w => openStart p w only s) s

/-- EGRESS_START (R300). -/
def execEgressStart (p : Port) (l : Lane) (at_ : At) (s : State) : Out := runAt at_ (lanesStart p l fun _ => true) s

/-- PTP_EVENT_FORWARD (R76): the PTP event message at the head of the MC queue leaves, corrected. -/
def execPtpEventForward (p : Port) (l : Lane) (at_ : At) (s : State) : Out :=
  runAt at_ (fun s => lanesStart p l (fun x => isEvent s x.pkt) s) s

/-! ### Waiting too long (R126, R127, R301, R79) -/

/-- Move a packet to OC1 (R126): the port is selected from the safe next hop kept from its lookup. -/
def escape (x : OpenPkt) (hop : Hop) (s : State) : State :=
  let (s, q) := selectPort hop x.port x.pkt s
  match q with
  | none => openDrop 0 x s
  | some q =>
    let s := occ (benchOf x.port) 47 1 (attrOf x.port x.pkt) (count E.PKT_ESCAPE_MOVES 1 s)
    let y := { x with egress := q, vc := Vc.OC1, escaped := true, pkt := pkSetVc x.pkt Vc.OC1, blocked := none }
    let rest := s.dp.openq.filter fun z => z.id != x.id
    if cellBad s y then openDrop Ev.PKT_CELL_UNREPRESENTABLE y (noCell q { s with dp := { s.dp with openq := rest ++ [y] } })
    else voqTouch q Vc.OC1 (voqTouch x.egress Vc.OC0 { s with dp := { s.dp with openq := rest ++ [y] } })

/-- ESCAPE_MOVE (R126): the n-th queued packet has waited for credit at the head of its OC0 queue. -/
def execEscapeMove (n : Nat) (s : State) : Out :=
  match (s.dp.openq.drop n).head? with
  | none => run id s
  | some x =>
    match x.safe, x.blocked with
    | some hop, some b =>
      if x.vc = Vc.OC0 then runDue (some (b + Cfg.PKT_ESCAPE_NS s * 1000)) (escape x hop) s else run id s
    | _, _ => run id s

/-- CREDIT_STALL (R127). -/
def execCreditStall (p : Port) (vc : Nat) (s : State) : Out :=
  runDue (if vc = 1 ∨ vc = 2 ∨ vc = 3 then ((linkOf s p).vc vc).stallSince.map (· + Cfg.PKT_CREDIT_STALL_US s * 1000000) else none)
    (fun s => if darkIn s p then s else raiseOnce Ev.PKT_CREDIT_STALL (p.val * 4 + vc) [.u16 p, .u8 vc] s) s

/-- The head limit of a packet in ps; none when the drop is off (R301). -/
def headLimit (s : State) (k : Packet) : Option Nat :=
  let u := Cfg.OT_HEAD_DROP_US s
  let m := Cfg.OT_HEAD_DROP_MARKED_US s
  let us := if pkK k ∧ m ≠ 0 then m else u
  if us = 0 then none else some (us * 1000000)

/-- HEAD_DROP (R301): the n-th queued packet has been the head for too long. Where its port's flap hold has ended too, that drop
takes it (R307). -/
def execHeadDrop (n : Nat) (s : State) : Out :=
  match (s.dp.openq.drop n).head? with
  | none => run id s
  | some x =>
    runDue (match x.headAt, headLimit s x.pkt with | some h, some d => some (h + d) | _, _ => none)
      (fun s =>
        if portState s x.egress = .held && (portOf s x.egress).holdEnd ≤ now s then s else
        let a : OccAttr := { q := some (x.egress % 4), vc := some x.vc, job := some (pkJob x.pkt) }
        let s := tally E.OT_HEAD_DROPS (benchOf x.egress) 115 1 a s
        let s := if pkK x.pkt then tally E.OT_HEAD_DROPS_MARKED (benchOf x.egress) 116 1 a s else s
        openDrop Ev.OT_HEAD_DROP x (accum Ev.OT_HEAD_DROP (x.egress * 4 + x.vc) [.u16 x.egress, .u8 x.vc] [1] none s)) s

/-- TIME_MSG_EXPIRE (R79): the n-th queued packet is a time message whose second tick has ended. -/
def execTimeMsgExpire (n : Nat) (s : State) : Out :=
  match (s.dp.openq.drop n).head? with
  | none => run id s
  | some x => runDue (x.expire.map fun t => (t + 1) * tickPs) (fun s => openDrop 0 x (count E.FT_MSG_DROPPED 1 s)) s

/-! ### Deadlines, strata and idle flows -/

/-- Whether a JOB_CLOSE of a job fires in the running tick and has not been carried out. -/
def closeDue (s : State) (job : Nat) : Bool :=
  s.ft.acts.any fun x => x.2.record.code == 2 && x.2.record.job == job && x.2.record.fire ≤ s.clk.tick
    && (x.2.state == .armed || (x.2.state == .pending && !x.2.record.arm))

/-- Packets whose deadline tick has begun and that are still queued or held (R161); those of a job that closes in this tick go by
its JOB_CLOSE (R169). -/
def deadlineDrop (s : State) : State :=
  scDrop (fun x => x.deadline ≤ s.clk.tick && !closeDue s x.job) Ev.SC_DEADLINE
    (fun x s => breach 3 (benchOf x.port) (attrOf x.port x.pkt) none s) s

/-- SC_DEADLINE_DROP (R161). -/
def execScDeadlineDrop (s : State) : Out := run deadlineDrop s

/-- RESEQ_IDLE_EXPIRY (R153). -/
def execReseqIdleExpiry (flow : Nat) (s : State) : Out :=
  runDue ((s.dp.orders.find? fun o => o.1 / 1024 == flow).bind fun o => o.2.emptySince.map (· + Cfg.DP_RESEQ_IDLE_US s * 1000000))
    (orderUnset flow) s

/-- Refill a scheduled packet, once those before it in its VOQ have all their blocks in the pool. -/
def scRefill (x : ScPkt) (s : State) : State :=
  let b := benchOf x.port
  let ahead := s.dp.sc.filter fun y => y.flow == x.flow && benchOf y.port == b && y.id != x.id && scBefore y x
  if ahead.any (·.inStrata) then s
  else
    let n := poolRefill s b (sumNat (ahead.map (·.pooled))) x.pooled (pkBlocks x.pkt)
    { s with dp := { s.dp with sc := s.dp.sc.map fun y => if y.id = x.id then { y with pooled := y.pooled + n } else y } }

/-- Whether a scheduled packet of a bench waits for a refill that the pool has room for: it comes first. -/
def scRefillDue (s : State) (b : Nat) : Bool :=
  poolUsed s b < 2976 && s.dp.sc.any fun x => benchOf x.port == b && x.waits s
    && !(s.dp.sc.any fun y => y.flow == x.flow && benchOf y.port == b && y.id != x.id && scBefore y x)

/-- Refill an open packet, after the scheduled ones of its bench and those before it in its VOQ. -/
def openRefill (x : OpenPkt) (s : State) : State :=
  let b := benchOf x.port
  let ahead := (s.dp.openq.takeWhile fun y => y.id != x.id).filter fun y => benchOf y.port == b && y.egress == x.egress && y.vc == x.vc
  if ahead.any (·.inStrata) || scRefillDue s b then s
  else
    let n := poolRefill s b (sumNat (ahead.map (·.pooled))) x.pooled (pkBlocks x.pkt)
    { s with dp := { s.dp with openq := s.dp.openq.map fun y => if y.id = x.id then { y with pooled := y.pooled + n } else y } }

/-- REFILL_COMPLETE (R149): blocks of a packet are back in the queue pool. -/
def execRefillComplete (id : Nat) (s : State) : Out :=
  run (fun s => match s.dp.sc.find? fun x => x.id == id with
    | some x => scRefill x s
    | none => match s.dp.openq.find? fun x => x.id == id with
      | some x => openRefill x s
      | none => s) s

/-- A queued packet is lost to an uncorrectable strata error (R170). -/
def strataLoss (b : Nat) (a : OccAttr) (s : State) : State :=
  raiseOnce Ev.DP_STRATA_ERROR b [] (tally E.DP_STRATA_ERRORS b 46 1 a s)

/-- STRATA_READ_ERROR (R170). -/
def execStrataReadError (id : Nat) (s : State) : Out :=
  run (fun s =>
    let s := scDrop (fun x => x.id == id && x.inStrata) Ev.DP_STRATA_ERROR
      (fun x s => strataLoss (benchOf x.port) (attrOf x.port x.pkt) s) s
    match s.dp.openq.find? fun x => x.id == id && x.inStrata with
    | none => s
    | some x => openDrop Ev.DP_STRATA_ERROR x (strataLoss (benchOf x.port) (attrOf x.port x.pkt) s)) s

/-! ### Ports leaving and entering service (R158, R159, R166) -/

/-- Scheduled packets that wait for a port. -/
def scWaits (s : State) (p : Nat) (x : ScPkt) : Bool :=
  match s.tt.active, bindingOf s x.flow with
  | some i, some b => if b.multi then x.left.contains p else (egressPorts i b).contains p
  | _, _ => false

/-- Queued packets per VC for a port. -/
def queuedFor (s : State) (p : Nat) : List Nat :=
  (s.dp.sc.filter (scWaits s p)).length :: [1, 2, 3].map fun vc => (s.dp.openq.filter fun x => x.egress == p && x.vc == vc).length

/-- Drop what is queued for a port whose flap hold has ended (R158, R171); the deadline drops of the tick come first (R161). -/
def flapDrop (p : Nat) (s : State) : State :=
  let s := deadlineDrop s
  let dead := fun (x : ScPkt) => scWaits s p x && (match s.tt.active, bindingOf s x.flow with
    | some i, some b => !b.multi && !(egressPorts i b).any fun q => q != p && portUp s q
    | _, _ => false)
  let copies := s.dp.sc.filter fun x => x.left.contains p
  let opens := s.dp.openq.filter fun x => x.egress == p
  let counts := ((s.dp.sc.filter dead).length + copies.length) :: [1, 2, 3].map fun vc => (opens.filter fun x => x.vc == vc).length
  let note := fun (k : Packet) (s : State) => tally E.DP_FLAP_DROPS (benchOf p) 38 1 { q := some (p % 4), vc := some (pkVc k), job := some (pkJob k) } s
  let s := scDrop dead Ev.DP_FLAP_DROP (fun x s => note x.pkt s) s
  let s := copies.foldl (fun s x =>
    let s := mcastLoss x.id x.flow x.seq [p] (note x.pkt (capDrop x.id Ev.DP_FLAP_DROP s))
    let s := takeCopy x p s
    orderIdle x.flow (if s.dp.sc.any fun y => y.id == x.id then s else packetDone x.id s)) s
  let s := opens.foldl (fun s x => openDrop Ev.DP_FLAP_DROP x (note x.pkt s)) s
  raise Ev.DP_FLAP_DROP [.u16 p, .counts counts] (setPort p { portOf s p with state := .down } s)

/-- Whether the partner of a port has withdrawn at a frame that has come (R480). -/
def partnerLeft (s : State) (p : Nat) : Bool :=
  match SMap.get? s.rp.partnerNotes p with
  | some b => beAt b 0 1 == 1 && beAt b 8 8 ≤ frameOf s
  | none => false

/-- Packets leaving a port are cut off (R166): no later end of theirs stomps those copies. What waits for the lane goes with them. -/
def cutOff (p : Nat) (s : State) : State :=
  let leaving := s.dp.wire.filter fun w => w.port == p && w.startAt ≤ now s && now s < w.doneAt
  let s := leaving.foldl (fun s w => emit (.cutOff p w.lane w.id) s) (count E.DP_TX_ABORTED leaving.length s)
  { s with dp := { s.dp with
    wire := s.dp.wire.filter fun w => w.port != p
    cut := s.dp.cut.map fun c => { c with begun := c.begun.filter fun x => !leaving.any fun w => w.id == c.id && w.port == x.1 && w.lane == x.2 } } }

/-- The lanes of a port that are in service train anew (R159, R312). -/
def lanesRetrain (p : Nat) (s : State) : State :=
  (List.range 8).foldl (fun s i =>
    if laneSt s p (i / 4) (i % 4) = .inService then setLane p (i / 4) (i % 4) .training s else s) s

/-- A port goes down (R158): packets on its lanes are cut off (R166) and its flap hold, in µs, starts. It comes back by training. -/
def portFallsFor (hold p : Nat) (s : State) : State :=
  let s := raise Ev.DP_PORT_DOWN [.u16 p, .counts (queuedFor s p)] (cutOff p s)
  let s := setPort p { state := .held, holdEnd := now s + hold * 1000000, trained := false } (lanesRetrain p s)
  if hold = 0 then flapDrop p s else s

def portFalls (p : Nat) (s : State) : State := portFallsFor (if partnerLeft s p then 0 else Cfg.DP_FLAP_HOLD_US s) p s

/-- A port is taken down with no flap hold (R440, R467). -/
def portOff (p : Nat) (s : State) : State :=
  match portState s p with
  | .inService => portFallsFor 0 p s
  | .held => flapDrop p s
  | _ => s

/-- PORT_DOWN (R158). A port whose lanes still serve, or still carry valid markers, does not go down for them, and a direction that
is blanked or chuted does not count as out of service. -/
def execPortDown (p : Port) (why : DownCause) (s : State) : Out :=
  run (fun s =>
    if portState s p != .inService then s
    else match why with
      | .lanes => if darkOut s s.clk.tick p || (List.range 4).any (fun l => (servingLane s p l).isSome) then s else portFalls p s
      | .markers => if darkIn s p || (portFormat s p == 1 && markersSeen s p) then s else portFalls p s
      | .training => if darkIn s p || darkOut s s.clk.tick p then s else portFalls p s) s

/-- FLAP_HOLD_EXPIRY (R158). -/
def execFlapHoldExpiry (p : Port) (s : State) : Out :=
  runDue (if portState s p = .held then some (portOf s p).holdEnd else none) (flapDrop p) s

/-- PORT_UP (R159): a port that has trained, with lanes in service in both directions and on a native port valid markers, returns. -/
def execPortUp (p : Port) (s : State) : Out :=
  run (fun s =>
    let st := portState s p
    let lanes := fun d => (List.range 4).any fun l => laneSt s p d l == .inService || laneSt s p d l == .moved
    let fenced := (SMap.get? s.hl.neighbours p).any fun n => n.state == .fenced
    if st = .inService || st = .disabled || !(portOf s p).trained || !lanes 0 || !lanes 1
        || !(portFormat s p == 2 || darkIn s p || markersSeen s p) || fenced || !benchServes s (benchOf p) then s
    else
      let s := portTouch p (setPort p { portOf s p with state := .inService, holdEnd := 0 } s)
      if st = .training then s else raise Ev.DP_PORT_UP [.u16 p] s) s

end Sys2Proof.Machine
end

