-- ==== Sys2Proof/Machine/Sync.lean ====
section
/-! DEFINITION. Sync states and the fabric epoch (R453 to R457), and what discards images (R44, R63). -/
namespace Sys2Proof.Machine
open Sys2Proof

/-- Whether the part forwards (R453). -/
def carries (s : State) : Bool := s.rp.sync == .current || s.rp.sync == .withdrawing

def syncCode : SyncSt → Nat
  | .unassigned => 0
  | .stale => 1
  | .joining => 2
  | .current => 3
  | .withdrawing => 4

/-- Change the sync state and report it; the manual names the reasons without codes, so the code is open. -/
def setSync (n : SyncSt) (reason : Nat) (s : State) : State :=
  if s.rp.sync = n then s
  else
    raise Ev.RP_SYNC_STATE [.u8 (syncCode s.rp.sync), .u8 (syncCode n), .u8 (Config.openFn 20 [reason] % 256)]
      { s with rp := { s.rp with sync := n } }

/-- The image that the part holds as its next one, ready or not. -/
def nextHeld (s : State) : Option Image :=
  if s.tt.nextImage.isSome || s.tt.nextBytes = [] then s.tt.nextImage else some (parseImage (readable s.tt.nextBytes) s.tt.nextDigest)

/-- The activation frame of an image that may still take effect, where its frame F − 1 has begun (R63). -/
def nextBegun (s : State) : Option Nat :=
  if s.tt.next != .ready && s.tt.next != .checking then none
  else ((nextHeld s).map (·.frame)).filter fun f => frameOf s ≤ f && f ≤ frameOf s + 1

/-- Actions of a next image that goes: the PENDING and ARMED ones become FREE, the others stay (R44, R90). -/
def nextActs (m : SMap ActEntry) : SMap ActEntry :=
  (m.filter fun a => !(a.2.ofNext && (a.2.state == .pending || a.2.state == .armed))).map fun a => (a.1, { a.2 with ofNext := false })

/-- Take the next image and its actions away (R44); a swap that its staging had begun is missed (R63). -/
def nextGone (st : NextState) (s : State) : State :=
  let missed := match nextBegun s with
    | some f => if carries s then addNew f s.tt.missed else s.tt.missed
    | none => s.tt.missed
  let keep := st == .refused
  { s with
    tt := { s.tt with
      next := st
      nextBytes := if keep then s.tt.nextBytes else []
      nextImage := if keep then s.tt.nextImage else none
      nextDigest := if keep then s.tt.nextDigest else []
      log := if keep then s.tt.log else []
      missed := missed
      stagedFrame := none }
    ft := { s.ft with acts := nextActs s.ft.acts } }

/-! ### Leases that end (R47, R337) -/

/-- Report a lease: the fields of its record and its new state. R400 names no size for the length in frames; the model gives it as
U16, as the record does. DESIGN CHOICE, log entry 26. -/
def leaseEvent (l : LeaseRec) (state : Nat) (s : State) : State :=
  raise Ev.TT_LEASE [.u8 l.kind, .u16 l.subject, if l.kind = 3 then .u16 l.unit else .u8 l.unit, .u16 l.len, .idx l.start, .u8 state] s

/-- Body of a LANE_MOVE (R326); `d` is 0 where the sender transmits on the lane. -/
def moveBody (kind src dst d reason status id S : Nat) : Bytes :=
  beBytes 4 (kind * 2 ^ 24 + src * 2 ^ 21 + dst * 2 ^ 18 + d * 2 ^ 17 + reason * 2 ^ 8 + status) ++ beBytes 4 id ++ beBytes 8 S

/-- Queue a LANE_MOVE for a port's next gap slot. -/
def moveSend (p : Nat) (b : Bytes) (s : State) : State := { s with op := { s.op with outbox := s.op.outbox ++ [(p, b)] } }

/-- Add a move with a new identifier. -/
def moveAdd (m : Nat → Move) (s : State) : State :=
  { s with op := { s.op with moves := s.op.moves ++ [m s.op.nextMove], nextMove := (s.op.nextMove + 1) % 2 ^ 32 } }

/-- A calibration or sparing lease ends: the lane returns, or stays on the reserve lane where its calibration failed. -/
def leaseLaneEnd (p l : Nat) (s : State) : State :=
  if s.op.calFailed.contains (p, l) then
    let s := { s with op := { s.op with calFailed := s.op.calFailed.filter fun x => x != (p, l) } }
    let s := (List.range 2).foldl (fun s d => moveAdd (fun id =>
      { id := id, port := p, src := l, dst := 4, dir := d, reason := 7, state := .inForce, S := s.clk.tick, mine := true }) (setLane p d l .moved s)) s
    moveSend p (moveBody 4 l 4 0 7 0 s.op.nextMove s.clk.tick) s
  else
    (List.range 2).foldl (fun s d =>
      if laneSt s p d l == .calibrating || laneSt s p d l == .spared then
        let s := setLane p d l (if s.bi.deadLanes.contains (laneKey p d l) then .fault else .inService) s
        if reserveHeld s p d = .carrying l then setReserve p d .idle s else s
      else s) s

/-- A bench left by a rotation fails its test, or has not passed it in time (R465). -/
def rotationEvent (b x outcome : Nat) (s : State) : State :=
  raise Ev.RP_ROTATION [.u16 b, .u16 x, .u8 (Config.openFn 22 [outcome] % 256)] s

def benchRetire (x result : Nat) (s : State) : State :=
  let v := physSlot s x
  rotationEvent 0xFF x 2 (count E.RP_BENCHES_RETIRED 1 (setPhys x { v with state := .retired, result := result, frame := frameOf s } s))

/-- What the end of a lease does: its lane returns; a bench whose test its rotation bounds and which has not passed is RETIRED. -/
def leaseFinish (l : LeaseRec) (s : State) : State :=
  if l.kind = 3 then
    let late := (List.range 136).filter fun y =>
      (physSlot s y).state == .testing && (physSlot s y).leaseEnd == l.start + l.len && y / 34 == l.unit / 34 && (physSlot s y).leaseEnd ≤ frameOf s
    late.foldl (fun s y => benchRetire y 4 s) s
  else leaseLaneEnd l.subject l.unit s

/-- Leases in force end, each reported (R61). -/
def leasesEnd (ls : List LeaseRec) (s : State) : State := ls.foldl (fun s l => leaseFinish l (leaseEvent l 2 s)) s

/-- Drop everything of the active image: its schedule, its leases, its selections, its queued packets and its crusher state. -/
def activeGone (s : State) : State :=
  let s := leasesEnd ((s.tt.leases.filter fun x => x.state == 1).map (·.record)) s
  let gone := s.dx.pending.filter fun w => w.entry == E.TT_VARIANT_SELECT
  count E.DX_SUPERSEDED gone.length { s with
    tt := { s.tt with active := none, variant := 0, selected := none, leases := [], gates := [], blank := [] }
    dx := { s.dx with pending := s.dx.pending.filter fun w => w.entry != E.TT_VARIANT_SELECT }
    dp := { s.dp with sc := [], orders := [], drawn := [], lent := [] }
    cr := { s.cr with recs := [], partials := [], moves := [], results := [] } }

/-- Empty both route sets and every learned entry (R457). -/
def routesGone (s : State) : State :=
  let e := emptySet s.tb.active.seedLpm s.tb.active.seedExact s.tb.active.seedSel
  { s with tb := { s.tb with active := e, shadow := e, grace := none, copying := false, learned := [], queue := [],
                             waiting := [], applying := [], bad := [] } }

/-- Judge the held epoch the first time F is known (R457). -/
def epochJudge (s : State) : State :=
  if s.rp.judged || (s.rp.sync != .stale && s.rp.sync != .joining) then s
  else match fabricEpoch s with
    | none => s
    | some f =>
      if f = s.rp.held then
        { s with rp := { s.rp with judged := true, resume := s.tt.active.isSome } }
      else
        let s := routesGone (activeGone (nextGone .empty s))
        let s := { s with rp := { s.rp with judged := true, resume := false, join := 0 } }
        raise Ev.RP_SYNC_STATE [.u8 (syncCode s.rp.sync), .u8 1, .u8 (Config.openFn 20 [7] % 256)]
          { s with rp := { s.rp with sync := .stale } }

/-- The sender epoch of a control packet received on a port (R455). -/
def hearEpoch (p : Nat) (k : Packet) (s : State) : State :=
  epochJudge { s with rp := { s.rp with heard := SMap.set s.rp.heard p (pkEpoch k) } }

/-- The epoch held: that of the active image, or the one held across Rest, a reset or an import. -/
def setHeld (e : Nat) (s : State) : State := { s with rp := { s.rp with held := e } }

/-- Limits that the part advertises: none for OC0 and OC1 while STALE or JOINING (R453). -/
def advertised (s : State) (vc : Nat) : Nat := if !carries s && vc != Vc.MC then 0 else ownLimit s vc

/-- Send an MC packet by a port. In Rest the moth sends it at once on the keep-alive lane (R347, R428). -/
def mcSend (p : Nat) (k : Packet) (s : State) : State :=
  if s.hl.power = .rest then
    match lowLane s p with
    | none => s
    | some w =>
      let (k, s) := ptpLeaves p (outForm p false (ownStamp k s) s) s
      emit (.packet p w k) s
  else originate p Vc.MC k s

/-- Send a packet the part originates: by its routes, or, while it forwards nothing, on MC by the port named (R454). -/
def answerBy (port : Option Nat) (k : Packet) (s : State) : State :=
  if carries s then originateRouted k s
  else match port with
    | some p => mcSend p k s
    | none => s

end Sys2Proof.Machine
end

