-- ==== Sys2Proof/Machine/Links.lean ====
section
/-! DEFINITION. Markers, credits and link parameters (R108, R109, R120 to R124, R137, R356). -/
namespace Sys2Proof.Machine
open Sys2Proof

/-! ### Slot markers (R109) -/

/-- A mismatch on a port. -/
def markerMismatch (p m : Nat) (s : State) : State :=
  let s := setLink p (fun l => { l with markers := l.markers + 1 }) (occPort p 8 1 {} (count E.PKT_MARKER_MISMATCH 1 s))
  let s := if (linkOf s p).markers = 1 then setLink p (fun l => { l with firstMarker := m }) s else s
  if (linkOf s p).markers > Cfg.PKT_ERROR_EVENT_LIMIT s then
    raiseOnce Ev.PKT_MARKER p [.u16 p, .u32 (linkOf s p).firstMarker] s
  else s

/-- Start of the slot that a marker names, in the tick nearest the running one with its number in the frame. -/
def markerBoundary (s : State) (m : Nat) : Nat :=
  let d := serialDist 10 (bits m 17 10) (s.clk.tick % 1024)
  let t := if d < 512 then s.clk.tick + d else s.clk.tick + d - 1024
  slotStart t (bits m 27 5)

/-- Distance between two instants. -/
def gapOf (a b : Nat) : Nat := if a ≤ b then b - a else a - b

/-! ### Credits (R120 to R122, R137, R356) -/

/-- Take a partner's counts as a new base (R137): receipts count against its Sent, and nothing is outstanding toward it. -/
def creditBase (c : Credit) (pSent pFreed : Nat) : Credit :=
  { c with received := pSent, pFreed := pFreed, shift := serialDist 32 c.sent pFreed }

/-- Whether `a` is serially before, or not comparable with, `b` (R98). -/
def before32 (a b : Nat) : Bool := a != b && !serialAfter 32 a b

/-- Judge one VC's counts of a CREDIT: the account after it, blocks found lost, and whether it was resynchronised. -/
def creditJudge (c : Credit) (pSent pFreed : Nat) : Credit × Nat × Bool :=
  if before32 pSent c.received || before32 pFreed c.pFreed then (creditBase c pSent pFreed, 0, true)
  else
    let lost := serialDist 32 pSent c.received
    ({ c with received := pSent, pFreed := pFreed, freed := (c.freed + lost) % 2 ^ 32 }, lost, false)

/-- Sent and Freed of a VC in a CREDIT body. -/
def creditFields (body : Bytes) (vc : Nat) : Nat × Nat := (beAt body (8 * (vc - 1)) 4, beAt body (8 * (vc - 1) + 4) 4)

/-- Report what a CREDIT found on a VC. -/
def creditReport (p vc lost : Nat) (resync : Bool) (s : State) : State :=
  if resync then raise Ev.PKT_CREDIT_RESYNC [.u16 p, .u8 vc] (count E.PKT_CREDIT_RESYNC 1 s)
  else if lost = 0 then s
  else raiseOnce Ev.PKT_CREDIT_LOSS p [.u16 p] (occPort p 7 lost { q := some (p % 4), vc := some vc } (count E.PKT_CREDIT_LOST_BLOCKS lost s))

/-- Units of a VC that a port has received since the latest slot-24 markers of its lanes. -/
def sinceGap (l : Link) (vc : Nat) : Nat := sumNat ((List.range 5).map fun i => SMap.getD l.since (i * 4 + vc) 0)

/-- Move an account's count of units received. -/
def Credit.shifted (c : Credit) (n : Nat) : Credit := { c with received := (c.received + n) % 2 ^ 32 }

/-- Take one VC's counts of a CREDIT of the gap slot whose markers have come: they are held against what came before it. The first
CREDIT after training is the base. -/
def creditVc (p vc : Nat) (body : Bytes) (based : Bool) (s : State) : State :=
  let (a, b) := creditFields body vc
  let n := sinceGap (linkOf s p) vc
  let c := ((linkOf s p).vc vc).shifted (2 ^ 32 - n % 2 ^ 32)
  if based then
    let (c, lost, re) := creditJudge c a b
    creditReport p vc lost re (setLink p (fun l => l.setVc vc (c.shifted n)) s)
  else setLink p (fun l => l.setVc vc ((creditBase c a b).shifted n)) s

/-- Ingress lanes of a port in service, with the reserve lane where it carries one. -/
def ingressLanes (s : State) (p : Nat) : List Nat :=
  ((List.range 4).filter fun l => laneSt s p 1 l == .inService) ++ (match reserveHeld s p 1 with | .carrying _ => [4] | _ => [])

/-- Judge the CREDIT that waits, once the slot-24 marker of its tick has arrived on every lane in service (R122). -/
def creditTry (p : Nat) (s : State) : State := match (linkOf s p).credit with
  | none => s
  | some body =>
    if (ingressLanes s p).all fun l => SMap.get? (linkOf s p).gapTicks l == some (beAt body 24 4 % 1024) then
      let based := (linkOf s p).based
      let s := [1, 2, 3].foldl (fun s vc => creditVc p vc body based s) (setLink p (fun l => { l with credit := none }) s)
      portTouch p (setLink p (fun l => { l with based := true }) s)
    else s

/-- A slot-24 marker of a lane: what comes after it belongs to the next count. -/
def gapMark (p l t : Nat) (s : State) : State :=
  creditTry p (setLink p (fun k => { k with
    since := k.since.filter fun x => x.1 / 4 != l
    gapTicks := SMap.set k.gapTicks l t }) s)

/-- CREDIT_RECEIVED (R122): it waits for the slot-24 markers of its tick. -/
def execCreditReceived (p : Port) (k : Packet) (s : State) : Out :=
  run (fun s =>
    let s := fromInbox p k s
    if !dpLive s || portFormat s p != 1 || pkOp k != Op.CREDIT || !pkCrcOk k then s
    else
      let s := hearEpoch p k s
      if darkIn s p then s else creditTry p (setLink p (fun l => { l with credit := some (pkBody k) }) s)) s

/-! ### Link parameters (R123, R124) -/

/-- LINK_PARAMS_RECEIVED (R124). -/
def execLinkParamsReceived (p : Port) (k : Packet) (s : State) : Out :=
  run (fun s =>
    let s := fromInbox p k s
    if !dpLive s || portFormat s p != 1 || pkOp k != Op.LINK_PARAMS || !pkCrcOk k then s
    else
      let s := hearEpoch p k s
      let b := pkBody k
      let bad := beAt b 2 1 != portFormat s p || beAt b 0 2 / 256 != 4
      let l := linkOf s p
      let s := if bad && !(l.params && l.mismatch) then
          raise Ev.PKT_LINK_MISMATCH [.u16 p] (count E.PKT_LINK_MISMATCH 1 s)
        else s
      portTouch p (setLink p (fun l =>
        let l := [1, 2, 3].foldl (fun (l : Link) vc => l.setVc vc { l.vc vc with limit := beAt b (4 * vc) 4 }) l
        { l with params := true, mismatch := bad, partner := b }) s)) s

/-! ### Link-local packets the part sends -/

/-- Body of a CREDIT (R121). -/
def creditBody (s : State) (p : Nat) : Bytes :=
  let l := linkOf s p
  (([1, 2, 3].map fun vc => beBytes 4 (l.vc vc).sent ++ beBytes 4 (l.vc vc).freed).flatten) ++ beBytes 4 s.clk.tick ++ beBytes 4 0

/-- Body of a LINK_PARAMS (R123). -/
def paramsBody (s : State) (p : Nat) : Bytes :=
  beBytes 2 (getNum s E.BEHAVIOUR_LEVEL_ACTIVE 1024) ++ beBytes 1 (portFormat s p) ++ beBytes 1 (portFec s p)
    ++ (([1, 2, 3].map fun vc => beBytes 4 (advertised s vc)).flatten) ++ beBytes 4 (posFa s) ++ beBytes 12 0

/-- When a lane is free. -/
def laneFree (s : State) (p w : Nat) : Nat :=
  (s.dp.wire.filter fun x => x.port == p && x.lane == w).foldl (fun m x => max m x.doneAt) (now s)

/-- When a link-local packet starts on a lane (R119): as soon as the lane is free, or with the first later lane-slot open to it. -/
def localStart (s : State) (p w : Nat) : Option Nat :=
  let free := laneFree s p w
  let next := (slotOf free).1 * 25 + (slotOf free).2 + 1
  (free :: (List.range 50).map fun i => slotStart ((next + i) / 25) ((next + i) % 25)).find? fun x => fitsAt s p w x (wirePs 64)

/-- Put something on a lane from an instant on. -/
def onWireFrom (p w start wire : Nat) (s : State) : State :=
  { s with dp := { s.dp with wire := (s.dp.wire.filter fun x => now s < x.doneAt)
      ++ [{ port := p, lane := w, startAt := start, doneAt := wireEnd s start wire, id := 0 }] } }

/-- Send a link-local packet on a port's lowest primary lane in service, with the launch stamp of its start (R112). -/
def sendLocal (p op : Nat) (body : Bytes) (s : State) : State :=
  match lowLane s p with
  | none => s
  | some w => match localStart s p w with
    | none => s
    | some t =>
      let k := mkControl Vc.MC (eBit s) 0xFFFFFF op (posFa s) 0 false 0 0 p (activeEpoch s) body (t / 1000 % 2 ^ 32)
      let s := onWireFrom p w t (wirePs 64) (occSent p w Vc.MC k (emitOn p w k s))
      let s := if (slotOf t).2 = 24 then occLane p w 36 64 {} s else s
      if slotOf t = slotOf (now s) && s.dp.idle.contains (p * 5 + w) then
        slotUsed p w (if (slotOf t).2 < 24 && (entryIn s (slotOf t).1 p w (slotOf t).2).1 = 1 then 33 else 34) s
      else s

/-- Send the LINK_PARAMS of R123, and keep the limits it was sent for. -/
def sendParams (p : Nat) (s : State) : State :=
  if ((lowLane s p).bind (localStart s p)).isNone then s
  else setLink p (fun l => { l with told := [1, 2, 3].map (ownLimit s) }) (sendLocal p Op.LINK_PARAMS (paramsBody s p) s)

/-- The LINK_PARAMS of a port that has trained, when its lanes first carry valid markers (R123). -/
def paramsFirst (p : Nat) (s : State) : State :=
  if (portOf s p).trained && portFormat s p == 1 && (linkOf s p).told.isEmpty && markersSeen s p then sendParams p s else s

/-! ### Slot markers received (R109) -/

/-- SLOT_MARKER (R109): a marker's boundary lies within 20.48 ns of the part's own, and its epoch bit agrees. In Rest the
keep-alive lane's markers count too. -/
def execSlotMarker (p : Port) (l : Lane) (m : BitVec 32) (at_ : At) (s : State) : Out :=
  runAt at_ (fun s =>
    let m := m.toNat % 2 ^ 32
    if !laneWatched s p l || portFormat s p != 1 || darkIn s p then s
    else if !markerOk m then markerMismatch p m s
    else
      let key := p.val * 5 + l.val
      let last := SMap.get? s.op.roles key
      let n := SMap.getD s.op.markers key 0
      let n := match last with
        | some (t, _, _) => if t = s.clk.tick then n else if t + 1 = s.clk.tick then n + 1 else 1
        | none => 1
      let s := { s with op := { s.op with
        roles := SMap.set s.op.roles key (s.clk.tick, bits m 12 4, bits m 9 3)
        markers := SMap.set s.op.markers key n } }
      let bad := gapOf (markerBoundary s m) (now s) > 20480 || bits m 16 1 != eBit s
      let s := if bits m 27 5 = 24 then gapMark p l (bits m 17 10) s else s
      paramsFirst p (if bad then markerMismatch p m s else s)) s

/-- Whether a limit entry has a new value that the port has not advertised (R125). -/
def limitsNew (s : State) (p : Nat) : Bool :=
  let t := (linkOf s p).told
  !t.isEmpty && t != [1, 2, 3].map (ownLimit s)

end Sys2Proof.Machine
end

