-- ==== Sys2Proof/Machine/Wide.lean ====
section
/-! DEFINITION. The crusher's arithmetic: formats, the wide accumulator, pairing and rounding (R175 to R186). Every finite
value is an exact m × 2^e; a wide value is its binary64 pattern, or a 64-bit integer pattern. -/
namespace Sys2Proof.Machine
open Sys2Proof

/-! ### Values -/

/-- A value of a float format: finite values are exact. -/
inductive Num where
  | nan
  | inf (neg : Bool)
  | fin (neg : Bool) (m : Nat) (e : Int)
deriving DecidableEq, Repr

/-- A binary float format: fraction bits, exponent bits, the exponent of its smallest step, its largest finite m × 2^e and
the power of two above that. `kind`: 0 has infinities and NaNs as IEEE 754, 1 only the NaN S.1111.111, 2 neither. -/
structure FFmt where
  fb : Nat
  eb : Nat
  qmin : Int
  maxM : Nat
  maxE : Int
  top : Int
  kind : Nat
deriving DecidableEq, Repr

def fWide : FFmt := { fb := 52, eb := 11, qmin := -1074, maxM := 2 ^ 53 - 1, maxE := 971, top := 1024, kind := 0 }
def f32 : FFmt := { fb := 23, eb := 8, qmin := -149, maxM := 2 ^ 24 - 1, maxE := 104, top := 128, kind := 0 }
def fBf16 : FFmt := { fb := 7, eb := 8, qmin := -133, maxM := 2 ^ 8 - 1, maxE := 120, top := 128, kind := 0 }
def fF16 : FFmt := { fb := 10, eb := 5, qmin := -24, maxM := 2 ^ 11 - 1, maxE := 5, top := 16, kind := 0 }
def fE4m3 : FFmt := { fb := 3, eb := 4, qmin := -9, maxM := 14, maxE := 5, top := 9, kind := 1 }
def fE5m2 : FFmt := { fb := 2, eb := 5, qmin := -16, maxM := 7, maxE := 13, top := 16, kind := 0 }
def fE3m2 : FFmt := { fb := 2, eb := 3, qmin := -4, maxM := 7, maxE := 2, top := 5, kind := 2 }
def fE2m3 : FFmt := { fb := 3, eb := 2, qmin := -3, maxM := 15, maxE := -1, top := 3, kind := 2 }
def fE2m1 : FFmt := { fb := 1, eb := 2, qmin := -1, maxM := 3, maxE := 1, top := 3, kind := 2 }
/-- The grid of MXINT8: multiples of 2^-6. -/
def fInt8 : FFmt := { fb := 7, eb := 0, qmin := -6, maxM := 127, maxE := -6, top := 1, kind := 2 }

/-- Element format of a code of R175 that is a float. -/
def elemFmt (f : Nat) : FFmt :=
  if f = 0x0 then f32 else if f = 0x1 then fBf16 else if f = 0x2 then fF16 else if f = 0x3 ∨ f = 0x5 then fE4m3
  else if f = 0x4 ∨ f = 0x6 then fE5m2 else if f = 0x7 then fE3m2 else if f = 0x8 then fE2m3 else if f = 0x9 then fE2m1
  else fInt8

/-- Bits of an element of a code. -/
def elemBits (f : Nat) : Nat :=
  if f = 0x0 ∨ f = 0xC then 32 else if f = 0x1 ∨ f = 0x2 then 16 else if f = 0x7 ∨ f = 0x8 then 6
  else if f = 0x9 then 4 else if f = 0xD then 64 else 8

/-- Largest power of two of an MX element (R175). -/
def mxEmax (f : Nat) : Int := (elemFmt f).top - 1

/-! ### Exact arithmetic -/

/-- m × 2^e as a multiple of 2^q, for q at most e. -/
def alignTo (m : Nat) (e q : Int) : Nat := m * 2 ^ (e - q).toNat

/-- Whether m × 2^e is less than n × 2^f. -/
def dyLt (m : Nat) (e : Int) (n : Nat) (f : Int) : Bool := alignTo m e (min e f) < alignTo n f (min e f)

/-- m × 2^e to the nearest multiple of 2^q, ties to even. -/
def nearest (m : Nat) (e q : Int) : Nat :=
  if q ≤ e then alignTo m e q
  else
    let k := (q - e).toNat
    let n := m / 2 ^ k
    let r := m % 2 ^ k
    if 2 * r > 2 ^ k ∨ (2 * r = 2 ^ k ∧ n % 2 = 1) then n + 1 else n

/-- m × 2^e to a multiple of 2^q not above it. -/
def below (m : Nat) (e q : Int) : Nat := if q ≤ e then alignTo m e q else m / 2 ^ (q - e).toNat

/-- Exponent of a format's step at m × 2^e. -/
def stepExp (g : FFmt) (m : Nat) (e : Int) : Int := if g.eb = 0 then g.qmin else max ((Nat.log2 m : Int) + e - g.fb) g.qmin

/-! ### Patterns -/

/-- The value of a pattern of a format (R176). -/
def decodeFmt (g : FFmt) (c : Nat) : Num :=
  let neg := bit c (g.fb + g.eb)
  let ef := bits c g.fb g.eb
  let fr := bits c 0 g.fb
  if g.kind = 0 ∧ ef = 2 ^ g.eb - 1 then (if fr = 0 then .inf neg else .nan)
  else if g.kind = 1 ∧ ef = 2 ^ g.eb - 1 ∧ fr = 2 ^ g.fb - 1 then .nan
  else if ef = 0 then .fin neg fr g.qmin
  else .fin neg (2 ^ g.fb + fr) (g.qmin + ef - 1)

/-- The pattern without sign of m × 2^e, which lies on the format's grid and within its largest finite. -/
def encodeMag (g : FFmt) (m : Nat) (e : Int) : Nat :=
  if m = 0 then 0
  else
    let k := (Nat.log2 m : Int) + e
    let q := stepExp g m e
    let n := below m e q
    if k < g.qmin + g.fb then n else (k - (g.qmin + g.fb) + 1).toNat * 2 ^ g.fb + (n - 2 ^ g.fb)

def signBit (g : FFmt) (neg : Bool) : Nat := b2n neg * 2 ^ (g.fb + g.eb)
def infPat (g : FFmt) (neg : Bool) : Nat := signBit g neg + (2 ^ g.eb - 1) * 2 ^ g.fb

/-- The wide pattern of NaN. -/
def wideNan : Nat := 0x7FF8000000000000

/-- A value as a wide pattern, rounded to nearest, ties to even (R180). -/
def toWide : Num → Nat
  | .nan => wideNan
  | .inf neg => infPat fWide neg
  | .fin neg m e =>
    if m = 0 then signBit fWide neg
    else
      let q := stepExp fWide m e
      let n := nearest m e q
      if dyLt fWide.maxM fWide.maxE n q then infPat fWide neg else signBit fWide neg + encodeMag fWide n q

def ofWide (w : Nat) : Num := decodeFmt fWide w

/-! ### Combining (R180) -/

def addNum (a b : Num) : Num :=
  match a, b with
  | .nan, _ => .nan
  | _, .nan => .nan
  | .inf x, .inf y => if x = y then .inf x else .nan
  | .inf x, _ => .inf x
  | _, .inf y => .inf y
  | .fin x m e, .fin y n f =>
    let q := min e f
    let i : Int := alignTo m e q
    let j : Int := alignTo n f q
    let z := (if x then -i else i) + (if y then -j else j)
    if z = 0 then .fin (x && y) 0 q else .fin (z < 0) z.natAbs q

/-- Whether a value is less than another; −0 is less than +0. -/
def ltNum (a b : Num) : Bool :=
  match a, b with
  | .inf x, .inf y => x && !y
  | .inf x, _ => x
  | _, .inf y => !y
  | .fin x m e, .fin y n f =>
    if m = 0 ∧ n = 0 then x && !y
    else if x != y then (if m = 0 then !y else if n = 0 then x else x)
    else if x then dyLt n f m e else dyLt m e n f
  | _, _ => false

/-- Combine two wide values under an operation: 0 sum, 1 min, 2 max, 3 and, 4 or, 5 xor. -/
def combineWide (op : Nat) (isInt : Bool) (a b : Nat) : Nat :=
  if isInt then
    let x := toSigned 64 a
    let y := toSigned 64 b
    if op = 0 then (a + b) % 2 ^ 64
    else if op = 1 then (if y < x then b else a)
    else if op = 2 then (if x < y then b else a)
    else if op = 3 then a &&& b else if op = 4 then a ||| b else a ^^^ b
  else
    let x := ofWide a
    let y := ofWide b
    if op = 0 then toWide (addNum x y)
    else if x = .nan ∨ y = .nan then wideNan
    else if op = 1 then (if ltNum y x then b else a) else (if ltNum x y then b else a)

/-- Multiply a wide value by an F32 factor (R181). -/
def scaleWide (w factor : Nat) : Nat :=
  match ofWide w, decodeFmt f32 factor with
  | .nan, _ => wideNan
  | .inf x, .fin y _ _ => infPat fWide (x != y)
  | .fin x m e, .fin y n f => toWide (.fin (x != y) (m * n) (e + f))
  | _, _ => wideNan

/-! ### Widening contributions (R176) -/

/-- The elements of a packed run of `w`-bit codes, first in the most significant bits. -/
def unpack (w n : Nat) (bs : Bytes) : List Nat :=
  let v := beNat bs
  (List.range n).map fun i => bits v (8 * bs.length - w * (i + 1)) w

/-- Multiply a value by 2^x. -/
def shiftNum (x : Int) : Num → Num
  | .fin s m e => .fin s m (e + x)
  | v => v

/-- The values of an MX block: scale byte, then 32 elements. -/
def widenBlock (f : Nat) (bs : Bytes) : List Nat :=
  let scale := beAt bs 0 1
  let codes := unpack (elemBits f) 32 (bs.drop 1)
  codes.map fun c =>
    if scale = 0xFF then wideNan
    else
      let v := if f = 0xA then (let z := toSigned 8 c; Num.fin (z < 0) z.natAbs (-6)) else decodeFmt (elemFmt f) c
      toWide (shiftNum ((scale : Int) - 127) v)

/-- Bytes of an MX block. -/
def mxBlock (f : Nat) : Nat := 1 + elemBits f * 4

/-- Widen a payload. -/
def widen (f : Nat) (bs : Bytes) : List Nat :=
  if fmtMx f then ((chunks (mxBlock f) bs).map (widenBlock f)).flatten
  else
    let w := elemBits f / 8
    (chunks w bs).map fun b =>
      if fmtInt f then ofSigned 64 (toSigned (elemBits f) (beNat b)) else toWide (decodeFmt (elemFmt f) (beNat b))

/-! ### Output (R177, R178, R185, R186) -/

/-- How elements are rounded: the seed part of the hash where rounding is stochastic. -/
structure Rounding where
  stochastic : Bool
  /-- seed xor (collective id << 40) xor (chunk index << 16). -/
  mixIn : Nat
deriving DecidableEq, Repr

/-- The 32 random bits of an element (R186). -/
def randBits (r : Rounding) (i : Nat) : Nat := mix ((r.mixIn ^^^ i) % 2 ^ 64) / 2 ^ 32

/-- What a magnitude rounds to: a multiple of a step, or beyond the largest finite. -/
inductive Rounded where
  | at' (n : Nat) (q : Int)
  | beyond
deriving DecidableEq, Repr

/-- Round the magnitude m × 2^e of element `i` to a format's grid. -/
def roundMag (g : FFmt) (r : Rounding) (i m : Nat) (e : Int) : Rounded :=
  if m = 0 then .at' 0 g.qmin
  else
    let past := dyLt g.maxM g.maxE m e
    let q := if past then g.maxE else stepExp g m e
    let a := if past then alignTo g.maxM g.maxE q else below m e q
    if r.stochastic then
      if !past && alignTo a q (min q e) = alignTo m e (min q e) then .at' a q
      else
        let u := min e (min q g.top)
        let b := if past then alignTo 1 g.top u else alignTo (a + 1) q u
        let lo := alignTo a q u
        let quot := (alignTo m e u - lo) * 2 ^ 32 / (b - lo)
        if randBits r i < quot then (if past || dyLt g.maxM g.maxE (a + 1) q then .beyond else .at' (a + 1) q) else .at' a q
    else
      let q := stepExp g m e
      let n := nearest m e q
      if dyLt g.maxM g.maxE n q then .beyond else .at' n q

/-- A converted element: its pattern, whether it saturated, and whether it is a NaN. -/
structure Elem where
  code : Nat
  sat : Bool := false
  nan : Bool := false
deriving DecidableEq, Repr

/-- The NaN of a float format. -/
def nanPat (f : Nat) : Nat :=
  if f = 0x0 then 0x7FC00000 else if f = 0x1 then 0x7FC0 else if f = 0x2 then 0x7E00
  else if f = 0x3 ∨ f = 0x5 then 0x7F else 0x7E

/-- Convert one value to a float element format. `mx`: an MX element, whose clamping is not counted. -/
def outElem (f : Nat) (mx : Bool) (r : Rounding) (i : Nat) (v : Num) : Elem :=
  let g := elemFmt f
  match v with
  | .nan => { code := nanPat f, nan := true }
  | .inf neg => if g.kind = 0 then { code := infPat g neg } else { code := nanPat f, nan := true }
  | .fin neg m e =>
    let past := dyLt g.maxM g.maxE m e
    let max_ := encodeMag g g.maxM g.maxE
    match roundMag g r i m e with
    | .at' n q => { code := signBit g neg + encodeMag g n q, sat := past && !mx }
    | .beyond =>
      if f ≤ 0x2 then { code := infPat g neg } else { code := signBit g neg + max_, sat := past && !mx }

/-- Convert one value to an element of MXINT8. -/
def outInt8 (r : Rounding) (i : Nat) (v : Num) : Elem :=
  match v with
  | .fin neg m e =>
    let n := match roundMag fInt8 r i m e with | .at' n _ => n | .beyond => 127
    { code := ofSigned 8 (if neg then -(n : Int) else n) }
  | _ => { code := 0, nan := true }

/-- The shared scale exponent of a block (R178). -/
def mxScale (f : Nat) (vs : List Num) : Int :=
  let top := vs.foldl (fun (b : Option Int) v => match v with
    | .fin _ m e => if m = 0 then b else
        let k := (Nat.log2 m : Int) + e
        some (match b with | none => k | some x => max x k)
    | _ => b) none
  match top with
  | none => -127
  | some k => min (max (k - mxEmax f) (-127)) 127

/-- Pack codes of `w` bits, first in the most significant bits. -/
def pack (w : Nat) (cs : List Nat) : Bytes := beBytes (w * cs.length / 8) (cs.foldl (fun a c => a * 2 ^ w + c % 2 ^ w) 0)

/-- A converted payload: bytes, elements saturated, NaN elements written. -/
structure Conv where
  bytes : Bytes
  sat : Nat
  nan : Nat
deriving DecidableEq, Repr

/-- Convert an MX block whose first element has number `i0`. -/
def outBlock (f : Nat) (r : Rounding) (i0 : Nat) (ws : List Nat) : Conv :=
  let vs := ws.map ofWide
  let x := mxScale f vs
  let finite := vs.all fun v => match v with | .fin _ _ _ => true | _ => false
  if !finite && f ≥ 0x7 then
    { bytes := 0xFF :: List.replicate (mxBlock f - 1) 0, sat := 0, nan := vs.length }
  else
    let es := (numbered vs).map fun y =>
      if f = 0xA then outInt8 r (i0 + y.1) (shiftNum (-x) y.2) else outElem f true r (i0 + y.1) (shiftNum (-x) y.2)
    { bytes := BitVec.ofNat 8 (x + 127).toNat :: pack (elemBits f) (es.map (·.code)), sat := 0, nan := (es.filter (·.nan)).length }

/-- Convert an integer value (R177). -/
def outInt (f w : Nat) : Elem :=
  let z := toSigned 64 w
  let n := elemBits f
  if f = 0xD then { code := w }
  else
    let hi : Int := 2 ^ (n - 1) - 1
    let y := min (max z (-hi - 1)) hi
    { code := ofSigned n y, sat := y != z }

/-- Cut a list into runs. -/
def listChunks {α : Type} (n : Nat) : Nat → List α → List (List α)
  | 0, _ => []
  | k + 1, l => if l.isEmpty then [] else l.take n :: listChunks n k (l.drop n)

/-- Convert the wide values of a chunk to its output payload. -/
def outConvert (f : Nat) (r : Rounding) (ws : List Nat) : Conv :=
  if fmtMx f then
    (numbered (listChunks 32 (ws.length / 32 + 1) ws)).foldl (fun c b =>
      let d := outBlock f r (32 * b.1) b.2
      { bytes := c.bytes ++ d.bytes, sat := c.sat + d.sat, nan := c.nan + d.nan }) { bytes := [], sat := 0, nan := 0 }
  else
    let es := (numbered ws).map fun y => if fmtInt f then outInt f y.2 else outElem f false r y.1 (ofWide y.2)
    { bytes := (es.map fun e => beBytes (elemBits f / 8) e.code).flatten,
      sat := (es.filter (·.sat)).length, nan := (es.filter (·.nan)).length }

/-! ### Pairing (R182, R183) -/

/-- Combine two operands, the lower member range on the left. -/
def combineOpd (op : Nat) (isInt : Bool) (a b : List Nat) : List Nat := List.zipWith (combineWide op isInt) a b

/-- What an input does to a node: the operands held after it, combines made, and the node's output once it has one. -/
structure NodeStep where
  held : List Operand
  combines : Nat
  out : Option (List Nat)
deriving DecidableEq, Repr

/-- The loop of R183 from an operand just arrived; `held` are the others. -/
def nodeLoop (op : Nat) (isInt : Bool) (n nsize : Nat) : Nat → List Operand → Operand → Nat → NodeStep
  | 0, held, x, c => { held := held ++ [x], combines := c, out := none }
  | f + 1, held, x, c =>
    if nsize ≤ x.size then { held := held, combines := c, out := some x.vals }
    else
      let plo := x.lo - x.lo % (2 * x.size)
      if plo + x.size ≥ n then nodeLoop op isInt n nsize f held { lo := plo, size := 2 * x.size, vals := x.vals } c
      else
        let sib := if x.lo = plo then plo + x.size else plo
        match held.find? fun y => y.lo == sib && y.size == x.size with
        | none => { held := held ++ [x], combines := c, out := none }
        | some y =>
          let v := if x.lo = plo then combineOpd op isInt x.vals y.vals else combineOpd op isInt y.vals x.vals
          nodeLoop op isInt n nsize f (held.erase y) { lo := plo, size := 2 * x.size, vals := v } (c + v.length)

/-- Rounding of a chunk of a recipe. -/
def recRounding (r : Recipe) (chunk : Nat) : Rounding :=
  { stochastic := r.stochastic, mixIn := (r.seed ^^^ (r.coll * 2 ^ 40) ^^^ (chunk * 2 ^ 16)) % 2 ^ 64 }

/-- `round_partial` of R183: the values the parent gets, and what the conversion counted. -/
def roundPartial (r : Recipe) (chunk : Nat) (ws : List Nat) : List Nat × Nat × Nat :=
  if fmtInt r.inFmt || r.partialFmt = 0 then (ws, 0, 0)
  else if r.partialFmt = 1 then
    (ws.map fun w => toWide (decodeFmt f32 (outElem 0x0 false { stochastic := false, mixIn := 0 } 0 (ofWide w)).code), 0, 0)
  else
    let c := outConvert r.outFmt (recRounding r chunk) ws
    (widen r.outFmt c.bytes, c.sat, c.nan)

end Sys2Proof.Machine
end

