-- ==== Sys2Proof/Machine/Optics.lean ====
section
/-! DEFINITION. Wings, lanes and light (chapter 10): ring loops, lane moves, reports, laser modules and calibration. -/
namespace Sys2Proof.Machine
open Sys2Proof

/-! ### Values of the loops -/

/-- A finite binary32 value as a rational; zero where it is none. -/
def ratOf32 (v : Nat) : Rat :=
  match decodeFmt f32 v with
  | .fin neg m e =>
    let q : Rat := if 0 ≤ e then ((m * 2 ^ e.toNat : Nat) : Rat) else (m : Rat) / ((2 ^ (-e).toNat : Nat) : Rat)
    if neg then -q else q
  | _ => 0

def ratMax (a b : Rat) : Rat := if a < b then b else a
def ratMin (a b : Rat) : Rat := if a < b then a else b
def ratClamp (lo hi x : Rat) : Rat := ratMax lo (ratMin hi x)
def ratAbs (x : Rat) : Rat := if x < 0 then -x else x

/-- Heat coupling of a ring in GHz per W, and its tuning efficiency in GHz per mW. -/
def coupling (n : Nat) : Rat := ratOf32 (beAt (Config.moduleBytes E.OP_FF_COUPLING) (4 * n) 4)
def efficiencyOf (s : State) (n : Nat) : Nat := SMap.getD s.op.efficiency n (beAt (Config.moduleBytes E.OP_HEATER_EFFICIENCY) (4 * n) 4)

/-! ### Feedforward (R319) -/

/-- Selector of an input (R420). -/
def selector (cls idx : Nat) : Nat := cls * 2 ^ 13 + idx
def reading (s : State) (cls idx : Nat) : Int := SMap.getD s.hl.readings (selector cls idx) 0
def setReading (cls idx : Nat) (v : Int) (s : State) : State :=
  { s with hl := { s.hl with readings := SMap.set s.hl.readings (selector cls idx) v } }

/-- Power of a die in W as it is metered. -/
def measuredW (s : State) (d : Nat) : Rat := (reading s 1 d : Rat) / 10

/-- Declared load of a die, stepped linearly across its window of 128 ticks. -/
def declNow (img : Image) (t d : Nat) : Rat :=
  let k := periodTick img t
  let w := k / 128
  let prev := (declared img ((w + 8 * img.period - 1) % (8 * max img.period 1)) d : Rat)
  let cur := (declared img w d : Rat)
  prev + (cur - prev) * ((k % 128 : Nat) : Rat) / 128

/-- Forecast power of a die; none where no image is active or the feedforward is off. -/
def forecastW (s : State) (d : Nat) : Option Rat :=
  if Cfg.OP_FF_ENABLE s = 0 then none
  else s.tt.active.map fun i =>
    (Cfg.OP_FF_DIE_IDLE_W s : Rat) + (Cfg.OP_FF_DIE_SPAN_W s : Rat) * declNow i s.clk.tick d / 256

/-- Feedforward power of a die. -/
def pFf (s : State) (d : Nat) : Rat :=
  match forecastW s d with
  | none => measuredW s d
  | some f => if (SMap.get? s.op.unforecast d).isSome then measuredW s d else f

/-- Compare a die's power with its forecast, once a tick. -/
def forecastCheck (d : Nat) (s : State) : State :=
  match forecastW s d with
  | none => s
  | some f =>
    let m := measuredW s d
    let was := SMap.get? s.op.unforecast d
    let put := fun v (s : State) => { s with op := { s.op with unforecast := SMap.set s.op.unforecast d v } }
    if ratAbs (m - f) > (Cfg.OP_FF_MEAS_LIMIT_W s : Rat) then
      if was.isSome then put 0 s
      else raiseOnce Ev.OP_UNFORECAST d [.u8 d, .i32 (f * 10).floor, .i32 (reading s 1 d)] (count E.OP_FF_UNFORECAST 1 (put 0 s))
    else match was with
      | none => s
      | some n => if n + 1 ≥ 128 then { s with op := { s.op with unforecast := SMap.erase s.op.unforecast d } } else put (n + 1) s

/-! ### Moves (R325 to R331) -/

/-- Whether a reserve lane is free (R325): not held by a lease or a move, not promised to one, not UNAVAILABLE. -/
def reserveFree (s : State) (p d : Nat) : Bool :=
  reserveHeld s p d == .idle
    && !(s.op.moves.any fun m => m.port == p && m.dir == d && m.dst == 4 && (m.state == .accepted || m.state == .inForce || m.state == .returning))

def setMoves (l : List Move) (s : State) : State := { s with op := { s.op with moves := l } }

def moveFind (s : State) (p id : Nat) : Option Move := s.op.moves.find? fun m => m.port == p && m.id == id

/-- Report a move that could not be made. -/
def moveRefused (p status : Nat) (s : State) : State := raiseOnce Ev.OP_MOVE_REFUSED p [.u16 p, .u8 status] s

/-- Propose a planned move of a lane in service to the reserve lane; S is named when the message leaves. In Rest the part makes
no moves (R347). -/
def movePropose (p d l reason : Nat) (s : State) : State :=
  let same := s.op.moves.any fun m => m.port == p && m.dir == d && (m.src == l || m.dst == l)
  if !dpLive s || portFormat s p != 1 || l ≥ 4 || same || darkIn s p || laneSt s p d l != .inService then s
  else if !reserveFree s p d then moveRefused p 1 s
  else
    let id := s.op.nextMove
    moveSend p (moveBody 1 l 4 d reason 0 id 0)
      (moveAdd (fun id => { id := id, port := p, src := l, dst := 4, dir := d, reason := reason, state := .proposed, S := 0, mine := true }) s)

/-- Propose the return of a moved lane. -/
def returnPropose (p d l reason : Nat) (s : State) : State :=
  let out := s.op.moves.any fun m => m.port == p && m.dir == d && m.src == l && m.state == .inForce
  if !out || laneSt s p d l != .moved then s
  else
    let id := s.op.nextMove
    let s := setMoves (s.op.moves.map fun m =>
      if m.port = p && m.dir = d && m.src = l && m.state = .inForce then { m with state := .returning } else m) s
    moveSend p (moveBody 1 4 l d reason 0 id 0)
      (moveAdd (fun id => { id := id, port := p, src := 4, dst := l, dir := d, reason := reason, state := .proposed, S := 0, mine := true }) s)

/-- Take back the duplicate that an abandoned move has begun: the reserve lane yields the lane, or the lane the reserve lane. -/
def duplicateOff (m : Move) (s : State) : State :=
  if m.dst = 4 then
    (if reserveHeld s m.port m.dir = .carrying m.src && laneSt s m.port m.dir m.src = .inService then setReserve m.port m.dir .idle s else s)
  else if reserveHeld s m.port m.dir = .carrying m.dst && laneSt s m.port m.dir m.dst = .inService then setLane m.port m.dir m.dst .moved s
  else s

/-- Give up a move that has not taken effect; one that was being returned stays in force. -/
def moveDrop (m : Move) (s : State) : State :=
  duplicateOff m (setMoves ((s.op.moves.erase m).map fun x =>
    if m.src = 4 && x.port = m.port && x.dir = m.dir && x.src = m.dst && x.state = .returning then { x with state := .inForce } else x) s)

/-- Whether a move is a fault move (R328). -/
def moveFault (m : Move) : Bool := m.reason == 3 && m.dst == 4

/-- Abandon a planned move (R327). -/
def moveAbandon (m : Move) (s : State) : State :=
  tally E.OP_MOVES_ABANDONED (benchOf m.port) 133 1 {} (moveDrop m s)

/-- A lane's entries go onto the reserve lane. -/
def moveInForce (m : Move) (s : State) : State :=
  let s := setMoves (s.op.moves.map fun x => if x = m then { m with state := .inForce } else x) s
  let s := setReserve m.port m.dir (.carrying m.src) (setLane m.port m.dir m.src .moved s)
  raiseOnce Ev.OP_LANE_MOVED m.port [.u16 m.port, .u8 m.src, .u8 m.dst, .u8 m.dir, .u8 m.reason, .idx m.S] s

/-- A lane takes its entries back. -/
def moveReturned (p d l : Nat) (s : State) : State :=
  let s := setMoves (s.op.moves.filter fun x => !(x.port == p && x.dir == d && (x.src == l || x.dst == l))) s
  let held := reserveHeld s p d
  let s := setLane p d l .inService s
  let s := if held = .carrying l then setReserve p d .idle s else s
  raiseOnce Ev.OP_LANE_RETURNED p [.u16 p, .u8 l, .u8 d] (tally E.OP_RETURNS (benchOf p) 132 1 {} s)

/-- A lane that cannot be carried (R328). -/
def laneDropped (p d l : Nat) (s : State) : State :=
  raiseOnce Ev.OP_LANE_DROPPED p [.u16 p, .u8 l, .u8 d] (tally E.OP_LANES_DROPPED (benchOf p) 135 1 {} (setLane p d l .fault s))

/-- Entries or failed packets of a lane since a tick. -/
def recentOn (s : State) (key since : Nat) : Nat := (s.op.recent.filter fun x => x.1 == key && since ≤ x.2 && x.2 < s.clk.tick).length

/-- Count what a fault move loses on a lane: entries at risk, or packets received damaged (R328). -/
def atRisk (p d n : Nat) (s : State) : State :=
  if n = 0 then s
  else if d = 0 then tally E.OP_FAULT_AT_RISK (benchOf p) 138 n {} s
  else tally E.OP_FAULT_RX_DROPS (benchOf p) 139 n {} s

/-- Planned moves of a direction that a fault move puts aside; the transmitting end refuses them and proposes again (R342). -/
def plannedAside (p d l : Nat) (s : State) : State :=
  (s.op.moves.filter fun m =>
      m.port == p && m.dir == d && m.dst == 4 && !moveFault m && (m.state == .accepted || m.state == .proposed)).foldl
    (fun s m =>
      if m.src = l then duplicateOff m (setMoves (s.op.moves.erase m) s)
      else if m.state = .accepted then
        let s := moveAbandon m s
        if d = 0 then
          let s := moveRefused p 4 (moveSend p (moveBody 3 m.src 4 0 m.reason 4 m.id m.S) s)
          { s with op := { s.op with again := s.op.again ++ [(p, 0, m.src, m.reason)] } }
        else s
      else s) s

/-- A ring of a primary lane has lost lock in this tick (R328). In Rest the part makes no moves (R347), and a fault of an egress
that a chute darkens moves nothing (R366). -/
def primaryLost (p d l : Nat) (s : State) : State :=
  if laneSt s p d l != .inService then s
  else
    let s := setLane p d l .fault s
    if portFormat s p != 1 || !dpLive s || (d == 0 && darkOut s s.clk.tick p) then s
    else
      let s := atRisk p d (recentOn s (laneKey p d l) (s.clk.tick - 4)) s
      let s := plannedAside p d l s
      let S := s.clk.tick + 1
      let s := moveSend p (moveBody 4 l 4 d 3 0 s.op.nextMove S) s
      let s := if d = 1 then { s with op := { s.op with faultSent := SMap.set s.op.faultSent (laneKey p d l) s.clk.tick } } else s
      moveAdd (fun id => { id := id, port := p, src := l, dst := 4, dir := d, reason := 3, state := .accepted, S := S, mine := true }) s

/-- Whether a laser module is LOST, also where it no longer answers since. -/
def elsLost (x : Els) : Bool := x.state == .lost || (x.state == .notResponding && x.before == .lost)

/-- Whether the laser of a wavelength of a port is lost. -/
def laserLost (s : State) (p l : Nat) : Bool := (SMap.get? s.op.els (5 * (p / 32) + l)).any elsLost

/-- A reserve lane is lost: its ring has lost lock, or its laser has (R313, R341). A move that was to take it is abandoned. -/
def reserveLost (p d : Nat) (s : State) : State :=
  let was := reserveHeld s p d
  let s := (s.op.moves.filter fun m => m.port == p && m.dir == d && m.dst == 4 && !moveFault m && m.state == .accepted).foldl
    (fun s m => moveAbandon m s) s
  let s := setReserve p d .unavailable s
  match was with
  | .carrying k =>
    if laneSt s p d k = .inService then s
    else
      let s := atRisk p 0 (recentOn s (laneKey p d 4) (s.clk.tick - 1)) s
      let s := setMoves (s.op.moves.filter fun m => !(m.port == p && m.dir == d)) s
      if (ringOf s (ringNo p d k)).state == .locked && !(d == 0 && laserLost s p k) then
        moveAdd (fun id => { id := id, port := p, src := k, dst := 4, dir := d, reason := 3, state := .returning, S := s.clk.tick + 1, mine := true }) s
      else laneDropped p d k s
  | _ => s

/-- Moves of the ingress wait for the partner's markers (R328, R330): λk stays FAULT until its traffic comes on the reserve lane. -/
def partnerMoved (s : State) (m : Move) : Bool := m.dir == 0 || !m.mine || shownRole s m.port 4 == some (2, m.src)

/-- A fault move at the boundary after its loss, or, on the ingress, at a later one. -/
def faultMove (m : Move) (s : State) : State :=
  let held := s.op.moves.any fun x =>
    x.port == m.port && x.dir == m.dir && x.dst == 4 && (x.state == .inForce || x.state == .returning)
  if held || reserveHeld s m.port m.dir != .idle then laneDropped m.port m.dir m.src (setMoves (s.op.moves.erase m) s)
  else if !partnerMoved s m then s
  else tally E.OP_FAULT_MOVES (benchOf m.port) 130 1 {} (moveInForce { m with S := s.clk.tick } (setMoves
    (s.op.moves.map fun x => if x = m then { m with S := s.clk.tick } else x) s))

/-- A FAULT lane whose rings have stayed locked for the hold returns to service (R329); one that failed a power-up test does not
(R536). -/
def faultBack (k : Nat) (s : State) : State :=
  let p := k / 10
  let d := k % 10 / 5
  let l := k % 5
  if laneSt s p d l != .fault || (ringOf s k).state != .locked || s.bi.deadLanes.contains k then s
  else setLane p d l .inService { s with op := { s.op with
    moves := s.op.moves.filter fun m => !(m.port == p && m.dir == d && m.src == l && moveFault m && m.state == .accepted)
    faultSent := SMap.erase s.op.faultSent k } }

/-- What changes at the boundary of this tick by itself: lanes out of FAULT (R329), fault moves (R328) and returns from a lost
reserve lane (R341); then proposals that waited for the reserve lane (R342). -/
def tickMoves (s : State) : State :=
  let s := s.op.back.foldl (fun s k => faultBack k s) { s with op := { s.op with back := [] } }
  let due_ := s.op.moves.filter fun m => (m.S ≤ s.clk.tick && m.state == .accepted && moveFault m) || (m.S == s.clk.tick && m.state == .returning)
  let s := due_.foldl (fun s m => if m.state = .returning then moveReturned m.port m.dir m.src s else faultMove m s) s
  let ready := s.op.again.filter fun x => reserveFree s x.1 x.2.1
  let wait := s.op.again.filter fun x => !ready.contains x
  let near := s.op.recent.filter fun x => s.clk.tick ≤ x.2 + 5
  let s := { s with op := { s.op with again := wait, recent := near, failed := [], copies := [] } }
  ready.foldl (fun s x => movePropose x.1 x.2.1 x.2.2.1 x.2.2.2 s) s

/-! ### Ring loops (R318, R320, R345) -/

/-- Target detuning of a ring in GHz × 1,000 (R318). -/
def ringTarget (s : State) (n : Nat) : Int := if n % 10 / 5 = 0 then Cfg.OP_TX_DETUNE_GHZ s * 100 else 0

/-- One update of a ring with its detuning in GHz × 1,000. -/
def ringUpdate (n : Nat) (detuning : Int) (s : State) : State :=
  let x := ringOf s n
  let p := n / 10
  let d := n % 10 / 5
  let l := n % 5
  let e3 := detuning - ringTarget s n
  let e : Rat := (e3 : Rat) / 1000
  let s := setReading 2 n (e3 / 100) s
  let pff := pFf s (p / 128)
  let eta := ratOf32 (efficiencyOf s n)
  let ff := coupling n * (pff - x.pref)
  if x.state != .acquiring && x.state != .locked then setRing n { x with e := e } s
  else if d = 1 && darkIn s p then
    setRing n { x with e := e, heater := ratClamp 0 24 ((x.base + x.acc - ff) / eta), good := 0, bad := 0, quiet := Cfg.OP_LOCK_COUNT s } s
  else
    let acc := ratClamp (-800) 800 (x.acc + ratOf32 (Cfg.OP_KI s) * e)
    let sh := x.base + ratOf32 (Cfg.OP_KP s) * e + acc - ff
    let h := ratClamp 0 24 (sh / eta)
    let inside := ratAbs e ≤ (Cfg.OP_LOCK_GHZ s : Rat) / 10
    let out := ratAbs e > (Cfg.OP_UNLOCK_GHZ s : Rat) / 10 || (h ≥ 24 && e > 0) || (h ≤ 0 && e < 0)
    let good := if inside then x.good + 1 else 0
    let bad := if out && x.quiet = 0 then x.bad + 1 else 0
    let y := { x with e := e, acc := acc, heater := h, good := good, bad := bad, quiet := x.quiet - 1 }
    if x.state = .acquiring then
      if good ≥ Cfg.OP_LOCK_COUNT s then
        let base' := if x.fresh then sh else y.base
        let pref' := if x.fresh then pff else y.pref
        let y := { y with state := .locked, lockedAt := some s.clk.tick, bad := 0, again := false, fresh := false, base := base',
                          pref := pref' }
        let s := setRing n y s
        if x.again then raiseOnce Ev.OP_RELOCKED p [.u16 n] (tally E.OP_RELOCKS (benchOf p) 129 1 {} s) else s
      else setRing n y s
    else if bad ≥ Cfg.OP_UNLOCK_COUNT s then
      let s := setRing n { y with state := .searching, good := 0, bad := 0, fresh := true, again := true, lockedAt := none } s
      let s := raiseOnce Ev.OP_LOCK_LOST p [.u16 n, .i32 (e3 / 100)] (tally E.OP_LOCK_LOSSES (benchOf p) 128 1 {} s)
      if l = 4 then reserveLost p d s else primaryLost p d l s
    else setRing n y s

/-- Whether a heater shift in GHz × 1,000 lies in a ring's search range about its base less the feedforward (R320). -/
def inSearch (s : State) (n : Nat) (h : Int) : Bool :=
  let x := ringOf s n
  let mid := x.base - coupling n * (pFf s (n / 10 / 128) - x.pref)
  ratAbs ((h : Rat) / 1000 - mid) ≤ (Cfg.OP_SEARCH_GHZ s : Rat)

/-- RING_SEARCH_DONE (R320): `found` is the heater shift in GHz × 1,000 at which the resonance nearest the target lies; one outside
the range swept is not found. -/
def execRingSearchDone (ring : Nat) (found : Option Int) (s : State) : Out :=
  run (fun s =>
    let x := ringOf s ring
    if ring ≥ 5120 || x.state != .searching || x.retry then s
    else match found.filter fun h => inSearch s ring h with
      | none => raiseOnce Ev.OP_SEARCH_FAILED (ring / 10) [.u16 ring] (setRing ring { x with retry := true } s)
      | some h =>
        setRing ring { x with state := .acquiring, heater := ratClamp 0 24 ((h : Rat) / 1000 / ratOf32 (efficiencyOf s ring)),
                              good := 0, bad := 0 } s) s

/-- Failed searches start again at a frame boundary. -/
def searchRetry (s : State) : State :=
  { s with op := { s.op with rings := s.op.rings.map fun x => (x.1, { x.2 with retry := false }) } }

/-! ### Lanes (R312, R329) -/

/-- Whether a lane of a port carries traffic in a direction. -/
def anyLane (s : State) (p d : Nat) : Bool := (List.range 4).any fun l => laneSt s p d l == .inService || laneSt s p d l == .moved

/-- LANE_TRAINED (R312): rings locked, and on a native port valid slot markers for 16 consecutive ticks. The first lane of
a port that has to train starts its link afresh (R120, R123). -/
def execLaneTrained (p : Port) (l : Lane) (ingress : Bool) (s : State) : Out :=
  run (fun s =>
    let d := b2n ingress
    let locked := (ringOf s (ringNo p d l)).state == .locked
    let seen := !ingress || portCell s p || SMap.getD s.op.markers (p.val * 5 + l.val) 0 ≥ 16
    if l.val = 4 || laneSt s p d l != .training || !locked || !seen || !dpLive s then s
    else
      let s := if (portOf s p).trained then s else setPort p { portOf s p with trained := true } (setLink p linkTrain s)
      paramsFirst p (setLane p d l .inService s)) s

/-- The partner's report, if it is no older than 4 frames (R323). -/
def farReport (s : State) (p : Nat) : Option Report := (SMap.get? s.op.reports p).filter fun r => frameOf s ≤ r.frame + 4

/-- Receive sensitivity of a port's FEC mode, in 0.01 dBm. -/
def sensitivity (s : State) (p : Nat) : Int := if portFec s p = 1 then -650 else -750

/-- Received power of a lane in 0.01 dBm (R334): of the egress, what the partner reports; none without a current report. -/
def receivedPower (s : State) (p d l : Nat) : Option Int :=
  if d = 1 then some (SMap.getD s.op.monitors (3200 + 5 * p + l) 0) else (farReport s p).map fun r => r.m3.getD l 0

/-- Whether the cause of a move has gone (R329, R334). A move by command has no cause that lasts. -/
def causeGone (s : State) (m : Move) : Bool :=
  let els := SMap.get? s.op.els (5 * (m.port / 32) + m.src)
  if m.reason = 1 then !(els.any fun e => e.warned.contains (m.port % 32 / 4 + 1))
  else if m.reason = 2 then
    (receivedPower s m.port m.dir m.src).any fun v => v - sensitivity s m.port ≥ (Cfg.OP_MARGIN_WARN_DB s : Int)
  else if m.reason = 5 then els.any fun e => e.state == .inService || e.state == .warn
  else true

/-- One direction of LANE_RETURN_HOLD. The hold of a moved lane runs from its move at the earliest. -/
def returnHold (p d l : Nat) (s : State) : State :=
  match (ringOf s (ringNo p d l)).lockedAt with
  | none => s
  | some t =>
    if s.clk.tick < t + Cfg.OP_RETURN_HOLD_TICKS s then s
    else if l = 4 then
      if reserveHeld s p d = .unavailable && !(d == 0 && laserLost s p 4) && !s.bi.deadLanes.contains (laneKey p d 4) then setReserve p d .idle s else s
    else match laneSt s p d l with
      | .fault =>
        let k := laneKey p d l
        if s.op.back.contains k then s else { s with op := { s.op with back := s.op.back ++ [k] } }
      | .moved =>
        match s.op.moves.find? fun m => m.port == p && m.dir == d && m.src == l && m.state == .inForce with
        | some m =>
          if m.S + Cfg.OP_RETURN_HOLD_TICKS s ≤ s.clk.tick && causeGone s m then returnPropose p d l 4 s else s
        | none => s
      | _ => s

/-- LANE_RETURN_HOLD (R329): every ring of a lane has stayed locked for the hold. -/
def execLaneReturnHold (p : Port) (l : Lane) (s : State) : Out :=
  run (fun s => if dpLive s then returnHold p 1 l (returnHold p 0 l s) else s) s

/-! ### LANE_MOVE messages (R326 to R330, R342, R343, R346) -/

def mvWord (k : Packet) : Nat := beAt (pkBody k) 0 4
def mvSrc (k : Packet) : Nat := bits (mvWord k) 21 3
def mvDst (k : Packet) : Nat := bits (mvWord k) 18 3
/-- Direction as this part counts it: 0 where this part transmits on the lane. -/
def mvDir (k : Packet) : Nat := 1 - bits (mvWord k) 17 1
def mvReason (k : Packet) : Nat := bits (mvWord k) 8 8
def mvStatus (k : Packet) : Nat := bits (mvWord k) 0 8
def mvId (k : Packet) : Nat := beAt (pkBody k) 4 4
def mvTick (k : Packet) : Nat := beAt (pkBody k) 8 8

/-- What a LANE_MOVE row does: the message of one kind, taken from the inbox, on a native port. -/
def moveRow (kind p : Nat) (k : Packet) (f : State → State) (s : State) : Out :=
  run (fun s =>
    if pkOp k != Op.LANE_MOVE || bits (mvWord k) 24 8 != kind || portFormat s p != 1 || !dpLive s then s
    else f (hearEpoch p k (fromInbox p k s))) s

/-- Answer a proposal. -/
def answerProposal (p : Nat) (k : Packet) (s : State) : State :=
  let d := mvDir k
  let src := mvSrc k
  let dst := mvDst k
  let back := src == 4
  let l := if back then dst else src
  let mine := s.op.moves.find? fun m => m.port == p && m.dir == d && m.mine && m.state == .proposed && m.src == src && m.dst == dst
  if mine.isSome && d = 0 then s
  else
    let s := match mine with | some m => moveDrop m s | none => s
    let status :=
      if l ≥ 4 || (!back && dst != 4) then 3
      else if mvTick k < s.clk.tick + 60 then 2
      else if back then (if laneSt s p d l == .moved then 0 else 3)
      else if laneSt s p d l != .inService then 3
      else if reserveFree s p d then 0
      else if s.op.moves.any fun m => m.port == p && m.dir == d && m.state == .accepted then 4 else 1
    let reply := moveBody (if status = 0 then 2 else 3) src dst (1 - bits (mvWord k) 17 1) (mvReason k) status (mvId k) (mvTick k)
    let s := moveSend p reply s
    if status = 0 then
      let s := if back then setMoves (s.op.moves.map fun m =>
          if m.port = p && m.dir = d && m.src = l && m.state = .inForce then { m with state := .returning } else m) s else s
      setMoves (s.op.moves ++ [{ id := mvId k, port := p, src := src, dst := dst, dir := d, reason := mvReason k, state := .accepted,
                                 S := mvTick k, mine := false }]) s
    else moveRefused p status (tally E.OP_MOVES_REFUSED (benchOf p) 134 1 {} s)

/-- LANE_MOVE_PROPOSE (R327, R343). -/
def execLaneMovePropose (p : Port) (k : Packet) (s : State) : Out := moveRow 1 p k (answerProposal p k) s

/-- LANE_MOVE_ACCEPT (R327): it counts until tick S − 2. -/
def execLaneMoveAccept (p : Port) (k : Packet) (s : State) : Out :=
  moveRow 2 p k (fun s =>
    match moveFind s p (mvId k) with
    | some m =>
      if m.mine && m.state = .proposed && s.clk.tick + 2 ≤ m.S then
        setMoves (s.op.moves.map fun x => if x = m then { m with state := .accepted } else x) s
      else s
    | none => s) s

/-- LANE_MOVE_REFUSE (R327, R342). -/
def execLaneMoveRefuse (p : Port) (k : Packet) (s : State) : Out :=
  moveRow 3 p k (fun s =>
    match moveFind s p (mvId k) with
    | some m =>
      if m.state = .proposed || m.state = .accepted then
        let s := if m.state = .accepted then moveAbandon m s else moveDrop m s
        moveRefused p (mvStatus k) (tally E.OP_MOVES_REFUSED (benchOf p) 134 1 {} s)
      else s
    | none => s) s

/-- LANE_MOVE_FAULT (R328): of direction 0, the sender's own move, which the receiver follows by markers; of direction 1, a
request that this part sends the lane's entries on its reserve lane, from the second boundary at the latest. -/
def execLaneMoveFault (p : Port) (k : Packet) (s : State) : Out :=
  moveRow 4 p k (fun s =>
    let l := mvSrc k
    if mvDir k = 1 || l ≥ 4 then s
    else if laneSt s p 0 l != .inService then s
    else
      let s := plannedAside p 0 l (setLane p 0 l .fault s)
      setMoves (s.op.moves ++ [{ id := mvId k, port := p, src := l, dst := 4, dir := 0, reason := 3, state := .accepted,
                                 S := s.clk.tick + 1, mine := false }]) s) s

/-- The n-th move. -/
def moveNth (s : State) (n : Nat) : Option Move := (s.op.moves.drop n).head?

/-- Run a move's act at the start of a tick of its own. -/
def moveAt (n : Nat) (st : MoveSt) (tick : Move → Nat) (f : Move → State → State) (s : State) : Out :=
  match moveNth s n with
  | none => run id s
  | some m => runDue (if m.state = st ∧ m.S ≠ 0 then some (tick m * tickPs) else none) (f m) s

/-- MOVE_DUPLICATE_TICK (R327): tick S − 1 of an accepted planned move or return. A move that finds its reserve lane taken or lost
is abandoned. -/
def execMoveDuplicateTick (n : Nat) (s : State) : Out :=
  moveAt n .accepted (fun m => m.S - 1) (fun m s =>
    if moveFault m || darkIn s m.port then s
    else if m.dst != 4 then setLane m.port m.dir m.dst .inService s
    else if reserveHeld s m.port m.dir = .idle then setReserve m.port m.dir (.carrying m.src) s
    else moveAbandon m s) s

/-- MOVE_SWITCH (R327): tick S of an accepted planned move or return. A move whose S falls in a tick in which the port's ingress
is blanked or chuted is abandoned (R355), and one that finds its reserve lane taken or lost. -/
def execMoveSwitch (n : Nat) (s : State) : Out :=
  moveAt n .accepted (·.S) (fun m s =>
    if moveFault m then s
    else if darkIn s m.port then moveAbandon m s
    else if m.dst != 4 then moveReturned m.port m.dir m.dst s
    else if reserveHeld s m.port m.dir = .idle || reserveHeld s m.port m.dir = .carrying m.src then
      tally E.OP_PLANNED_MOVES (benchOf m.port) 131 1 {} (moveInForce m s)
    else moveAbandon m s) s

/-- MOVE_ABANDON (R327): no ACCEPT by tick S − 2. -/
def execMoveAbandon (n : Nat) (s : State) : Out := moveAt n .proposed (fun m => m.S - 1) moveAbandon s

/-- PARTNER_SILENT (R330): the partner's markers have not moved by 4 ticks after the FAULT, which is sent again (R346). -/
def execPartnerSilent (p : Port) (l : Lane) (s : State) : Out :=
  let key := laneKey p 1 l
  runDue ((SMap.get? s.op.faultSent key).map fun t => (t + 4) * tickPs) (fun s =>
    let moved := shownRole s p 4 == some (2, l.val)
    let s' := { s with op := { s.op with faultSent := SMap.erase s.op.faultSent key } }
    if moved || darkIn s p || laneSt s p 1 l != .fault then s'
    else
      let s := raiseOnce Ev.OP_PARTNER_SILENT p [.u16 p, .u8 l] s
      let s := setLane p 1 l .fault s
      let s := moveSend p (moveBody 4 l 4 1 3 0 s.op.nextMove (s.clk.tick + 1)) s
      { s with op := { s.op with faultSent := SMap.set s.op.faultSent key s.clk.tick } }) s

/-! ### Monitors, reports and losses (R322 to R324, R334) -/

def monitor (s : State) (i : Nat) : Int := SMap.getD s.op.monitors i 0
/-- M1 of a port's feed fibre and a wavelength; M2; M3 lane; M3 total. -/
def m1 (s : State) (p l : Nat) : Int := monitor s (40 * (p / 32) + 5 * (p % 32 / 4) + l)
def m2 (s : State) (p l : Nat) : Int := monitor s (640 + 5 * p + l)
def m3 (s : State) (p l : Nat) : Int := monitor s (3200 + 5 * p + l)
def m3Total (s : State) (p : Nat) : Int := monitor s (5760 + p)

/-- A reading as I8 in 0.25 dBm. -/
def quarter (v : Int) : Nat := ofSigned 8 (max (-128) (min 127 (v / 25)))

/-- Body of a REPORT (R323). -/
def reportBody (s : State) (p : Nat) : Bytes :=
  let five := fun (f : Nat → Int) => ((List.range 5).map fun l => beBytes 1 (quarter (f l))).flatten
  let lock := sumNat ((List.range 5).map fun l => b2n ((ringOf s (ringNo p 0 l)).state == .locked) * 2 ^ (7 - l))
  moveBody 5 0 0 0 0 0 0 0 ++ five (m2 s p) ++ five (m3 s p) ++ beBytes 1 lock

/-- REPORT_RECEIVED (R323). -/
def execReportReceived (p : Port) (k : Packet) (s : State) : Out :=
  moveRow 5 p k (fun s =>
    let five := fun off => (List.range 5).map fun l => toSigned 8 (beAt (pkBody k) (off + l) 1) * 25
    let r : Report := { frame := frameOf s, m2 := five 0x10, m3 := five 0x15, lock := beAt (pkBody k) 0x1A 1 }
    { s with op := { s.op with reports := SMap.set s.op.reports p r } }) s

/-- Where a lane's loss lies (R324). DEDUCED: the own total of rows 5 and 7 is held against the far M2 of the lane (log entry 36). -/
def lossCode (s : State) (p d l : Nat) : Nat :=
  let low := fun p l => m1 s p l < Cfg.OP_FEED_TARGET_DBM s - 150
  let far := if darkIn s p || darkOut s s.clk.tick p then none else farReport s p
  let wing := p / 32 * 32
  let lim : Int := Cfg.OP_LINK_LOSS_LIMIT_DB s
  if d = 0 then
    if (List.range 5).all (low p) then 1
    else if (List.range 8).all fun k => low (wing + 4 * k) l then 2
    else if low p l && (List.range 8).all (fun k => wing + 4 * k == p / 4 * 4 || !low (wing + 4 * k) l) then 3
    else if m1 s p l - m2 s p l > Cfg.OP_MOD_LOSS_LIMIT_DB s then 4
    else match far with
      | none => 0
      | some r =>
        let f := r.m3.getD l 0
        if m2 s p l - f > lim then 5 else if f < sensitivity s p + 150 then 6 else 0
  else match far with
    | none => 0
    | some r =>
      let f := r.m2.getD l 0
      if f < 200 then 8
      else if f - m3 s p l > lim then (if f - m3Total s p > lim then 5 else 7)
      else 0

/-- Locate losses on every lane of a port, and warn of low margins (R324, R334). -/
def lossPort (p : Nat) (s : State) : State :=
  (List.range 10).foldl (fun s i =>
    let d := i / 5
    let l := i % 5
    let key := laneKey p d l
    let c := lossCode s p d l
    let was := SMap.getD s.op.loss key 0
    let s := { s with op := { s.op with loss := SMap.put 0 s.op.loss key c } }
    let s := if c != 0 && c != was then raiseOnce Ev.OP_LOSS_LOCATED p [.u16 p, .u8 l, .u8 d, .u8 c] s else s
    if l = 4 || laneSt s p d l != .inService || (d = 1 && darkIn s p) || (d = 0 && darkOut s s.clk.tick p) then s
    else
      match receivedPower s p d l with
      | none => s
      | some v =>
        if v - sensitivity s p < (Cfg.OP_MARGIN_WARN_DB s : Int) then
          let s := raiseOnce Ev.OP_MARGIN_LOW p [.u16 p, .u8 l, .u8 d] s
          if d = 1 then movePropose p 1 l 2 s else s
        else s) s

/-- Wings whose ring region is too warm (R333). -/
def wingTemps (s : State) : State :=
  (List.range 16).foldl (fun s w =>
    if reading s 0 (40 + w) > (Cfg.OP_WING_TEMP_WARN_C s : Int) * 16 then raiseOnce Ev.OP_WING_TEMP w [.u8 w] s else s) s

/-! ### Laser modules (R315 to R317, R334 to R336) -/

def elsZero : Els :=
  { state := .absent, temp := 0, bias := [], warned := [], pending := [], stuck := [], preparing := false, refused := false,
    before := .absent, data := [] }
def elsOf (s : State) (e : Nat) : Els := SMap.getD s.op.els e elsZero
def setEls (e : Nat) (x : Els) (s : State) : State := { s with op := { s.op with els := SMap.set s.op.els e x } }

/-- Address of a module item: bank, page and offset as the module advertises them. -/
def cmisAddr (e item output : Nat) : Nat := Config.openFn 40 [e, item, output] % 2 ^ 24
/-- Bytes of an item. -/
def cmisLen (e item : Nat) : Nat := 1 + Config.openFn 41 [e, item] % 128

/-- Payload of an access frame (R315). Items the part uses: 0 identity, 1 temperature, 2 bias, 3 power, 4 alarms, 5 bias setpoint,
6 enable. -/
def elsPayload (e seq item output : Nat) (data : Option Bytes) : Bytes :=
  let a := cmisAddr e item output
  let len := match data with | some d => d.length | none => cmisLen e item
  beBytes 2 ((if data.isSome then 2 else 1) * 2 ^ 12 + len) ++ beBytes 2 seq ++ beBytes 2 (a / 256) ++ beBytes 1 a ++ beBytes 1 output
    ++ data.getD []

/-- Access frame of EtherType 0x88B5, from the part's segment address to the module's (R315, R408). -/
def elsFrame (s : State) (e seq item output : Nat) (data : Option Bytes) : Bytes :=
  (padTo 8 ((tabList s E.OP_ELS_ADDR 8).getD e [])).drop 2 ++ padTo 6 (Config.moduleBytes E.DX_T1S_ADDR) ++ [0x88, 0xB5]
    ++ elsPayload e seq item output data

/-- Send an access to a module; its answer is due within 1 ms. -/
def elsAccess (e item output : Nat) (data : Option Bytes) (s : State) : State :=
  let seq := s.op.elsSeq
  let f := elsFrame s e seq item output data
  let x := elsOf s e
  let a : ElsAccess := { seq := seq, item := item, output := output, write := data.isSome, tries := 0, dueAt := now s + 1000000000, frame := f }
  emit (.els e f) (setEls e { x with pending := x.pending ++ [a] } { s with op := { s.op with elsSeq := (seq + 1) % 2 ^ 16 } })

/-- Ceiling of an output's bias in 0.1 mA: its entry, or what the module advertises. -/
def biasCeil (s : State) (e k : Nat) : Nat :=
  let v := tabNum s E.OP_ELS_BIAS_CEIL 2 (8 * e + k - 1) 0
  if v = 0 then Config.openFn 42 [e, k] else v

/-- Set an output's bias, in 0.5 % of its ceiling and never above it. -/
def setBias (e k v : Nat) (s : State) : State :=
  let v := min v 200
  let x := elsOf s e
  let s := setEls e { x with bias := SMap.set x.bias k v } s
  elsAccess e 5 k (some (beBytes 2 (v * biasCeil s e k / 200))) s

/-- Ports that an output feeds. -/
def fedPorts (e k : Nat) : List Nat := (List.range 4).map fun i => 32 * (e / 5) + 4 * (k - 1) + i

/-- The laser of a reserve lane's egress is lost (R313). -/
def laserGone (p : Nat) (s : State) : State := if reserveHeld s p 0 = .unavailable then s else reserveLost p 0 s

/-- An output's power is lost (R334): its module is LOST, whether it answers or not. -/
def elsDark (e k : Nat) (s : State) : State :=
  let s := if e % 5 = 4 then (fedPorts e k).foldl (fun s p => laserGone p s) s else s
  if elsLost (elsOf s e) then s else raiseOnce Ev.OP_ELS_LOST e [.u8 e] (setEls e { elsOf s e with state := .lost } s)

/-- Steer one output by its M1 reading (R317) and apply the thresholds of R334. -/
def elsOutput (e k : Nat) (v : Option Int) (s : State) : State :=
  let x := elsOf s e
  let bias := SMap.getD x.bias k 0
  let step := Cfg.OP_ELS_BIAS_STEP_PCT s
  let s := match v with
    | none => s
    | some v =>
      if v < Cfg.OP_FEED_TARGET_DBM s - 20 && bias < 200 then setBias e k (bias + step) s
      else if v > Cfg.OP_FEED_TARGET_DBM s + 20 then setBias e k (bias - step) s
      else s
  let x := elsOf s e
  let b := SMap.getD x.bias k 0
  let warn := b ≥ 2 * Cfg.OP_ELS_WARN_PCT s
  let s :=
    if warn then
      let s := if x.warned.contains k then s
        else raiseOnce Ev.OP_ELS_WARN e [.u8 e, .u8 k, .u8 b]
          (setEls e { x with warned := x.warned ++ [k], state := if x.state = .inService then .warn else x.state } s)
      if e % 5 = 4 then s else (fedPorts e k).foldl (fun s p => movePropose p 0 (e % 5) 1 s) s
    else setEls e { x with warned := x.warned.filter fun y => y != k } s
  let x := elsOf s e
  match v with
  | none => s
  | some v =>
    if x.state = .readyToRemove then s
    else if v < -1000 then elsDark e k s
    else if b = 200 && v < Cfg.OP_FEED_TARGET_DBM s - 150 && x.state != .replace && x.state != .lost then
      let s := raiseOnce Ev.OP_ELS_REPLACE e [.u8 e, .u8 k] (setEls e { x with state := .replace } s)
      if e % 5 = 4 then (fedPorts e k).foldl (fun s p => if reserveHeld s p 0 = .idle then setReserve p 0 .unavailable s else s) s else s
    else s

/-- Whether a module's outputs are steered (R317): the part set it up and it answers. -/
def elsSteered (x : Els) : Bool := !x.refused && x.state != .starting && x.state != .notResponding

/-- Poll one module: read it, and steer its outputs. The bias of one that does not answer stays as it is (R316). -/
def elsPollOne (r : PollReadings) (e : Nat) (s : State) : State :=
  if (elsOf s e).state = .absent then s
  else
    let s := elsAccess e 1 0xFF none s
    let s := (List.range 8).foldl (fun s i => elsAccess e 4 (i + 1) none (elsAccess e 3 (i + 1) none (elsAccess e 2 (i + 1) none s))) s
    let feed := fun (i : Nat) => (r.feeds.find? fun y => y.1 == 8 * e + i).map (·.2)
    if (elsOf s e).state = .notResponding then
      (List.range 8).foldl (fun s i => if (feed i).any (· < -1000) then elsDark e (i + 1) s else s) s
    else if !elsSteered (elsOf s e) then s
    else
      let s := (List.range 8).foldl (fun s i => elsOutput e (i + 1) (feed i) s) s
      let y := elsOf s e
      if y.state = .warn && y.warned.isEmpty then setEls e { y with state := .inService } s else s

/-- Whether a poll is due: each module is read every OP_ELS_POLL_FRAMES frames (R316). -/
def pollDue (s : State) : Bool := s.op.pollFrame.all fun f => f + Cfg.OP_ELS_POLL_FRAMES s ≤ frameOf s

/-- ELS_POLL (R316, R317). -/
def execElsPoll (r : PollReadings) (s : State) : Out :=
  run (fun s =>
    if s.hl.power = .off || !pollDue s then s
    else (List.range 80).foldl (fun s e => elsPollOne r e s) { s with op := { s.op with pollFrame := some (frameOf s) } }) s

/-- A starting module's bias rises each frame until M1 reaches the target (R336). -/
def elsStart (s : State) : State :=
  (s.op.els.filter fun x => x.2.state == .starting).foldl (fun s x =>
    let e := x.1
    let low := (List.range 8).filter fun i => m1 s (32 * (e / 5) + 4 * i) (e % 5) < Cfg.OP_FEED_TARGET_DBM s
    if low.isEmpty then
      let s := setEls e { elsOf s e with state := .inService } s
      if e % 5 = 4 then
        (List.range 32).foldl (fun s i =>
          let p := 32 * (e / 5) + i
          if reserveHeld s p 0 = .unavailable && (ringOf s (ringNo p 0 4)).state == .locked && !s.bi.deadLanes.contains (laneKey p 0 4) then
            setReserve p 0 .idle s
          else s) s
      else s
    else low.foldl (fun s i => setBias e (i + 1) (SMap.getD (elsOf s e).bias (i + 1) 0 + Cfg.OP_ELS_BIAS_STEP_PCT s) s) s) s

/-- Frequency of a wavelength, in GHz (R311). -/
def waveGhz (l : Nat) : Nat := [230600, 229800, 229000, 228200, 227400].getD l 0

/-- Refuse a module: its outputs stay disabled, and it counts as lost (R316, R334). -/
def elsRefuse (e : Nat) (s : State) : State :=
  let s := setEls e { elsOf s e with state := .lost, refused := true } s
  let s := raiseOnce Ev.OP_ELS_LOST e [.u8 e] ((List.range 8).foldl (fun s i => elsAccess e 6 (i + 1) (some [0]) s) s)
  if e % 5 = 4 then (List.range 32).foldl (fun s i => laserGone (32 * (e / 5) + i) s) s else s

/-- What a read answer says (R315 to R317). -/
def elsAnswer (e : Nat) (a : ElsAccess) (d : Bytes) (s : State) : State :=
  let x := elsOf s e
  let x := { x with data := SMap.set x.data (a.item * 256 + a.output) d }
  if a.item = 0 then
    let s := setEls e x s
    if beAt d 0 4 = waveGhz (e % 5) || x.refused then s else elsRefuse e s
  else if a.item = 1 then
    setReading 4 (10 * e) (toSigned 8 (beAt d 0 1)) (setEls e { x with temp := toSigned 8 (beAt d 0 1) } s)
  else if a.item = 2 then
    let b := min 200 (beAt d 0 2 * 200 / max 1 (biasCeil s e a.output))
    setReading 4 (10 * e + a.output) b (setEls e { x with bias := SMap.set x.bias a.output b } s)
  else setEls e x s

/-- ELS_RESPONSE (R315): the answer to an access that waits. -/
def execElsResponse (pos : Nat) (frame : Bytes) (s : State) : Out :=
  run (fun s =>
    let x := elsOf s pos
    let op := bits (beAt frame 0 2) 12 4
    let ok := bits (beAt frame 0 2) 8 4 == 0
    match x.pending.find? fun a => a.seq == beAt frame 2 2 && op == (if a.write then 0xA else 0x9) with
    | none => s
    | some a =>
      let s := setEls pos { x with pending := x.pending.erase a, state := if x.state = .notResponding then x.before else x.state } s
      if !ok || a.write then s else elsAnswer pos a (frame.drop 8) s) s

/-- ELS_ACCESS_TIMEOUT (R316): the n-th waiting access of a module has had no answer for 1 ms. -/
def execElsAccessTimeout (pos n : Nat) (s : State) : Out :=
  match ((elsOf s pos).pending.drop n).head? with
  | none => run id s
  | some a =>
    runDue (some a.dueAt) (fun s =>
      let x := elsOf s pos
      if a.tries < 3 then
        emit (.els pos a.frame)
          (setEls pos { x with pending := listSet x.pending n { a with tries := a.tries + 1, dueAt := now s + 1000000000 } } s)
      else
        let s := setEls pos { x with
          pending := listErase x.pending n
          state := if x.state = .absent then .absent else .notResponding
          before := if x.state = .notResponding then x.before else x.state } s
        raiseOnce Ev.OP_ELS_NO_RESPONSE pos [.u8 pos] (count E.OP_ELS_TIMEOUTS 1 s)) s

/-- ELS_MODULE_FITTED (R316, R336): the part reads the identity, which gives the advertised frequency in GHz, 4 bytes. In a
power-up the outputs start at BI_ELS_START_PCT (R532). -/
def execElsModuleFitted (pos : Nat) (identity : Bytes) (s : State) : Out :=
  run (fun s =>
    if pos ≥ 80 then s
    else
      let s := elsAccess pos 0 0xFF none (setEls pos { elsZero with state := .starting } s)
      if beAt identity 0 4 = waveGhz (pos % 5) then
        let s := (List.range 8).foldl (fun s i => elsAccess pos 6 (i + 1) (some [1]) s) s
        if s.bi.state = 1 && s.rp.resetClass = 3 then (List.range 8).foldl (fun s i => setBias pos (i + 1) (Cfg.BI_ELS_START_PCT s) s) s
        else s
      else elsRefuse pos s) s

/-- Start a replacement (R336): a planned move of every port of the wing. -/
def elsPrepare (e : Nat) (s : State) : State :=
  let s := setEls e { elsOf s e with preparing := true, stuck := [] } s
  if e % 5 = 4 then s
  else (List.range 32).foldl (fun s i => movePropose (32 * (e / 5) + i) 0 (e % 5) 5 s) s

/-- ELS_READY_TO_REMOVE (R336): each move has taken effect, been refused or been abandoned. -/
def execElsReadyToRemove (pos : Nat) (s : State) : Out :=
  run (fun s =>
    let x := elsOf s pos
    let ports := (List.range 32).map fun i => 32 * (pos / 5) + i
    let l := pos % 5
    let open_ := s.op.moves.any fun m => ports.contains m.port && m.dir == 0 && m.src == l && (m.state == .proposed || m.state == .accepted)
    if !x.preparing || open_ then s
    else
      let stuck := if l = 4 then [] else ports.filter fun p => laneSt s p 0 l == .inService
      raiseOnce Ev.OP_ELS_READY pos [.u8 pos, .units stuck] (setEls pos { x with state := .readyToRemove, preparing := false, stuck := stuck } s)) s

/-! ### Leases on lanes (R47, R337, R338) -/

/-- Whether a move holds a port's reserve lane. -/
def moveHolds (s : State) (p : Nat) : Option Move :=
  s.op.moves.find? fun m => m.port == p && m.dst == 4 && (m.state == .accepted || m.state == .inForce || m.state == .returning)

/-- Hand a lane over, both ways. A reserve lane that is UNAVAILABLE stays so, and carries nothing. -/
def laneHand (p l : Nat) (st : LaneSt) (s : State) : State :=
  (List.range 2).foldl (fun s d =>
    let s := setLane p d l st s
    if reserveHeld s p d = .unavailable then s else setReserve p d (.carrying l) s) s

/-- A calibration (kind 1) or sparing (kind 2) lease starts. -/
def leaseLaneStart (kind p l : Nat) (s : State) : State :=
  match moveHolds s p with
  | some m =>
    if kind = 2 && m.src = l then
      laneHand p l .spared (setMoves (s.op.moves.filter fun x => !(x.port == p && (x.src == l || x.dst == l))) s)
    else raiseOnce Ev.OP_CAL_SKIPPED p [.u16 p, .u8 l, .u8 kind] (count E.OP_CAL_SKIPPED 1 s)
  | none =>
    let s := laneHand p l (if kind = 1 then .calibrating else .spared) s
    if kind = 1 then
      (List.range 2).foldl (fun s d => setRing (ringNo p d l) { ringOf s (ringNo p d l) with state := .calibrating, lockedAt := none } s) s
    else s

/-- CALIBRATION_DONE (R337). A run that passes takes back what a power-up test found of the lane (R536). -/
def execCalibrationDone (p : Port) (l : Lane) (r : CalResult) (s : State) : Out :=
  run (fun s =>
    if laneSt s p 0 l != .calibrating then s
    else
      let s := raiseOnce Ev.OP_CAL_DONE p [.u16 p, .u8 l, .u8 (b2n r.pass)] (count E.OP_CAL_DONE 1 s)
      let s := (List.range 2).foldl (fun s d =>
        let n := ringNo p d l
        let s := if r.pass then { s with op := { s.op with efficiency := SMap.set s.op.efficiency n r.efficiency } } else s
        setRing n { ringOf s n with state := .acquiring, fresh := true, good := 0, bad := 0 } s) s
      if r.pass then
        { s with bi := { s.bi with deadLanes := s.bi.deadLanes.filter fun k => k != laneKey p 0 l && k != laneKey p 1 l } }
      else { s with op := { s.op with calFailed := s.op.calFailed ++ [(p.val, l.val)] } }) s

/-- Every move returns, as at an entry to Rest (R347). -/
def movesReturn (s : State) : State :=
  let s := (s.op.moves.filter fun m => m.state == .inForce || m.state == .returning).foldl
    (fun s m => if m.src < 4 then moveReturned m.port m.dir m.src s else s) s
  setMoves [] s

end Sys2Proof.Machine
end

