-- ==== Sys2Proof/Machine/Chutes.lean ====
section
/-! DEFINITION. Chutes (chapter 11): driving the matrix, cell faults, path loss and loops. -/
namespace Sys2Proof.Machine
open Sys2Proof

def wingZero : WingMx := { cross := 0, inSel := [], egSel := [], faults := [], chutes := [], loops := [], settleAt := none }
def wingOf (s : State) (w : Nat) : WingMx := SMap.getD s.ch w wingZero
def setWing (w : Nat) (x : WingMx) (s : State) : State := { s with ch := SMap.set s.ch w x }

/-- Network cells with the setting that a path number of a circuit needs. -/
def pathCells (i j : Nat) (path : Option Nat) : List (Nat × Bool) :=
  match path with | some p => benesPath i j p | none => []

/-- Every cell of a circuit: its path, its ingress select and its egress select (R362). -/
def circuitCells (i j : Nat) (path : Option Nat) : List Nat := (pathCells i j path).map (·.1) ++ [144 + i, 176 + j]

/-- Cells that are held: on the paths of circuits that stay, and faulted cells as they read back (R352). -/
def heldCells (x : WingMx) : List (Nat × Bool) :=
  (x.chutes.filter fun c => c.clearTick.isNone && !c.failed).flatMap (fun c => pathCells c.i c.j c.path)
    ++ x.loops.flatMap (fun l => pathCells l.a l.b l.path)
    ++ (x.faults.filter fun f => f.1 < 144).map fun f => (f.1, f.2 == 1)

/-- Set every cell: those on no path are bar; selects follow the circuits. -/
def wingDrive (x : WingMx) : WingMx :=
  let live := x.chutes.filter fun c => c.clearTick.isNone && !c.failed
  let on := (live.flatMap fun c => pathCells c.i c.j c.path) ++ x.loops.flatMap fun l => pathCells l.a l.b l.path
  let bitsOn := on.foldl (fun v c => if c.2 then v ||| (1 <<< c.1) else v) (0 : Nat)
  { x with
    cross := BitVec.ofNat 144 bitsOn
    inSel := x.loops.foldl (fun m l => SMap.set m l.b 2) (live.foldl (fun m c => SMap.set m c.i 1) [])
    egSel := x.loops.foldl (fun m l => SMap.set m l.a 2) (live.foldl (fun m c => SMap.set m c.j 1) []) }

/-- A set that fails (R359). -/
def setFails (w i j cell : Nat) (s : State) : State :=
  raise Ev.CH_SET_FAILED [.u8 w, .u8 i, .u8 j, .u16 cell] (count E.CH_SET_FAILURES 1 s)

/-- Chutes of a wing that the map in force has set in a tick; without an image, none. -/
def wantedChutes (s : State) (w k : Nat) : List (Nat × Nat) :=
  match imageAt s k with
  | none => []
  | some (img, _) => ((chutesAt img (periodTick img k)).filter fun c => c.1 == w).map (·.2)

/-- CHUTE_DRIVE (R353): at the start of a tick the wing is driven for the changes of the next one. -/
def execChuteDrive (w : Wing) (s : State) : Out :=
  runAt 0 (fun s =>
    let k := s.clk.tick + 1
    let want := wantedChutes s w k
    let x := wingOf s w
    let gone := x.chutes.filter fun c => c.clearTick.isNone && !(want.contains (c.i, c.j))
    let have_ := x.chutes.filter fun c => c.clearTick.isNone
    let new := if k % 8 = 0 then want.filter fun c => !(have_.any fun y => y.i == c.1 && y.j == c.2) else []
    if !dpLive s || (gone.isEmpty && new.isEmpty) then s
    else
      let x := { x with chutes := x.chutes.map fun c => if gone.contains c then { c with clearTick := some k } else c }
      let got := routeAll (heldCells x) (byIngress new)
      let add := got.map fun g => ({ i := g.1, j := g.2.1, path := g.2.2, setTick := k, clearTick := none, failed := g.2.2.isNone } : Chute)
      let x := wingDrive { x with chutes := x.chutes ++ add, settleAt := some (s.clk.tick * tickPs + 900000) }
      let bad := ((x.faults.filter fun f => f.1 < 144).head?.map (·.1)).getD 0xFFFF
      (add.filter (·.failed)).foldl (fun s c => setFails w c.i c.j bad s) (setWing w x s)) s

/-- Setting of a cell: 0 bar or PACKET, 1 cross or CHUTE, 2 LOOP. -/
def cellSetting (x : WingMx) (c : Nat) : Nat :=
  if c < 144 then b2n (x.cross.getLsbD c) else if c < 176 then SMap.getD x.inSel (c - 144) 0 else SMap.getD x.egSel (c - 176) 0

/-- A cell's drive report, as a setting (R358). -/
def cellReport (w c v : Nat) (s : State) : State :=
  let x := wingOf s w
  if c ≥ 208 || cellSetting x c == v || (SMap.get? x.faults c).isSome then s
  else
    let hit := x.chutes.filter fun k => (circuitCells k.i k.j k.path).contains c
    let s := setWing w { x with faults := SMap.set x.faults c v } s
    raise Ev.CH_CELL_FAULT [.u8 w, .u8 c, .units (hit.map fun k => k.i * 32 + k.j)] (count E.CH_CELL_FAULTS 1 s)

/-- CHUTE_SETTLE_CHECK (R358, R359, R367): 900 ns after a change. -/
def execChuteSettleCheck (w : Wing) (reports : List (Nat × Nat)) (s : State) : Out :=
  runDue (wingOf s w).settleAt (fun s =>
    let s := reports.foldl (fun s r => cellReport w r.1 r.2 s) s
    let x := { wingOf s w with settleAt := none }
    let faulted := x.faults.map (·.1)
    let bad := x.chutes.filter fun c => c.setTick == s.clk.tick + 1 && !c.failed && c.clearTick.isNone
      && (circuitCells c.i c.j c.path).any fun n => faulted.contains n
    let y := wingDrive { x with chutes := x.chutes.map fun c => if bad.contains c then { c with failed := true } else c }
    bad.foldl (fun s c =>
      setFails w c.i c.j (((circuitCells c.i c.j c.path).find? fun n => faulted.contains n).getD 0xFFFF) s) (setWing w y s)) s

/-- The next counts received are a new base, on every lane of a cell-mode port. -/
def unbased (l : Link) : Link := { l with based := false, cells := l.cells.map fun c => (c.1, { c.2 with based := false }) }

/-- Sets and clears that take effect in this tick; a cleared port takes a new credit base (R356). -/
def chuteTick (s : State) : State :=
  s.ch.foldl (fun s wx =>
    let w := wx.1
    let x := wingOf s w
    let sets := (x.chutes.filter fun c => c.setTick == s.clk.tick && !c.failed).length
    let done := x.chutes.filter fun c => c.clearTick.any fun t => t ≤ s.clk.tick
    let s := count E.CH_SETS sets (count E.CH_CLEARS (done.filter fun c => !c.failed).length s)
    let s := done.foldl (fun s c => setLink (32 * w + c.i) unbased s) s
    setWing w { wingOf s w with chutes := (wingOf s w).chutes.filter fun c => !done.contains c } s) s

/-- Every select goes to PACKET, at an entry to Rest or a reset (R364): cause 1 Rest, 2 warm reset, 3 cold reset. -/
def chutesClear (cause : Nat) (s : State) : State :=
  let s := { s with ch := s.ch.map fun w => (w.1, wingDrive { w.2 with chutes := [], loops := [], settleAt := none }) }
  raise Ev.CH_CLEARED [.u8 (Config.openFn 21 [cause] % 256)] s

/-! ### Path loss (R360) -/

/-- Whether m ÷ 2^64 is at most 10^(v ÷ 1,000). -/
def linLe (m : Nat) (v : Int) : Bool := m ^ 1000 * 10 ^ (-v).toNat ≤ 2 ^ 64000 * 10 ^ v.toNat

/-- Linear power of a reading in 0.01 dBm, in 2^-64 mW, rounded down. -/
def linPower (v : Int) : Nat := (List.range 96).foldl (fun m i => let t := m + 2 ^ (95 - i); if linLe t v then t else m) 0

/-- The sum of readings in linear power, as the largest reading in 0.01 dBm that does not exceed it. -/
def powerSum (vs : List Int) : Int :=
  let total := sumNat (vs.map linPower)
  (List.range 15).foldl (fun (m : Int) i => let t := m + ((2 ^ (14 - i) : Nat) : Int); if linPower t ≤ total then t else m) (-16384)

/-- Compare each chute's input with what its far end reports. -/
def chuteLoss (s : State) : State :=
  s.ch.foldl (fun s wx => wx.2.chutes.foldl (fun s c =>
    let i := 32 * wx.1 + c.i
    let j := 32 * wx.1 + c.j
    if c.failed || c.clearTick.isSome || s.clk.tick < c.setTick + 1024 then s
    else match farReport s j with
      | none => s
      | some r =>
        let loss := m3Total s i - powerSum r.m3
        if loss > (Cfg.CH_PATH_LOSS_LIMIT_DB s : Int) then
          raiseOnce Ev.CH_PATH_LOSS (wx.1 * 1024 + c.i * 32 + c.j) [.u8 wx.1, .u8 c.i, .u8 c.j, .i32 loss] s
        else s) s) s

/-! ### Loops (R361) -/

/-- Whether a loop may be set or cleared now. -/
def loopAllowed (s : State) (w a b : Nat) : Bool :=
  s.bi.state != 2
    || (portFormat s (32 * w + a) == 0 && portFormat s (32 * w + b) == 0
        && (match s.tt.active with
            | none => true
            | some i => !(i.chutes.any fun c => c.wing == w && (c.i == a || c.i == b || c.j == a || c.j == b))))

/-- The state after a loop command, where it is accepted. -/
def loopDone (v : Nat) (s : State) : Option State :=
  let act := bits v 60 4
  let w := bits v 56 4
  let a := bits v 51 5
  let b := bits v 46 5
  let x := wingOf s w
  if !loopAllowed s w a b then none
  else if act = 2 then
    if x.loops.any fun l => l.a == a && l.b == b then
      some (setWing w (wingDrive { x with loops := x.loops.filter fun l => !(l.a == a && l.b == b) }) s)
    else none
  else if act = 1 then
    if x.loops.any fun l => l.a == a || l.b == b then none
    else if a = b then some (setWing w (wingDrive { x with loops := x.loops ++ [{ a := a, b := b, path := none }] }) s)
    else match findPath (heldCells x) a b with
      | some p => some (setWing w (wingDrive { x with loops := x.loops ++ [{ a := a, b := b, path := some p }] }) s)
      | none => none
  else none

/-- A write to `CH_LOOP_COMMAND`: the state after it, and whether it was accepted. -/
def loopCommand (v : Nat) (s : State) : State × Bool :=
  match loopDone v s with
  | some t => (raise Ev.CH_LOOP [.u64 v, .u8 1] t, true)
  | none => (raise Ev.CH_LOOP [.u64 v, .u8 0] s, false)

end Sys2Proof.Machine
end

