-- ==== Sys2Proof/Machine/Memory.lean ====
section
/-! DEFINITION. Fabric memory (chapter 7): resident regions, the sequence of each source, application, the partner mirror and
step checkpoints. -/
namespace Sys2Proof.Machine
open Sys2Proof

/-! ### Bytes of a region -/

/-- Canonical form of a byte store: addresses strictly rising, no zero listed. -/
def cellsWf (m : List Host.Cell) : Bool := SMap.sorted m && m.all fun c => c.2 != 0

/-- The byte at an address; one that is not listed is zero, as zeroing leaves it (R224). -/
def cellAt (m : List Host.Cell) (a : Nat) : Byte := SMap.getD m a 0

/-- Write one byte. -/
def cellPut (m : List Host.Cell) (a : Nat) (b : Byte) : List Host.Cell := SMap.put 0 m a b

/-- `n` bytes from an address. -/
def cellsRead (m : List Host.Cell) (a n : Nat) : Bytes := (List.range n).map fun i => cellAt m (a + i)

/-- Write bytes from an address. -/
def cellsWrite : List Host.Cell → Nat → Bytes → List Host.Cell
  | m, _, [] => m
  | m, a, b :: r => cellsWrite (cellPut m a b) (a + 1) r

/-- Zero a span. -/
def cellsZero (m : List Host.Cell) (a n : Nat) : List Host.Cell := m.filter fun c => c.1 < a || a + n ≤ c.1

/-- The 64-byte lines that a span touches. -/
def linesOf (a n : Nat) : List Nat := if n = 0 then [] else (List.range ((a + n - 1) / 64 + 1 - a / 64)).map (a / 64 + ·)

/-- The poison that a write leaves: a line that it covers whole is clean again (R248). -/
def poisonAfter (poison : List Nat) (a n : Nat) : List Nat := poison.filter fun l => l * 64 < a || a + n < l * 64 + 64

/-! ### Regions (R222 to R226) -/

def regionCode : Option RegionSt → Nat
  | none => 0
  | some .initialising => 1
  | some .active => 2
  | some .restoring => 3
  | some .lost => 4

/-- The region whose span holds an offset. -/
def regionAt (s : State) (off : Nat) : Option (Nat × Region) :=
  s.fm.regions.find? fun x => x.2.base ≤ off && off < x.2.base + x.2.size

/-- Serving bench of a region (R226). -/
def servingBench (n : Nat) (r : Region) : Nat := 32 * r.stack + n % 32

def setRegion (n : Nat) (r : Region) (s : State) : State := { s with fm := { s.fm with regions := SMap.set s.fm.regions n r } }

/-- Report a change of a region's state (R225). -/
def regionEvent (n : Nat) (old new : Option RegionSt) (gen : Nat) (s : State) : State :=
  raise Ev.FM_REGION_STATE [.u16 n, .u8 (regionCode old), .u8 (regionCode new), .u16 gen] s

/-- Put a region in a state. -/
def regionState (n : Nat) (st : RegionSt) (s : State) : State :=
  match SMap.get? s.fm.regions n with
  | none => s
  | some r => if r.state = st then s else regionEvent n (some r.state) (some st) r.gen (setRegion n { r with state := st } s)

def pastOf (s : State) (n : Nat) : RegionPast := SMap.getD s.fm.past n { quarantine := [], lastCmd := none }

/-- Whether a generation is quarantined for a region number: for 4 frames after it was retired (R224). -/
def quarantined (s : State) (n g : Nat) : Bool :=
  (pastOf s n).quarantine.any fun q => q.1 == g && s.clk.tick < q.2 + 4096

/-- Retire a generation. -/
def genRetire (n g : Nat) (s : State) : State :=
  let p := pastOf s n
  let keep := p.quarantine.filter fun q => s.clk.tick < q.2 + 4096
  { s with fm := { s.fm with past := SMap.set s.fm.past n { p with quarantine := keep ++ [(g, s.clk.tick)] } } }

/-- The next generation that is free (R239). -/
def genNextAux (s : State) (n : Nat) : Nat → Nat → Nat
  | 0, g => g
  | f + 1, g =>
    let g' := if g = 0xFFF then 1 else g + 1
    if quarantined s n g' then genNextAux s n f g' else g'

/-- Give a region its next generation (R239). -/
def genBump (n : Nat) (s : State) : State :=
  match SMap.get? s.fm.regions n with
  | none => s
  | some r =>
    let s' := genRetire n r.gen s
    setRegion n { r with gen := genNextAux s' n 4095 r.gen } s'

/-- Gaps between the placements on a stack, in 4 KiB units: start and length. -/
def freeSpans (s : State) (stack : Nat) : List (Nat × Nat) :=
  let used := ((s.fm.regions.filter fun x => x.2.stack == stack).map fun x => (x.2.placement, x.2.size / 4096)).mergeSort
    fun a b => a.1 ≤ b.1
  let (spans, last) := used.foldl (fun (a : List (Nat × Nat) × Nat) u => (a.1 ++ [(a.2, u.1 - a.2)], u.1 + u.2)) ([], 0)
  spans ++ [(last, 262144 - last)]

/-- Positions at which `units` fit in free spans. -/
def placeCount (spans : List (Nat × Nat)) (units : Nat) : Nat := sumNat (spans.map fun x => x.2 + 1 - units)

/-- The k-th such position. -/
def placeAt : List (Nat × Nat) → Nat → Nat → Nat
  | [], _, _ => 0
  | x :: r, units, k => let n := x.2 + 1 - units; if k < n then x.1 + k else placeAt r units (k - n)

/-- A define record (R223) of a region; `cmd` is the command it carries. -/
def defineRecord (n cmd : Nat) (r : Region) : Bytes :=
  beBytes 4 (b2n r.mirrored * 2 ^ 31 + b2n r.checkpointed * 2 ^ 30 + cmd * 2 ^ 12 + n)
    ++ beBytes 4 (r.gen * 2 ^ 20 + r.placement * 4 + r.stack) ++ beBytes 8 r.base ++ beBytes 8 r.size ++ beBytes 8 r.key

/-! ### The mirror sender (R235, R236) -/

def mirrorCode : MirrorSt → Nat
  | .off => 0
  | .syncing => 1
  | .inSync => 2
  | .degraded => 3

def setMirror (m : MirrorSt) (s : State) : State :=
  if s.fm.mirror = m then s
  else raise Ev.FM_MIRROR_STATE [.u8 (mirrorCode s.fm.mirror), .u8 (mirrorCode m)] { s with fm := { s.fm with mirror := m } }

/-- Mark of a poison record in the reserved bits of its descriptor. The manual gives such a record no form. -/
def poisonMark : Nat := Config.openFn 30 [] % 255 + 1

/-- Offset of a region's byte in the partner's window (R234). -/
def windowOff (r : Region) (off : Nat) : Nat := 0xFF00000000 + 2 ^ 30 * r.stack + 4096 * r.placement + off

/-- Bench that counts a mirror write: the serving bench of the region it is for. -/
def mirrorBench (s : State) (off : Nat) : Nat :=
  if off < 0xFE00020000 then
    let n := (off - 0xFE00000000) / 32
    match SMap.get? s.fm.regions n with | some r => servingBench n r | none => n % 32
  else match s.fm.regions.find? fun x => windowOff x.2 0 ≤ off && off < windowOff x.2 x.2.size with
    | some (n, r) => servingBench n r
    | none => 0

/-- The MEM_STORE_FLAG request of a mirror write. -/
def mirrorPacket (s : State) (w : MirrorWrite) : Packet :=
  let desc := beBytes 8 w.key ++ beBytes 4 (w.gen * 2 ^ 20) ++ beBytes 4 (if w.poisoned then poisonMark * 2 ^ 13 else 0)
  mkData { vc := Vc.OC0, e := eBit s, dest := Cfg.FM_MIRROR_PARTNER s % 2 ^ 24, op := Op.MEM_STORE_FLAG, src := posFa s,
           seq := w.seq.getD 0, hop := Cfg.PKT_ORIGIN_HOP_LIMIT s, operand := w.offset } (desc ++ w.body) (stampNow s)

/-- Send a write of the log, for the first time or again. -/
def mirrorSend (again : Bool) (w : MirrorWrite) (s : State) : State :=
  let b := mirrorBench s w.offset
  let s := if again then tally E.FM_MIRROR_RESENDS b 90 1 {} s
    else occ b (632 + 16 * (b / 32) + 11) 1 {} (tally E.FM_MIRROR_WRITES b 89 1 {} s)
  originateRouted (mirrorPacket s w) s

/-- Send what waits in the log, in order, while at most 256 sequences are open (R232). -/
def mirrorPump : Nat → State → State
  | 0, s => s
  | f + 1, s =>
    let sent := s.fm.log.filterMap (·.seq)
    let room := sent.all fun q => serialDist 16 s.fm.outSeq q < 256
    match s.fm.log.findIdx? fun w => w.seq.isNone with
    | none => s
    | some i =>
      if !room || s.fm.mirror == .off then s
      else match (s.fm.log.drop i).head? with
        | none => s
        | some w =>
          let w' := { w with seq := some s.fm.outSeq, dueAt := now s + Cfg.FM_MIRROR_ACK_US s * 1000000 }
          let s := { s with fm := { s.fm with log := listSet s.fm.log i w', outSeq := (s.fm.outSeq + 1) % 2 ^ 16 } }
          mirrorPump f (mirrorSend false w' s)

/-- A write for the log. -/
def mirrorWrite (s : State) (off : Nat) (body : Bytes) (poisoned whole : Bool) : MirrorWrite :=
  { seq := none, offset := off, body := body, key := beNat (padTo 8 (tabBytes s E.FM_MIRROR_OUT_KEY [])),
    gen := Cfg.FM_MIRROR_OUT_GEN s, poisoned := poisoned, whole := whole, dueAt := 0, firstAt := now s }

/-- The writes that carry a region whole: its record, its bytes in pieces of 63 lines, its poison. -/
def wholeRegion (s : State) (n : Nat) (r : Region) : List MirrorWrite :=
  mirrorWrite s (0xFE00000000 + 32 * n) (defineRecord n 0 r) false true
    :: ((List.range (ceilDiv r.size 4032)).map fun i =>
          mirrorWrite s (windowOff r (i * 4032)) (cellsRead r.data (i * 4032) (min 4032 (r.size - i * 4032))) false true)
    ++ r.poison.map fun l => mirrorWrite s (windowOff r (l * 64)) (List.replicate 64 0) true true

/-- Send every mirrored region whole (R236). -/
def mirrorResync (s : State) : State :=
  let ws := (s.fm.regions.filter fun x => x.2.mirrored).flatMap fun x => wholeRegion s x.1 x.2
  mirrorPump 256 (setMirror .syncing { s with fm := { s.fm with log := ws } })

/-- The mirror cannot go on as it is: it sends everything again. -/
def mirrorDegrade (s : State) : State := mirrorResync (setMirror .degraded s)

/-- Put writes in the log (256 MiB), and send them. What a region sent whole has not sent yet is read from the region: it takes no
room of the log. -/
def mirrorPut (ws : List MirrorWrite) (s : State) : State :=
  if s.fm.mirror = .off || ws.isEmpty then s
  else if sumNat (((s.fm.log ++ ws).filter fun w => !w.whole || w.seq.isSome).map fun w => w.body.length) > 268435456 then mirrorDegrade s
  else mirrorPump 256 { s with fm := { s.fm with log := s.fm.log ++ ws } }

/-- Mirror a command on a region, as its record. -/
def mirrorRecord (n cmd : Nat) (r : Region) (s : State) : State :=
  if r.mirrored then mirrorPut [mirrorWrite s (0xFE00000000 + 32 * n) (defineRecord n cmd r) false false] s else s

/-- A new partner starts in SYNCING; without one the mirror is off. -/
def mirrorPartner (s : State) : State :=
  if Cfg.FM_MIRROR_PARTNER s = 0 then setMirror .off { s with fm := { s.fm with log := [] } } else mirrorResync s

/-! ### Writing a region -/

/-- Write bytes at an offset of a region, and mirror them as they stand. -/
def regionWrite (n : Nat) (r : Region) (off : Nat) (bs : Bytes) (s : State) : State :=
  let a := off - r.base
  let r' := { r with data := cellsWrite r.data a bs, poison := poisonAfter r.poison a bs.length }
  let s := occ (servingBench n r) (632 + 16 * r.stack + 9) bs.length {} (setRegion n r' s)
  if r.mirrored then mirrorPut [mirrorWrite s (windowOff r a) bs false false] s else s

/-- A line of a region is poisoned (R248). -/
def poisonLine (n l : Nat) (s : State) : State :=
  match SMap.get? s.fm.regions n with
  | none => s
  | some r =>
    if r.poison.contains l then s
    else
      let s := setRegion n { r with poison := r.poison ++ [l] } s
      let s := count E.FM_MEDIA_ERRORS 1 (occ (servingBench n r) (632 + 16 * r.stack + 7) 1 {} s)
      let s := raiseOnce Ev.FM_MEDIA_ERROR n [.u16 n] s
      if r.mirrored then mirrorPut [mirrorWrite s (windowOff r (l * 64)) (List.replicate 64 0) true false] s else s

/-! ### Requests (R216 to R219) -/

/-- Word `0x0C` of the descriptor. -/
def rqWord (q : MemReq) : Nat := beAt (pkPayload q.pkt) 12 4
def rqKey (q : MemReq) : Nat := beAt (pkPayload q.pkt) 0 8
def rqGen (q : MemReq) : Nat := beAt (pkPayload q.pkt) 8 4 >>> 20
def rqTag (q : MemReq) : Nat := if q.cell then 0 else beAt (pkPayload q.pkt) 8 4 % 2 ^ 20
def rqSub (q : MemReq) : Nat := bits (rqWord q) 28 4
def rqFmt (q : MemReq) : Nat := bits (rqWord q) 24 4
def rqUnsigned (q : MemReq) : Bool := bit (rqWord q) 23
def rqAck (q : MemReq) : Bool := bit (rqWord q) 22
def rqStoch (q : MemReq) : Bool := bit (rqWord q) 21
def rqLoad (q : MemReq) : Nat := bits (rqWord q) 0 13
def rqData (q : MemReq) : Bytes := (pkPayload q.pkt).drop 16
def rqOp (q : MemReq) : Nat := pkOp q.pkt
def rqOff (q : MemReq) : Nat := pkOffset q.pkt
def rqSrc (q : MemReq) : Nat := pkSrc q.pkt
def rqSeq (q : MemReq) : Nat := pkSeq q.pkt

/-- Bytes of an atomic's word. -/
def rqWidth (q : MemReq) : Nat := if rqFmt q = 0xC then 4 else 8

/-- Bytes that a request touches. -/
def rqSpan (q : MemReq) : Nat :=
  if q.cell then pkWire q.pkt - 40
  else if rqOp q = Op.MEM_LOAD then rqLoad q
  else if rqOp q = Op.MEM_ATOMIC then rqWidth q
  else (rqData q).length

/-- The binding on which a response for a flow tag leaves a serving bench, with a port of its ingress spray set (R221). -/
def scResponse (s : State) (bench : Option Nat) (tag : Nat) : Option (Image × Binding × Nat) :=
  match s.tt.active, bindingOf s tag, bench with
  | some i, some b, some n =>
    if tag = 0 || b.multi then none
    else ((sprayPorts (sprayOf i b.ingress)).find? fun p => benchOf p == n).map fun p => (i, b, p)
  | _, _, _ => none

/-- Whether a request keeps R216 to R219; that it lies within its region is checked as BOUNDS. -/
def rqWellFormed (s : State) (bench : Option Nat) (q : MemReq) : Bool :=
  let op := rqOp q
  let d := (rqData q).length
  let reduce := op == Op.MEM_REDUCE_STORE
  let atomic := op == Op.MEM_ATOMIC
  opRequest op && (pkPayload q.pkt).length ≥ 16 && bits (rqWord q) 13 8 == 0
    && (atomic || reduce || (rqSub q == 0 && rqFmt q == 0))
    && (op == Op.MEM_LOAD || rqLoad q == 0)
    && (if op == Op.MEM_LOAD then
          d == 0 && 1 ≤ rqLoad q && rqLoad q ≤ 4096 && ((scResponse s bench (rqTag q)).isNone || rqLoad q ≤ 984)
        else if atomic then
          rqSub q ≤ 4 && (rqFmt q == 0xC || rqFmt q == 0xD) && d == (if rqSub q = 1 then 16 else 8) && rqOff q % rqWidth q == 0
        else 1 ≤ d && d ≤ 4080)
    && (!reduce || (let f := rqFmt q
          (f ≤ 4 || (0xB ≤ f && f ≤ 0xD)) && (if fmtFloat f then rqSub q ≤ 2 else rqSub q ≤ 5)
            && d % (elemBits f / 8) == 0 && rqOff q % (elemBits f / 8) == 0))

/-! ### Fences -/

/-- Whether a fence on an FA is in force (R440). -/
def fenced (s : State) (fa : Nat) : Bool := s.hl.fences.any fun c => c.fa == fa && c.tick ≤ s.clk.tick

/-! ### Answers (R220, R221) -/

/-- Add to a counter of a table of 64-bit counters. -/
def countTab (e n i : Nat) (s : State) : State :=
  let t := padTo n (tabBytes s e [])
  setTab e (splice t (8 * i) (beBytes 8 ((beAt t (8 * i) 8 + 1) % 2 ^ 64))) s

/-- Send a response from a serving bench, or from none where no region names one. -/
def memRespond (q : MemReq) (bench : Option Nat) (op : Nat) (body : Bytes) (s : State) : State :=
  let k := q.pkt
  let make := fun vc flow =>
    if opKind op == 1 then
      mkControl vc (eBit s) (pkSrc k) op (posFa s) flow false (pkSeq k) (pkJob k) 0 (activeEpoch s) body (stampNow s)
    else
      mkData { vc := vc, e := eBit s, dest := pkSrc k, op := op, src := posFa s, flow := flow, seq := pkSeq k, job := pkJob k,
               hop := Cfg.PKT_ORIGIN_HOP_LIMIT s, operand := rqOff q } body (stampNow s)
  match scResponse s bench (rqTag q) with
  | some (i, b, p) =>
    let id := s.dp.nextId
    scEnqueue i b id p 5 (make Vc.SC (rqTag q)) { s with dp := { s.dp with nextId := id + 1 } }
  | none =>
    let s := if rqTag q = 0 then s else tally E.FM_RSP_UNBOUND (bench.getD (benchOf q.port)) 92 1 {} s
    answerBy none (make Vc.OC0 0) s

/-- The region that a request's offset names, with its serving bench. -/
def rqRegion (s : State) (q : MemReq) : Option (Nat × Region) := regionAt s (rqOff q)
def rqBench (s : State) (q : MemReq) : Option Nat := (rqRegion s q).map fun x => servingBench x.1 x.2

/-- Where and when a request is applied that is applied now. -/
def appliedNow (s : State) (q : MemReq) : AppliedAt :=
  let (n, g) := match rqRegion s q with | some (n, r) => (n, r.gen) | none => (0, Cfg.FM_MIRROR_IN_GEN s)
  { region := n, gen := g, tick := s.clk.tick }

/-- MEM_ACK: status 0 applied, 1 duplicate; with the generation and the tick of the application. -/
def memAck (q : MemReq) (status : Nat) (how : AppliedAt) (s : State) : State :=
  memRespond q (rqBench s q) Op.MEM_ACK
    (beBytes 4 (rqOp q * 2 ^ 24 + status * 2 ^ 16 + how.region) ++ beBytes 4 (how.gen * 2 ^ 20) ++ beBytes 8 how.tick) s

/-- A refusal, counted at a bench and answered by MEM_NACK; a local multicast copy gets no answer (R227, R240). -/
def memNack (q : MemReq) (at_ code detail : Nat) (s : State) : State :=
  let s := countTab E.FM_NACK_COUNTS 128 code s
  let s := if code = 0x0C then raiseOnce Ev.FM_FENCED_ACCESS (rqSrc q) [.u32 (rqSrc q)] s else s
  let reg := rqRegion s q
  let s := match reg with
    | some (n, r) =>
      let s := occ (servingBench n r) (632 + 16 * r.stack + 6) 1 {} s
      if code = 1 || code = 2 then raiseOnce Ev.FM_KEY_REFUSED n [.u16 n, .u32 (rqSrc q), .u8 code] s else s
    | none => s
  if pkM q.pkt then count E.FM_MCAST_LOCAL_REFUSED 1 s
  else
    let s := occ at_ (69 + code) 1 {} s
    let named := match reg with | some (n, _) => 2 ^ 15 + n | none => 0
    memRespond q (rqBench s q) Op.MEM_NACK
      (beBytes 4 (rqOp q * 2 ^ 24 + code * 2 ^ 16 + named) ++ beBytes 4 (detail * 2 ^ 16) ++ beBytes 8 s.clk.tick) s

/-- MEM_ATOMIC_RSP: status 0 applied now, 1 replayed. -/
def atomicRsp (q : MemReq) (old status : Nat) (s : State) : State :=
  memRespond q (rqBench s q) Op.MEM_ATOMIC_RSP (beBytes 8 old ++ beBytes 4 (status * 2 ^ 24) ++ beBytes 4 0) s

/-! ### A source's sequence (R228 to R231) -/

/-- Home bench of a source (R228). -/
def homeBench (fa : Nat) : Nat := (fa ^^^ (fa >>> 7) ^^^ (fa >>> 14) ^^^ (fa >>> 21)) % 128

def setSlot (fa : Nat) (x : SourceSlot) (s : State) : State := { s with fm := { s.fm with sources := SMap.set s.fm.sources fa x } }
def dropSlot (fa : Nat) (s : State) : State := { s with fm := { s.fm with sources := SMap.erase s.fm.sources fa } }

/-- The slot that may be reclaimed: that of the oldest activity, where it has been idle for FM_SOURCE_IDLE_MS and holds no flag. -/
def slotReclaim (s : State) : Option Nat :=
  let oldest := s.fm.sources.foldl (fun (m : Option (Nat × SourceSlot)) x => match m with
    | none => some x
    | some y => if x.2.activityPs < y.2.activityPs then some x else m) none
  (oldest.filter fun x => x.2.held.isEmpty && x.2.activityPs + Cfg.FM_SOURCE_IDLE_MS s * 1000000000 ≤ now s).map (·.1)

/-- The slot of a source, allocated at its first request; none where no slot is free. -/
def slotTake (fa seq : Nat) (s : State) : Option State :=
  let mark := fun (x : SourceSlot) => { x with activity := s.clk.tick, activityPs := now s }
  match SMap.get? s.fm.sources fa with
  | some x => some (setSlot fa (mark x) s)
  | none =>
    let fresh : SourceSlot :=
      { base := seq, highest := seq, young := true, allocated := now s, window := [], replay := [], fault := none, held := [],
        waiting := [], gapEnd := none, gaps := [], activity := s.clk.tick, activityPs := now s }
    if s.fm.sources.length < 4096 then some (setSlot fa fresh s)
    else (slotReclaim s).map fun old => setSlot fa fresh (dropSlot old s)

/-- The gaps of a slot (R230): empty positions of the window before one that is not. -/
def gapsOf (x : SourceSlot) : List Nat :=
  let far := x.window.foldl (fun m w => max m (serialDist 16 w.1 x.base)) 0
  ((List.range (min far 256)).map fun i => (x.base + i) % 2 ^ 16).filter fun q => (SMap.get? x.window q).isNone

/-- Start the gap timer when a gap first appears. -/
def gapStart (s : State) (x : SourceSlot) : SourceSlot :=
  let g := gapsOf x
  if x.gapEnd.isNone && !g.isEmpty then { x with gapEnd := some (now s + Cfg.FM_GAP_HOLD_US s * 1000000), gaps := g } else x

/-- Move the base over resolved positions. -/
def baseMove : Nat → SourceSlot → SourceSlot
  | 0, x => x
  | f + 1, x =>
    match SMap.get? x.window x.base with
    | some (.applied _) | some (.refused _ _) | some .lost =>
      baseMove f { x with window := SMap.erase x.window x.base, base := (x.base + 1) % 2 ^ 16 }
    | _ => x

/-- `record` of R231. -/
def recordReplay (x : SourceSlot) (seq : Nat) (v : Option Nat) : SourceSlot :=
  let l := x.replay ++ [{ seq := seq, result := v }]
  if l.length ≤ 64 then { x with replay := l }
  else
    let first := l.foldl (fun (m : Option Replay) e => match m with
      | none => some e
      | some y => if serialAfter 16 y.seq e.seq then some e else m) none
    match first with
    | some e => { x with replay := l.erase e }
    | none => { x with replay := l }

/-- Send a request to its serving bench. -/
def toServing (q : MemReq) (sequenced : Bool) (s : State) : State :=
  { s with fm := { s.fm with applies := s.fm.applies ++ [{ req := q, sequenced := sequenced, again := false }] } }

/-- Send a load to its serving bench that its sequence number has resolved: it is served without sequence state. -/
def serveAgain (q : MemReq) (s : State) : State :=
  { s with fm := { s.fm with applies := s.fm.applies ++ [{ req := q, sequenced := false, again := true }] } }

/-- What a repeated request gets from a resolved position (R231). -/
def repeated (q : MemReq) (p : SeqSt) (s : State) : State :=
  match p with
  | .refused code detail => memNack q (homeBench (rqSrc q)) code detail s
  | .lost => memNack q (homeBench (rqSrc q)) 0x09 0 s
  | .progress => s
  | .applied how =>
    if rqOp q = Op.MEM_LOAD then serveAgain q s
    else if rqOp q = Op.MEM_ATOMIC then memNack q (homeBench (rqSrc q)) 0x08 0 s
    else memAck q 1 how s

/-- Answer the duplicates that waited for a sequence: an atomic's from the replay table. -/
def answerWaiting (fa seq : Nat) (p : SeqSt) (s : State) : State :=
  match SMap.get? s.fm.sources fa with
  | none => s
  | some x =>
    let mine := x.waiting.filter fun q => rqSeq q == seq
    let s := setSlot fa { x with waiting := x.waiting.filter fun q => rqSeq q != seq } s
    mine.foldl (fun s q =>
      match (x.replay.find? fun e => e.seq == seq).bind (·.result), rqOp q == Op.MEM_ATOMIC with
      | some old, true => atomicRsp q old 1 (tally E.FM_REPLAYS (homeBench fa) 85 1 {} s)
      | _, _ => repeated q p s) s

/-- Resolve a position, in the order of R231, without moving the base. -/
def resolve (fa seq : Nat) (p : SeqSt) (f : SourceSlot → SourceSlot) (s : State) : State :=
  match SMap.get? s.fm.sources fa with
  | none => s
  | some x => answerWaiting fa seq p (setSlot fa (f { x with window := SMap.set x.window seq p }) s)

/-- Move the base, and release the flags it reaches (R229). -/
def slotAdvance (fa : Nat) : Nat → State → State
  | 0, s => s
  | f + 1, s =>
    match SMap.get? s.fm.sources fa with
    | none => s
    | some x =>
      let x := baseMove 65536 x
      let s := setSlot fa x s
      match x.held.find? fun q => rqSeq q == x.base with
      | none => s
      | some q =>
        let x := { x with held := x.held.erase q }
        match x.fault with
        | some m =>
          if serialAfter 16 x.base m then
            let s := memNack q (homeBench fa) 0x0B m (setSlot fa x s)
            slotAdvance fa f (resolve fa x.base (.refused 0x0B m) (fun x => { x with fault := none }) s)
          else toServing q true (setSlot fa x s)
        | none => toServing q true (setSlot fa x s)

/-- Flags that a bench holds. -/
def heldAt (s : State) (bench : Nat) : Nat :=
  sumNat ((s.fm.sources.filter fun x => homeBench x.1 == bench).map fun x => x.2.held.length)

/-- Take a request into an empty position: a flag is held, anything else goes to its serving bench. -/
def sequenceNew (q : MemReq) (x : SourceSlot) (s : State) : State :=
  let fa := rqSrc q
  let home := homeBench fa
  let seq := rqSeq q
  let x := gapStart s { x with window := SMap.set x.window seq .progress }
  if rqOp q = Op.MEM_STORE_FLAG then
    if x.base = seq then slotAdvance fa 65536 (setSlot fa { x with held := x.held ++ [q] } s)
    else if heldAt s home ≥ 1024 then
      let s := raiseOnce Ev.FM_HELD_FULL home [.u16 home] (memNack q home 0x0E 0 (setSlot fa x s))
      slotAdvance fa 65536 (resolve fa seq (.refused 0x0E 0) (fun x => { x with fault := some seq }) s)
    else setSlot fa { x with held := x.held ++ [q] } (tally E.FM_FLAG_HOLDS home 86 1 {} s)
  else toServing q true (setSlot fa x s)

/-- `on request q` of R231, with the slot found. -/
def onRequest (q : MemReq) (x : SourceSlot) (s : State) : State :=
  let fa := rqSrc q
  let home := homeBench fa
  let seq := rqSeq q
  let x := if x.young && serialAfter 16 x.base seq && serialDist 16 x.highest seq < 256 then { x with base := seq } else x
  let x := if serialAfter 16 seq x.highest then { x with highest := seq } else x
  let s := setSlot fa x s
  let hit := x.replay.find? fun e => e.seq == seq
  match hit.bind (·.result), rqOp q == Op.MEM_ATOMIC with
  | some old, true => atomicRsp q old 1 (tally E.FM_REPLAYS home 85 1 {} s)
  | _, _ =>
    if hit.any fun e => e.result.isNone then memNack q home 0x09 0 s
    else if before16 seq x.base then
      if rqOp q = Op.MEM_LOAD then serveAgain q s else memNack q home 0x08 0 s
    else if serialDist 16 seq x.base ≥ 256 then memNack q home 0x0A x.base s
    else match SMap.get? x.window seq with
      | some .progress => setSlot fa { x with waiting := x.waiting ++ [q] } s
      | some p => repeated q p s
      | none => sequenceNew q x s
where
  /-- Before, or not comparable (R98). -/
  before16 (a b : Nat) : Bool := a != b && !serialAfter 16 a b

/-- Number of a request's op code among the counted ones. -/
def rqKind (op : Nat) : Nat := if op = 0x30 then 0 else if op = 0x32 then 1 else if op = 0x33 then 2 else if op = 0x34 then 3 else if op = 0x36 then 4 else 5

/-- A request for the part at its source's home bench (R227, R231). -/
def memRequest (p : Nat) (k : Packet) (s : State) : State :=
  let q : MemReq := { pkt := k, port := p, cell := portCell s p }
  let home := homeBench (rqSrc q)
  let s := count E.FM_REQUESTS 1 (occ home (64 + rqKind (rqOp q)) 1 {} s)
  if fenced s (rqSrc q) then memNack q home 0x0C 0 s
  else if q.cell || rqOp q = Op.MEM_MCAST_STORE then toServing q false s
  else match slotTake (rqSrc q) (rqSeq q) s with
    | none => raiseOnce Ev.FM_SOURCE_LIMIT 0 [.u32 (rqSrc q)] (memNack q home 0x0D 0 s)
    | some s => match SMap.get? s.fm.sources (rqSrc q) with
      | some x => onRequest q x s
      | none => s

/-! ### Application (R227, R218, R202) -/

/-- Where an access lies. -/
inductive MemTarget where
  | region (n : Nat) (r : Region)
  | window
deriving DecidableEq, Repr

/-! ### The receiver of a takeover stream (R473 to R476) -/

def setStream (x : Stream) (s : State) : State := { s with rp := { s.rp with stream := some x } }
def streamReceiving (s : State) : Option Stream := s.rp.stream.filter fun x => x.role == 2 && x.state == 1
def streamSending (s : State) : Option Stream := s.rp.stream.filter fun x => x.role == 1 && x.state == 1

/-- A stream's state changes, at either end. -/
def streamState (x : Stream) (n : Nat) (s : State) : State :=
  raise Ev.RP_STREAM [.u8 x.role, .u8 n, .u32 x.peer] (setStream { x with state := n } s)

/-- Regions become LOST with their next generations (R472, R475, R476). -/
def regionsLose (ns : List Nat) (s : State) : State :=
  if ns.isEmpty then s
  else
    let s := ns.foldl (fun s n => regionState n .lost (genBump n s)) s
    raise Ev.RP_REGION_LOST [.units ns] (count E.RP_REGIONS_LOST ns.length s)

/-- RESTORING regions that no stream has rebuilt. -/
def unrebuilt (s : State) : List Nat := (s.fm.regions.filter fun x => x.2.state == .restoring && !x.2.atJoin).map (·.1)

/-- `FM_MIRROR_FROM` is rewritten: the window starts anew (R237). -/
def mirrorFrom (v : Nat) (s : State) : State :=
  setNum E.FM_MIRROR_FROM v { s with fm := { s.fm with win := { data := [], poison := [], step := 0 }, winCk := none, winCopying := none } }

/-- The value of an imported record is applied once no stream is open (R473). -/
def mirrorFromHeld (s : State) : State :=
  match s.rp.mirrorFromAfter with
  | none => s
  | some v => mirrorFrom v { s with rp := { s.rp with mirrorFromAfter := none } }

/-- Define record of a region in the window. -/
def winRecord (w : MirrorWin) (n : Nat) : Bytes := cellsRead w.data (0xFE00000000 + 32 * n) 32

/-- Where a record's data lies in the window: start and size. -/
def winSpan (r : Bytes) : Nat × Nat := (0xFF00000000 + 2 ^ 30 * bits (beAt r 4 4) 0 2 + 4096 * bits (beAt r 4 4) 2 18, beAt r 16 8)

/-- Throw the window data of a region away. -/
def winForget (n : Nat) (w : MirrorWin) : MirrorWin :=
  let (a, size) := winSpan (winRecord w n)
  { w with data := cellsZero w.data a size, poison := w.poison.filter fun l => l * 64 < a || a + size ≤ l * 64 }

/-- A region of a stream is whole: it is rebuilt from the window (R475). -/
def streamRebuild (n : Nat) (s : State) : State :=
  let w := s.fm.win
  let r := winRecord w n
  let w0 := beAt r 0 4
  let old := SMap.get? s.fm.regions n
  if bits w0 12 4 = 2 then
    match old with
    | none => s
    | some x => regionEvent n (some x.state) none x.gen (genRetire n x.gen { s with fm := { s.fm with regions := SMap.erase s.fm.regions n } })
  else
    let (a, size) := winSpan r
    let stack := bits (beAt r 4 4) 0 2
    let spans := freeSpans s stack
    let units := size / 4096
    let place := match old with
      | some x => if x.stack = stack && x.size = size then x.placement else placeAt spans units (Config.placement n s.free % placeCount spans units)
      | none => placeAt spans units (Config.placement n s.free % placeCount spans units)
    let up := s.rp.sync == .current || s.rp.sync == .withdrawing
    let x : Region :=
      { state := .restoring, mirrored := bit w0 31, checkpointed := bit w0 30, gen := beAt r 4 4 >>> 20, stack := stack,
        placement := place, base := beAt r 8 8, size := size, key := beAt r 24 8, atJoin := !up
        data := (w.data.filter fun c => a ≤ c.1 && c.1 < a + size).map fun c => (c.1 - a, c.2)
        poison := (w.poison.filter fun l => a ≤ l * 64 && l * 64 < a + size).map fun l => l - a / 64 }
    let s := genBump n (setRegion n x { s with free := s.free + 1 })
    let s := if old.any (·.state == .restoring) then s else regionEvent n (old.map (·.state)) (some .restoring) x.gen s
    if up then regionState n .active s else s

/-- The receiver's stream ends: whole (2) or abandoned (3). -/
def streamFinish (code : Nat) (x : Stream) (s : State) : State :=
  let lost := unrebuilt s
  let s := if code = 3 then { s with fm := { s.fm with win := lost.foldl (fun w n => winForget n w) s.fm.win } } else s
  let s := if code = 2 then count E.RP_STREAM_BYTES x.bytes s else s
  mirrorFromHeld (streamState { x with lost := x.lost + lost.length } code (regionsLose lost s))

/-- A stream breaks off: the receiver abandons it, and a sender fails (R476, R482). -/
def streamAbandon (s : State) : State :=
  match streamReceiving s, streamSending s with
  | some x, _ => streamFinish 3 x s
  | none, some x => streamState { x with todo := [] } 4 s
  | none, none => s

/-- What a stream write does beside filling the window. -/
def streamWrite (off : Nat) (d : Bytes) (s : State) : State :=
  match streamReceiving s with
  | none => s
  | some x =>
    let x := { x with bytes := x.bytes + d.length, dueAt := now s + Cfg.RP_STREAM_TIMEOUT_MS s * 1000000000 }
    if 0xFE00020000 ≤ off ∧ off < 0xFE00020008 then setStream { x with step := beNat (cellsRead s.fm.win.data 0xFE00020000 8), marked := true } s
    else if off = 0xFE00020008 then streamFinish 2 x s
    else if 0xFE00021000 ≤ off ∧ off < 0xFE00029000 then
      if x.marked && beNat d == x.step then setStream { x with done := x.done + 1 } (streamRebuild ((off - 0xFE00021000) / 8) s)
      else setStream x s
    else setStream x s

/-- Who may write the mirror window, under which key and generation; none while it is closed (R234, R237, R473, R474). -/
def winOpen (s : State) : Option (Nat × Nat × Nat) :=
  match streamReceiving s with
  | some x => some (x.peer, x.key, x.gen)
  | none =>
    if (streamSending s).isSome || Cfg.FM_MIRROR_FROM s = 0 then none
    else some (Cfg.FM_MIRROR_FROM s % 2 ^ 24, beNat (padTo 8 (tabBytes s E.FM_MIRROR_IN_KEY [])), Cfg.FM_MIRROR_IN_GEN s)

/-- Bytes from an offset of the mirror window to the end of the span it lies in; none outside the layout (R234, R474). -/
def windowRoom (s : State) (off : Nat) : Option Nat :=
  if 0xFE00000000 ≤ off ∧ off < 0xFE00020000 then some (0xFE00020000 - off)
  else if 0xFE00020000 ≤ off ∧ off < 0xFE00020008 then some (0xFE00020008 - off)
  else if 0xFF00000000 ≤ off then some (2 ^ 40 - off)
  else if (streamReceiving s).isNone then none
  else if 0xFE00020008 ≤ off ∧ off < 0xFE00020010 then some (0xFE00020010 - off)
  else if 0xFE00021000 ≤ off ∧ off < 0xFE00029000 then some (8 - off % 8)
  else none

/-- Checks of an access to a region after UNSUPPORTED: a code, or the region. -/
def regionCheck (s : State) (off span : Nat) (desc : Option (Nat × Nat)) (src : Option Nat) (reads : Bool) :
    Except Nat (Nat × Region) :=
  match regionAt s off with
  | none => .error 0x03
  | some (n, r) =>
    if off + span > r.base + r.size then .error 0x04
    else match r.state with
      | .lost => .error 0x06
      | .initialising | .restoring => .error 0x07
      | .active => match desc with
        | none => .error 0x01
        | some (key, gen) =>
          if key != r.key then .error 0x01
          else if gen != r.gen then .error 0x02
          else if src.any (fenced s) then .error 0x0C
          else if reads && (linesOf (off - r.base) span).any fun l => r.poison.contains l then .error 0x0F
          else .ok (n, r)

/-- Whether an operation reads what it touches. -/
def rqReads (q : MemReq) : Bool := rqOp q ∈ [Op.MEM_LOAD, Op.MEM_ATOMIC, Op.MEM_REDUCE_STORE]

/-- A request that entered from a cell-mode port is checked for its fence first, and has no key (R227). -/
def memCheck (s : State) (q : MemReq) : Except Nat MemTarget :=
  let off := rqOff q
  if q.cell && fenced s (rqSrc q) then .error 0x0C
  else if q.cell && off ≥ 0xFE00000000 && (winOpen s).isSome then
    match windowRoom s off with
    | none => .error 0x03
    | some room => if rqSpan q > room then .error 0x04 else .error 0x01
  else if !q.cell && off ≥ 0xFE00000000 && (winOpen s).isSome then
    let (peer, key, gen) := (winOpen s).getD (0, 0, 0)
    let marked := bits (rqWord q) 13 8 == poisonMark && (rqData q).length == 64 && off ≥ 0xFF00000000 && off % 64 == 0
    let plain := { q with pkt := pkSet q.pkt 44 4 (rqWord q - bits (rqWord q) 13 8 * 2 ^ 13) }
    if rqOp q != Op.MEM_STORE_FLAG || !(rqWellFormed s none (if marked then plain else q)) then .error 0x05
    else match windowRoom s off with
      | none => .error 0x03
      | some room =>
        if rqSpan q > room then .error 0x04
        else if rqSrc q != peer || rqKey q != key then .error 0x01
        else if rqGen q != gen then .error 0x02
        else if fenced s (rqSrc q) then .error 0x0C
        else .ok .window
  else if !q.cell && !rqWellFormed s (rqBench s q) q then .error 0x05
  else match regionCheck s off (rqSpan q) (if q.cell then none else some (rqKey q, rqGen q)) (some (rqSrc q)) (rqReads q) with
    | .error c => .error c
    | .ok (n, r) => .ok (.region n r)

/-- New value of an atomic's word of `w` bits (R218). -/
def atomicNew (sub w : Nat) (uns : Bool) (old a b : Nat) : Nat :=
  let less := fun x y => if uns then x < y else toSigned w x < toSigned w y
  match sub with
  | 0 => (old + a) % 2 ^ w
  | 1 => if old = a then b else old
  | 2 => a
  | 3 => if less a old then a else old
  | _ => if less old a then a else old

/-- The elements of a reduce-store combined into stored bytes (R202): the bytes, elements, and what the conversion counted. -/
def reduceStore (f op : Nat) (stoch : Bool) (stored new : Bytes) : Conv × Nat :=
  let v := combineOpd op (fmtInt f) (widen f stored) (widen f new)
  (outConvert f { stochastic := stoch, mixIn := 0 } v, v.length)

/-- A step marker: the window is snapshot, but while a copy of it runs (R237, R238). -/
def windowTake (w : MirrorWin) (s : State) : State :=
  let s := { s with fm := { s.fm with win := w } }
  if s.fm.winCopying.isSome then raise Ev.FM_CHECKPOINT_SKIPPED [.u64 w.step] s else { s with fm := { s.fm with winCopying := some w } }

/-- What a write to the mirror window does (R234, R237). -/
def windowWrite (q : MemReq) (s : State) : State :=
  let off := rqOff q
  let d := rqData q
  let w := s.fm.win
  if bits (rqWord q) 13 8 = poisonMark then
    streamWrite off d { s with fm := { s.fm with win := { w with poison := addNew (off / 64) w.poison } } }
  else if 0xFE00020008 ≤ off ∧ off < 0xFF00000000 then streamWrite off d s
  else
    let w := { w with data := cellsWrite w.data off d, poison := poisonAfter w.poison off d.length }
    let recNo := (off - 0xFE00000000) / 32
    let r := cellsRead w.data (0xFE00000000 + 32 * recNo) 32
    let cmd := bits (beAt r 0 4) 12 4
    let w := if off < 0xFE00020000 && (cmd == 1 || cmd == 4) then
        let a := 0xFF00000000 + 2 ^ 30 * bits (beAt r 4 4) 0 2 + 4096 * bits (beAt r 4 4) 2 18
        { w with data := cellsZero w.data a (beAt r 16 8), poison := w.poison.filter fun l => l * 64 < a || a + beAt r 16 8 ≤ l * 64 }
      else w
    if 0xFE00020000 ≤ off ∧ off < 0xFE00020008 then
      streamWrite off d (windowTake { w with step := beNat (cellsRead w.data 0xFE00020000 8) } s)
    else streamWrite off d { s with fm := { s.fm with win := w } }

/-- The outcome of a request goes back to its home bench. -/
def toHome (a : MemApply) (code old : Option Nat) (how : AppliedAt) (s : State) : State :=
  if a.sequenced then
    { s with fm := { s.fm with outcomes := s.fm.outcomes ++
        [{ src := rqSrc a.req, seq := rqSeq a.req, op := rqOp a.req, code := code, old := old, how := how }] } }
  else s

/-- Count elements that a conversion saturated or wrote as NaN (R177). -/
def countConv (b sat nan : Nat) (s : State) : State :=
  let s := if sat = 0 then s else tally E.CR_SATURATED_ELEMENTS b 62 sat {} s
  if nan = 0 then s else tally E.CR_NAN_ELEMENTS b 63 nan {} s

/-- Apply a request that has passed its checks, and answer it. -/
def memDo (a : MemApply) (t : MemTarget) (s : State) : State :=
  let q := a.req
  let off := rqOff q
  let how := appliedNow s q
  match t with
  | .window => toHome a none none how (memAck q 0 how (count E.FM_APPLIED 1 (windowWrite q s)))
  | .region n r =>
    let b := servingBench n r
    let s := occ b (632 + 16 * r.stack + rqKind (rqOp q)) 1 {} (if a.again then s else tally E.FM_APPLIED b 88 1 {} s)
    let op := rqOp q
    let x := off - r.base
    if op = Op.MEM_LOAD then
      let s := occ b (632 + 16 * r.stack + 8) (rqLoad q) {} s
      toHome a none none how (memRespond q (some b) Op.MEM_LOAD_RSP (cellsRead r.data x (rqLoad q)) s)
    else if op = Op.MEM_ATOMIC then
      let w := rqWidth q
      let old := beNat (cellsRead r.data x w)
      let v := atomicNew (rqSub q) (8 * w) (rqUnsigned q) old (beAt (rqData q) 0 8 % 2 ^ (8 * w)) (beAt (rqData q) 8 8 % 2 ^ (8 * w))
      let s := occ b (632 + 16 * r.stack + 8) w {} (regionWrite n r off (beBytes w v) s)
      toHome a none (some old) how (atomicRsp q old 0 s)
    else
      let s :=
        if op = Op.MEM_REDUCE_STORE then
          let (c, e) := reduceStore (rqFmt q) (rqSub q) (rqStoch q) (cellsRead r.data x (rqData q).length) (rqData q)
          let s := occ b (632 + 16 * r.stack + 8) (rqData q).length {} s
          countConv b c.sat c.nan (occ b 60 e {} (regionWrite n r off c.bytes s))
        else regionWrite n r off (rqData q) s
      let s := if op = Op.MEM_STORE_FLAG || (op != Op.MEM_MCAST_STORE && rqAck q) then memAck q 0 how s else s
      toHome a none none how s

/-- MEM_APPLY (R227): the n-th request on its way reaches its serving bench; `readErrors` are lines of its region whose read
fails (R248). In Rest the part serves none (R251). -/
def execMemApply (n : Nat) (readErrors : List Nat) (s : State) : Out :=
  run (fun s =>
    match (s.fm.applies.drop n).head? with
    | none => s
    | some a => if !dpLive s then s else
      let s := { s with fm := { s.fm with applies := listErase s.fm.applies n } }
      let q := a.req
      let s := match rqRegion s q with
        | some (m, r) =>
          if rqReads q then
            (readErrors.filter fun l => (linesOf (rqOff q - r.base) (rqSpan q)).contains l).foldl (fun s l => poisonLine m l s) s
          else s
        | none => s
      match memCheck s q with
      | .ok t => memDo a t s
      | .error c => toHome a (some c) none (appliedNow s q) (memNack q ((rqBench s q).getD (homeBench (rqSrc q))) c 0 s)) s

/-- MEM_OUTCOME (R231): the n-th outcome on its way reaches its home bench. -/
def execMemOutcome (n : Nat) (s : State) : Out :=
  run (fun s =>
    match (s.fm.outcomes.drop n).head? with
    | none => s
    | some o =>
      let s := { s with fm := { s.fm with outcomes := listErase s.fm.outcomes n } }
      let p := match o.code with | none => SeqSt.applied o.how | some c => .refused c 0
      slotAdvance o.src 65536 (resolve o.src o.seq p (fun x =>
        match o.code with
        | some _ => if o.op = Op.MEM_LOAD then x else { x with fault := some o.seq }
        | none => if o.op = Op.MEM_ATOMIC then recordReplay x o.seq o.old else x) s)) s

/-- A request of one op code, taken from the part's inbox. -/
def memRow (op p : Nat) (k : Packet) (s : State) : State :=
  if pkOp k = op && dpLive s then memRequest p k (fromInbox p k s) else s

/-- MEM_LOAD (R231). -/
def execMemLoad (p : Port) (k : Packet) (s : State) : Out := run (memRow Op.MEM_LOAD p k) s
/-- MEM_STORE (R231). -/
def execMemStore (p : Port) (k : Packet) (s : State) : Out := run (memRow Op.MEM_STORE p k) s
/-- MEM_STORE_FLAG (R229). -/
def execMemStoreFlag (p : Port) (k : Packet) (s : State) : Out := run (memRow Op.MEM_STORE_FLAG p k) s
/-- MEM_ATOMIC (R218). -/
def execMemAtomic (p : Port) (k : Packet) (s : State) : Out := run (memRow Op.MEM_ATOMIC p k) s
/-- MEM_REDUCE_STORE (R202). -/
def execMemReduceStore (p : Port) (k : Packet) (s : State) : Out := run (memRow Op.MEM_REDUCE_STORE p k) s

/-! ### Timers of a source -/

/-- Declare gaps lost (R230), one after another: after each the base moves and flags go on (R231). -/
def declareLost (fa : Nat) (s : State) : State :=
  match SMap.get? s.fm.sources fa with
  | none => s
  | some x =>
    let still := gapsOf x
    let lost := x.gaps.filter fun q => still.contains q
    let s := setSlot fa { x with gapEnd := none, gaps := [] } s
    let s := lost.foldl (fun s q => slotAdvance fa 65536 <|
      tally E.FM_SEQ_DECLARED_LOST (homeBench fa) 87 1 {}
        (resolve fa q .lost (fun x => { recordReplay x q none with fault := some q, young := false }) s)) s
    let s := match lost.head? with
      | none => s
      | some q => raiseOnce Ev.FM_SEQ_LOST fa [.u32 fa, .u16 q] s
    let s := slotAdvance fa 65536 s
    match SMap.get? s.fm.sources fa with
    | none => s
    | some x => setSlot fa (gapStart s x) s

/-- GAP_TIMER_EXPIRY (R230); in Rest it waits, since the part serves no requests (R251). -/
def execGapTimerExpiry (src : FA) (s : State) : Out :=
  runDue (if dpLive s then (SMap.get? s.fm.sources src.toNat).bind (·.gapEnd) else none) (declareLost src.toNat) s

/-- SOURCE_YOUNG_EXPIRY (R231). -/
def execSourceYoungExpiry (src : FA) (s : State) : Out :=
  runDue ((SMap.get? s.fm.sources src.toNat).map fun x => x.allocated + Cfg.FM_GAP_HOLD_US s * 1000000)
    (fun s => match SMap.get? s.fm.sources src.toNat with
      | none => s
      | some x => setSlot src.toNat { x with young := false } s) s

/-! ### The mirror's answers (R236) -/

/-- Writes to send again under new sequences. -/
def mirrorAgain (seqs : List Nat) (s : State) : State :=
  let hit := fun (w : MirrorWrite) => w.seq.any fun q => seqs.contains q
  let n := (s.fm.log.filter hit).length
  let s := count E.FM_MIRROR_RESENDS n ((s.fm.log.filter hit).foldl (fun s w => occ (mirrorBench s w.offset) 90 1 {} s) s)
  mirrorPump 256 { s with fm := { s.fm with log := s.fm.log.map fun w => if hit w then { w with seq := none } else w } }

/-- A response that answers no request of the part (R217). -/
def strayResponse (p : Nat) (s : State) : State := tally E.FM_STRAY_RESPONSES (benchOf p) 91 1 {} s

/-! ### The sender of a takeover stream (R474) -/

/-- The request of a stream write. -/
def streamPacket (s : State) (x : Stream) (w : MirrorWrite) : Packet :=
  let desc := beBytes 8 w.key ++ beBytes 4 (w.gen * 2 ^ 20) ++ beBytes 4 (if w.poisoned then poisonMark * 2 ^ 13 else 0)
  mkData { vc := Vc.OC0, e := eBit s, dest := x.peer, op := Op.MEM_STORE_FLAG, src := posFa s,
           seq := w.seq.getD 0, hop := Cfg.PKT_ORIGIN_HOP_LIMIT s, operand := w.offset } (desc ++ w.body) (stampNow s)

/-- Sequences run per destination: a receiver that is also the mirror's partner shares its counter. -/
def streamSeq (s : State) (x : Stream) : Nat := if x.peer = Cfg.FM_MIRROR_PARTNER s % 2 ^ 24 then s.fm.outSeq else x.seq
def streamSeqUp (x : Stream) (s : State) : State :=
  if x.peer = Cfg.FM_MIRROR_PARTNER s % 2 ^ 24 then
    setStream x { s with fm := { s.fm with outSeq := (s.fm.outSeq + 1) % 2 ^ 16 } }
  else setStream { x with seq := (x.seq + 1) % 2 ^ 16 } s

/-- The next write that has no sequence is sent, while fewer than 256 sequences are open. -/
def streamNext (x : Stream) (s : State) : State :=
  let q := streamSeq s x
  match x.todo.findIdx? fun w => w.seq.isNone with
  | none => s
  | some i => match (x.todo.drop i).head? with
    | none => s
    | some w =>
      if (x.todo.filterMap (·.seq)).any fun o => serialDist 16 q o ≥ 256 then s
      else
        let w' := { w with seq := some q, dueAt := now s + Cfg.FM_MIRROR_ACK_US s * 1000000 }
        let gap := w.body.length * 8000 / max 1 (Cfg.RP_STREAM_RATE_GBPS s)
        let x' := { x with todo := listSet x.todo i w', paceAt := now s + gap, bytes := x.bytes + w.body.length
                           done := if 0xFE00021000 ≤ w.offset ∧ w.offset < 0xFE00029000 then x.done + 1 else x.done }
        originateRouted (streamPacket s x' w') (streamSeqUp x' s)

/-- STREAM_SEND (R474): paced at `RP_STREAM_RATE_GBPS`. -/
def execStreamSend (s : State) : Out :=
  runDue (if dpLive s then (streamSending s).map (·.paceAt) else none) (fun s => match streamSending s with
    | some x => streamNext x s
    | none => s) s

/-- A write of a stream, before it is sent. -/
def streamItem (s : State) (x : Stream) (off : Nat) (body : Bytes) (poisoned : Bool) : MirrorWrite :=
  { seq := none, offset := off, body := body, key := x.key, gen := x.gen, poisoned := poisoned, whole := false, dueAt := 0, firstAt := now s }

/-- The writes of a stream, in order (R474). -/
def streamItems (s : State) (x : Stream) (w : MirrorWin) (step : Nat) : List MirrorWrite :=
  let regs := (List.range 4096).filter fun n => (winRecord w n).any (· != 0)
  let region := fun n =>
    let r := winRecord w n
    let (a, size) := winSpan r
    let free := bits (beAt r 0 4) 12 4 == 2
    streamItem s x (0xFE00000000 + 32 * n) r false
      :: (if free then []
          else ((List.range (ceilDiv size 4032)).map fun i =>
                  streamItem s x (a + i * 4032) (cellsRead w.data (a + i * 4032) (min 4032 (size - i * 4032))) false)
            ++ ((w.poison.filter fun l => a ≤ l * 64 && l * 64 < a + size).map fun l => streamItem s x (l * 64) (List.replicate 64 0) true))
      ++ [streamItem s x (0xFE00021000 + 8 * n) (beBytes 8 step) false]
  streamItem s x 0xFE00020000 (beBytes 8 step) false :: regs.flatMap region
    ++ [streamItem s x 0xFE00020008 (beBytes 4 regs.length ++ beBytes 4 0) false]

/-- An answer to a stream write: acknowledged, to be sent again, or the stream's end. -/
def streamAnswer (x : Stream) (k : Packet) (s : State) : State :=
  let code := bits (beAt (pkBody k) 0 4) 16 8
  let again := fun (seqs : List Nat) =>
    let hit := fun (w : MirrorWrite) => w.seq.any fun q => seqs.contains q
    count E.FM_MIRROR_RESENDS (x.todo.filter hit).length
      (setStream { x with todo := x.todo.map fun w => if hit w then { w with seq := none } else w } s)
  if pkOp k = Op.MEM_ACK then
    let left := x.todo.filter fun w => w.seq != some (pkSeq k)
    let x := { x with todo := left }
    if left.isEmpty then streamState x 2 s else setStream x s
  else if code = 0x09 then again [pkSeq k]
  else if code = 0x0B then again [bits (beAt (pkBody k) 4 4) 16 16, pkSeq k]
  else streamState { x with todo := [] } 4 s

/-- A MEM_ACK or MEM_NACK to the mirror sender, or to the sender of a stream. -/
def mirrorAnswer (p : Nat) (k : Packet) (s : State) : State :=
  let mine := pkSrc k == Cfg.FM_MIRROR_PARTNER s % 2 ^ 24 && s.fm.mirror != .off
    && s.fm.log.any fun w => w.seq == some (pkSeq k)
  if !mine then
    match streamSending s with
    | some x => if pkSrc k == x.peer && x.todo.any (fun w => w.seq == some (pkSeq k)) then streamAnswer x k s else strayResponse p s
    | none => strayResponse p s
  else if pkOp k = Op.MEM_ACK then
    mirrorPump 256 { s with fm := { s.fm with log := s.fm.log.filter fun w => w.seq != some (pkSeq k) } }
  else
    let code := bits (beAt (pkBody k) 0 4) 16 8
    if code = 0x09 then mirrorAgain [pkSeq k] s
    else if code = 0x0B then mirrorAgain [bits (beAt (pkBody k) 4 4) 16 16, pkSeq k] s
    else mirrorDegrade s

/-- A write of the running stream is sent again with its sequence. -/
def streamResend (n : Nat) (s : State) : Out :=
  match streamSending s with
  | none => run id s
  | some x => match (x.todo.drop n).head? with
    | none => run id s
    | some w =>
      runDue (if w.seq.isSome && dpLive s then some w.dueAt else none)
        (fun s =>
          let w' := { w with dueAt := now s + Cfg.FM_MIRROR_ACK_US s * 1000000 }
          originateRouted (streamPacket s x w') (count E.FM_MIRROR_RESENDS 1 (setStream { x with todo := listSet x.todo n w' } s))) s

/-- MIRROR_ACK_TIMEOUT (R236): the n-th write of the log, or of the stream after it, is sent again with its sequence. -/
def execMirrorAckTimeout (n : Nat) (s : State) : Out :=
  match (s.fm.log.drop n).head? with
  | none => streamResend (n - s.fm.log.length) s
  | some w =>
    runDue (if w.seq.isSome && s.fm.mirror != .off && dpLive s then some w.dueAt else none)
      (fun s =>
        let w' := { w with dueAt := now s + Cfg.FM_MIRROR_ACK_US s * 1000000 }
        mirrorSend true w' { s with fm := { s.fm with log := listSet s.fm.log n w' } }) s

/-- MIRROR_RESPONSE (R236): a MEM_ACK or MEM_NACK to the part. -/
def execMirrorResponse (p : Port) (k : Packet) (s : State) : Out :=
  run (fun s =>
    let s := fromInbox p k s
    if pkOp k = Op.MEM_ACK ∨ pkOp k = Op.MEM_NACK then mirrorAnswer p k s else s) s

/-- MIRROR_RESYNC_DONE (R236): every write of the whole regions is acknowledged. -/
def execMirrorResyncDone (s : State) : Out :=
  run (fun s => if s.fm.mirror = .syncing && !(s.fm.log.any (·.whole)) then setMirror .inSync s else s) s

/-- Age of the oldest unacknowledged write, in ns. -/
def mirrorLag (s : State) : Nat := s.fm.log.foldl (fun m w => max m ((now s - w.firstAt) / 1000)) 0

/-- The lag is judged once a tick (R236). -/
def lagCheck (s : State) : State :=
  if mirrorLag s > Cfg.FM_MIRROR_LAG_LIMIT_US s * 1000 then raiseOnce Ev.FM_MIRROR_LAG 0 [] s else s

/-! ### Region commands (R223, R224) -/

/-- Sum of the sizes of a stack's regions. -/
def stackUsed (s : State) (k : Nat) : Nat := sumNat ((s.fm.regions.filter fun x => x.2.stack == k).map fun x => x.2.size)

/-- Whether the fields that a command uses keep R222 and R223. -/
def defineOk (s : State) (cmd n : Nat) (r : Bytes) : Bool :=
  let gen := beAt r 4 4 >>> 20
  let base := beAt r 8 8
  let size := beAt r 16 8
  let placed := bits (beAt r 4 4) 2 18 != 0
  let genOk := gen ≥ 1 && !(match SMap.get? s.fm.regions n with | some x => x.gen == gen | none => false) && !quarantined s n gen
  let keyOk := beAt r 24 8 != 0
  if placed then false
  else if cmd = 1 then
    genOk && keyOk && base % 4096 == 0 && size % 4096 == 0 && 4096 ≤ size && size ≤ 2 ^ 30 && base + size ≤ 0xFE00000000
      && stackUsed s (bits (beAt r 4 4) 0 2) + size ≤ 2 ^ 30
      && s.fm.regions.all (fun x => x.2.base + x.2.size ≤ base || base + size ≤ x.2.base)
      && placeCount (freeSpans s (bits (beAt r 4 4) 0 2)) (size / 4096) ≥ 1
  else if cmd = 2 then true
  else genOk && keyOk

/-- Note the tick of a command on a region. -/
def regionStamp (n : Nat) (s : State) : State :=
  { s with fm := { s.fm with past := SMap.set s.fm.past n { pastOf s n with lastCmd := some s.clk.tick } } }

/-- Act on a define record; none where it is refused. -/
def regionCommand (r : Bytes) (s : State) : Option State :=
  let w0 := beAt r 0 4
  let n := w0 % 4096
  let cmd := bits w0 12 4
  let gen := beAt r 4 4 >>> 20
  let key := beAt r 24 8
  let soon := match (pastOf s n).lastCmd with | some t => s.clk.tick < t + 1024 | none => false
  if soon || !defineOk s cmd n r then none
  else match cmd, SMap.get? s.fm.regions n with
    | 1, none =>
      let stack := bits (beAt r 4 4) 0 2
      let spans := freeSpans s stack
      let units := beAt r 16 8 / 4096
      let x : Region :=
        { state := .initialising, mirrored := bit w0 31, checkpointed := bit w0 30, gen := gen, stack := stack,
          placement := placeAt spans units (Config.placement n s.free % placeCount spans units), base := beAt r 8 8,
          size := beAt r 16 8, key := key, data := [], poison := [], atJoin := false }
      let s := regionStamp n (setRegion n x { s with free := s.free + 1 })
      some (mirrorRecord n 1 x (regionEvent n none (some .initialising) gen s))
    | 2, some x =>
      if x.state = .active ∨ x.state = .lost then
        let s := regionStamp n (genRetire n x.gen { s with fm := { s.fm with regions := SMap.erase s.fm.regions n } })
        some (mirrorRecord n 2 x (regionEvent n (some x.state) none x.gen s))
      else none
    | 3, some x =>
      if x.state = .active then
        let y := { x with gen := gen, key := key }
        some (mirrorRecord n 3 y (regionStamp n (setRegion n y (genRetire n x.gen s))))
      else none
    | 4, some x =>
      if x.state = .active ∨ x.state = .lost then
        let y := { x with gen := gen, key := key, mirrored := bit w0 31, checkpointed := bit w0 30, state := .initialising,
                          data := [], poison := [] }
        let s := regionStamp n (setRegion n y (genRetire n x.gen s))
        some (mirrorRecord n 4 y (regionEvent n (some x.state) (some .initialising) gen s))
      else none
    | _, _ => none

/-- REGION_ZERO_DONE (R224). -/
def execRegionZeroDone (region : Nat) (s : State) : Out :=
  run (fun s => match SMap.get? s.fm.regions region with
    | some r => if r.state = .initialising then regionState region .active s else s
    | none => s) s

/-! ### Checkpoints (R238, R239, R252) -/

/-- Bytes of a checkpoint. -/
def ckBytes (c : Checkpoint) : Nat := sumNat (c.regions.map (·.size))

/-- Contents of a region in a snapshot: those that a running restore brings back to it (R252), else its own. -/
def snapContents (s : State) (n : Nat) (r : Region) : List Host.Cell × List Nat :=
  match (s.fm.restores.flatMap (·.regions)).find? fun k => k.num == n with
  | some k => if r.state = .restoring then (k.data, k.poison) else (r.data, r.poison)
  | none => (r.data, r.poison)

/-- Take a snapshot, or skip it while a copy runs. -/
def checkpointTake (step : Nat) (s : State) : State :=
  if s.fm.copying.isSome then raise Ev.FM_CHECKPOINT_SKIPPED [.u64 step] s
  else
    let regs := (s.fm.regions.filter fun x => x.2.checkpointed).map fun x =>
      let (data, poison) := snapContents s x.1 x.2
      ({ num := x.1, gen := x.2.gen, base := x.2.base, size := x.2.size, data := data, poison := poison } : CkRegion)
    let s := { s with fm := { s.fm with copying := some { step := step, tick := s.clk.tick, regions := regs } } }
    mirrorPut [mirrorWrite s 0xFE00020000 (beBytes 8 step) false false] s

/-- Bytes of the regions that the mirror window holds. -/
def winBytes (w : MirrorWin) : Nat :=
  sumNat ((List.range 4096).map fun n => let r := winRecord w n; if bits (beAt r 0 4) 12 4 = 2 then 0 else beAt r 16 8)

/-- The copy of the mirror window is complete (R237). -/
def winCopyDone (s : State) : State := match s.fm.winCopying with
  | none => s
  | some w => raise Ev.FM_CHECKPOINT_DONE [.u64 w.step, .u64 (winBytes w)] { s with fm := { s.fm with winCk := some w, winCopying := none } }

/-- The 4 KiB pages copied, at each region's serving bench (R512). -/
def copiesCounted (c : Checkpoint) (s : State) : State :=
  c.regions.foldl (fun s k => match SMap.get? s.fm.regions k.num with
    | some r => occ (servingBench k.num r) (632 + 16 * r.stack + 10) (ceilDiv k.size 4096) {} s
    | none => s) s

/-- CHECKPOINT_COPY_DONE (R238): the running copy is complete. Where the part's own and the mirror window's both run, the manual does
not say which is first: the part's own. DESIGN CHOICE, log entry 35. -/
def execCheckpointCopyDone (s : State) : Out :=
  run (fun s => match s.fm.copying with
    | none => winCopyDone s
    | some c => raise Ev.FM_CHECKPOINT_DONE [.u64 c.step, .u64 (ckBytes c)] <| copiesCounted c
        { s with fm := { s.fm with complete := some c, copying := none } }) s

/-- Whether a region of a checkpoint still exists and is ACTIVE. -/
def restorable (s : State) (k : CkRegion) : Bool := match SMap.get? s.fm.regions k.num with
  | some r => r.state == .active && r.base == k.base && r.size == k.size
  | none => false

/-- The regions of a checkpoint that still exist and are ACTIVE begin to be restored. -/
def checkpointBack (s : State) : State :=
  match s.fm.complete with
  | none => s
  | some c =>
    let s := match s.fm.copying with
      | none => s
      | some d => raise Ev.FM_CHECKPOINT_SKIPPED [.u64 d.step] { s with fm := { s.fm with copying := none } }
    let hit := c.regions.filter (restorable s)
    let s := hit.foldl (fun s k => regionState k.num .restoring (genBump k.num s)) s
    { s with fm := { s.fm with restores := s.fm.restores ++ [{ step := c.step, regions := hit }] } }

/-- A region's contents are back. -/
def restoreRegion (k : CkRegion) (s : State) : State := match SMap.get? s.fm.regions k.num with
  | none => s
  | some r =>
    if r.state != .restoring then s
    else
      let r := { r with data := k.data, poison := k.poison }
      let s := regionState k.num .active (setRegion k.num r s)
      if r.mirrored then mirrorPut ((wholeRegion s k.num r).map fun w => { w with whole := false }) s else s

/-- RESTORE_COPY_DONE (R239): the oldest running restore has copied its contents back. -/
def execRestoreCopyDone (s : State) : Out :=
  run (fun s => match s.fm.restores with
    | [] => s
    | x :: rest => raise Ev.FM_RESTORE_DONE [.u64 x.step]
        (x.regions.foldl (fun s k => restoreRegion k s) { s with fm := { s.fm with restores := rest } })) s

/-! ### Fences (R241) -/

/-- A fence on a source takes effect in fabric memory: its held flags are refused and its slot is freed. -/
def fenceMemory (fa : Nat) (s : State) : State :=
  let s := match SMap.get? s.fm.sources fa with
    | none => s
    | some x => (x.held ++ x.waiting).foldl (fun s q => memNack q (homeBench fa) 0x0C 0 s) (dropSlot fa s)
  if Cfg.FM_MIRROR_FROM s % 2 ^ 24 = fa ∧ Cfg.FM_MIRROR_FROM s ≠ 0 then
    raise Ev.FM_MIRROR_STATE [.u8 (mirrorCode s.fm.mirror), .u8 (mirrorCode s.fm.mirror)] s
  else s

/-- The local copy of a multicast store (R240). -/
def mcastLocal (p : Nat) (k : Packet) (s : State) : State :=
  if (tabList s E.FM_MCAST_LOCAL 4).any fun g => beNat g == pkDest k then
    let s := occ (homeBench (pkSrc k)) 69 1 {} s
    toServing { pkt := k, port := p, cell := false } false s
  else s

end Sys2Proof.Machine
end

