-- ==== Sys2Proof/Machine/Crusher.lean ====
section
/-! DEFINITION. The crusher at run time (R195 to R201, R203 to R211): contributions, partials, results and abandoned chunks. -/
namespace Sys2Proof.Machine
open Sys2Proof

/-! ### Recipes of the active image -/

/-- Recipe of a collective id, with its slot. -/
def recipeOf (s : State) (coll : Nat) : Option (Nat × Recipe) :=
  s.tt.active.bind fun i => i.recipes.find? fun x => x.2.coll == coll

/-- State of a recipe before anything has happened to it. -/
def recZero (r : Recipe) : RecState :=
  { gate := if r.gated then .gated else .openn, lastFrom := [], base := 0, closed := [], open' := [], done := 0, abandoned := 0,
    late := 0, windowDrops := 0, resultDrops := 0, refusals := 0 }

def recOf (s : State) (r : Recipe) : RecState := SMap.getD s.cr.recs r.coll (recZero r)
def setRec (coll : Nat) (x : RecState) (s : State) : State := { s with cr := { s.cr with recs := SMap.set s.cr.recs coll x } }

/-- Change the run-time state of a recipe. -/
def onRec (r : Recipe) (f : RecState → RecState) (s : State) : State := setRec r.coll (f (recOf s r)) s

def chunkOf (x : RecState) (c : Nat) : Option Chunk := x.open'.find? fun k => k.index == c

/-- Change one open chunk. -/
def onChunk (r : Recipe) (c : Nat) (f : Chunk → Chunk) (s : State) : State :=
  onRec r (fun x => { x with open' := x.open'.map fun k => if k.index = c then f k else k }) s

/-- First items of every crusher event (R213): recipe slot and collective id. -/
def crHead (slot : Nat) (r : Recipe) : List Item := [.u16 slot, .u32 r.coll]

/-! ### Accumulator space -/

/-- Bytes of accumulators on a bench: each held operand takes 8 bytes an element. -/
def accUsed (s : State) (b : Nat) : Nat :=
  sumNat (s.cr.recs.map fun x => match recipeOf s x.1 with
    | none => 0
    | some (_, r) => sumNat (x.2.open'.map fun c =>
        sumNat ((c.nodes.filter fun n => nodeBench r n.level n.index == b).map fun n => 8 * r.elems * n.held.length)))

/-- Whether a bench has room for one more operand of a recipe. -/
def accRoom (s : State) (b : Nat) (r : Recipe) : Bool := accUsed s b + 8 * r.elems ≤ 786432

/-- A drop for want of space (R195 step 7). -/
def accFull (b slot : Nat) (r : Recipe) (s : State) : State :=
  raiseOnce Ev.CR_BUFFER b (crHead slot r ++ [.u16 b]) (tally E.CR_BUFFER_DROPS b 54 1 {} s)

/-! ### Closing and abandoning -/

/-- Move the base past closed chunks (R196). -/
def crBase : Nat → RecState → RecState
  | 0, x => x
  | f + 1, x =>
    if x.closed.contains x.base then crBase f { x with closed := x.closed.erase x.base, base := (x.base + 1) % 2 ^ 24 } else x

/-- Close a chunk. -/
def crClose (r : Recipe) (c : Nat) (s : State) : State :=
  onRec r (fun x => crBase 65536 { x with closed := addNew c x.closed }) s

/-- Append a record to the missing log, a ring of 4,096 (R201). -/
def crLog (rec_ : Bytes) (s : State) : State :=
  let s := if s.cr.log.length ≥ 4096 then count E.CR_LOG_OVERWRITES 1 s else s
  { s with cr := { s.cr with log := (rec_ :: s.cr.log).take 4096, written := s.cr.written + 1 } }

/-- Record of an abandoned chunk (R201). -/
def crRecord (slot : Nat) (r : Recipe) (c reason tick : Nat) (missing : List Nat) : Bytes :=
  beBytes 4 (r.coll * 256 + reason) ++ beBytes 4 (c * 256) ++ beBytes 8 tick
    ++ beBytes 4 (missing.length * 2 ^ 16 + slot)
    ++ ((List.range 22).map fun i => beBytes 2 ((missing.drop i).head?.getD 0xFFFF)).flatten

/-- A neighbour of which nothing is known. -/
def nbZero : Neighbour :=
  { fa := 0, state := .unknown, power := 0, age := 0, counter := 0, counted := false, good := 0, frameSuspect := false, pkts := 0,
    missing := 0 }
def nbOf (s : State) (p : Nat) : Neighbour := SMap.getD s.hl.neighbours p nbZero
def setNb (p : Nat) (f : Neighbour → Neighbour) (s : State) : State :=
  { s with hl := { s.hl with neighbours := SMap.set s.hl.neighbours p (f (nbOf s p)) } }

/-- Ports that an abandoned chunk finds silent (R438). -/
def silentPorts (s : State) (r : Recipe) (k : Chunk) : List Nat :=
  let benches := (List.range (rBlocks r)).map (blockBench r)
  ((recOf s r).lastFrom.filter fun x =>
    s.clk.tick ≤ x.2 + 1024 && benches.contains (benchOf x.1) && !k.froms.contains x.1).map (·.1)

/-- Whether a chunk can still be abandoned: it is not complete, or it has lost a partial for want of space (R210). -/
def Chunk.unfinished (k : Chunk) : Bool := !k.complete || k.broken

/-- Abandon a chunk on every node (R197, R201): 1 timeout, 2 swap, 3 JOB_CLOSE, 4 rotation. -/
def crAbandon (slot : Nat) (r : Recipe) (k : Chunk) (reason : Nat) (s : State) : State :=
  let missing := (List.range r.n).filter fun m => !k.members.contains m
  let s := (silentPorts s r k).foldl (fun s p => setNb p (fun n => { n with missing := n.missing + 1 }) s) s
  let s := onRec r (fun x => { x with open' := x.open'.filter fun y => y.index != k.index, abandoned := x.abandoned + 1 }) s
  let s := { s with cr := { s.cr with partials := s.cr.partials.filter fun q => !(q.coll == r.coll && q.chunk == k.index) } }
  let s := tally E.CR_CHUNKS_ABANDONED (nodeBench r (rTop r) 0) 56 1 {} s
  let s := accum Ev.CR_CHUNK_ABANDONED r.coll (crHead slot r ++ [.u32 k.index, .u8 reason]) [1] (some E.CR_ABANDON_EVENT_LIMIT) s
  crLog (crRecord slot r k.index reason s.clk.tick missing) (if k.complete then s else crClose r k.index s)

/-! ### Nodes (R183) -/

/-- A transfer of the tree: between two benches it takes the crossbar (R189). -/
def crCross (a b n : Nat) (s : State) : State := if a = b then s else crossAdd a b n (slotIndex s) true s

/-- A finished result begins its way down to every bench with a port in the map (R189). -/
def crFinish (r : Recipe) (c : Nat) (payload : Bytes) (s : State) : State :=
  let root := nodeBench r (rTop r) 0
  let closed := (recOf s r).gate == .closed
  let s := onRec r (fun x => { x with open' := x.open'.filter fun y => !(y.index == c && y.complete) }) s
  let s := ((allNodes r).filter fun x => x.1 < rTop r && nodeServes r x.1 x.2).foldl (fun s x =>
    let above := nodeBench r (x.1 + 1) (x.2 / 4)
    crCross above (nodeBench r x.1 x.2) (downBytes r)
      (occ (nodeBench r x.1 x.2) (576 + 8 * x.1 + 6) 1 {} (occ above (576 + 8 * (x.1 + 1) + 5) 1 {} s))) s
  let blocks := (List.range (rBlocks r)).map (blockBench r)
  let benches := (r.ports.map benchOf).eraseDups
  let s := (benches.filter fun b => !blocks.contains b).foldl (fun s b =>
    crCross root b (downBytes r) (occ root (576 + 8 * rTop r + 5) 1 {} s)) s
  { s with cr := { s.cr with moves := s.cr.moves ++ benches.map fun b =>
      { coll := r.coll, chunk := c, bench := b, ports := r.ports.filter fun p => benchOf p == b, payload := payload,
        orphan := if closed then 2 else 0 } } }

/-- Post-scale and output rounding at the root. -/
def crRound (r : Recipe) (c : Nat) (v : List Nat) (s : State) : State :=
  if rBarrier r then crFinish r c [] s
  else
    let v := if r.postOn then v.map fun w => scaleWide w r.post else v
    let o := outConvert r.outFmt (recRounding r c) v
    crFinish r c o.bytes (countConv (nodeBench r (rTop r) 0) o.sat o.nan s)

/-- An input reaches a node that has space for it. -/
def nodeInput (r : Recipe) (c l j : Nat) (opd : Operand) (s : State) : State :=
  match chunkOf (recOf s r) c with
  | none => s
  | some k =>
    let b := nodeBench r l j
    let held := ((k.nodes.find? fun n => n.level == l && n.index == j).map (·.held)).getD []
    let step := nodeLoop r.op (fmtInt r.inFmt) r.n (nodeRange r l j).2 16 held opd 0
    let others := k.nodes.filter fun n => !(n.level == l && n.index == j)
    let nodes := if step.out.isSome then others else others ++ [{ level := l, index := j, held := step.held }]
    let s := onChunk r c (fun k => { k with nodes := nodes }) s
    let s := occ b (576 + 8 * l + 1) 1 {} s
    let s := if step.combines = 0 then s else occ b (576 + 8 * l + 2) step.combines {} (occ b 171 (ceilDiv step.combines 768) {} (occ b 60 step.combines {} s))
    match step.out with
    | none => s
    | some v =>
      let s := occ b (576 + 8 * l) 1 {} s
      if l = rTop r then crRound r c v s
      else
        let (w, sat, nan) := roundPartial r c v
        let (lo, size) := nodeRange r l j
        crCross b (nodeBench r (l + 1) (j / 4)) (upBytes r) <| occ b (576 + 8 * l + 3) 1 {} (countConv b sat nan
          { s with cr := { s.cr with partials := s.cr.partials ++
              [{ coll := r.coll, chunk := c, level := l + 1, index := j / 4, opd := { lo := lo, size := size, vals := w } }] } })

/-- PARTIAL_ARRIVAL (R183): the n-th partial on its way reaches its node. -/
def execPartialArrival (n : Nat) (s : State) : Out :=
  run (fun s =>
    match (s.cr.partials.drop n).head? with
    | none => s
    | some q =>
      let s := { s with cr := { s.cr with partials := listErase s.cr.partials n } }
      match recipeOf s q.coll with
      | none => s
      | some (slot, r) =>
        let b := nodeBench r q.level q.index
        let s := occ b (576 + 8 * q.level + 4) 1 {} s
        if !accRoom s b r then
          onChunk r q.chunk (fun k => { k with broken := true }) (accFull b slot r s)
        else nodeInput r q.chunk q.level q.index q.opd s) s

/-! ### Contributions (R195) -/

/-- Open a chunk, and every earlier one that has not closed: their timers start now (R197). -/
def crOpen (r : Recipe) (c : Nat) (s : State) : State :=
  onRec r (fun x =>
    let new := ((List.range (serialDist 24 c x.base + 1)).map fun i => (x.base + i) % 2 ^ 24).filter fun i =>
      !x.closed.contains i && (chunkOf x i).isNone
    { x with open' := x.open' ++ new.map fun i =>
        { index := i, deadline := s.clk.tick + r.timeout, members := [], froms := [], nodes := [], complete := false, broken := false } }) s

/-- Accept a contribution at its level-0 node. -/
def crAccept (p : Nat) (r : Recipe) (k : Packet) (s : State) : State :=
  let c := pkChunk k
  let m := pkMember k
  let s := crOpen r c s
  let s := onChunk r c (fun x => { x with members := x.members ++ [m], froms := addNew p x.froms }) s
  let s := onRec r (fun x => { x with lastFrom := SMap.set x.lastFrom p s.clk.tick }) s
  let whole := match chunkOf (recOf s r) c with | some x => x.members.length == r.n && !x.broken | none => false
  let s := if whole then
      let s := onChunk r c (fun x => { x with complete := true }) s
      let s := onRec r (fun x => { x with done := x.done + 1 }) s
      crClose r c (tally E.CR_CHUNKS_DONE (nodeBench r (rTop r) 0) 55 1 {} s)
    else s
  if r.type = 3 then crFinish r c (pkPayload k) s
  else
    let v := if rBarrier r then [] else (widen r.inFmt (pkPayload k)).map fun w => if r.preOn then scaleWide w r.pre else w
    nodeInput r c 0 (m / 2 ^ r.shift) { lo := m, size := 1, vals := v } s

/-- The steps of R195 for a contribution that arrived on a port. -/
def contribution (p : Nat) (k : Packet) (s : State) : State :=
  let b := benchOf p
  let a := attrOf p k
  let foreign := fun coll step s => breachOf coll 5 b a none (occ b (47 + step) 1 a s)
  match recipeOf s (pkColl k) with
  | none => foreign none 1 s
  | some (slot, r) =>
    let x := recOf s r
    let c := pkChunk k
    let m := pkMember k
    let d := serialDist 24 c x.base
    let tooLate := match chunkOf x c with | some o => !o.complete && o.deadline ≤ s.clk.tick | none => false
    let fits := if rBarrier r then pkOp k == Op.BARRIER else pkOp k == Op.RED_CONTRIB
    if x.gate != .openn then foreign (some r.coll) 1 s
    else if pkJob k != r.job then breachOf (some r.coll) 1 b a none (occ b 49 1 a s)
    else if m ≥ r.n || blockBench r (m / 2 ^ r.shift) != b then foreign (some r.coll) 3 s
    else if !fits || pkLen k != inBytes r then
      raiseOnce Ev.CR_LENGTH r.coll (crHead slot r ++ [.u16 p, .u16 (pkLen k)]) (tally E.CR_LENGTH_DROPS b 51 1 a s)
    else if d ≥ 2 ^ 23 || x.closed.contains c || tooLate then
      let s := onRec r (fun x => { x with late := x.late + 1 }) (tally E.CR_LATE b 52 1 a s)
      raiseOnce Ev.CR_LATE r.coll (crHead slot r ++ [.u32 c, .u16 m]) s
    else if d ≥ r.window then
      let s := onRec r (fun x => { x with windowDrops := x.windowDrops + 1 }) (tally E.CR_WINDOW_DROPS b 52 1 a s)
      raiseOnce Ev.CR_WINDOW r.coll (crHead slot r ++ [.u32 c, .u32 x.base]) s
    else if (chunkOf x c).any fun o => o.members.contains m then foreign (some r.coll) 6 s
    else if !accRoom s b r then accFull b slot r s
    else crAccept p r k s

/-- RED_CONTRIB (R195). -/
def execRedContrib (p : Port) (k : Packet) (s : State) : Out :=
  run (fun s => if pkOp k = Op.RED_CONTRIB && dpLive s then contribution p k (fromInbox p k s) else s) s

/-- BARRIER (R195). -/
def execBarrier (p : Port) (k : Packet) (s : State) : Out :=
  run (fun s => if pkOp k = Op.BARRIER && dpLive s then contribution p k (fromInbox p k s) else s) s

/-- CHUNK_TIMEOUT (R197, R210). -/
def execChunkTimeout (coll chunk : Nat) (s : State) : Out :=
  match recipeOf s coll with
  | none => run id s
  | some (slot, r) =>
    match (chunkOf (recOf s r) chunk) with
    | none => run id s
    | some k => runDue (if k.unfinished then some (k.deadline * tickPs) else none) (crAbandon slot r k 1) s

/-! ### Results (R198 to R200) -/

/-- Put a result in a port's queue: results of one tick stand in chunk order. -/
def resultJoin (x : ResultQ) (s : State) : State :=
  let later := fun (y : ResultQ) => y.coll == x.coll && y.port == x.port && y.tick == x.tick && serialAfter 24 y.chunk x.chunk
  let before := s.cr.results.takeWhile fun y => !later y
  { s with cr := { s.cr with results := before ++ [x] ++ s.cr.results.drop before.length } }

/-- RESULT_ARRIVAL (R198): the n-th result on its way reaches its bench. -/
def execResultArrival (n : Nat) (s : State) : Out :=
  run (fun s =>
    match (s.cr.moves.drop n).head? with
    | none => s
    | some m =>
      let s := { s with cr := { s.cr with moves := listErase s.cr.moves n } }
      let n := m.ports.length
      if m.orphan = 1 then tally E.TT_SWAP_ORPHANS m.bench 23 n {} s
      else if m.orphan = 2 then count E.DP_CLOSE_DROPS n s
      else m.ports.foldl (fun s p =>
        resultJoin { coll := m.coll, port := p, chunk := m.chunk, payload := m.payload, tick := s.clk.tick, at' := now s } s) s) s

/-- RESULT_DWELL_EXPIRY (R198): the n-th queued result has waited for its dwell. -/
def execResultDwellExpiry (n : Nat) (s : State) : Out :=
  match (s.cr.results.drop n).head? with
  | none => run id s
  | some x =>
    match recipeOf s x.coll with
    | none => run id s
    | some (slot, r) =>
      runDue (some ((x.tick + r.dwell) * tickPs)) (fun s =>
        let b := benchOf x.port
        let s := { s with cr := { s.cr with results := listErase s.cr.results n } }
        let s := onRec r (fun y => { y with resultDrops := y.resultDrops + 1 }) s
        let s := occ b 620 1 {} (tally E.CR_RESULT_DEADLINE_DROPS b 59 1 {} s)
        raiseOnce Ev.CR_RESULT_DEADLINE r.coll (crHead slot r ++ [.u16 x.port, .u32 x.chunk]) s) s

/-- Write a result into its resident region (R199). -/
def resultStore (slot : Nat) (r : Recipe) (x : ResultQ) (s : State) : State :=
  let b := benchOf x.port
  let off := bits r.fma 0 40 + x.chunk % max r.chunks 1 * outBytes r
  match regionCheck s off x.payload.length (some (r.key, r.gen)) none false with
  | .ok (n, g) => occ b 619 1 {} (regionWrite n g off x.payload s)
  | .error c =>
    let s := onRec r (fun y => { y with refusals := y.refusals + 1 }) (tally E.CR_STORE_REFUSED b 61 1 {} s)
    raise Ev.CR_STORE_REFUSED (crHead slot r ++ [.u8 c]) s

/-- Send a result on a wire lane of its port. -/
def resultSend (r : Recipe) (x : ResultQ) (w : Nat) (s : State) : State :=
  let k := mkData { vc := Vc.SC, e := eBit s, dest := r.group, op := if rBarrier r then Op.BARRIER else Op.RED_RESULT,
                    src := posFa s, flow := r.flow, m := true, seq := x.chunk % 2 ^ 16, job := r.job, member := 0,
                    hop := Cfg.PKT_ORIGIN_HOP_LIMIT s, operand := r.coll * 2 ^ 24 + x.chunk } x.payload (stampNow s)
  let s := onWire x.port w 0 (wirePs (pkWire k)) (emitOn x.port w k s)
  let s := laneNote (laneKey x.port 0 w) (slotUsed x.port w 32 (occSent x.port w 0 k s))
  let b := benchOf x.port
  occ b 617 1 {} (occ b 57 1 {} s)

/-- RECIPE_RESULT_ENTRY (R198, R199): the entry of a lane-slot that begins. -/
def execRecipeResultEntry (p : Port) (l : Lane) (sl : Slot) (s : State) : Out :=
  runAt (sl.val * 40960) (fun s =>
    let (kind, opd) := entryIn s s.clk.tick p l sl
    if !dpLive s || kind != 2 || darkOut s s.clk.tick p || !portUp s p || !carries s then s
    else match (imageAt s s.clk.tick).bind fun i => SMap.get? i.1.recipes opd, servingLane s p l with
      | some r, some w =>
        let b := benchOf p
        let s := occ b 616 1 {} s
        let begin_ := slotStart s.clk.tick sl
        match s.cr.results.find? fun x => x.coll == r.coll && x.port == p.val && x.at' + tOut ≤ begin_ with
        | none => occ b 618 1 {} (tally E.CR_RESULT_EMPTY b 58 1 {} s)
        | some x =>
          let s := { s with cr := { s.cr with results := s.cr.results.erase x } }
          if r.type = 5 then resultStore opd r x s else resultSend r x w s
      | some _, none => entryLost p l s
      | none, _ => s) s

/-! ### Closing, swaps and rotations (R205 to R207) -/

/-- Chunks of a recipe that can still be abandoned. -/
def crUnfinished (s : State) (r : Recipe) : List Chunk := (recOf s r).open'.filter (·.unfinished)

/-- A job's recipes close (R207). -/
def crCloseJob (job : Nat) (s : State) : State :=
  match s.tt.active with
  | none => s
  | some i =>
    (i.recipes.filter fun x => x.2.job == job).foldl (fun s x =>
      let r := x.2
      let s := (crUnfinished s r).foldl (fun s k => crAbandon x.1 r k 3 s) s
      let n := (s.cr.results.filter fun y => y.coll == r.coll).length
      let s := count E.DP_CLOSE_DROPS n { s with cr := { s.cr with
        results := s.cr.results.filter fun y => y.coll != r.coll
        moves := s.cr.moves.map fun m => if m.coll = r.coll then { m with orphan := 2 } else m } }
      onRec r (fun y => { y with gate := .closed }) s) s

/-- A job's recipes open: gated and closed ones begin to carry traffic, with base 0 (R43, R196). -/
def crOpenJob (job : Nat) (s : State) : State :=
  match s.tt.active with
  | none => s
  | some i =>
    (i.recipes.filter fun x => x.2.job == job && (recOf s x.2).gate != .openn).foldl (fun s x =>
      onRec x.2 (fun y => { y with gate := .openn, base := 0, closed := [], open' := [] }) s) s

/-- A rotation of a logical bench abandons the chunks that have a node there (R206). -/
def crRotate (b : Nat) (s : State) : State :=
  match s.tt.active with
  | none => s
  | some i =>
    (i.recipes.filter fun x => (allNodes x.2).any fun n => nodeBench x.2 n.1 n.2 == b).foldl (fun s x =>
      (crUnfinished s x.2).foldl (fun s k => crAbandon x.1 x.2 k 4 s) s) s

/-- Recipes that a swap does not keep are discarded (R56, R205); `new` is the image that comes. -/
def crSwap (new : Image) (s : State) : State :=
  match s.tt.active with
  | none => s
  | some i =>
    (i.recipes.filter fun x => !(new.recipes.any fun y => y.2.raw == x.2.raw)).foldl (fun s x =>
      let r := x.2
      let s := (crUnfinished s r).foldl (fun s k => crAbandon x.1 r k 2 s) s
      let gone := s.cr.results.filter fun y => y.coll == r.coll
      let s := gone.foldl (fun s y => tally E.TT_SWAP_ORPHANS (benchOf y.port) 23 1 {} s) s
      { s with cr := { s.cr with
        recs := SMap.erase s.cr.recs r.coll
        results := s.cr.results.filter fun y => y.coll != r.coll
        partials := s.cr.partials.filter fun y => y.coll != r.coll
        moves := s.cr.moves.map fun m => if m.coll = r.coll then { m with orphan := 1 } else m } }) s

end Sys2Proof.Machine
end

