-- ==== Sys2Proof/Machine/Time.lean ====
section
/-! DEFINITION. Fabric time (chapter 3): the servos, the generator, domain switches, PPS, and the timed-action table. -/
namespace Sys2Proof.Machine
open Sys2Proof

/-! ### Settings of a domain -/

/-- A scalar setting of a domain's group: 0x4801 for A, 0x4802 for B (R100). -/
def ftNum (s : State) (d off dfl : Nat) : Nat := getNum s (0x480100 + d * 0x100 + off) dfl

def ftEnabled (s : State) (d : Nat) : Bool := ftNum s d 0x00 1 != 0
/-- clockIdentity of the configured grandmaster. -/
def ftGm (s : State) (d : Nat) : Nat := beNat (padTo 8 (tabBytes s (0x480102 + d * 0x100) []))
def ftPps (s : State) (d : Nat) : Bool := ftNum s d 0x04 0 != 0
def ftKp (s : State) (d : Nat) : Rat := ratOf32 (ftNum s d 0x06 0x3E800000)
def ftKi (s : State) (d : Nat) : Rat := ratOf32 (ftNum s d 0x07 0x3C000000)
/-- FT_LOCK_NS in 2^-16 ns. -/
def ftLock (s : State) (d : Nat) : Int := (ftNum s d 0x08 5 * 65536 : Nat)

/-- Nanoseconds in units of 2^-16 ns. -/
def ns16 (n : Nat) : Int := (n * 65536 : Nat)

/-- clockIdentity of the part's own instances, which the manual does not give. -/
def ownClock : Nat := Config.openFn 50 [] % 2 ^ 64

/-! ### Servo and generator states (R81, R83, R86) -/

def servoCode : ServoSt → Nat
  | .disabled => 0
  | .acquiring => 1
  | .locked => 2
  | .holdover => 3
  | .fault => 4

def genCode : GenSt → Nat
  | .free => 0
  | .following => 1
  | .slewing => 2
  | .holdover => 3

def servoLocked (s : State) (d : Nat) : Bool := (servoOf s d).state == .locked

def setGen (g : GenSt) (s : State) : State := { s with ft := { s.ft with gen := g } }

/-- With neither domain LOCKED the generator keeps its last frequency (R86). A slew that HOLDOVER meets rests, and goes on once a
domain is LOCKED again: DESIGN CHOICE (log 31). -/
def genJudge (s : State) : State :=
  let none' := !servoLocked s 0 && !servoLocked s 1
  if (s.ft.gen = .following || (s.ft.gen = .slewing && s.ft.slew != 0)) && none' then
    raise Ev.FT_GEN_HOLDOVER [] (setGen .holdover { s with ft := { s.ft with genFreq := (servoOf s s.ft.active).freq } })
  else if s.ft.gen = .holdover && !none' then
    raise Ev.FT_GEN_HOLDOVER [] (setGen (if s.ft.slew = 0 then .following else .slewing) s)
  else s

/-- A servo changes state (R81). -/
def servoGo (d : Nat) (n : ServoSt) (s : State) : State :=
  let v := servoOf s d
  if v.state = n then s
  else
    let t := s.clk.tick
    let s := setServo d (fun v => { v with
      state := n
      good := 0
      bad := 0
      faultTick := if n = .fault then t else v.faultTick
      lockedSince := if n = .locked then some t else none
      lostSince := if n = .locked then none else some (v.lostSince.getD t) }) s
    genJudge (raise Ev.FT_SERVO_STATE [.u8 d, .u8 (servoCode v.state), .u8 (servoCode n)] s)

/-! ### The one step of the generator (R83)

Instants and ends of running times move with fabric time, so that what waits for a time that passes still waits as long.
Ticks and frames that were named stay as they are. -/

def moveNat (z : Int) (n : Nat) : Nat := ((n : Int) + z).toNat
def moveOpt (z : Int) (n : Option Nat) : Option Nat := n.map (moveNat z)

/-- Ends of leases, transfers and holdoffs, in ps. -/
def moveDx (z : Int) (s : State) : State :=
  { s with
    dx := { s.dx with
      sessions := s.dx.sessions.map fun x => { x with leaseEnd := moveNat z x.leaseEnd }
      xfers := s.dx.xfers.map fun x => { x with idleEnd := moveNat z x.idleEnd }
      snaps := s.dx.snaps.map fun x => { x with idleEnd := moveNat z x.idleEnd } }
    pc := s.pc.map fun f => (f.1, { f.2 with vectors := f.2.vectors.map fun v => (v.1, moveNat z v.2.1, v.2.2) }) }

def moveCredit (z : Int) (c : Credit) : Credit := { c with stallSince := moveOpt z c.stallSince }

/-- Running times of queues, ports, shapers, lasers, inputs and controllers. -/
def moveRest (z d16 : Int) (s : State) : State :=
  let openq := s.dp.openq.map fun x => { x with
    arrived := moveNat z x.arrived, stamp := x.stamp + d16, headAt := moveOpt z x.headAt, blocked := moveOpt z x.blocked,
    expire := x.expire.map fun t => moveNat (z / 1024000) t }
  let wire := s.dp.wire.map fun w => { w with startAt := moveNat z w.startAt, doneAt := moveNat z w.doneAt }
  let ports := s.dp.ports.map fun p => (p.1, { p.2 with holdEnd := moveNat z p.2.holdEnd })
  let shapers := s.ot.shapers.map fun x => (x.1, { x.2 with last := moveNat z x.2.last, wheel := moveOpt z x.2.wheel })
  let policers := s.ot.policers.map fun x => (x.1, { x.2 with last := moveNat z x.2.last })
  let els := s.op.els.map fun e => (e.1, { e.2 with pending := e.2.pending.map fun a => { a with dueAt := moveNat z a.dueAt } })
  let rings := s.op.rings.map fun r => (r.1, { r.2 with lockedAt := moveOpt (z / 1024000) r.2.lockedAt })
  let di := s.hl.di.map fun d => (d.1, { d.2 with edges := d.2.edges.map (moveNat z), rawAt := moveNat z d.2.rawAt, since := moveOpt z d.2.since })
  let ctl := s.hl.controllers.map fun c => (c.1, { c.2 with
    restarts := c.2.restarts.map (moveNat z), nextAt := moveNat z c.2.nextAt, lastTick := moveNat (z / 1024000) c.2.lastTick })
  { s with
    dp := { s.dp with openq := openq, wire := wire, ports := ports }
    ot := { s.ot with shapers := shapers, policers := policers }
    op := { s.op with els := els, rings := rings }
    hl := { s.hl with di := di, controllers := ctl, ppsOutEnd := moveNat z s.hl.ppsOutEnd }
    ch := s.ch.map fun w => (w.1, { w.2 with settleAt := moveOpt z w.2.settleAt })
    links := s.links.map fun l => (l.1, { l.2 with
      cells := l.2.cells.map fun c => (c.1, { c.2 with
        asm := c.2.asm.map fun a => { a with at' := moveNat z a.at', stamp := a.stamp + d16 } })
      oc0 := moveCredit z l.2.oc0, oc1 := moveCredit z l.2.oc1, mc := moveCredit z l.2.mc }) }

/-- Running times of the fabric memory, of arrivals under way, of wakes and resets. -/
def moveFabric (z d16 : Int) (s : State) : State :=
  let write := fun (w : MirrorWrite) => { w with dueAt := moveNat z w.dueAt, firstAt := moveNat z w.firstAt }
  let sources := s.fm.sources.map fun x => (x.1, { x.2 with
    gapEnd := moveOpt z x.2.gapEnd, allocated := moveNat z x.2.allocated, activityPs := moveNat z x.2.activityPs })
  let stream := s.rp.stream.map fun x => { x with
    dueAt := moveNat z x.dueAt, paceAt := moveNat z x.paceAt, todo := x.todo.map write }
  { s with
    fm := { s.fm with sources := sources, log := s.fm.log.map write }
    rp := { s.rp with stream := stream, resetStart := moveNat z s.rp.resetStart }
    hl := { s.hl with wakeStart := moveNat z s.hl.wakeStart }
    dp := { s.dp with
      cut := s.dp.cut.map fun x => { x with at' := moveNat z x.at', stamp := x.stamp + d16 }
      sc := s.dp.sc.map fun x => { x with ready := moveNat z x.ready }
      orders := s.dp.orders.map fun x => (x.1, { x.2 with emptySince := moveOpt z x.2.emptySince }) } }

/-- Marks of the servos: ticks and pulses by `z` ps, phases against the generator by `d16`. -/
def moveServo (z d16 : Int) (v : Servo) : Servo :=
  { v with
    ring := v.ring.map (· + d16), last := v.last + d16, phase := v.phase + d16
    sampleTick := moveNat (z / 1024000) v.sampleTick, faultTick := moveNat (z / 1024000) v.faultTick
    lockedSince := moveOpt (z / 1024000) v.lockedSince, lostSince := moveOpt (z / 1024000) v.lostSince
    ptp := v.ptp.map (· + d16), ppsAt := moveOpt z v.ppsAt, ppsPhase := v.ppsPhase.map (· + d16), sync := none, t12 := none }

/-- Step fabric time by `d16` units of 2^-16 ns. -/
def stepTime (d16 : Int) (s : State) : State :=
  let target : Int := ((now s : Int) * 65536 + d16 * 1000) / 65536
  let new := target.toNat
  let z : Int := (new : Int) - (now s : Int)
  let s := moveFabric z d16 (moveRest z d16 (moveDx z s))
  let pd := s.ft.pdelay.map fun p => (p.1, { p.2 with nextAt := moveNat z p.2.nextAt })
  let ft := { s.ft with servoA := moveServo z d16 s.ft.servoA, servoB := moveServo z d16 s.ft.servoB, pdelay := pd,
                          stamps := s.ft.stamps.map fun x => (x.1, x.2.1, x.2.2 + d16) }
  { s with clk := { tick := new / tickPs, ps := new % tickPs }, frame := new / tickPs / 1024, ft := ft }

/-- The first lock while the generator is FREE: its one phase step (R83). -/
def firstLock (d : Nat) (s : State) : State :=
  if s.ft.gen != .free then s
  else
    let sel := Cfg.FT_DOMAIN_SELECT s
    let s := stepTime (-(servoOf s d).last) s
    { s with ft := { s.ft with gen := .following, active := if sel ≤ 1 then sel else d } }

/-! ### Samples (R80, R72, R88) -/

/-- Median of the last samples: of three the middle one, of fewer the larger. -/
def median (l : List Int) : Int := ((l.mergeSort (· ≤ ·)).drop (l.length / 2)).headD 0

def absInt (z : Int) : Int := if z < 0 then -z else z

/-- The alignment limit of the selected servo (R72). -/
def alignJudge (d : Nat) (s : State) : State :=
  if d != s.ft.active then s
  else
    let v := servoOf s d
    if absInt v.last > ns16 (Cfg.FT_ALIGN_LIMIT_NS s) then
      let s := setServo d (fun v => { v with misaligned := v.misaligned + 1 }) s
      if v.misaligned = 3 then raise Ev.FT_ALIGN [.u8 d, .i32 v.last] (count E.FT_ALIGN_EPISODES 1 s) else s
    else setServo d (fun v => { v with misaligned := 0 }) s

/-- Both servos LOCKED and their phases apart (R88). -/
def splitJudge (s : State) : State :=
  let z := (s.ft.servoA.phase - s.ft.servoB.phase).floor
  if servoLocked s 0 && servoLocked s 1 && absInt z > ns16 (Cfg.FT_SPLIT_LIMIT_NS s) then raiseOnce Ev.FT_SPLIT 0 [.i32 z] s else s

/-- The lock and unlock criteria after a filtered offset (R81). -/
def lockJudge (d : Nat) (s : State) : State :=
  let v := servoOf s d
  match v.state with
  | .acquiring =>
    let good := if absInt v.last ≤ ftLock s d then v.good + 1 else 0
    let s := setServo d (fun v => { v with good := good }) s
    if good ≥ ftNum s d 0x09 16 then firstLock d (servoGo d .locked s) else s
  | .locked =>
    let bad := if absInt v.last > 2 * ftLock s d then v.bad + 1 else 0
    let s := setServo d (fun v => { v with bad := bad }) s
    if bad ≥ 4 then servoGo d .acquiring s else s
  | _ => s

/-- One offset sample of a domain (R80, R81), in 2^-16 ns. -/
def sample (d : Nat) (raw : Int) (s : State) : State :=
  let v := servoOf s d
  if v.state = .disabled then s
  else
    let ring := (raw :: v.ring).take 3
    let med := median ring
    let s := setServo d (fun v => { v with ring := ring }) s
    if absInt (med - v.last) > ns16 (ftNum s d 0x0A 50) && v.state != .acquiring then
      let s := setServo d (fun v => { v with outliers := v.outliers + 1 }) s
      if v.outliers + 1 ≥ 8 then servoGo d .fault s else s
    else
      let freq := v.freq + ftKi s d * med
      let s := setServo d (fun v => { v with outliers := 0, last := med, freq := freq, phase := med, sampleTick := s.clk.tick }) s
      let s := if d = s.ft.active && s.ft.gen == .following then { s with ft := { s.ft with genStep := ftKp s d * med + freq, genFreq := freq } } else s
      let s := match v.state with
        | .holdover => servoGo d .acquiring s
        | .fault => if s.clk.tick ≥ v.faultTick + Cfg.FT_FAULT_HOLD_TICKS s then servoGo d .acquiring s else s
        | _ => s
      splitJudge (alignJudge d (lockJudge d s))

/-- Phase that a domain's samples take: of its pulses where they are used and arrive (R84). -/
def samplePhase (d : Nat) (raw : Int) (s : State) : Int :=
  let v := servoOf s d
  if ftPps s d && !v.ppsLost then v.ppsPhase.getD raw else raw

/-! ### PTP messages for the part (R72 to R80) -/

/-- A PTP message's bytes: the header, then the body. -/
def ptpMessage (type domain flags : Nat) (corr : Int) (port seq : Nat) (body : Bytes) : Bytes :=
  beBytes 1 type ++ [2] ++ beBytes 2 (34 + body.length) ++ beBytes 1 domain ++ [0] ++ beBytes 2 flags
    ++ beBytes 8 (ofSigned 64 corr) ++ beBytes 4 0 ++ beBytes 8 ownClock ++ beBytes 2 port ++ beBytes 2 seq
    ++ [0, 0x7F] ++ body

/-- An MC packet of the part that carries a PTP message. -/
def ptpPacket (s : State) (dest : Nat) (m : Bytes) : Packet :=
  mkData { vc := Vc.MC, e := eBit s, dest := dest, op := Op.PTP, src := posFa s, hop := Cfg.PKT_ORIGIN_HOP_LIMIT s } m (stampNow s)

def ftDomainNo (s : State) (d : Nat) : Nat := ftNum s d 0x01 d

/-- Mean path delay in force for a domain on a port. -/
def pathDelay (s : State) (d p : Nat) : Int := if ptpPeer s d then (pdelayOf s p).mean else (servoOf s d).delay

/-- A sample of a domain's offset by PTP, kept for its pulses (R84). -/
def ptpSample (d : Nat) (raw : Int) (s : State) : State :=
  sample d (samplePhase d raw s) (setServo d (fun v => { v with ptp := some raw }) s)

/-- A Sync's offset: t1 corrected, t2 at the part. In the request-response mechanism a Delay_Req follows. Before the first
result of a delay measurement the mean path delay is taken as 0: DESIGN CHOICE (log 29). -/
def syncSample (d p : Nat) (k : Packet) (t1 t2 : Int) (s : State) : State :=
  let s := if ptpPeer s d then s
    else
      let seq := (((servoOf s d).req.map (·.1)).getD 0 + 1) % 65536
      let s := setServo d (fun v => { v with t12 := some (t1, t2), req := some (seq, t2) }) s
      answerBy (some p) (ptpPacket s (pkSrc k) (ptpMessage 1 (ftDomainNo s d) 0 0 (p + 1) seq (beBytes 10 0))) s
  ptpSample d (t2 - t1 - pathDelay s d p) s

/-- Whether a PTP message of a type is for the servo of a domain, from its grandmaster. -/
def ptpFrom (s : State) (k : Packet) (t : Nat) : Option Nat :=
  if s.hl.power = .off || pkOp k != Op.PTP || ptpType k != t || !pkCrcOk k then none
  else match ptpOf s k with
    | none => none
    | some d => if ftEnabled s d then some d else none

/-- Run an effect that may hold the generator's one step: time stays as the effect leaves it. -/
def runStep (a : Nat) (f : State → State) (s : State) : Out := .next { f (start (atPs a s)) with pending := s.pending }

/-- PTP_SYNC (R80). -/
def execPtpSync (p : Port) (k : Packet) (at_ : At) (s : State) : Out :=
  runStep at_ (fun s =>
    let at' := takenStamp s p k
    let s := ptpTake p k s
    match ptpFrom s k 0 with
    | none => s
    | some d =>
      if ptpClock k != ftGm s d then s
      else
        let t2 := at' + origin16 s - portAsym s p
        if ptpTwoStep k then setServo d (fun v => { v with sync := some (ptpSeq k, t2, ptpCorr k) }) s
        else syncSample d p k (ptpStamp k + ptpCorr k) t2 s) s

/-- PTP_FOLLOW_UP (R80): it completes the Sync of its sequenceId; a Pdelay_Resp_Follow_Up completes its Pdelay_Resp. -/
def execPtpFollowUp (p : Port) (k : Packet) (at_ : At) (s : State) : Out :=
  runStep at_ (fun s =>
    let s := fromInbox p k s
    match ptpFrom s k 8, ptpFrom s k 10 with
    | some d, _ =>
      match (servoOf s d).sync with
      | some (seq, t2, c) =>
        if ptpClock k != ftGm s d || ptpSeq k != seq then s
        else syncSample d p k (ptpStamp k + ptpCorr k + c) t2 (setServo d (fun v => { v with sync := none }) s)
      | none => s
    | none, some _ =>
      match (pdelayOf s p).held with
      | some (seq, z) =>
        if ptpSeq k != seq then s
        else setPdelay p (fun v => { v with held := none, mean := (z - ptpStamp k - ptpCorr k) / 2 }) s
      | none => s
    | none, none => s) s

/-- PTP_DELAY_RESP (R80): the mean path delay from Sync, Delay_Req and this response. -/
def execPtpDelayResp (p : Port) (k : Packet) (at_ : At) (s : State) : Out :=
  runAt at_ (fun s =>
    let s := fromInbox p k s
    match ptpFrom s k 9 with
    | none => s
    | some d =>
      match (servoOf s d).req, (servoOf s d).t12 with
      | some (seq, t3), some (t1, t2) =>
        if ptpPeer s d || ptpSeq k != seq || ptpReqClock k != ownClock then s
        else setServo d (fun v => { v with delay := ((t2 - t1) + (ptpStamp k - ptpCorr k - t3)) / 2 }) s
      | _, _ => s) s

/-- PTP_ANNOUNCE (R81). -/
def execPtpAnnounce (p : Port) (k : Packet) (at_ : At) (s : State) : Out :=
  runAt at_ (fun s =>
    let s := fromInbox p k s
    match ptpFrom s k 11 with
    | none => s
    | some d => if ptpClock k = ftGm s d || (servoOf s d).state == .disabled then s else servoGo d .fault s) s

/-- PTP_PDELAY_REQ (R78). -/
def execPtpPdelayReq (p : Port) (k : Packet) (at_ : At) (s : State) : Out :=
  runAt at_ (fun s =>
    let at' := takenStamp s p k
    let s := ptpTake p k s
    match ptpFrom s k 2 with
    | none => s
    | some d =>
      if !ptpPeer s d then s
      else
        let t2 := at' + origin16 s
        let body := beBytes 10 0 ++ beBytes 8 (ptpClock k) ++ beBytes 2 (ptpPortNo k)
        mcSend p (ptpPacket s (pkSrc k) (ptpMessage 3 (ftDomainNo s d) 0 (ptpCorr k - t2) (p + 1) (ptpSeq k) body)) s) s

/-- PTP_PDELAY_RESP (R78). -/
def execPtpPdelayResp (p : Port) (k : Packet) (at_ : At) (s : State) : Out :=
  runAt at_ (fun s =>
    let at' := takenStamp s p k
    let s := ptpTake p k s
    let v := pdelayOf s p
    match ptpFrom s k 3, v.sent with
    | some d, some t1 =>
      if !ptpPeer s d || ptpSeq k != v.seq || ptpReqClock k != ownClock then s
      else
        let t4 := at' + origin16 s
        let z := t4 - t1 - ptpCorr k
        if ptpTwoStep k then setPdelay p (fun v => { v with held := some (v.seq, z + ptpStamp k) }) s
        else setPdelay p (fun v => { v with mean := z / 2 }) s
    | _, _ => s) s

/-- Interval of the peer-delay measurement in ps: 2^FT_PDELAY_LOG_INTERVAL s (R78). -/
def pdelayPs (s : State) : Nat := 10 ^ 12 * 2 ^ (Cfg.FT_PDELAY_LOG_INTERVAL s + 7).toNat / 128

/-- The first enabled domain that measures peer delay. -/
def peerDomain (s : State) : Option Nat := [0, 1].find? fun d => ftEnabled s d && ptpPeer s d

/-- PDELAY_MEASURE (R78). -/
def execPdelayMeasure (p : Port) (s : State) : Out :=
  runDue (if s.hl.power != .off && (peerDomain s).isSome && !(egressLanes s p).isEmpty then some (pdelayOf s p).nextAt else none)
    (fun s => match peerDomain s with
      | none => s
      | some d =>
        let seq := ((pdelayOf s p).seq + 1) % 65536
        let s := setPdelay p (fun v => { v with seq := seq, sent := none, held := none, nextAt := max v.nextAt (now s) + pdelayPs s }) s
        let dest := beAt (linkOf s p).partner 16 4 % 2 ^ 24
        mcSend p (ptpPacket s dest (ptpMessage 2 (ftDomainNo s d) 0 0 (p.val + 1) seq (beBytes 20 0))) s) s

/-! ### Time-outs and restarts of a servo -/

/-- SERVO_SYNC_TIMEOUT (R81). -/
def execServoSyncTimeout (d : Domain) (s : State) : Out :=
  runDue (if servoLocked s d then some (((servoOf s d).sampleTick + ftNum s d 0x0B 1024) * tickPs) else none)
    (servoGo d .holdover) s

/-- `FT_SERVO_RESTART` (R81): the servos of the mask restart in ACQUIRING. -/
def servoRestart (m : Nat) (s : State) : State :=
  [0, 1].foldl (fun s d =>
    if bit m d && (servoOf s d).state != .disabled then servoGo d .acquiring (setServo d (fun v => { v with good := 0 }) s) else s) s

/-- Servos follow their enables at a tick boundary (R81). -/
def servoEnables (s : State) : State :=
  [0, 1].foldl (fun s d =>
    let on := ftEnabled s d
    let v := servoOf s d
    if on && v.state == .disabled then servoGo d .acquiring s
    else if !on && v.state != .disabled then servoGo d .disabled s
    else s) s

/-! ### PPS (R84, R85) -/

/-- PPS_PULSE (R84): the pulse, less its cable, against the second that PTP gives. A pulse before PTP has given a second cannot be
judged and is not used, and is not counted as discarded; neither it nor a discarded pulse counts as an arrival: DESIGN CHOICE
(log 30). -/
def execPpsPulse (d : Domain) (at_ : At) (frac : Nat) (s : State) : Out :=
  runAt at_ (fun s =>
    if s.hl.power = .off || !ftPps s d || !ftEnabled s d then s
    else match (servoOf s d).ptp with
      | none => s
      | some ptp =>
        let sec : Int := ns16 1000000000
        let t := (now16 s : Int) + (frac % 66 : Nat) - toSigned 32 (ftNum s d 0x05 0) + origin16 s
        let off := (t - ptp + sec / 2).emod sec - sec / 2
        if absInt off > ns16 100 then count E.FT_PPS_REJECTS 1 s
        else setServo d (fun v => { v with ppsAt := some (now s), ppsPhase := some (ptp + off), ppsLost := false }) s) s

/-- PPS_MISSING (R84). Before the first pulse its 2 s run from fabric time 0: DESIGN CHOICE (log 30). -/
def execPpsMissing (d : Domain) (s : State) : Out :=
  runDue (if ftPps s d && ftEnabled s d && !(servoOf s d).ppsLost && s.hl.power != .off then
      some (((servoOf s d).ppsAt.getD 0) + 2 * 10 ^ 12) else none)
    (fun s => raise Ev.FT_PPS_MISSING [] (setServo d (fun v => { v with ppsLost := true, ppsPhase := none }) s)) s

/-- The instant of the running tick at which PPS_OUT rises (R85). -/
def ppsRise (s : State) : Option Nat :=
  match Cfg.FT_PPS_OUT_MODE s with
  | 1 => some (ceilDiv (s.clk.tick * tickPs) (10 ^ 12) * 10 ^ 12)
  | 2 => if s.clk.tick % 1024 = 0 then some (s.clk.tick * tickPs) else none
  | _ => none

/-- Width of a PPS_OUT pulse: 10 µs. -/
def ppsWidth : Nat := 10 ^ 7

/-- PPS_OUT_PULSE (R85). -/
def execPpsOutPulse (s : State) : Out :=
  runDue (if s.hl.power = .off then none else (ppsRise s).filter fun t => s.hl.ppsOutEnd < t + ppsWidth)
    (fun s => match ppsRise s with
      | none => s
      | some t => emit (.pin 5 true) { s with hl := { s.hl with ppsOutEnd := t + ppsWidth } }) s

/-- PPS_OUT falls at the end of its pulse. -/
def ppsFall (s : State) : State :=
  if s.hl.ppsOutEnd != 0 && s.hl.ppsOutEnd ≤ now s then emit (.pin 5 false) { s with hl := { s.hl with ppsOutEnd := 0 } } else s

/-! ### Domain switches (R86, R87, R89) -/

/-- Preferred domain of automatic mode. -/
def preferred (s : State) : Option Nat := match Cfg.FT_DOMAIN_SELECT s with
  | 2 => some 0
  | 3 => some 1
  | _ => none

/-- The domain that the generator follows or is decided to follow. -/
def selectedDomain (s : State) : Nat := s.ft.switchTo.getD s.ft.active

/-- Decide a switch; it begins at the next tick boundary. -/
def switchDecide (d : Nat) (s : State) : State := { s with ft := { s.ft with switchTo := if d = s.ft.active then none else some d } }

/-- DOMAIN_LOSS_HOLD (R86). -/
def execDomainLossHold (d : Domain) (s : State) : Out :=
  runDue (if (preferred s).isSome && s.ft.gen != .free && selectedDomain s == d.val && servoLocked s (1 - d.val) then
      (servoOf s d).lostSince.map fun t => (t + Cfg.FT_LOSS_HOLD_TICKS s) * tickPs else none)
    (switchDecide (1 - d.val)) s

/-- DOMAIN_RETURN_HOLD (R86). -/
def execDomainReturnHold (d : Domain) (s : State) : Out :=
  runDue (if preferred s == some d.val && s.ft.gen != .free && selectedDomain s != d.val then
      (servoOf s d).lockedSince.map fun t => (t + Cfg.FT_RETURN_HOLD_FRAMES s * 1024) * tickPs else none)
    (switchDecide d) s

/-- `FT_DOMAIN_SELECT` (R89): refused where it names a domain whose servo is not LOCKED. -/
def domainSelect (v : Nat) (s : State) : Option State :=
  if v ≤ 1 && !servoLocked s v then none
  else
    let s := setNum E.FT_DOMAIN_SELECT v s
    some (if v ≤ 1 && s.ft.gen != .free then switchDecide v s else s)

/-- The generator's phase moves by `m`, in 2^-16 ns, and so do the domains' phases against it. -/
def genMove (m : Int) (s : State) : State :=
  let mv := fun (v : Servo) => { v with phase := v.phase + m, ptp := v.ptp.map (· + m), ppsPhase := v.ppsPhase.map (· + m) }
  { s with ft := { s.ft with servoA := mv s.ft.servoA, servoB := mv s.ft.servoB } }

/-- What the generator moves by in a tick (R80, R83, R87): 1 ns at most of what is left of a slew, or less than 1 ns of the step
that the servo has handed it. -/
def genDelta (s : State) : Int := match s.ft.gen with
  | .slewing => max (-65536) (min 65536 s.ft.slew)
  | .following => max (-65535) (min 65535 (-s.ft.genStep.floor))
  | _ => 0

/-- What a tick boundary does for the generator (R80, R87): it takes the tick's share of its slew or step, and a decided switch
begins. A switch that replaces another raises its own EV_FT_DOMAIN_SWITCH, and the replaced one no EV_FT_SLEW_DONE: DESIGN CHOICE
(log 31). -/
def genTick (s : State) : State :=
  let m := genDelta s
  let s := genMove m (match s.ft.gen with
    | .slewing => { s with ft := { s.ft with slew := s.ft.slew - m } }
    | _ => { s with ft := { s.ft with genStep := s.ft.genStep + m } })
  match s.ft.switchTo with
  | none => s
  | some n =>
    if s.ft.gen = .free then s
    else
      let diff := (-(servoOf s n).phase).floor
      raise Ev.FT_DOMAIN_SWITCH [.u8 s.ft.active, .u8 n, .i32 diff]
        { s with ft := { s.ft with switchTo := none, active := n, slew := diff, genStep := 0,
                                   gen := if s.ft.gen = .holdover then .holdover else .slewing } }

/-- SLEW_DONE (R87). -/
def execSlewDone (s : State) : Out :=
  run (fun s =>
    if s.ft.gen = .slewing && s.ft.slew = 0 then genJudge (raise Ev.FT_SLEW_DONE [] (setGen .following s)) else s) s

/-! ### Timed actions (R90 to R97, R576) -/

def actCode : ActSt → Nat
  | .pending => 1
  | .armed => 2
  | .fired => 3
  | .expired => 4
  | .cancelled => 5

def setAct (n : Nat) (a : ActEntry) (s : State) : State := { s with ft := { s.ft with acts := SMap.set s.ft.acts n a } }

/-- Enter a final state and report it (R90), with what else the report carries. -/
def actEndWith (more : List Item) (n : Nat) (a : ActEntry) (st : ActSt) (s : State) : State :=
  let code := match st with | .fired => Ev.FT_ACTION_FIRED | .expired => Ev.FT_ACTION_EXPIRED | _ => Ev.FT_ACTION_CANCELLED
  raise code ([.u16 n, .u16 a.record.job, .u16 a.record.code, .idx a.record.fire] ++ more) (setAct n { a with state := st } s)

/-- Enter a final state and report it (R90). -/
def actEnd (n : Nat) (a : ActEntry) (st : ActSt) (s : State) : State := actEndWith [] n a st s

/-- Whether an entry fires in the running tick: unarmed ones only where no arming is required (R90). -/
def actReady (s : State) (a : ActEntry) : Bool :=
  a.record.fire ≤ s.clk.tick && (a.state == .armed || (a.state == .pending && !a.record.arm))

/-- Whether the table may fire: fabric time runs under the datapath's power, and the boundary's swap has been done, that of a join
too (R66, R91, R93). -/
def actLive (s : State) : Bool :=
  (s.hl.power == .active || s.hl.power == .trim || s.hl.power == .waking) && s.frame == frameOf s
    && !(s.rp.sync == .joining && s.rp.join ≤ frameOf s)

/-- Entry `n`, if it is an action of a code and its turn to fire has come (R91). -/
def actTurn (n code : Nat) (s : State) : Option ActEntry :=
  (SMap.get? s.ft.acts n).filter fun a =>
    actLive s && a.record.code == code && actReady s a && !s.ft.acts.any (fun x => x.1 < n && actReady s x.2)

/-- Fire entry `n`, an action of a code, in its turn (R91). -/
def actFire (n code : Nat) (f : ActEntry → State → State) (s : State) : State :=
  match actTurn n code s with
  | none => s
  | some a => f a (actEnd n a .fired s)

/-- JOB_OPEN (R43). -/
def execJobOpen (n : Nat) (s : State) : Out :=
  run (actFire n 1 fun a s =>
    let job := a.record.job
    let bs := (s.tt.active.map (·.binds)).getD []
    let gates := (bs.filter fun b => b.job == job).foldl (fun m b => SMap.set m b.flow Gate.openn) s.tt.gates
    crOpenJob job { s with tt := { s.tt with gates := gates } }) s

/-- JOB_CLOSE (R43, R169, R207). -/
def execJobClose (n : Nat) (s : State) : Out :=
  run (actFire n 2 fun a s =>
    let job := a.record.job
    let bs := ((s.tt.active.map (·.binds)).getD []).filter fun b => b.job == job
    let gates := bs.foldl (fun m b => SMap.set m b.flow Gate.closed) s.tt.gates
    let s := { s with tt := { s.tt with gates := gates } }
    let s := scPurge (fun x => bs.any fun b => b.flow == x.flow)
      (fun _ s => count E.DP_CLOSE_DROPS 1 s) s
    crCloseJob job (bs.foldl (fun s b => orderUnset b.flow s) s)) s

/-- USER_EVENT (R43). -/
def execUserEvent (n : Nat) (s : State) : Out :=
  run (actFire n 4 fun a s => raise Ev.TT_USER_ACTION [.u16 (a.record.operand >>> 112)] s) s

/-- ACTION_EXPIRE (R90, R93). -/
def execActionExpire (n : Nat) (s : State) : Out :=
  run (fun s => match SMap.get? s.ft.acts n with
    | none => s
    | some a =>
      let live := a.state == .pending || a.state == .armed
      let unarmed := a.state == .pending && a.record.arm
      if a.record.fire ≤ s.clk.tick && live && s.hl.power != .off && (unarmed || s.hl.power == .rest) then actEnd n a .expired s
      else s) s

/-- The lowest FREE entry (R91). -/
def actFreeSlot (s : State) : Option Nat := (List.range 1024).find? fun n => (SMap.get? s.ft.acts n).isNone

/-- Load a record (R90). -/
def actLoad (r : ActionRec) (command ofNext : Bool) (epoch : Nat) (s : State) : State :=
  match actFreeSlot s with
  | none => s
  | some n => setAct n { record := r, state := .pending, command := command, epoch := epoch, launch := 0, armFa := 0, ofNext := ofNext } s

/-- `FT_ACTION_ADD` (R92): the state after it, and whether the record was taken. -/
def actAdd (bs : Bytes) (s : State) : State × Bool :=
  let a := parseAction bs
  if a.fire < s.clk.tick + 16 || !actionRuleOk s ((imageAt s a.fire).map (·.1)) a || fld bs 0x0C 1 31 != 0 then (s, false)
  else match actFreeSlot s with
    | none => (raise Ev.FT_TABLE_FULL [] s, false)
    | some _ => (actLoad a true false (activeEpoch s) s, true)

/-- At a frame boundary entries in a final state become FREE (R90). -/
def actFreeFinal (s : State) : State :=
  { s with ft := { s.ft with acts := s.ft.acts.filter fun x => x.2.state == .pending || x.2.state == .armed } }

/-- The rows of R95 over the matching entries: 0 DONE, 1 NO_ACTION, 2 TOO_LATE, 3 CANCELLED. `t` is the tick, `l` the
launch tick. -/
def launchStatus (arm : Bool) (t l : Nat) (ms : List (Nat × ActEntry)) : Nat :=
  if ms.isEmpty then 1
  else if t + (if arm then 256 else 64) > l then 2
  else if arm && ms.all (fun m => m.2.state == .cancelled) then 3
  else 0

/-- Arm the PENDING entries, or cancel the PENDING and ARMED ones. -/
def launchApply (arm : Bool) (launch fa : Nat) (ms : List (Nat × ActEntry)) (s : State) : State :=
  ms.foldl (fun s m =>
    if arm then (if m.2.state = .pending then setAct m.1 { m.2 with state := .armed, launch := launch, armFa := fa } s else s)
    else if m.2.state = .pending || m.2.state = .armed then actEnd m.1 m.2 .cancelled s
    else s) s

/-- Judge an ARM or CANCEL for the entries `ms` (R95): the state and the status. -/
def launchJudge (arm : Bool) (l launch fa : Nat) (ms : List (Nat × ActEntry)) (s : State) : State × Nat :=
  let st := launchStatus arm s.clk.tick l ms
  let s := if st = 0 then launchApply arm launch fa ms s else s
  (if st = 2 && !arm then raise Ev.FT_CANCEL_LATE [] s else s, st)

/-- A LAUNCH message of a kind (R94 to R97). -/
def launchMessage (arm : Bool) (p : Nat) (k : Packet) (s : State) : State :=
  let b := pkBody k
  if !dpLive s || pkOp k != Op.LAUNCH || beAt b 0 1 != (if arm then 1 else 3) || !pkCrcOk k
      || !(pkM k || pkDest k == posFa s) then s
  else
    let srcs := (tabList s E.FT_LAUNCH_SOURCES 4).map fun r => beNat r % 2 ^ 24
    if !srcs.isEmpty && !srcs.contains (pkSrc k) then count E.FT_LAUNCH_REFUSED 1 s
    else
      let l := beAt b 8 8
      let ms := s.ft.acts.filter fun x => x.2.record.fire == l && x.2.record.job == beAt b 0x10 2
        && x.2.record.code == beAt b 0x12 2 && x.2.record.arm
      let (s, st) := launchJudge arm l (beAt b 4 4) (pkSrc k) ms s
      let after := match ms.head? with
        | none => 0
        | some m => ((SMap.get? s.ft.acts m.1).map fun a => actCode a.state).getD 0
      let body := beBytes 1 (if arm then 2 else 4) ++ beBytes 3 0 ++ slice b 4 0x10 ++ beBytes 1 st ++ beBytes 1 after
        ++ beBytes 2 0 ++ beBytes 8 s.clk.tick
      answerBy (some p) (mkControl Vc.MC (eBit s) (pkSrc k) Op.LAUNCH (posFa s) 0 false 0 0 p (activeEpoch s) body (stampNow s)) s

/-- LAUNCH_ARM (R95). -/
def execLaunchArm (p : Port) (k : Packet) (s : State) : Out := run (fun s => launchMessage true p k (fromInbox p k s)) s

/-- LAUNCH_CANCEL (R95). -/
def execLaunchCancel (p : Port) (k : Packet) (s : State) : Out := run (fun s => launchMessage false p k (fromInbox p k s)) s

/-- `FT_ACTION_ARM` and `FT_ACTION_CANCEL` (R576): the state and the status; the status 0 completes. An entry number that the
table has not is one with no action, and an arming by a host leaves the launch identifier and the arming FA at 0: DESIGN CHOICE
(log 32). -/
def actCommand (arm : Bool) (n fa : Nat) (s : State) : State × Nat :=
  match (SMap.get? s.ft.acts n).filter fun a => a.record.arm with
  | none => (s, 1)
  | some a => launchJudge arm a.record.fire 0 fa [(n, a)] s

end Sys2Proof.Machine
end

