-- ==== Sys2Proof/Machine/Timetable.lean ====
section
/-! DEFINITION. The timetable unit (chapter 2): the next image, variants, leases and rotations, and the swap. -/
namespace Sys2Proof.Machine
open Sys2Proof

/-! ### The next image (R51, R52, R59) -/

/-- A transfer to `TT_NEXT_IMAGE` begins: what is held as next goes. -/
def ttBegin (s : State) : State := nextGone .empty s

/-- Its first segment arrives. -/
def ttReceiving (s : State) : State := { s with tt := { s.tt with next := .receiving } }

/-- Its digest fails, or the transfer is aborted. -/
def ttAborted (s : State) : State :=
  raise Ev.TT_REFUSED [.u16 0] (nextGone .refused { s with tt := { s.tt with log := [], nextBytes := [], nextImage := none } })

/-- Its digest is verified: the checks begin. -/
def ttVerified (bs digest : Bytes) (s : State) : State :=
  { s with tt := { s.tt with next := .checking, nextBytes := bs, nextDigest := digest, nextImage := none, log := [] } }

/-- The image fails its checks: the log holds up to 16 failures, and the event of each failed check is raised. -/
def ttRefuse (fails : List CheckFail) (s : State) : State :=
  let s := nextGone .refused { s with tt := { s.tt with log := fails.take 16 } }
  let s := raise Ev.TT_REFUSED [.u16 ((fails.head?.map (·.code)).getD 0)] s
  match fails.head? with
  | none => s
  | some f => raise f.code [] s

/-- The frame at which a join image becomes active, once one is READY: the first boundary at least `TT_LOAD_LEAD_FRAMES`
away (R458). -/
def joinFrameOf (s : State) : Nat :=
  let b := if s.clk.tick % 1024 = 0 && s.clk.ps = 0 then frameOf s else frameOf s + 1
  max (frameOf s + 1) (b + Cfg.TT_LOAD_LEAD_FRAMES s)

/-- The image passes: its actions are loaded in record order (R91); in STALE it is the join image (R458, R459). -/
def ttReady (img : Image) (s : State) : State :=
  let s := { s with tt := { s.tt with next := .ready, nextImage := some img, log := [] } }
  let s := img.actions.foldl (fun s a => actLoad a false true img.epoch s) s
  let s := raise Ev.TT_READY [] s
  if s.rp.sync = .stale then
    setSync .joining 8 { s with rp := { s.rp with join := joinFrameOf s, joinTold := [] } }
  else s

/-- TT_CHECKS_DONE (R52, R57). -/
def execTtChecksDone (s : State) : Out :=
  run (fun s =>
    if s.tt.next != .checking then s
    else match imageFails s s.tt.nextBytes s.tt.nextDigest with
      | [] => ttReady (parseImage s.tt.nextBytes s.tt.nextDigest) s
      | fails => ttRefuse fails s) s

/-- TT_CROSS_RECHECK (R54): the comparison with the active image, under the variant now selected. -/
def execTtCrossRecheck (s : State) : Out :=
  run (fun s => match s.tt.next, s.tt.nextImage with
    | .ready, some img => match crossChecks (configAt (1024 * img.frame) s) img with
      | [] => s
      | fails => ttRefuse fails s
    | _, _ => s) s

/-! ### Variants (R50, R60) -/

/-- Take up the selection that the pending writes make: the earliest tick, and of that tick the latest write (R9). -/
def reselect (s : State) : State :=
  let ws := (s.dx.pending.filter fun w => w.entry == E.TT_VARIANT_SELECT).filterMap fun w => w.tick.map fun t => (t, beNat w.body)
  let t := ws.foldl (fun m w => min m w.1) ((ws.head?.map (·.1)).getD 0)
  { s with tt := { s.tt with selected := (ws.filter fun w => w.1 == t).getLast? } }

/-- Selections that are due leave the pending writes; all but `n` of them are superseded (R9, R64). -/
def selectionsDone (n : Nat) (s : State) : State :=
  let isDue := fun (w : PendWrite) => w.entry == E.TT_VARIANT_SELECT && w.tick.any (· ≤ s.clk.tick)
  let k := (s.dx.pending.filter isDue).length
  reselect (count E.DX_SUPERSEDED (k - n) { s with dx := { s.dx with pending := s.dx.pending.filter fun w => !isDue w } })

/-- Whether the swap of a join is still to come at the running frame's boundary (R66, R458). -/
def joinWaits (s : State) : Bool := s.rp.sync == .joining && s.rp.join ≤ frameOf s

/-- VARIANT_TAKES_EFFECT (R50). The spec does not say what a selection does whose identifier the image in force lacks since a swap:
the variant stays as it is, and EV_TT_VARIANT is raised with it. DESIGN CHOICE, log entry 27. -/
def execVariantTakesEffect (s : State) : Out :=
  run (fun s => match s.tt.selected with
    | none => s
    | some (t, v) =>
      if s.clk.tick < t || s.frame != frameOf s || joinWaits s then s
      else
        let s := { s with tt := { s.tt with variant := if variantHeld s.tt.active v then v else s.tt.variant } }
        raise Ev.TT_VARIANT [.u16 s.tt.variant] (setNum E.TT_VARIANT_SELECT v (selectionsDone 1 s))) s

/-! ### Leases and rotations (R46 to R48, R463 to R466) -/

/-- A rotation lease starts (R463, R466, R484): `ends` is the frame at which its test window ends. -/
def rotate (b x ends : Nat) (s : State) : State :=
  if (physSlot s x).state != .spare then rotationEvent b x 3 (count E.RP_ROTATIONS_REFUSED 1 s)
  else
    let old := physBench s b
    let was := physSlot s old
    let f := frameOf s
    let left : PhysSlot := { state := if was.state = .retired then .retired else .testing, result := 0, frame := f, leaseEnd := ends }
    let s := setPhys x { state := .serving, result := (physSlot s x).result, frame := f, leaseEnd := 0 } (setPhys old left s)
    let s := { s with rp := { s.rp with benchMap := SMap.set s.rp.benchMap b x } }
    let s := rotationEvent b x 0 (crRotate b (count E.RP_ROTATIONS 1 s))
    if was.state = .failed then
      (List.range 4).foldl (fun s q =>
        let p := 4 * b + q
        if portState s p = .down || portState s p = .held then
          raise Ev.DP_PORT_UP [.u16 p] (portTouch p (setPort p { portOf s p with state := .inService, holdEnd := 0 } s))
        else s) s
    else s

def setLease (n state : Nat) (s : State) : State :=
  { s with tt := { s.tt with leases := (numbered s.tt.leases).map fun x => if x.1 = n then { x.2 with state := state } else x.2 } }

/-- Whether leases may start and end: at a frame boundary, once its swap has been done, while the part forwards (R21, R47). -/
def leaseLive (s : State) : Bool := s.clk.tick % 1024 == 0 && s.frame == frameOf s && dpLive s

/-- LEASE_START (R47): at the start frame of the n-th lease of the active image. -/
def execLeaseStart (n : Nat) (s : State) : Out :=
  run (fun s => match (s.tt.leases.drop n).head? with
    | none => s
    | some x =>
      let l := x.record
      if !leaseLive s || x.state != 0 || frameOf s < l.start then s
      else if l.len != 0 && l.start + l.len ≤ frameOf s then setLease n 2 s
      else
        let s := leaseEvent l 1 (setLease n 1 s)
        if l.kind = 3 then rotate l.subject l.unit (l.start + l.len) s else leaseLaneStart l.kind l.subject l.unit s) s

/-- LEASE_END (R47, R465): a lease whose length has run out. -/
def execLeaseEnd (n : Nat) (s : State) : Out :=
  run (fun s => match (s.tt.leases.drop n).head? with
    | none => s
    | some x =>
      let l := x.record
      if !leaseLive s || x.state != 1 || l.len = 0 || frameOf s < l.start + l.len then s
      else
        leasesEnd [l] (setLease n 2 s)) s

/-- A rotation that goes on under a lease of another length: the test that it bounds ends with the new one. -/
def leaseRenew (old new : LeaseRec) (s : State) : State :=
  if old.kind != 3 || old.len = new.len then s
  else (List.range 136).foldl (fun s y =>
    let v := physSlot s y
    if v.state == .testing && v.leaseEnd == old.start + old.len && y / 34 == old.unit / 34 then
      setPhys y { v with leaseEnd := new.start + new.len } s
    else s) s

/-- Leases across a swap (R48, R65): those that the new image continues go on, the others end. -/
def leaseSwap (new : Image) (s : State) : State :=
  let held := s.tt.leases.filter fun x => x.state == 1
  let goes := held.filter fun x => !new.leases.any fun l => leaseSame l x.record
  let s := leasesEnd (goes.map (·.record)) s
  let s := new.leases.foldl (fun s l => match held.find? fun x => leaseSame l x.record with
    | some x => leaseRenew x.record l s
    | none => s) s
  { s with tt := { s.tt with leases := new.leases.map fun l =>
      { record := l, state := if held.any fun x => leaseSame l x.record then 1 else 0 } } }

/-! ### The swap (R55, R56, R64, R66) -/

/-- Whether the new image keeps a binding: the same flow tag and job tag. -/
def bindingKept (new : Image) (flow job : Nat) : Bool := new.binds.any fun n => n.flow == flow && n.job == job

/-- Queued packets, order states and gates of bindings across a swap (R56). -/
def bindingSwap (new : Image) (s : State) : State :=
  let old := (s.tt.active.map (·.binds)).getD []
  let kept := old.filter fun b => bindingKept new b.flow b.job
  let gates := kept.foldl (fun m b => SMap.set m b.flow (gateOf s b)) []
  let s := scPurge (fun x => !bindingKept new x.flow x.job) (fun x s => tally E.TT_SWAP_ORPHANS (benchOf x.port) 23 1 {} s) s
  { s with
    tt := { s.tt with gates := gates }
    dp := { s.dp with orders := s.dp.orders.filter fun o => kept.any fun b => b.flow == o.1 / 1024 } }

/-- Writes at epoch take effect from this boundary (R382). -/
def epochWrites (s : State) : State :=
  { s with dx := { s.dx with pending := s.dx.pending.map fun w => { w with tick := some (w.tick.getD s.clk.tick) } } }

/-- A selection that names the swap's frame or an earlier one is superseded (R64, R9). -/
def selectionSwap (s : State) : State :=
  if s.tt.selected.any fun x => x.1 / 1024 ≤ frameOf s then selectionsDone 0 s else s

/-- An image takes effect (R55); a join has no image to carry work over from, and no grace (R458). Where the image lacks the loss set
of `TT_VARIANT_NEXT`, which was judged against another next image, it starts with the base schedule. DESIGN CHOICE, log entry 27. -/
def swapImage (new : Image) (join : Bool) (s : State) : State :=
  let oldEpoch := activeEpoch s
  let hadSelection := s.tt.selected.any fun x => x.1 / 1024 ≤ frameOf s
  let v := if variantHeld (some new) (variantNext s) then variantNext s else 0
  let s := selectionSwap (crSwap new (bindingSwap new (leaseSwap new s)))
  let s := { s with
    tt := { s.tt with
      active := some new, variant := v, next := .empty, nextBytes := [], nextImage := none, nextDigest := [], log := []
      stagedFrame := none, missed := [], swapTick := some s.clk.tick }
    ft := { s.ft with acts := s.ft.acts.map fun a => (a.1, { a.2 with ofNext := false }) }
    rp := { s.rp with building := some (frameOf s), held := new.epoch } }
  let s := epochWrites (buffersTurn true (routeSwitch new.epoch oldEpoch join s))
  let s := raise Ev.TT_SWAPPED [.u32 new.epoch, .idx new.frame] s
  if hadSelection then raise Ev.TT_VARIANT [.u16 v] s else s

/-- An activation frame begins without a READY image that names it (R61, R63): its image went after staging had begun, or its
checks are not complete. -/
def swapMissed (f : Nat) (s : State) : State :=
  let late := s.tt.next == .checking && (nextHeld s).any fun i => i.frame == f
  let hit := s.tt.missed.contains f || late
  let s := { s with tt := { s.tt with missed := s.tt.missed.filter (f < ·) } }
  if hit then raise Ev.TT_SWAP_MISSED [] s else s

/-- What a frame boundary does for the timetable while the part forwards: the swap, or the report that it was missed. At a
withdraw frame or a Rest boundary the next image is discarded instead (R67, R481). -/
def ttFrame (s : State) : State :=
  let f := frameOf s
  let leaves := s.rp.withdraw.any (·.frame ≤ f) || s.hl.restTick.any (· ≤ s.clk.tick)
  if !carries s then s
  else match s.tt.next, s.tt.nextImage with
    | .ready, some n =>
      if n.frame = f then (if leaves then nextGone .empty s else swapImage n false s) else swapMissed f s
    | _, _ => swapMissed f s

/-- The copies of a staging read in their order: that of the bench's own bed die first, then the next ones, from 3 on to 0 (R62). -/
def stageOrder (b : Nat) : List Nat := (List.range 4).map fun i => (b / 32 + i) % 4

/-- The copy that answers a staging read, if one does (R62). -/
def stageCopy (r : StageRead) : Option Nat := (stageOrder (r.bench % 128)).find? fun d => !r.bad.contains d

/-- Staging of the coming frame (R62): what no copy gives is blank in it. -/
def stageFaults (l : List StageRead) (s : State) : State :=
  let f := frameOf s + 1
  let s := { s with tt := { s.tt with blank := s.tt.blank.filter fun x => f ≤ x.1 / 128 + 1 } }
  l.foldl (fun s r =>
    let key := f * 128 + r.bench % 128
    if (imageAt s (1024 * f)).isNone || (stageCopy r).isSome then s
    else raise Ev.TT_STAGE_FAULT []
      { s with tt := { s.tt with blank := SMap.set s.tt.blank key (addNew r.item (SMap.getD s.tt.blank key [])) } }) s

/-- Benches that run the tick that begins as blank, each counted (R62). -/
def stageTick (s : State) : State :=
  let n := ((List.range 128).filter fun b => stageBlank s s.clk.tick b).length
  if dpLive s then count E.TT_STAGE_FAULTS n s else s

end Sys2Proof.Machine
end

