-- ==== Sys2Proof/Machine/Sessions.lean ====
section
/-! DEFINITION. Areas, principals, sessions and what ends with them (R392 to R397). -/
namespace Sys2Proof.Machine
open Sys2Proof

/-- Area of an entry 0xIIIISS (R394). -/
def areaOf (e : Nat) : Nat :=
  let i := e / 256
  if i < 0x3000 then i / 0x1000
  else if i < 0x3800 then 3
  else if i < 0x4000 then 4
  else if i < 0x4800 then 5
  else if i < 0x5000 then 6
  else if i < 0x5800 then 7
  else if i < 0x6000 then 8
  else i / 0x1000 + 3

/-- Principal kind of a source (R395). -/
def srcKind : Source → Nat
  | .pcie h => 1 + h.val
  | .t1s _ => 3
  | .mc _ _ => 4

/-- FA of a principal; zero unless it is a manager. -/
def srcFa : Source → Nat
  | .mc fa _ => fa.toNat
  | _ => 0

/-- Whether a session belongs to the principal of a source. -/
def samePrincipal (x : Session) (src : Source) : Bool := x.kind == srcKind src && x.fa == srcFa src

def sessionOf (s : State) (n : Nat) : Option Session := s.dx.sessions.find? fun x => x.num == n

def setSession (n : Nat) (f : Session → Session) (s : State) : State :=
  { s with dx := { s.dx with sessions := s.dx.sessions.map fun x => if x.num = n then f x else x } }

def ownerOf (s : State) (a : Nat) : Nat := SMap.getD s.dx.owners a 0

/-- An area changes owner; session 0 is none. The cause: 1 claim, 2 release, 3 handover, 4 session end. -/
def setOwner (a n cause : Nat) (s : State) : State :=
  if ownerOf s a = n then s
  else
    raise Ev.DX_OWNER [.u8 a, .u16 (ownerOf s a), .u16 n, .u8 cause]
      { s with dx := { s.dx with owners := SMap.put 0 s.dx.owners a n } }

/-- Close a transfer and report it (R392): 1 done, 2 digest mismatch, 3 aborted, 4 refused. -/
def xferClose (x : Xfer) (outcome : Nat) (s : State) : State :=
  let s := { s with dx := { s.dx with xfers := s.dx.xfers.filter fun y => y.entry != x.entry } }
  raise Ev.DX_BLOCK [.u32 (x.entry * 256), .u16 x.session, .u8 outcome, .u64 x.length] s

/-- What the owning chapter sees of a failed or aborted transfer (R51, R510). -/
def xferFailed (entry : Nat) (s : State) : State :=
  if entry = E.TT_NEXT_IMAGE && s.tt.next == .receiving then ttAborted s else s

/-- Abort a transfer. -/
def xferAbort (x : Xfer) (s : State) : State := xferFailed x.entry (xferClose x 3 s)

/-- A session ends (R397): 2 closed, 3 lapsed, 4 reset. -/
def sessionEnd (n cause : Nat) (s : State) : State :=
  match sessionOf s n with
  | none => s
  | some x =>
    let s := (s.dx.xfers.filter fun t => t.session == n).foldl (fun s t => xferAbort t s) s
    let s := ((s.dx.owners.filter fun o => o.2 == n).map (·.1)).foldl (fun s a => setOwner a 0 4 s) s
    let s := { s with
      dx := { s.dx with
        sessions := s.dx.sessions.filter fun y => y.num != n
        snaps := s.dx.snaps.filter fun y => y.session != n
        subs := s.dx.subs.filter fun y => y.session != n }
      se := { s.se with reports := s.se.reports.filter fun r => r.1 != n } }
    raise Ev.DX_SESSION [.u16 n, .u8 x.kind, .u32 x.fa, .u8 cause] s

/-- Every session of a host ends, as at a reset of its function (R404, R561). -/
def hostSessionsEnd (h : Nat) (s : State) : State :=
  ((s.dx.sessions.filter fun x => x.kind == 1 + h).map (·.num)).foldl (fun s n => sessionEnd n 4 s) s

/-- Every session ends, as at a reset of the part (R415). -/
def allSessionsEnd (s : State) : State := (s.dx.sessions.map (·.num)).foldl (fun s n => sessionEnd n 4 s) s

/-- SESSION_LEASE_EXPIRY (R395). -/
def execSessionLeaseExpiry (n : Nat) (s : State) : Out :=
  runDue ((sessionOf s n).map (·.leaseEnd)) (sessionEnd n 3) s

/-- BLOCK_IDLE_EXPIRY (R392, R393): transfers are numbered first, then snapshots. -/
def execBlockIdleExpiry (n : Nat) (s : State) : Out :=
  let k := s.dx.xfers.length
  if n < k then
    match (s.dx.xfers.drop n).head? with
    | some x => runDue (if x.state = .openn then some x.idleEnd else none) (xferAbort x) s
    | none => run id s
  else
    match (s.dx.snaps.drop (n - k)).head? with
    | some x => runDue (some x.idleEnd) (fun s => { s with dx := { s.dx with snaps := listErase s.dx.snaps (n - k) } }) s
    | none => run id s

/-- Transfers and snapshots are aborted and writes to areas that Rest does not serve are discarded (R414). -/
def restServes (a : Nat) : Bool := a ∈ [0, 1, 6, 11, 17]

def dictRest (s : State) : State :=
  let s := s.dx.xfers.foldl (fun s x => xferAbort x s) s
  let gone := s.dx.pending.filter fun w => !restServes (areaOf w.entry)
  count E.DX_SUPERSEDED gone.length
    { s with dx := { s.dx with snaps := [], pending := s.dx.pending.filter fun w => restServes (areaOf w.entry) } }

end Sys2Proof.Machine
end

