-- ==== Sys2Proof/Machine/Telemetry.lean ====
section
/-! DEFINITION. Counters, latches and dumps (chapter 17). -/
namespace Sys2Proof.Machine
open Sys2Proof

/-- `PS_STATE` of a power state (R444). -/
def powerCode : PowerSt → Nat
  | .active => 0
  | .trim => 1
  | .rest => 2
  | .waking => 3
  | .off => 4

/-! ### Values of the bench counters (R512 to R515) -/

/-- Value of a fixed counter. -/
def fixedValue (s : State) (b e : Nat) : Nat := SMap.getD s.tm.fixed (b * 256 + e) 0

/-- Zero every fixed counter. -/
def clearFixed (s : State) : State := { s with tm := { s.tm with fixed := [] } }

def progRec (s : State) (b k : Nat) : Nat := tabNum s E.TM_PROG_CONFIG 8 (b * 16 + k) 0

/-- A programmable counter that counts a signal, edge or level: the model has no core cycles, so what it has reached is free and
`tm.prog` holds what it had reached when it was last zeroed. DESIGN CHOICE, log entry 41. -/
def progSignal (r : Nat) : Bool := bit r 63 && bits r 61 2 != 0
def signalRaw (s : State) (b k : Nat) : Nat := Config.openFn 61 [b, k, progRec s b k, now s] % 2 ^ 48

def progZero (s : State) (b k : Nat) : ProgCtr :=
  { value := if progSignal (progRec s b k) then signalRaw s b k else 0, overflow := false, level := false }

/-- A programmable counter's 48-bit word. -/
def progWord (s : State) (b k : Nat) : Nat :=
  let v := (SMap.getD s.tm.prog (b * 16 + k) { value := 0, overflow := false, level := false }).value
  if progSignal (progRec s b k) then (signalRaw s b k + 2 ^ 48 - v) % 2 ^ 48 else v

/-- A programmable counter's place in the dump: a chained pair shows in the even place (R517). -/
def progPlace (s : State) (b k : Nat) : Nat :=
  if progChained s b k then
    (SMap.getD s.tm.prog (b * 16 + k + 1) { value := 0, overflow := false, level := false }).value * 2 ^ 48 + progWord s b k
  else if k % 2 = 1 && progChained s b (k - 1) then 0
  else progWord s b k

def progSet (s : State) (i : Nat) : State :=
  { s with tm := { s.tm with prog := SMap.put { value := 0, overflow := false, level := false } s.tm.prog i (progZero s (i / 16) (i % 16)) } }

/-- Zero every programmable counter. -/
def clearProg (s : State) : State := (List.range 2048).foldl progSet s

/-- New records of `TM_PROG_CONFIG` take effect: each counter whose record changed starts from 0 (R516). -/
def progConfig (old new : Bytes) (s : State) : State :=
  ((List.range 2048).filter fun i => slice old (8 * i) 8 != slice new (8 * i) 8).foldl progSet s

/-! ### Latches and dumps (R517 to R519) -/

/-- `INV_BENCH_MAP`. -/
def benchMapBytes (s : State) : Bytes := ((List.range 128).map fun b => beBytes 1 (physBench s b)).flatten

/-- Flags of the 16 programmable counters of a bench. -/
def progFlags (f : Nat → Bool) : Nat := (List.range 16).foldl (fun n k => if f k then n + 2 ^ k else n) 0

def benchBlock (s : State) (b : Nat) : Bytes :=
  beBytes 2 b ++ beBytes 2 (physBench s b)
    ++ beBytes 2 (progFlags fun k => (SMap.getD s.tm.prog (b * 16 + k) { value := 0, overflow := false, level := false }).overflow)
    ++ beBytes 2 (progFlags fun k => progChained s b k)
    ++ List.replicate 56 0
    ++ ((List.range 256).map fun e => beBytes 12 (fixedValue s b e)).flatten
    ++ ((List.range 16).map fun k => beBytes 12 (progPlace s b k)).flatten

/-- The device block, in the order of `TM_DEVICE_COUNTER_LIST`. -/
def deviceBlock (s : State) : Bytes :=
  padTo 8192 (((chunks 4 (Config.moduleBytes E.TM_DEVICE_COUNTER_LIST)).map fun r => beBytes 8 (getNum s (beAt r 0 4 / 256) 0)).flatten)

def dumpHead (s : State) (reason seq : Nat) : Bytes :=
  beBytes 4 0x57444D50 ++ beBytes 2 1 ++ beBytes 2 reason ++ beBytes 8 seq ++ beBytes 8 s.clk.tick ++ beBytes 4 (activeEpoch s)
    ++ beBytes 1 (syncCode s.rp.sync) ++ beBytes 1 (powerCode s.hl.power) ++ [0, 0] ++ List.replicate 96 0 ++ benchMapBytes s

def dumpBytes (s : State) (reason seq : Nat) : Bytes :=
  dumpHead s reason seq ++ deviceBlock s ++ ((List.range 128).map (benchBlock s)).flatten

/-- Show one more cause in a dump's reason bits. -/
def dumpCause (b : Nat) (d : Bytes) : Bytes := splice d 6 (beBytes 2 (beAt d 6 2 ||| b))

/-- A cause of a latch falls on this boundary: causes of one boundary make one latch (R517, R519). -/
def latch (cause : Nat) (s : State) : State :=
  if s.tm.latched != [] && beAt s.tm.latched 16 8 = s.clk.tick && beAt s.tm.latched 8 8 = s.tm.dumpSeq then
    { s with tm := { s.tm with
      latched := dumpCause cause s.tm.latched
      buffers := s.tm.buffers.map fun d => if d.seq = s.tm.dumpSeq then { d with bytes := dumpCause cause d.bytes } else d } }
  else if s.tm.buffers.length ≥ 2 then
    if onceKey Ev.TM_LATCH_SKIPPED s.clk.tick s then s
    else raiseOnce Ev.TM_LATCH_SKIPPED s.clk.tick [.idx s.clk.tick] (count E.TM_LATCH_SKIPPED 1 s)
  else
    let n := s.tm.dumpSeq + 1
    let d := dumpBytes s cause n
    count E.TM_DUMPS 1 { s with tm := { s.tm with dumpSeq := n, latched := d, buffers := s.tm.buffers ++ [{ seq := n, bytes := d }] } }

/-- Latches that fall on the running boundary and have not been taken: they come before a clear (R526). -/
def latchDue (s : State) : State :=
  let s := if actLive s && s.ft.acts.any (fun x => x.2.record.code == 3 && actReady s x.2) then latch 2 s else s
  if s.dx.pending.any fun w => w.entry == E.TM_LATCH_NOW && w.tick.any (· ≤ s.clk.tick) && beAt w.body 0 1 == 1 then latch 4 s else s

/-- COUNTER_LATCH (R43, R517). -/
def execCounterLatch (n : Nat) (s : State) : Out := run (actFire n 3 fun _ s => latch 2 s) s

/-- Dumps that the GDDR7 ring holds (R518). -/
def dumpRingCap (s : State) : Nat := Cfg.TM_DUMP_RING_MIB s * 1048576 / 434432

/-- Size of the host area in dumps, and its base. -/
def dumpHost (s : State) : Nat × Nat :=
  let r := tabBytes s E.TM_DUMP_HOST (List.replicate 16 0)
  (beAt r 8 4 / 434432, beAt r 0 8)

/-- A host's port can carry a write. -/
def hostReach (s : State) (h : Nat) : Bool := (pcOf s h).linkUp && !(pcOf s h).perst

/-- Write one dump to its destination, or skip it. -/
def dumpWrite (d : Dump) (s : State) : State :=
  let dest := Cfg.TM_DUMP_DEST s
  let done := fun (s : State) => setNum E.TM_DUMP_WRITTEN d.seq { s with tm := { s.tm with written := d.seq } }
  if dest = 0 then done { s with tm := { s.tm with ring := SMap.set s.tm.ring (d.seq % dumpRingCap s) d.bytes } }
  else
    let (k, base) := dumpHost s
    if k = 0 || d.seq > Cfg.TM_DUMP_HOST_CONSUMED s + k || !hostReach s (dest - 1) then
      raiseOnce Ev.TM_DUMP_SKIPPED 0 [.u64 d.seq, .u8 dest] (count E.TM_DUMPS_SKIPPED 1 s)
    else done (emit (.hostDump (dest - 1) (base + d.seq % k * 434432) d.bytes) s)

/-- DUMP_COMPLETE (R518): the oldest dump in a latch buffer. After a trip none is written (R530). -/
def execDumpComplete (s : State) : Out :=
  run (fun s => match s.tm.buffers with
    | [] => s
    | d :: r => if s.hl.power = .off then s else dumpWrite d { s with tm := { s.tm with buffers := r } }) s

/-- The periodic latch of a frame boundary; none in Rest or after a trip (R517, R529). -/
def periodicLatch (s : State) : State :=
  let n := Cfg.TM_DUMP_FRAMES s
  if n = 0 || frameOf s % n != 0 || s.hl.power = .rest || s.hl.power = .off then s else latch 1 s

/-- `TM_CAPTURE_RESTART`: the ring is empty and capture goes on (R522). -/
def captureRestart (s : State) : State := { s with tm := { s.tm with captures := [], captureLen := 0, full := false } }

/-- New sampler records take effect: the match counts of the records written start from 0 (R520). -/
def samplerConfig (first n : Nat) (s : State) : State :=
  { s with tm := { s.tm with matchCount := s.tm.matchCount.filter fun m => !(first ≤ m.1 % 64 && m.1 % 64 < first + n) } }

end Sys2Proof.Machine
end

