-- ==== Sys2Proof/Machine/Resets.lean ====
section
/-! DEFINITION. Rest and wake (R428, R429, R446), the trip (R430), and warm and cold reset (R415, R462). -/
namespace Sys2Proof.Machine
open Sys2Proof

/-! ### What stops with forwarding -/

/-- Take every queued packet away. Open and MC packets count in `RP_WITHDRAW_DROPS` where a withdraw drops them (R461). -/
def dropAll (counted : Bool) (s : State) : State :=
  let s := if counted then count E.RP_WITHDRAW_DROPS s.dp.openq.length s else s
  let s := s.dp.openq.foldl (fun s x => openDrop 0 x s) s
  let s := scDrop (fun _ => true) 0 (fun _ s => s) s
  { s with
    dp := { s.dp with
      sc := [], openq := [], drawn := [], wire := [], cut := [], mcast := [], lent := [], lost := [], idle := [], orders := []
      cross := [], crossed := [] }
    tm := { s.tm with tracking := [] } }

/-- Change the power state and report it (R445). -/
def setPower (p : PowerSt) (s : State) : State :=
  if s.hl.power = p then s
  else raise Ev.PS_STATE [.u8 (powerCode p)] { s with hl := { s.hl with power := p } }

/-- The sync state of a part that does not carry traffic: STALE with a position FA, UNASSIGNED without (R453). -/
def syncIdle (reason : Nat) (s : State) : State :=
  let s := { s with rp := { s.rp with judged := false, resume := false, join := 0, joinTold := [], withdraw := none } }
  setSync (if posFa s = 0 then .unassigned else .stale) reason s

/-- Every lane enters TRAINING, but those that a power-up test took to FAULT (R312, R536); links, ports and neighbours
start anew with them (R137, R437). -/
def lanesTrain (keep : List (Nat × LaneSt)) (s : State) : State :=
  let dead := s.bi.deadLanes.filter fun k => k % 5 != 4
  let gone := s.bi.deadLanes.filter fun k => k % 5 == 4
  { s with
    op := { s.op with
      lanes := dead.foldl (fun m k => SMap.set m k .fault) keep
      reserves := gone.foldl (fun m k => SMap.set m (k / 5) .unavailable) []
      markers := [], roles := [], moves := [], faultSent := [], outbox := [], failed := [], copies := [], again := [], recent := [], back := [] }
    dp := { s.dp with ports := [] }
    links := s.links.map fun x => (x.1, linkTrain x.2)
    hl := { s.hl with neighbours := s.hl.neighbours.map fun x =>
      (x.1, if x.2.state == .fenced then x.2 else { x.2 with state := .unknown, counted := false, good := 0, frameSuspect := false }) }
    rp := { s.rp with heard := [] } }

/-! ### Rest and wake -/

/-- A cause wakes the part: 1 WAKE_N, 2 a command, 3 a rule. During the entry to Rest it waits for the entry's end (R446). -/
def wakeNow (cause : Nat) (s : State) : State :=
  if s.hl.power != .rest then s
  else if s.hl.entering then { s with hl := { s.hl with wakeAfter := some (s.hl.wakeAfter.getD cause) } }
  else setPower .waking { s with hl := { s.hl with wakeCause := cause, wakeStart := now s, wakeAfter := none } }

/-- A bank under run-time test is restored, and its test counts as not run (R546). -/
def bankTestsEnd (s : State) : State :=
  { s with bi := { s.bi with
    tests := []
    banks := (s.bi.tests.filter fun t => t.step != 0).foldl (fun m t =>
      let k := t.stack * 136 + t.bank
      SMap.update { state := .inService, replaces := 0xFF } m k fun b => { b with state := if t.spare then .spare else .inService }) s.bi.banks } }

/-- What entry to Rest does at its boundary (R428). A WAKE_N that is held wakes the part after the entry (R429, R446). -/
def restNow (s : State) : State :=
  let was := carries s
  let s := bankTestsEnd (latch 8 (streamAbandon s))
  let s := dropAll (s.rp.sync == .withdrawing) s
  let s := activeGone (nextGone .empty s)
  let s := dictRest (movesReturn (chutesClear 1 s))
  let s := syncIdle (if was then 2 else 1) { s with hl := { s.hl with restTick := none, gated := [] } }
  let s := { s with rp := { s.rp with judged := true } }
  let held := diAsserted s 3 && bit (Cfg.PS_WAKE_SOURCES s) 0
  setPower .rest { s with hl := { s.hl with entering := true, wakeAfter := if held then some 1 else none } }

/-- Whether a request of Rest is due and stands: a later write of its tick, or a timed action of it, takes its place (R9, R413). -/
def restDue (s : State) : Bool :=
  s.hl.restTick.any (· ≤ s.clk.tick) && dpLive s && s.frame == frameOf s
    && ((s.dx.pending.filter fun w => w.entry == E.PS_REQUEST && w.tick.any (· ≤ s.clk.tick)).getLast?.all fun w => beNat w.body == 2)
    && !(actLive s && s.ft.acts.any fun x => actReady s x.2 && x.2.record.code == 5 && dictEntry x.2.record == E.PS_REQUEST)

/-- REST_ENTRY (R428): at the boundary that the request named. -/
def execRestEntry (s : State) : Out :=
  run (fun s => if restDue s then restNow s else s) s

/-- REST_ENTRY_COMPLETE (R446). -/
def execRestEntryComplete (s : State) : Out :=
  run (fun s =>
    if s.hl.power = .rest && s.hl.entering then
      let s := { s with hl := { s.hl with entering := false } }
      match s.hl.wakeAfter with
      | some c => wakeNow c s
      | none => s
    else s) s

/-- The events of Rest go into the event ring at their places, oldest first (R529). -/
def mothEvents (s : State) : State :=
  { s with ev := { s.ev with ring := s.tm.mothRing.reverse.foldl (fun r e => ringPut e r) s.ev.ring }, tm := { s.tm with mothRing := [] } }

/-- WAKE_COMPLETE (R429): the face dies are up, and the lanes train. -/
def execWakeComplete (s : State) : Out :=
  run (fun s =>
    if s.hl.power != .waking then s
    else
      let us := (now s - s.hl.wakeStart) / 1000000
      let s := mothEvents (lanesTrain [] s)
      let s := setPower (if Cfg.PS_REQUEST s = 1 then .trim else .active) s
      let s := { s with
        hl := { s.hl with wakes := ((s.hl.wakeStart / tickPs, s.hl.wakeCause, us) :: s.hl.wakes).take 8 }
        rp := { s.rp with judged := false } }
      raise Ev.PS_WAKE [.u8 s.hl.wakeCause, .u32 us] s) s

/-! ### The trip (R430, R447) -/

/-- An event of a trip goes to 10BASE-T1S subscriptions only, and no ring is written (R530). -/
def tripEvent (code : Nat) (items : List Item) (s : State) : State :=
  let e : EventRec := { code := code, seq := s.ev.next, tick := s.clk.tick, items := items }
  let s := { s with ev := { s.ev with next := (s.ev.next + 1) % 2 ^ 32 } }
  let subs := s.dx.subs.filter fun b => match b.dest with | .t1s _ => true | _ => false
  subs.foldl (fun s b => toSub e b.num s) s

/-- A rule trips the part: `EV_HL_TRIP`, and the change of `PS_STATE` (R445). -/
def trip (rule input : Nat) (s : State) : State :=
  if s.hl.tripped then s
  else
    let s := tripEvent Ev.PS_STATE [.u8 (powerCode .off)] (tripEvent Ev.HL_TRIP [.u8 rule, .u16 input] s)
    let s := (s.op.els.filter fun x => x.2.state != .absent).foldl (fun s x =>
      (List.range 8).foldl (fun s i => setBias x.1 (i + 1) 0 s) s) (emit (.pin 2 false) s)
    let s := { s with
      hl := { s.hl with power := .off, offCause := 2, tripped := true, faultCause := s.hl.faultCause ||| 4,
                        restTick := none, entering := false, wakeAfter := none }
      dp := { s.dp with sc := [], openq := [], drawn := [], wire := [], cut := [], mcast := [], lent := [], lost := [], idle := [], crossed := [] }
      tm := { s.tm with buffers := [], ring := [], captures := [], captureLen := 0, staged := [], tracking := [] } }
    s

/-! ### Warm reset (R415, R462, R531, R540) -/

/-- Record a reset at its end: class, cause and duration (R478). -/
def resetRecord (cls cause us : Nat) (s : State) : State :=
  { s with rp := { s.rp with resets := ((s.rp.resetStart / tickPs, cls, cause, us) :: s.rp.resets).take 8 } }

/-- Device settings and counters that a reset of the class leaves: retained values after a warm reset (R381, R516). -/
def dictWarm (s : State) : State :=
  let keeps := fun e => (findEntry e).any (·.retained) || e == E.RP_WARM_RESETS || e == E.RP_COLD_RESETS
  { s with dict := { nums := s.dict.nums.filter fun x => keeps x.1, tabs := s.dict.tabs.filter fun x => keeps x.1 } }

/-- Tokens start as their reset bits select (R310). -/
def tokensReset (s : State) : State :=
  let s := ((List.range 4096).filter fun n => (shaperCfg s n).on).foldl (fun s n => shaperReset n s) { s with ot := { shapers := [], policers := [] } }
  ((List.range 4096).filter fun n => (policerCfg s n).on).foldl (fun s n => policerReset n s) s

/-- The lane on which each port's keep-alive goes on: the lowest in service of each direction. -/
def keepLanes (s : State) : List (Nat × LaneSt) :=
  (List.range 1024).foldl (fun m i =>
    match (List.range 4).find? fun l => laneSt s (i / 2) (i % 2) l == .inService with
    | some l => SMap.set m (laneKey (i / 2) (i % 2) l) .inService
    | none => m) []

/-- A warm reset starts (R462): cause 1 command, 2 escalation. Its lane leases start again with the held image (R457). -/
def warmReset (cause : Nat) (s : State) : State :=
  if s.hl.tripped || s.bi.state != 2 then s
  else
    let s := raise Ev.RP_RESET [.u8 2, .u8 cause] (bankTestsEnd (streamAbandon s))
    let s := allSessionsEnd s
    let s := { s with
      dx := { s.dx with pending := [], fetched := [], inbox := [], snaps := [], xfers := [] }
      pc := s.pc.map fun x => (x.1, { pcieReset with perst := x.2.perst, linkUp := x.2.linkUp }) }
    let s := nextGone .empty s
    let kept := keepLanes s
    let s := lanesTrain kept (chutesClear 2 (movesReturn s))
    let img := s.tt.active
    let s := { s with
      tt := { s.tt with
        selected := none, missed := [], blank := []
        leases := s.tt.leases.map fun x => if x.record.kind != 3 && x.state == 1 then { x with state := 0 } else x }
      op := { s.op with calFailed := [] }
      ft := { s.ft with stamps := [] }
      dp := { dpReset with nextId := s.dp.nextId }
      cr := { s.cr with
        recs := s.cr.recs.map fun x => (x.1, { x.2 with
          lastFrom := [], base := 0, closed := [], open' := [], done := 0, abandoned := 0, late := 0, windowDrops := 0, resultDrops := 0, refusals := 0 })
        partials := [], moves := [], results := [] }
      fm := { s.fm with sources := [], applies := [], outcomes := [] }
      tb := unlearnAll s.tb
      ev := { s.ev with acc := [], once := [] }
      tm := { s.tm with fixed := [], prog := [], buffers := [], tracking := [], staged := [], matchCount := [] }
      hl := { s.hl with restTick := none, gated := [], controllers := s.hl.controllers.map fun x => (x.1, { x.2 with heldCmds := [] }) }
      rp := { s.rp with resetClass := 2, resetStart := now s, importing := none, importState := 0, building := none
                        held := (img.map (·.epoch)).getD s.rp.held } }
    let s := clearProg (clearFixed (tokensReset (dictWarm s)))
    let s := count E.RP_WARM_RESETS 1 s
    let s := { s with rp := { s.rp with resets := ((now s / tickPs, 2, cause, 0) :: s.rp.resets).take 8 } }
    let s := syncIdle 3 s
    setPower .active { s with bi := { s.bi with state := 1, phase := 3, failed := 0, untested := 0, duration := 0 } }

/-- ACTIVE regions take new generations at release (R251). -/
def regionsRenew (s : State) : State :=
  ((s.fm.regions.filter fun x => x.2.state == .active).map (·.1)).foldl (fun s n =>
    let s := genBump n s
    match SMap.get? s.fm.regions n with
    | some r => regionEvent n (some .active) (some .active) r.gen s
    | none => s) s

/-- Benches whose slot is RETIRED or FAILED have their ports down (R467, R537). -/
def portsHeldDown (s : State) : State :=
  (List.range 128).foldl (fun s b => if benchServes s b then s else (List.range 4).foldl (fun s q => portOff (4 * b + q) s) s) s

/-- WARM_RESET_RELEASE (R462, R540). -/
def execWarmResetRelease (s : State) : Out :=
  run (fun s =>
    if s.bi.state != 1 || s.rp.resetClass != 2 then s
    else
      let us := (now s - s.rp.resetStart) / 1000000
      let log := match s.rp.resets with
        | (t, c, k, _) :: r => (t, c, k, us) :: r
        | [] => []
      let s := { s with bi := { s.bi with state := 2, phase := 6, duration := us / 1000 }, rp := { s.rp with resets := log, judged := false } }
      let s := raise Ev.BI_DONE [.u32 (us / 1000), .i32 s.bi.peak, .u32 s.bi.failed, .u32 s.bi.untested] s
      portsHeldDown (regionsRenew s)) s

/-! ### Cold reset (R462, R415, R381, R488) -/

/-- What no reset changes: the non-volatile store, the fuses and RETIRED marks, failed-bank marks, cell marks (R358), the level of every
pin, and fabric time, which the model lets run on until the generator's first lock steps it. -/
def coldClear (cause : Nat) (s : State) : State :=
  let benches := s.rp.bench.filter fun x => x.2.state == .retired
  { State.reset with
    clk := s.clk, frame := s.frame, out := s.out, free := s.free, pending := s.pending
    el := s.el
    pc := s.pc.map fun x => (x.1, { pcieReset with perst := x.2.perst })
    se := { s.se with running := 0, checking := false, reports := [] }
    hl := { hlReset with
      di := s.hl.di.map fun x => (x.1, { x.2 with filtered := x.2.raw, masked := false, stuck := false, edges := [], since := none })
      power := .active, offCause := 0, testIr := s.hl.testIr }
    ch := s.ch.map fun x => (x.1, { wingZero with faults := x.2.faults })
    bi := { biReset with banks := (bankTestsEnd s).bi.banks.filter fun x => x.2.state == .mappedOut || x.2.replaces != 0xFF }
    rp := { rpReset with bench := benches, resetClass := 3, resetStart := now s, resets := [(s.clk.tick, 3, cause, 0)] }
    dict := { nums := [(E.RP_COLD_RESETS, 1)], tabs := [] } }

/-- A cold reset: cause 1 command, 3 RST_N, 4 PWR_OK. FAULT_N, ATTN_N and THERM_TRIP_N rise with it (R433). -/
def coldReset (cause : Nat) (s : State) : State :=
  emit (.pin 2 true) (emit (.pin 1 true) (emit (.pin 0 true) (coldClear cause s)))

end Sys2Proof.Machine
end

