-- ==== Sys2Proof/Machine/Health.lean ====
section
/-! DEFINITION. The moth (chapter 14): rules, throttling, discrete inputs, neighbours, fences and watchdogs. -/
namespace Sys2Proof.Machine
open Sys2Proof

/-! ### Pins (R430, R433) -/

/-- A rule record of R422. -/
structure Rule where
  on : Bool
  act : Nat
  below : Bool
  hold : Nat
  first : Nat
  median : Nat
  shift : Nat
  /-- Ticks from one evaluation to the next. -/
  period : Nat
  count : Nat
  param : Nat
  set : Int
  clear : Int
deriving DecidableEq, Repr

/-- A rule record as its bytes. -/
def ruleBytes (act below period hold first count param : Nat) (set clear : Int) : Bytes :=
  beBytes 4 (2 ^ 31 + act * 2 ^ 28 + below * 2 ^ 27 + period * 2 ^ 25 + hold * 2 ^ 16 + first)
    ++ beBytes 4 (count * 2 ^ 16 + param) ++ beBytes 4 (ofSigned 32 set) ++ beBytes 4 (ofSigned 32 clear) ++ List.replicate 16 0

/-- The fixed rules (R424). The hold of rule 6 does not fit its field, which shows the largest value. -/
def fixedRules : List Bytes :=
  [ ruleBytes 5 0 1 2 0x0000 32 0 1680 1680, ruleBytes 5 0 1 2 0x0028 16 0 1440 1440, ruleBytes 5 1 0 100 0x2008 1 0 4300 6100,
    ruleBytes 3 0 1 2 0x0000 40 0x8020 1600 1520, ruleBytes 3 0 1 2 0x0028 16 0x8020 1360 1312, ruleBytes 1 0 1 16 0x003C 1 0 640 608,
    ruleBytes 3 0 0 255 0x200A 1 0x002F 30000 28000, ruleBytes 3 0 0 1 0xA002 1 0x001F 0 0 ]

/-- Default of `HL_RULES`: the fixed rules, all others disabled. -/
def rulesDefault : Bytes := fixedRules.flatten ++ List.replicate 7936 0

/-- Record of a rule. -/
def ruleOf (s : State) (n : Nat) : Rule :=
  let b := match SMap.get? s.dict.tabs E.HL_RULES with
    | some t => slice t (32 * n) 32
    | none => (fixedRules.drop n).head?.getD (List.replicate 32 0)
  let w := beAt b 0 4
  let x := beAt b 4 4
  { on := bit w 31, act := bits w 28 3, below := bit w 27, hold := if n = 6 then 1000 else bits w 16 8, first := bits w 0 16,
    median := bits x 28 4, shift := bits x 24 4, period := [1, 16, 1024].getD (bits w 25 2) 1024, count := bits x 16 8, param := bits x 0 16,
    set := toSigned 32 (beAt b 8 4), clear := toSigned 32 (beAt b 12 4) }

def ruleState (s : State) (n : Nat) : RuleState := SMap.getD s.hl.rules n { inputs := [], last := 0, fires := 0 }
def setRule (n : Nat) (x : RuleState) (s : State) : State := { s with hl := { s.hl with rules := SMap.set s.hl.rules n x } }

/-- Inputs of a rule that are asserted. -/
def ruleInputs (s : State) (n : Nat) : List Nat := ((ruleState s n).inputs.filter fun x => x.2.asserted).map (·.1)

/-- Level of an output GPO0 or GPO1 (R433): a set-output rule holds it while asserted. -/
def gpoLevel (s : State) (g : Nat) : Bool :=
  match (s.hl.rules.map (·.1)).find? fun n =>
    let r := ruleOf s n
    r.on && r.act == 6 && bits r.param 0 8 == g && !(ruleInputs s n).isEmpty with
  | some n => bit (ruleOf s n).param 8
  | none => bit (Cfg.HL_GPO s) g

/-- Level of an output pin. -/
def pinLevel (s : State) (p : Nat) : Bool :=
  if p = 0 then s.hl.faultCause == 0
  else if p = 1 then s.hl.attnCause == 0
  else if p = 3 then gpoLevel s 0
  else gpoLevel s 1

/-- Run an effect, and drive every pin whose level it changes. -/
def withPins (f : State → State) (s : State) : State :=
  let t := f s
  [0, 1, 3, 4].foldl (fun t p => if pinLevel t p = pinLevel s p then t else emit (.pin p (pinLevel t p)) t) t

def attn (b : Nat) (s : State) : State := { s with hl := { s.hl with attnCause := s.hl.attnCause ||| 2 ^ b } }
def fault (b : Nat) (s : State) : State := { s with hl := { s.hl with faultCause := s.hl.faultCause ||| 2 ^ b } }

/-! ### Discrete inputs (R431, R432) -/

def setDi (d : Nat) (x : DiState) (s : State) : State := { s with hl := { s.hl with di := SMap.set s.hl.di d x } }

/-- Default record of `HL_DI_CONFIG`. -/
def diDefault : Bytes := beBytes 2 10 ++ [16, 1] ++ beBytes 2 1 ++ beBytes 2 1000
def diCfg (s : State) (d : Nat) : Bytes := tabRec s E.HL_DI_CONFIG 8 d diDefault

/-- Glitch width of an input in ps. -/
def diWidth (s : State) (d : Nat) : Nat := beAt (diCfg s d) 0 2 * 100000

/-- What a filtered assertion does at once. -/
def diActs (d : Nat) (s : State) : State :=
  if d = 3 && bit (Cfg.PS_WAKE_SOURCES s) 0 then wakeNow 1 s
  else if d = 4 then raise Ev.HL_ATTN_IN [] s
  else s

/-- The filter takes the raw level, at the instant at which it has held for the glitch width: the chatter detector sees the
transition. -/
def diTake (d : Nat) (s : State) : State :=
  let x := diOf s d
  let c := diCfg s d
  let t := x.rawAt + diWidth s d
  let edges := if d < 2 then [] else (x.edges ++ [t]).filter fun u => t < u + beAt c 4 2 * 1000000000
  let y := { x with filtered := x.raw, edges := edges, since := if x.raw then some t else none, stuck := x.stuck && x.raw }
  if d ≥ 2 && !x.masked && edges.length > beAt c 2 1 then
    raise Ev.HL_DI_CHATTER [.u8 d] (attn 0 (count E.HL_DI_CHATTER 1 (setDi d { y with masked := true, stuck := false } s)))
  else
    let s := setDi d y s
    if x.raw && !x.masked then diActs d s else s

/-- Take a level that has held for the glitch width. -/
def diSettle (d : Nat) (s : State) : State :=
  let x := diOf s d
  if x.raw != x.filtered && now s ≥ x.rawAt + diWidth s d then diTake d s else s

/-- Every input, as time passes. -/
def diTick (s : State) : State := (s.hl.di.map (·.1)).foldl (fun s d => diSettle d s) s

/-- DISCRETE_INPUT_CHANGE (R431, R432): an input takes a level; every input is asserted low. -/
def execDiscreteInputChange (d : Nat) (level : Bool) (at_ : At) (s : State) : Out :=
  runAt at_ (fun s =>
    if d ≥ 7 then s
    else withPins (fun s =>
      let s := diSettle d s
      let x := diOf s d
      if x.raw = !level then s
      else
        let s := if x.raw != x.filtered then count E.HL_DI_GLITCHES 1 s else s
        setDi d { x with raw := !level, rawAt := now s } s) s) s

/-- DI_STUCK_EXPIRY (R431, R432). -/
def execDiStuckExpiry (d : Nat) (s : State) : Out :=
  let x := diOf s d
  let c := diCfg s d
  let alarm := d ≥ 2 && d < 7 && diAsserted s d && !x.stuck && (d < 5 || beAt c 3 1 == 1)
  runDue (if alarm then x.since.map (· + beAt c 6 2 * 1000000000) else none)
    (withPins fun s => raise Ev.HL_DI_STUCK [.u8 d] (attn 1 (setDi d { diOf s d with stuck := true } s))) s

/-- A write to `HL_DI_UNMASK` (R432, R451). An input that is held reads asserted from now on, which is an assertion. DEDUCED, log
entry 58. -/
def diUnmask (m : Nat) (s : State) : State :=
  ((List.range 7).filter fun d => bit m d && (diOf s d).masked).foldl (fun s d =>
    let x := diOf s d
    let s := setDi d { x with masked := false, edges := [], since := if x.filtered then some (now s) else none } s
    if x.filtered then diActs d s else s) s

/-! ### Latched causes (R433, R444) -/

/-- Conditions of attention bits that persist: masked and stuck inputs, SUSPECT neighbours, rule 5. -/
def attnNow (s : State) : Nat :=
  b2n (s.hl.di.any fun x => x.2.masked) + 2 * b2n (s.hl.di.any fun x => x.2.stuck)
    + 4 * b2n (s.hl.neighbours.any fun x => x.2.state == .suspect) + 16 * b2n (!(ruleInputs s 5).isEmpty)

/-- Conditions of fault bits that persist: an escalation within its second, the moth restarting, a trip. -/
def faultNow (s : State) : Nat :=
  b2n (s.hl.controllers.any fun x => (x.2.restarts.filter fun t => now s < t + 10 ^ 12).length ≥ Cfg.HL_WDT_ESCALATE_COUNT s)
    + 2 * b2n s.hl.mothRestarting + 4 * b2n s.hl.tripped

def clearBits (v m : Nat) : Nat := v - (v &&& m)

/-- Writes of 1s to `HL_FAULT_CLEAR` and `HL_ATTN_CLEAR`. The spec does not say whether a 1 in a place whose cause bit is reserved is
refused: the model accepts it, and it clears nothing. DESIGN CHOICE, log entry 38. -/
def faultClear (m : Nat) (s : State) : State :=
  withPins (fun s => { s with hl := { s.hl with faultCause := clearBits s.hl.faultCause m ||| (faultNow s &&& m) } }) s
def attnClear (m : Nat) (s : State) : State :=
  withPins (fun s => { s with hl := { s.hl with attnCause := clearBits s.hl.attnCause m ||| (attnNow s &&& m) } }) s

/-! ### Rules (R420 to R424) -/

/-- Latest value of an input that the part itself holds. -/
def inputValue (s : State) (sel : Nat) (v : Int) : Int :=
  let i := sel % 8192
  match sel / 8192 with
  | 3 => monitor s i
  | 5 => if diAsserted s i then 1 else 0
  | 6 => ((nbOf s i).age : Int)
  | 2 => reading s 2 i
  | 4 => reading s 4 i
  | _ => v

/-- The die of an input (R423): the face die, bed die or strata stack, or the face die of its wing. -/
def inputDie (sel : Nat) : Option Nat :=
  let i := sel % 8192
  match sel / 8192 with
  | 0 => if i < 32 then some (i / 8) else if i < 40 then some ((i - 32) / 2) else if i < 56 then some ((i - 40) / 4)
         else if i < 60 then some (i - 56) else none
  | 1 => if i < 8 then some (i % 4) else none
  | 2 => if i < 5120 then some (i / 10 / 128) else none
  | 3 => if i < 640 then some (i / 160) else if i < 3200 then some ((i - 640) / 640) else if i < 5760 then some ((i - 3200) / 640)
         else if i < 6272 then some ((i - 5760) / 128) else none
  | 4 => if i < 800 then some (i / 200) else none
  | _ => none

/-- Port, direction and lane that a move-lane action names: those of a ring, or of a monitor; a feed tap names the lanes
of the four ports it feeds. -/
def inputLanes (sel : Nat) : List (Nat × Nat × Nat) :=
  let i := sel % 8192
  if sel / 8192 = 2 then [(i / 10, i % 10 / 5, i % 5)]
  else if sel / 8192 != 3 then []
  else if i < 640 then (List.range 4).map fun j => (32 * (i / 40) + 4 * (i % 40 / 5) + j, 0, i % 5)
  else if i < 3200 then [((i - 640) / 5, 0, i % 5)]
  else if i < 5760 then [((i - 3200) / 5, 1, i % 5)]
  else []

/-- One evaluation of an input's filter (R421). -/
def filterStep (r : Rule) (x : RuleInput) (v : Int) : RuleInput :=
  let vals := (v :: x.vals).take (if r.median = 1 then 3 else if r.median = 2 then 5 else 1)
  let m : Rat := (median vals : Int)
  let f := match x.f with
    | none => m
    | some f => if r.shift = 0 then m else f + (m - f) / (2 ^ r.shift : Nat)
  { x with vals := vals, f := some f }

/-- Whether a filtered value is beyond the set threshold; rule 2 has two bounds. -/
def setHit (n : Nat) (r : Rule) (f : Rat) : Bool :=
  if n = 2 then f < (4300 : Rat) || (6100 : Rat) < f else if r.below then f < (r.set : Rat) else (r.set : Rat) < f
def clearHit (n : Nat) (r : Rule) (f : Rat) : Bool :=
  if n = 2 then !setHit n r f else if r.below then (r.clear : Rat) ≤ f else f ≤ (r.clear : Rat)

/-- A move-lane action, taken or tried again (R423, R452). -/
def moveTry (sel : Nat) (s : State) : State :=
  ((inputLanes sel).filter fun x => x.2.2 < 4).foldl (fun s x => movePropose x.1 x.2.1 x.2.2 6 s) s

/-- Whether a move-lane action is still to be taken: some lane it names has no move. -/
def moveOpen (s : State) (sel : Nat) : Bool :=
  (inputLanes sel).any fun x => x.2.2 < 4 && !s.op.moves.any fun m => m.port == x.1 && m.dir == x.2.1 && m.src == x.2.2 && m.state == .inForce

/-- What an assertion does (R422, R423). -/
def ruleAct (n : Nat) (r : Rule) (sel : Nat) (f : Rat) (s : State) : State :=
  let s := count E.HL_RULE_FIRES 1 s
  let s := if r.act = 0 then s else raise Ev.HL_RULE [.u8 n, .u16 sel, .i32 f.floor] s
  let s := if n = 5 then attn 4 s else s
  match r.act with
  | 2 => moveTry sel s
  | 4 => if bit (Cfg.PS_WAKE_SOURCES s) 1 then wakeNow 3 s else s
  | 5 => trip n sel s
  | _ => s

/-- An input of a rule before its first evaluation. -/
def ruleInputZero : RuleInput := { vals := [], f := none, setRun := 0, clearRun := 0, asserted := false, again := false, evalAt := none }

/-- One evaluation of one input of a rule, at its period. -/
def ruleStep (n i : Nat) (v : Int) (s : State) : State :=
  let r := ruleOf s n
  let sel := r.first + i
  if !r.on || i ≥ r.count || s.hl.power == .off || (s.hl.mothRestarting && n ≥ 3) then s
  else
    let s := if sel < 0x4000 then setReading (sel / 8192) (sel % 8192) v s else s
    let st := ruleState s n
    let was := SMap.getD st.inputs i ruleInputZero
    if was.evalAt.any fun t => s.clk.tick < t + r.period then s
    else
    let x := { filterStep r was (inputValue s sel v) with evalAt := some s.clk.tick }
    let f := x.f.getD 0
    let up := if setHit n r f then min (x.setRun + 1) r.hold else 0
    let down := if clearHit n r f then min (x.clearRun + 1) r.hold else 0
    let on := if x.asserted then down < r.hold else r.hold ≤ up
    let fires := on && !x.asserted
    let again := on && (fires || x.again) && r.act == 2 && (fires || moveOpen s sel)
    let x := { x with setRun := up, clearRun := down, asserted := on, again := again }
    let s := setRule n { st with inputs := SMap.set st.inputs i x, last := f.floor, fires := st.fires + b2n fires } s
    if fires then ruleAct n r sel f s else if again then moveTry sel s else s

/-- RULE_EVALUATE (R422): one input of a rule. -/
def execRuleEvaluate (rule : Fin 256) (input : Nat) (v : Int) (s : State) : Out := run (withPins (ruleStep rule input v)) s

/-- Rules whose records change start anew. -/
def rulesWritten (old new : Bytes) (s : State) : State :=
  { s with hl := { s.hl with rules := s.hl.rules.filter fun x => slice old (32 * x.1) 32 == slice new (32 * x.1) 32 } }

/-- Level a die is to have (R425): the highest that an asserted rule names for it. -/
def throttleWanted (s : State) (d : Nat) : Nat :=
  (s.hl.rules.map (·.1)).foldl (fun m n =>
    let r := ruleOf s n
    let ins := ruleInputs s n
    let hit := if bit r.param 15 then ins.any fun i => inputDie (r.first + i) == some d else !ins.isEmpty && bit r.param d
    if r.on && r.act == 3 && hit then max m (bits r.param 4 2) else m) 0

/-- Throttle levels change at a tick boundary (R425). -/
def throttleTick (s : State) : State :=
  (List.range 4).foldl (fun s d =>
    let old := throttleOf s d
    let new := throttleWanted s d
    if old = new then s
    else raise Ev.HL_THROTTLE [.u8 d, .u8 old, .u8 new] { s with hl := { s.hl with throttle := SMap.put 0 s.hl.throttle d new } }) s

/-! ### Power requests (R427 to R429, R461) -/

/-- A withdraw is accepted (R461): reason 1 command, 2 Rest, 3 warm reset, 4 cold reset. The event of the part's own
withdraw names no port. -/
def withdrawAccept (frame loss reason : Nat) (s : State) : State :=
  let s := { s with rp := { s.rp with withdraw := some { frame := frame, lossSet := loss, reason := reason, told := [] }
                                      notices := (s.rp.notices + 1) % 2 ^ 32 } }
  setSync .withdrawing 4 (raise Ev.RP_WITHDRAW [.u16 0xFFFF, .u8 1, .idx frame] s)

/-- A request of Rest is accepted for a frame boundary. -/
def restAccept (tick : Nat) (s : State) : State :=
  let s := { s with hl := { s.hl with restTick := some tick } }
  if s.rp.sync = .current then withdrawAccept (tick / 1024) (Cfg.RP_LOSS_SET s) 2 s
  else if s.rp.sync = .joining then
    setSync .stale 5 (nextGone .empty { s with rp := { s.rp with join := 0, joinTold := [] } })
  else s

/-- A request of Active or Trim takes effect. -/
def powerEffect (v : Nat) (s : State) : State :=
  if s.hl.power = .rest then wakeNow 2 s
  else if s.hl.power = .active && v = 1 then setPower .trim s
  else if s.hl.power = .trim && v = 0 then setPower .active { s with hl := { s.hl with gated := [] } }
  else s

/-- Whether a logical bench is needed in the running frame's state: packets of its ports, requests, regions, flags. -/
def benchQueued (s : State) (b : Nat) : Bool :=
  s.dp.openq.any (fun x => benchOf x.egress == b)
    || (List.range 4).any (fun q => s.dp.sc.any fun x => scWaits s (4 * b + q) x)
    || s.cr.results.any (fun x => benchOf x.port == b)

def benchAsked (s : State) (b : Nat) : Bool := s.fm.applies.any fun a => rqBench s a.req == some b

/-- Benches gated for the frame that begins (R427). -/
def trimGate (s : State) : State :=
  if s.hl.power != .trim then s
  else
    let t0 := s.clk.tick
    let used : List Nat := match s.tt.active with
      | none => []
      | some img =>
        let ks := (List.range 1024).map fun i => periodTick img (t0 + i)
        ((allRefs img s.tt.variant).filter fun (r : Nat × Nat × Nat) => ks.contains r.1).map (·.2.1)
    let trees : List Nat := match s.tt.active with
      | none => []
      | some img => img.recipes.flatMap fun (r : Nat × Recipe) => r.2.benches
    let free := (List.range 128).filter fun b =>
      !used.contains b && !trees.contains b && !benchQueued s b
        && !(s.fm.regions.any fun x => x.2.state == .active && servingBench x.1 x.2 == b)
        && !(s.fm.sources.any fun x => homeBench x.1 == b && !x.2.held.isEmpty)
    { s with hl := { s.hl with gated := free } }

/-- TRIM_BENCH_WAKE (R427): a gated bench that a packet or a request needs. -/
def execTrimBenchWake (b : PhysBench) (s : State) : Out :=
  run (fun s =>
    match s.hl.gated.find? fun l => physBench s l == b.val with
    | none => s
    | some l =>
      if benchQueued s l || benchAsked s l then
        let s := count E.PS_TRIM_WAKES 1 { s with hl := { s.hl with gated := s.hl.gated.filter (· != l) } }
        (List.range 4).foldl (fun s q => portTouch (4 * l + q) s) s
      else s) s

/-! ### Heartbeats and neighbours (R434 to R438, R448, R480) -/

/-- Body of the next heartbeat (R434). -/
def heartbeatBody (s : State) : Bytes :=
  let power := match s.hl.power with | .active => 0 | .trim => 1 | _ => 2
  let flags := b2n (s.hl.faultCause != 0) * 2 ^ 15 + b2n (!s.hl.throttle.isEmpty) * 2 ^ 14 + b2n (bit s.hl.faultCause 0) * 2 ^ 13
  let suspects := min 0xFFFF (s.hl.neighbours.filter fun x => x.2.state == .suspect).length
  beBytes 4 (2 ^ 24 + power * 2 ^ 16 + flags) ++ beBytes 4 s.hl.hbCounter ++ beBytes 8 s.clk.tick ++ beBytes 4 (posFa s)
    ++ beBytes 4 (suspects * 2 ^ 16) ++ List.replicate 8 0

/-- Send a heartbeat by a port; none while the moth restarts (R435, R443). -/
def heartbeatSend (p : Nat) (s : State) : State :=
  if s.hl.mothRestarting || (lowLane s p).isNone then s
  else
    let s := { s with hl := { s.hl with hbCounter := (s.hl.hbCounter + 1) % 2 ^ 32 } }
    sendLocal p Op.HEARTBEAT (heartbeatBody s) s

/-- FA of a port's partner (R123). -/
def partnerFa (s : State) (p : Nat) : Nat := beAt (linkOf s p).partner 16 4 % 2 ^ 24

/-- A neighbour becomes ALIVE. -/
def nbAlive (p : Nat) (s : State) : State :=
  raise Ev.HL_ALIVE [.u16 p] (setNb p (fun n => { n with state := .alive, good := 0, frameSuspect := false }) s)

/-- HEARTBEAT_RECEIVED (R436, R437). -/
def execHeartbeatReceived (p : Port) (k : Packet) (s : State) : Out :=
  run (fun s =>
    let s := hearEpoch p k (fromInbox p k s)
    let b := pkBody k
    let fa := beAt b 16 4 % 2 ^ 24
    let n := nbOf s p
    if pkOp k != Op.HEARTBEAT || !pkCrcOk k || !(linkOf s p).params || fa != partnerFa s p then setNb p (fun n => { n with good := 0 }) s
    else if n.counted && !serialAfter 32 (beAt b 4 4) n.counter then
      count E.HL_HB_STALE 1 (setNb p (fun n => { n with good := 0 }) s)
    else
      let s := count E.HL_HB_RECEIVED 1 (setNb p (fun n =>
        { n with fa := fa, power := beAt b 1 1, age := 0, counter := beAt b 4 4, counted := true }) s)
      match n.state with
      | .unknown => nbAlive p s
      | .alive | .fenced => s
      | .suspect =>
        if n.good + 1 ≥ Cfg.HL_HB_CLEAR_COUNT s then nbAlive p s else setNb p (fun n => { n with good := n.good + 1 }) s) s

/-- Ages grow with the ticks, but not while a port's ingress is blanked or chuted (R437). -/
def ageTick (s : State) : State :=
  let up := fun (x : Nat × Neighbour) => if darkIn s x.1 then x else (x.1, { x.2 with age := x.2.age + 1 })
  { s with hl := { s.hl with neighbours := s.hl.neighbours.map up } }

/-- Age past which a neighbour is SUSPECT. -/
def ageLimit (s : State) : Nat := Cfg.HL_HB_MISS_LIMIT s * Cfg.HL_HB_INTERVAL_TICKS s + 2

/-- NEIGHBOUR_SUSPECT (R437); not for a partner that has withdrawn (R480). -/
def execNeighbourSuspect (p : Port) (s : State) : Out :=
  run (fun s =>
    let n := nbOf s p
    if n.state != .alive || n.age ≤ ageLimit s || partnerLeft s p then s
    else withPins (fun s => raise Ev.HL_SUSPECT [.u16 p] (attn 2 (count E.HL_SUSPECTS 1
      (setNb p (fun n => { n with state := .suspect, good := 0, frameSuspect := false }) s)))) s) s

def nbCode : NbSt → Nat
  | .unknown => 0
  | .alive => 1
  | .suspect => 2
  | .fenced => 3

/-- Evidence about one neighbour at a frame boundary (R438, R448). -/
def evidencePort (p : Nat) (n : Neighbour) (s : State) : State :=
  let kind := if n.state = .suspect && n.frameSuspect && n.power != 2 && n.pkts ≥ Cfg.HL_EVIDENCE_PKTS s then 1
    else if n.state = .alive && n.missing ≥ Cfg.HL_MISSING_LIMIT s then 2 else 0
  let s := setNb p (fun n => { n with pkts := 0, missing := 0, frameSuspect := n.state == .suspect }) s
  if kind = 0 then s
  else raise Ev.HL_EVIDENCE [.u16 p, .u8 kind, .u8 (nbCode n.state), .u32 n.pkts, .u32 n.missing]
    (attn 3 (count E.HL_EVIDENCE_CONFLICTS 1 s))

def evidenceFrame (s : State) : State := s.hl.neighbours.foldl (fun s x => evidencePort x.1 x.2 s) s

/-! ### Fences (R439, R440, R449, R450, R501, R502) -/

/-- A signature over a message that verifies under a public key (R485): 96 bytes. -/
def signature (key msg : Bytes) : Bytes := beBytes 96 (Config.ecdsaSome key msg).toNat

/-- Whether a signature over a message verifies under a public key (R485). -/
def verify (key msg sig : Bytes) : Bool := sig == signature key msg || Config.ecdsaOther key msg sig

/-- State and key of a manager record (R500). -/
def managerKey (s : State) (i : Nat) : Option Bytes :=
  let r := slice s.se.managers (112 * i) 112
  if i < 16 && beAt r 0 1 == 1 then some (slice r 8 97) else none

/-- Whether a certificate has the form of R501. -/
def certForm (b : Bytes) : Bool :=
  let c := beAt b 0x20 1
  let keys := (List.range c).map fun i => beAt b (0x28 + 104 * i) 1
  beAt b 0 4 == 0x57435254 && (beAt b 4 1 == 1 || beAt b 4 1 == 2) && beAt b 0xC 4 == 0 && beAt b 0x18 8 == 0
    && 1 ≤ c && c ≤ 16 && beAt b 0x21 7 == 0 && b.length == 40 + 104 * c
    && keys.all (· < 16) && keys.Nodup
    && (List.range c).all fun i => beAt b (0x28 + 104 * i + 1) 7 == 0

/-- Entries of a certificate that count, and those that do not (R502). -/
def certCount (s : State) (b : Bytes) : Nat × Nat :=
  let c := beAt b 0x20 1
  let good := ((List.range c).filter fun i => match managerKey s (beAt b (0x28 + 104 * i) 1) with
    | some k => verify k (b.take 0x20) (slice b (0x28 + 104 * i + 8) 96)
    | none => false).length
  (good, c - good)

/-- A certificate is refused; the manual gives the reasons no codes. -/
def certRefuse (reason : Nat) (s : State) : State :=
  raise Ev.HL_CERT_REFUSED [.u8 (Config.openFn 23 [reason] % 256)] (count E.HL_CERT_REFUSED 1 s)

/-- A certificate is judged (R439): accepted, or refused with the reason counted. -/
def certSubmit (b : Bytes) (s : State) : State × Bool :=
  if !certForm b then (certRefuse 1 s, false)
  else
    let (good, bad) := certCount s b
    let s := count E.SE_CERT_SIG_FAILED bad s
    let kind := beAt b 4 1
    let fa := beAt b 5 3
    let num := beAt b 8 4
    let t := beAt b 16 8
    if good < s.se.quorum then (certRefuse 2 s, false)
    else if num ≤ getNum s E.HL_CERT_COUNTER 0 then (certRefuse 3 s, false)
    else if fa = posFa s then (certRefuse 4 s, false)
    else if t > s.clk.tick + 2 ^ 20 then (certRefuse 5 s, false)
    else if kind = 1 && s.hl.fences.length ≥ 1024 then (certRefuse 6 s, false)
    else
      let c : Cert := { expel := kind == 1, fa := fa, num := num, tick := if t ≤ s.clk.tick then s.clk.tick + 1 else t }
      let s := setNum E.HL_CERT_COUNTER num s
      let s := { s with hl := { s.hl with certs := s.hl.certs ++ [c], fences := if c.expel then s.hl.fences ++ [c] else s.hl.fences } }
      (raise Ev.HL_CERT_ACCEPTED [.u8 kind, .u32 fa, .u32 num, .idx c.tick] s, true)

/-- Ports whose partner has an FA. -/
def portsOf (s : State) (fa : Nat) : List Nat := (s.links.filter fun x => x.2.params && partnerFa s x.1 == fa).map (·.1)

/-- A port is fenced: DOWN with no flap hold. -/
def portFence (p : Nat) (s : State) : State := setNb p (fun n => { n with state := .fenced }) (portOff p s)
/-- A port is no longer fenced. -/
def portUnfence (p : Nat) (s : State) : State :=
  if (nbOf s p).state = .fenced then setNb p (fun n => { n with state := .unknown, counted := false, age := 0 }) s else s

/-- Ports follow the fences as partners become known. -/
def fenceSweep (s : State) : State :=
  s.links.foldl (fun s x =>
    let hit := x.2.params && fenced s (partnerFa s x.1)
    let was := (nbOf s x.1).state == .fenced
    if hit && !was then portFence x.1 s else if !hit && was && x.2.params then portUnfence x.1 s else s) s

def certNth (s : State) (n : Nat) (expel : Bool) : Option Cert :=
  ((s.hl.certs.drop n).head?).filter fun c => c.expel == expel && c.tick ≤ s.clk.tick

/-- FENCE_EFFECT (R440): the n-th accepted certificate. One of the same tick with a higher number stands instead. -/
def execFenceEffect (n : Nat) (s : State) : Out :=
  run (fun s => match certNth s n true with
    | none => s
    | some c =>
      let s' := { s with hl := { s.hl with certs := listErase s.hl.certs n } }
      if s.hl.certs.any fun x => !x.expel && x.fa == c.fa && x.tick == c.tick && x.num > c.num then
        { s' with hl := { s'.hl with fences := s'.hl.fences.filter (· != c) } }
      else
        let ports := portsOf s' c.fa
        let s := fenceMemory c.fa s'
        let s := ports.foldl (fun s p => portFence p s) s
        let s := match streamReceiving s with
          | some x => if x.peer = c.fa then streamAbandon s else s
          | none => s
        raise Ev.HL_FENCE [.u32 c.fa, .u8 1, .units ports] s) s

/-- READMISSION_EFFECT (R440). -/
def execReadmissionEffect (n : Nat) (s : State) : Out :=
  run (fun s => match certNth s n false with
    | none => s
    | some c =>
      let s := { s with hl := { s.hl with certs := listErase s.hl.certs n } }
      let stands := fun (x : Cert) => x.fa == c.fa && x.tick == c.tick && x.num > c.num
      if s.hl.fences.any stands || s.hl.certs.any (fun x => x.expel && stands x) then s
      else
        let gone := fun (x : Cert) => x.expel && x.fa == c.fa && x.tick ≤ c.tick
        let ports := (s.hl.neighbours.filter fun x => x.2.state == .fenced && partnerFa s x.1 == c.fa).map (·.1)
        let s := { s with hl := { s.hl with fences := s.hl.fences.filter (fun x => !gone x), certs := s.hl.certs.filter fun x => !gone x } }
        let s := ports.foldl (fun s p => portUnfence p s) s
        raise Ev.HL_FENCE [.u32 c.fa, .u8 0, .units ports] s) s

/-! ### Watchdogs (R441 to R443) -/

/-- The moth restarts a controller. -/
def controllerRestart (d : Nat) (s : State) : State :=
  let c := controllerOf s d
  let rs := now s :: c.restarts.filter fun t => now s < t + 10 ^ 12
  let s := setController d (fun c => { c with restarting := true, restarts := rs, lastTick := s.clk.tick, challenge := none }) s
  let s := raise Ev.HL_WDT_RESTART [.u8 d] (count E.HL_WDT_RESTARTS 1 s)
  if rs.length ≥ Cfg.HL_WDT_ESCALATE_COUNT s then
    let s := raise Ev.HL_WDT_ESCALATE [.u8 d] (fault 0 s)
    if Cfg.HL_WDT_ESCALATE_ACTION s = 1 then warmReset 2 s else s
  else s

/-- WDT_CHALLENGE (R441): the answer to the challenge before is judged, and a fresh one goes out. -/
def execWdtChallenge (die : Die) (answered : Bool) (s : State) : Out :=
  let c := controllerOf s die
  runDue (if c.restarting || s.hl.mothRestarting || s.hl.power == .off then none else some c.nextAt) (withPins fun s =>
    let c := controllerOf s die
    if c.challenge.isSome && !answered then controllerRestart die s
    else
      let (v, s) := freshNat 70 s
      let v := v % 2 ^ 32
      emit (.challenge die v) (setController die (fun c => { c with challenge := some v, nextAt := now s + Cfg.HL_WDT_US s * 1000000 }) s)) s

/-- A controller serves again: its events go out in order (R441). -/
def controllerBack (d : Nat) (s : State) : State :=
  let es := (controllerOf s d).heldEvents
  let s := setController d (fun c => { c with restarting := false, heldEvents := [], nextAt := now s + Cfg.HL_WDT_US s * 1000000 }) s
  es.foldl (fun s e => if d % 2 = 0 then hostQueue e (d / 2) s else s) s

/-- MOTH_WATCHDOG_EXPIRY (R443): rules 0 to 2 run on. -/
def execMothWatchdogExpiry (s : State) : Out :=
  run (withPins fun s =>
    if s.hl.mothRestarting || s.hl.power == .off then s
    else
      let s := { s with hl := { s.hl with mothRestarting := true, rules := s.hl.rules.filter fun x => x.1 < 3 } }
      raise Ev.HL_MOTH_RESTART [] (count E.HL_MOTH_RESTARTS 1 (fault 1 s))) s

/-- MOTH_RESTART_DONE (R443). -/
def execMothRestartDone (s : State) : Out := run (fun s => { s with hl := { s.hl with mothRestarting := false } }) s

end Sys2Proof.Machine
end

