-- ==== Sys2Proof/Machine/Security.lean ====
section
/-! DEFINITION. Firmware slots, owner and manager keys, signed writes and attestation (chapter 16). -/
namespace Sys2Proof.Machine
open Sys2Proof

/-- SHA-384 as 48 bytes. -/
def sha (b : Bytes) : Bytes := beBytes 48 (Config.sha384 b).toNat

/-- Prime and coefficients of brainpoolP384r1 (RFC 5639, which R485 names). PRESUMED: the numbers stand in that RFC. -/
def curveP : Nat := 0x8CB91E82A3386D280F5D6F7E50E641DF152F7109ED5456B412B1DA197FB71123ACD3A729901D1A71874700133107EC53
def curveA : Nat := 0x7BC382C63D8C150C3C72080ACE05AFA0C2BEA28E4FB22787139165EFBA91F90F8AA5814A503AD4EB04A8C7DD22CE2826
def curveB : Nat := 0x04A8C7DD22CE28268B39B55416F0447C2FB77DE107DCD2A62E880EA53EEB62D57CB4390295DBC9943AB78696FA504C11

/-- Whether 97 bytes are a point of the curve (R485). -/
def keyOk (k : Bytes) : Bool :=
  let x := beAt k 1 48
  let y := beAt k 49 48
  k.length == 97 && beAt k 0 1 == 4 && x < curveP && y < curveP && (y * y) % curveP == (x * x * x + curveA * x + curveB) % curveP

/-! ### Firmware (R489 to R494) -/

def fwSlot (s : State) (n : Nat) : FwSlot := SMap.getD s.se.slots n { state := 0, image := [] }
def setFw (n : Nat) (x : FwSlot) (s : State) : State := { s with se := { s.se with slots := SMap.set s.se.slots n x } }

/-- Security version of an image. -/
def fwVersion (b : Bytes) : Nat := beAt b 0x10 1

/-- One component's row of the table: kind, offset, length, digest. -/
def fwComponent (b : Bytes) (i : Nat) : Bytes := slice b (0x20 + 64 * i) 64

def zeros (b : Bytes) (off n : Nat) : Bool := beAt b off n == 0

/-- Whether a manifest meets R489, its length and reserved fields included. The owner fields, which an unowned part ignores, are
judged with the owner's key (R490). -/
def manifestOk (b : Bytes) : Bool :=
  let n := beAt b 0x11 1
  beAt b 0 4 == 0x5746574D && beAt b 4 2 == 1 && beAt b 6 2 ≥ 0x0400 && beAt b 8 4 == b.length && b.length ≤ 67108864
    && b.length ≥ 864 && fwVersion b ≤ 128 && 1 ≤ n && n ≤ 8 && zeros b 0x12 14
    && (List.range 8).all (fun i =>
      let c := fwComponent b i
      if i < n then
        1 ≤ beAt c 0 1 && beAt c 0 1 ≤ 4 && zeros c 1 3 && zeros c 12 4 && beAt c 4 4 % 64 == 0 && 864 ≤ beAt c 4 4
          && beAt c 4 4 + beAt c 8 4 ≤ b.length
      else zeros c 0 64)
    && zeros b 0x281 15 && zeros b 0x2F1 15

def componentsOk (b : Bytes) : Bool :=
  (List.range (beAt b 0x11 1)).all fun i =>
    let c := fwComponent b i
    sha (slice b (beAt c 4 4) (beAt c 8 4)) == slice c 16 48

def ownerKey (s : State) (n : Nat) : OwnerKey := SMap.getD s.se.owners n { state := 0, key := [], hash := [] }

/-- A key whose hash differs from its fuses is treated as revoked (R487). -/
def ownerGood (s : State) (n : Nat) : Bool :=
  let k := ownerKey s n
  n < 4 && k.state == 1 && sha k.key == k.hash

/-- Whether the part is owned: some slot is enrolled, even if it is revoked since (R495). -/
def owned (s : State) : Bool := s.se.owners.any fun x => x.2.state != 0

/-- The first failure of an image under R490, in the numbers of R492; 0 where it is valid. -/
def fwReason (s : State) (b : Bytes) : Nat :=
  if !manifestOk b then 1
  else if !componentsOk b then 2
  else if sha (slice b 0x220 97) != Config.moduleBytes E.SE_VENDOR_KEY_HASH || !keyOk (slice b 0x220 97)
      || !verify (slice b 0x220 97) (b.take 0x290) (slice b 0x290 96) then 3
  else if fwVersion b < s.se.fused then 4
  else if owned s then
    let i := beAt b 0x2F0 1
    if ownerGood s i && verify (ownerKey s i).key (b.take 0x300) (slice b 0x300 96) then 0 else 5
  else 0

/-- The slot that a transfer writes: the one that is not running; in recovery, the one not selected (R492). -/
def fwTarget (s : State) : Nat := if s.se.running < 2 then 1 - s.se.running else 1 - s.se.activate

def fwOpen (s : State) : Bool := s.dx.xfers.any fun x => x.entry == E.SE_FW_IMAGE

/-- Whether a BEGIN to `SE_FW_IMAGE` is refused. -/
def fwBeginRefused (s : State) : Bool := if s.se.running < 2 then s.se.activate != s.se.running else fwOpen s

/-- A transfer replaces the slot's contents from its beginning; a check of what it held is moot. -/
def fwBegin (s : State) : State := setFw (fwTarget s) { state := 0, image := [] } { s with se := { s.se with checking := false } }

/-- Its digest is verified: the image waits for its check. -/
def fwReceived (b : Bytes) (s : State) : State :=
  let s := setFw (fwTarget s) { state := 0, image := b } s
  { s with se := { s.se with checking := true } }

/-- FW_IMAGE_CHECK_DONE (R492). -/
def execFwImageCheckDone (slot : Nat) (s : State) : Out :=
  run (fun s =>
    if !s.se.checking || slot != fwTarget s then s
    else
      let x := fwSlot s slot
      let r := fwReason s x.image
      let s := setFw slot { x with state := if r = 0 then 1 else 2 } { s with se := { s.se with checking := false } }
      if r = 0 then raise Ev.SE_FW_STAGED [.u8 slot, .u8 (fwVersion x.image)] s
      else raise Ev.SE_FW_REFUSED [.u8 r] (count E.SE_FW_REFUSED 1 s)) s

/-- Whether a selection is refused (R493). -/
def fwActivateRefused (v : Nat) (s : State) : Bool := v > 1 || (fwSlot s v).state != 1 || fwOpen s

def fwActivate (v : Nat) (s : State) : State := { s with se := { s.se with activate := v } }

/-- Security version of the running image. -/
def runningVersion (s : State) : Nat := fwVersion (fwSlot s s.se.running).image

/-- Whether the burn of the anti-rollback counter is refused (R494). -/
def rollbackRefused (v : Nat) (s : State) : Bool := v != runningVersion s || v ≤ s.se.fused || v > 128

/-- What a burn leaves in fuses and store (R494, R498, R499). -/
def burnApply (b : FuseBurn) (s : State) : State := match b with
  | .rollback v =>
    let slots := s.se.slots.map fun x => if x.2.state == 1 && fwVersion x.2.image < v then (x.1, { x.2 with state := 2 }) else x
    { s with se := { s.se with fused := v, slots := slots } }
  | .enrol r =>
    let key := slice r 8 97
    { s with se := { s.se with owners := SMap.set s.se.owners (beAt r 0 1) { state := 1, key := key, hash := sha key } } }
  | .revoke n => { s with se := { s.se with owners := SMap.set s.se.owners n { ownerKey s n with state := 2 } } }

/-- Report an owner slot: outcome 1 enrolled, 2 revoked, 3 mismatch. The codes are open. -/
def ownerEvent (slot outcome : Nat) (s : State) : State :=
  raise Ev.SE_OWNER_KEY [.u8 slot, .u8 (Config.openFn 24 [outcome] % 256)] s

/-- The event of a burn. -/
def burnEvent (b : FuseBurn) (s : State) : State := match b with
  | .rollback v => raise Ev.SE_ROLLBACK [.u8 v] s
  | .enrol r => ownerEvent (beAt r 0 1) 1 s
  | .revoke n => ownerEvent n 2 s

/-- Burn fuses. The burn may be cut short until the next tick boundary. DESIGN CHOICE, log entry 40. -/
def burn (b : FuseBurn) (s : State) : State :=
  burnEvent b (burnApply b { s with se := { s.se with burning := s.se.burning ++ [b] } })

/-- Burns that a loss of power cut short are finished at the next boot, each with its event (R509). -/
def burnsFinish (s : State) : State :=
  s.se.burning.foldl (fun s b => burnEvent b (burnApply b s)) { s with se := { s.se with burning := [] } }

/-- Burns are over; those that were cut short wait for the boot's slot check. -/
def burnsOver (s : State) : State :=
  if s.hl.power = .off || s.bi.state = 0 || (s.bi.state = 1 && s.bi.phase = 0) then s else { s with se := { s.se with burning := [] } }

def rollbackCommit (v : Nat) (s : State) : State := burn (.rollback v) s

/-! ### Signed writes (R389, R495 to R497) -/

/-- Bytes that a signature covers: header without check, status and detail, body up to the signature, `ID_SERIAL`. -/
def signedBytes (op : Nat) (c : Cmd) : Bytes :=
  let c' := { c with status := 0, detail := 0 }
  cmdHdr op c' 0 ++ c.body.take (c.body.length - 96) ++ padTo 16 (Config.moduleBytes E.ID_SERIAL)

/-- Counter, key index and signature of a signature block. -/
def sigCounter (c : Cmd) : Nat := beAt c.body (c.body.length - 112) 8
def sigIndex (c : Cmd) : Nat := beAt c.body (c.body.length - 104) 1
def sigBytes (c : Cmd) : Bytes := slice c.body (c.body.length - 96) 96

/-- The test that a signed write fails: 0 none, 1 key, 2 signature, 3 counter. -/
def sigTest (op : Nat) (c : Cmd) (s : State) : Nat :=
  let i := sigIndex c
  if !owned s then
    if i != 0xFF || srcKind c.src == 4 then 1
    else if (sigBytes c).any (· != 0) then 2
    else if sigCounter c ≤ s.se.counter then 3 else 0
  else if !ownerGood s i then 1
  else if !verify (ownerKey s i).key (signedBytes op c) (sigBytes c) then 2
  else if sigCounter c ≤ s.se.counter then 3 else 0

/-- Step 14 of R388 for a signed write: a pass takes the counter, a failure is counted and reported. -/
def sigJudge (op : Nat) (c : Cmd) (s : State) : State × Bool :=
  match sigTest op c s with
  | 0 => ({ s with se := { s.se with counter := sigCounter c } }, true)
  | t =>
    (raiseOnce Ev.SE_SIG_REFUSED 0 [.u16 c.session.toNat, .u32 (c.entry.toNat * 256), .u8 t] (count E.SE_SIG_REFUSED 1 s), false)

/-! ### Owner keys (R498, R499) -/

/-- Whether an enrolment is refused. -/
def enrolRefused (r : Bytes) (s : State) : Bool :=
  let slot := beAt r 0 1
  let key := slice r 8 97
  slot > 3 || (ownerKey s slot).state != 0 || !keyOk key || s.se.owners.any fun x => x.2.key == key

def ownerEnrol (r : Bytes) (s : State) : State := burn (.enrol r) s

/-- Whether a revocation is refused: of the signing key, of the last key, or of the selected slot's signer. -/
def revokeRefused (v signer : Nat) (s : State) : Bool :=
  let img := (fwSlot s s.se.activate).image
  v > 3 || (ownerKey s v).state != 1 || v == signer || (s.se.owners.filter fun x => x.2.state == 1).length ≤ 1
    || (img != [] && beAt img 0x2F0 1 == v)

def ownerRevoke (v : Nat) (s : State) : State := burn (.revoke v) s

/-! ### Manager keys and quorum (R500) -/

def managerCount (b : Bytes) : Nat := ((chunks 112 b).filter fun r => beAt r 0 1 == 1).length

def quorumOk (q n : Nat) : Bool := 1 ≤ q && q ≤ 16 && 2 * q > n

/-- A manager record's form: an empty one is zero, a valid one holds a point of the curve. -/
def managerOk (r : Bytes) : Bool :=
  if beAt r 0 1 = 0 then r.all (· == 0) else beAt r 0 1 == 1 && keyOk (slice r 8 97)

def managerKeysRefused (b : Bytes) (s : State) : Bool := !(chunks 112 b).all managerOk || !quorumOk s.se.quorum (managerCount b)

def managerKeysSet (b : Bytes) (s : State) : State :=
  let t := { s with se := { s.se with managers := b } }
  if b = s.se.managers then t else raise Ev.SE_MANAGER_KEYS [] t

def quorumRefused (q : Nat) (s : State) : Bool := !quorumOk q (managerCount s.se.managers)

def quorumSet (q : Nat) (s : State) : State :=
  let t := { s with se := { s.se with quorum := q } }
  if q = s.se.quorum then t else raise Ev.SE_MANAGER_KEYS [] t

/-! ### Boot (R487, R491) -/

/-- Owner keys whose hash differs from the fuses are reported at boot. -/
def ownersBoot (s : State) : State :=
  (s.se.owners.filter fun x => x.2.state == 1 && !ownerGood s x.1).foldl (fun s x => ownerEvent x.1 3 s) s

/-- The slot check: 1 the selected slot, 2 the other, 3 recovery. Burns that were cut short are finished first (R509). -/
def bootSlots (s : State) : State × Nat :=
  let s := ownersBoot (burnsFinish s)
  let ok := fun n => (fwSlot s n).state != 0 && fwReason s (fwSlot s n).image == 0
  let mark := fun (s : State) (n : Nat) =>
    let x := fwSlot s n
    if x.state = 0 then s else setFw n { x with state := if ok n then 1 else 2 } s
  let a := s.se.activate
  let run := fun (n o : Nat) (s : State) =>
    (raise Ev.SE_BOOT [.u8 n, .u8 (fwVersion (fwSlot s n).image), .u8 o] { s with se := { s.se with running := n } }, o)
  if ok a then run a 1 s
  else
    let s := count E.SE_BOOT_FALLBACKS 1 (mark s a)
    if ok (1 - a) then run (1 - a) 2 s
    else (raise Ev.SE_BOOT [.u8 a, .u8 0, .u8 3] { (mark s (1 - a)) with se := { (mark s (1 - a)).se with running := 0xFF } }, 3)

end Sys2Proof.Machine
end

