-- ==== Sys2Proof/Machine/Repair.lean ====
section
/-! DEFINITION. Position, withdraw, join, benches and takeover streams (chapter 15). -/
namespace Sys2Proof.Machine
open Sys2Proof

/-! ### Position (R453, R478) -/

/-- A write of `RP_POSITION_FA`. -/
def positionFa (v : Nat) (s : State) : State := syncIdle 6 (setNum E.RP_POSITION_FA v s)

def positionRefused (s : State) : Bool := s.rp.sync == .current || s.rp.sync == .joining || s.rp.sync == .withdrawing

/-! ### Withdraw and reset (R460 to R462, R480, R481) -/

/-- What a withdraw or a graceful reset names: W and the loss set. -/
def withdrawLoss (named : Nat) (s : State) : Nat := if named = 0 then Cfg.RP_LOSS_SET s else named

/-- Status of a withdraw request. W lies in the record, not in the command header, so BAD_TICK does not apply to a frame too near: the
model reads R461 as R92 reads the fire tick of a record. DEDUCED, log entry 63. -/
def withdrawJudge (frame named : Nat) (s : State) : Nat :=
  if frame < frameOf s + 2 || s.rp.sync != .current || withdrawLoss named s = 0 then St.REFUSED else St.DONE

/-- A reset of class 2 or 3 by command, at once. -/
def resetNow (cls : Nat) (s : State) : State := if cls = 2 then warmReset 1 s else coldReset 1 s

/-- Body of a notice (R460). Its number counts the withdraws that the part has accepted. DEDUCED, log entry 39. -/
def noticeBody (kind reason loss frame : Nat) (s : State) : Bytes :=
  beBytes 1 kind ++ beBytes 1 reason ++ beBytes 2 loss ++ beBytes 4 s.rp.notices ++ beBytes 8 frame ++ beBytes 4 (posFa s)
    ++ List.replicate 12 0

/-- The notice that the part sends in gap slots: WITHDRAW, or RETURN while it joins (R459, R461). -/
def noticeNow (s : State) : Option Bytes :=
  match s.rp.sync, s.rp.withdraw with
  | .withdrawing, some w => some (noticeBody 1 w.reason w.lossSet w.frame s)
  | .joining, _ => some (noticeBody 2 5 0 s.rp.join s)
  | _, _ => none

/-- WITHDRAW_FRAME (R461): at W. An accepted withdraw cannot be cancelled: where the request of Rest has given way to a later write of
its tick, the part stops forwarding and becomes STALE. DESIGN CHOICE, log entry 23. -/
def execWithdrawFrame (s : State) : Out :=
  run (fun s => match s.rp.withdraw with
    | none => s
    | some w =>
      if frameOf s < w.frame || s.frame != frameOf s || s.rp.sync != .withdrawing then s
      else if w.reason = 2 && s.hl.restTick.isSome then (if restDue s then restNow s else s)
      else
        let s := nextGone .empty (dropAll true s)
        if w.reason = 3 then warmReset 1 (syncIdle 9 s)
        else if w.reason = 4 then coldReset 1 (raise Ev.RP_RESET [.u8 3, .u8 1] s)
        else syncIdle 9 (activeGone s)) s

/-- WITHDRAW_RECEIVED (R476, R480). -/
def execWithdrawReceived (p : Port) (k : Packet) (s : State) : Out :=
  run (fun s =>
    let s := fromInbox p k s
    if pkOp k != Op.WITHDRAW || !pkCrcOk k then s
    else
      let s := hearEpoch p k s
      let b := pkBody k
      let first := SMap.get? s.rp.partnerNotes p != some b
      let s := { s with rp := { s.rp with partnerNotes := SMap.set s.rp.partnerNotes p b } }
      let s := if first then raise Ev.RP_WITHDRAW [.u16 p, .u8 (beAt b 0 1), .idx (beAt b 8 8)] s else s
      match streamReceiving s with
      | some x => if beAt b 0 1 = 1 && beAt b 16 4 % 2 ^ 24 = x.peer then streamAbandon s else s
      | none => s) s

/-! ### Join (R457, R458) -/

/-- F at the start of frame J − 1 decides whether the join image stands. -/
def joinCheck (s : State) : State :=
  if s.rp.sync != .joining || frameOf s + 1 != s.rp.join then s
  else match s.tt.nextImage, fabricEpoch s with
    | some img, some f =>
      if f = img.epoch then s
      else
        let s := ttRefuse [failHdr 0x0114 0x0C] s
        setSync .stale 10 { s with rp := { s.rp with join := 0, joinTold := [] } }
    | _, _ => s

/-- Regions that a stream rebuilt become ACTIVE at J (R475). -/
def regionsJoin (s : State) : State :=
  ((s.fm.regions.filter fun x => x.2.atJoin).map (·.1)).foldl (fun s n => match SMap.get? s.fm.regions n with
    | some r => regionState n .active (setRegion n { r with atJoin := false } s)
    | none => s) s

/-- The part becomes CURRENT. -/
def becomeCurrent (reason : Nat) (s : State) : State :=
  let s := regionsJoin (setSync .current reason s)
  if (streamReceiving s).isNone then mirrorFromHeld s else s

/-- J moves on to the next boundary, and F is judged again at the start of the frame before it. -/
def joinLater (s : State) : State := joinCheck { s with rp := { s.rp with join := frameOf s + 1 } }

/-- JOIN_FRAME (R458): J moves on while the generator is FREE or F is unknown. -/
def execJoinFrame (s : State) : Out :=
  run (fun s =>
    if s.rp.sync != .joining || s.frame != frameOf s || frameOf s < s.rp.join || !dpLive s then s
    else match s.tt.nextImage, fabricEpoch s with
      | some img, some _ =>
        if s.ft.gen = .free then joinLater s
        else
          let s := swapImage img true { s with rp := { s.rp with join := 0, joinTold := [] } }
          raise Ev.RP_JOINED [.u32 img.epoch, .idx (frameOf s)] (becomeCurrent 11 s)
      | _, _ => joinLater s) s

/-- After a warm reset whose held epoch is the fabric's, the held image goes on at a frame boundary (R457). -/
def resumeFrame (s : State) : State :=
  if s.rp.sync = .stale && s.rp.resume && s.tt.active.isSome && s.ft.gen != .free && dpLive s then
    becomeCurrent 12 { s with rp := { s.rp with resume := false } }
  else s

/-- F is unknown while the part waits for it: a tie, or no port in service (R455). -/
def epochSplit (s : State) : State :=
  if dpLive s && (s.rp.sync = .stale || s.rp.sync = .joining) && (fabricEpoch s).isNone then raise Ev.RP_EPOCH_SPLIT [] s else s

/-! ### Benches (R462 to R467) -/

/-- Whether a bench reset is refused: of a bench that serves, or of a RETIRED one. -/
def benchResetRefused (x : Nat) (s : State) : Bool :=
  (List.range 128).any (fun b => physBench s b == x) || (physSlot s x).state == .retired

/-- BENCH_TEST_DONE (R465, R541); a die at throttle level 2 pauses the test. -/
def execBenchTestDone (b : PhysBench) (pass : Bool) (s : State) : Out :=
  run (fun s =>
    if (physSlot s b).state != .testing || throttleOf s (b / 34) = 2 then s
    else
      let s := count E.BI_RT_BENCH_TESTS 1 s
      if pass then
        rotationEvent 0xFF b 1 (setPhys b { state := .spare, result := 1, frame := frameOf s, leaseEnd := 0 } s)
      else
        let (v, s) := freshNat 71 s
        benchRetire b (2 + v % 2) (count E.BI_RT_BENCH_FAILS 1 s)) s

/-- Ports of a logical bench go down without a flap hold. -/
def benchPortsOff (l : Nat) (s : State) : State := (List.range 4).foldl (fun s q => portOff (4 * l + q) s) s

/-- BENCH_FAULT (R467). -/
def execBenchFault (b : PhysBench) (s : State) : Out :=
  run (fun s =>
    let x := physSlot s b
    if x.state != .serving then s
    else
      let s := setPhys b { x with state := .failed, frame := frameOf s } s
      match (List.range 128).find? fun l => physBench s l == b.val with
      | some l => benchPortsOff l (raise Ev.RP_BENCH_FAILED [.u16 l, .u16 b] s)
      | none => raise Ev.RP_BENCH_FAILED [.u16 0xFF, .u16 b] s) s

/-! ### Streams (R473, R474, R476) -/

def streamRunning (s : State) : Bool := (streamReceiving s).isSome || (streamSending s).isSome

/-- A stream as its 24-byte record names it. -/
def streamOf (r : Bytes) (role : Nat) (s : State) : Stream :=
  { role := role, state := 1, peer := beAt r 0 4 % 2 ^ 24, key := beAt r 8 8, gen := beAt r 16 4 >>> 20, step := 0, done := 0, lost := 0,
    bytes := 0, todo := [], seq := 0, paceAt := now s, dueAt := now s + Cfg.RP_STREAM_TIMEOUT_MS s * 1000000000, marked := false }

/-- `RP_STREAM_ACCEPT`. -/
def streamAccept (r : Bytes) (s : State) : State := let x := streamOf r 2 s; streamState x 1 s

/-- What a stream of a source would send: the checkpoint of the window, or the window live. -/
def streamSource (r : Bytes) (s : State) : Option (MirrorWin × Nat) :=
  if beAt r 4 1 = 0 then s.fm.winCk.map fun w => (w, w.step) else some (s.fm.win, 0)

def streamStartRefused (r : Bytes) (s : State) : Bool :=
  streamRunning s || (winOpen s).isNone || (streamSource r s).isNone

/-- `RP_STREAM_START`. -/
def streamStart (r : Bytes) (s : State) : State :=
  match streamSource r s with
  | none => s
  | some (w, step) =>
    let x := { streamOf r 1 s with step := step }
    streamState { x with todo := streamItems s x w step } 1 s

/-- STREAM_TIMEOUT (R476). -/
def execStreamTimeout (s : State) : Out := runDue ((streamReceiving s).map (·.dueAt)) streamAbandon s

end Sys2Proof.Machine
end

