-- ==== Sys2Proof/Machine/Bringup.lean ====
section
/-! DEFINITION. The power and reset inputs, the cold power-up sequence, run-time bank tests, and the host and test ports
(chapters 18 and 19). -/
namespace Sys2Proof.Machine
open Sys2Proof

/-! ### Power and reset inputs (R430, R431, R549, R556, R558, R569) -/

/-- Every rail is off: nothing but the non-volatile store, the fuses and the level of the pins stays. -/
def railsOff (cause : Nat) (s : State) : State :=
  let t := coldClear 4 s
  { t with
    hl := { t.hl with power := .off, offCause := cause }
    rp := { t.rp with resets := [] }
    dict := { nums := [], tabs := [] } }

/-- COLD_POWER_UP (R532, R558): PWR_OK and RST_N are both high, and the eFuse is not open. A trip holds the part off until RST_N or
the loss of its input (R430). EXTEST and HIGHZ act as BYPASS from now on (R563). -/
def execColdPowerUp (s : State) : Out :=
  run (fun s =>
    if s.el.fuseOpen || s.hl.tripped || (s.bi.state != 0 && s.hl.power != .off) then s
    else
      let s := if s.hl.power = .off then coldReset 4 s else s
      { s with
        el := { s.el with pwrOk := true, rstN := true, input := true }
        hl := { s.hl with testIr := if s.hl.testIr ≥ 3 then 0 else s.hl.testIr }
        bi := { s.bi with state := 1, phase := 0 }
        rp := { s.rp with resetStart := now s } }) s

/-- PWR_OK_FALL (R430, R549). -/
def execPwrOkFall (s : State) : Out :=
  run (fun s => if s.el.pwrOk then let t := railsOff 1 s; { t with el := { t.el with pwrOk := false } } else s) s

/-- RST_N_ASSERT (R431, R462, R549). -/
def execRstNAssert (s : State) : Out :=
  run (fun s =>
    if !s.el.rstN then s
    else
      let off := s.hl.power == .off && !s.hl.tripped
      let t := if off then s else coldReset 3 s
      { t with el := { t.el with rstN := false } }) s

/-- INPUT_POWER_LOSS (R569): no cause is recorded and no event is raised; an open eFuse may close again (R556). -/
def execInputPowerLoss (s : State) : Out :=
  run (fun s => let t := railsOff 0 s; { t with el := { t.el with input := false, fuseOpen := false } }) s

/-- EFUSE_OPEN (R556): power goes from every rail, and nothing is recorded about it. -/
def execEfuseOpen (_cause : Nat) (s : State) : Out :=
  run (fun s => if s.el.input then let t := railsOff 0 s; { t with el := { t.el with fuseOpen := true } } else s) s

/-! ### Test steps (R535) -/

/-- Declared increment at the input in W of one unit of a step, by kind in the order of R535's table: 1 benches, 2 face dies,
3 strata stacks, 4 wings in electrical loopback, 5 wings in optical loopback or matrix test. -/
def stepIncrement (kind : Nat) : Nat := [0, 25, 15, 20, 12, 20].getD kind 0

/-- Whether so many units of a kind may run at once: 8 benches per face die, and of the others what the table gives. -/
def stepFits (kind : Nat) (units : List Nat) : Bool :=
  if kind = 1 then (List.range 4).all fun d => (units.filter fun x => x / 34 == d).length ≤ 8
  else units.length ≤ [0, 0, 4, 4, 16, 4].getD kind 0

/-- Units of a kind whose steps run. -/
def stepUnits (kind : Nat) (s : State) : List Nat := (s.bi.running.filter fun x => x.1 == kind).flatMap (·.2)

/-- Measured input power in W (R420, supply 10). -/
def inputW (s : State) : Nat := (reading s 1 10 / 10).toNat

/-- TEST_STEP_START (R535): a step of a kind on the units named, physical benches, dies, stacks or wings. No units say that the
running steps of the kind have ended. -/
def execTestStepStart (kind : Nat) (units : List Nat) (s : State) : Out :=
  run (fun s =>
    let s := { s with bi := { s.bi with peak := max s.bi.peak (inputW s) } }
    if units = [] then { s with bi := { s.bi with running := s.bi.running.filter fun x => x.1 != kind } }
    else if s.bi.state != 1 || !stepFits kind (stepUnits kind s ++ units)
        || inputW s + stepIncrement kind * units.length > Cfg.BI_POWER_LIMIT_W s then s
    else { s with bi := { s.bi with running := s.bi.running ++ [(kind, units)] } }) s

/-! ### What a power-up test takes out of use (R536 to R538) -/

/-- Unit kinds (R544). -/
def Unit.bank : Nat := 5
def Unit.bench : Nat := 8
def Unit.lane : Nat := 9
def Unit.cell : Nat := 13
def Unit.ref : Nat := 14

def bankKey (stack bank : Nat) : Nat := stack * 136 + bank

/-- A strata bank: the first 128 of a stack are in service and the others spare until a failure moves them (R538). -/
def bankOf (s : State) (k : Nat) : Bank :=
  SMap.getD s.bi.banks k { state := if k % 136 < 128 then .inService else .spare, replaces := 0xFF }

def setBank (k : Nat) (b : Bank) (s : State) : State := { s with bi := { s.bi with banks := SMap.set s.bi.banks k b } }

/-- The lowest spare bank of a stack. -/
def spareBank (s : State) (stack : Nat) : Option Nat :=
  (List.range 136).find? fun b => (bankOf s (bankKey stack b)).state == .spare

/-- Map a bank out; a spare takes its place where it was in service. -/
def bankOut (stack bank : Nat) (s : State) : State × Option Nat :=
  let was := bankOf s (bankKey stack bank)
  let s := setBank (bankKey stack bank) { was with state := .mappedOut } s
  match if was.state = .spare then none else spareBank s stack with
  | some x => (setBank (bankKey stack x) { state := .inService, replaces := bank } s, some x)
  | none => (s, none)

/-- Whether a stack has its 128 banks. -/
def stackWhole (s : State) (stack : Nat) : Bool :=
  ((List.range 136).filter fun b =>
    (bankOf s (bankKey stack b)).state == .inService || (bankOf s (bankKey stack b)).state == .underTest).length ≥ 128

/-- Whether a failed unit blocks release (R536, R538). -/
def unitBlocks (s : State) (kind unit : Nat) : Bool :=
  kind ∈ [1, 2, 3, 4, 6, 7] || (kind == Unit.ref && unit < 16) || (kind == Unit.bank && !stackWhole s (unit / 136))

/-- A lane that failed a power-up test stays FAULT, or its reserve UNAVAILABLE, until the next cold reset. -/
def laneDead (unit : Nat) (s : State) : State :=
  let s := { s with bi := { s.bi with deadLanes := addNew unit s.bi.deadLanes } }
  if unit % 5 = 4 then setReserve (unit / 10) (unit / 5 % 2) .unavailable s
  else setLane (unit / 10) (unit / 5 % 2) (unit % 5) .fault s

/-- A bench that failed: RETIRED, but FAILED where it serves at a warm reset (R537, R540). -/
def benchDead (x result : Nat) (s : State) : State :=
  let v := physSlot s x
  if s.rp.resetClass = 2 && v.state == .serving then
    let l := ((List.range 128).find? fun l => physBench s l == x).getD 0xFF
    raise Ev.RP_BENCH_FAILED [.u16 l, .u16 x] (setPhys x { v with state := .failed, result := result, frame := frameOf s } s)
  else
    count E.RP_BENCHES_RETIRED 1
      (setPhys x { v with state := .retired, result := result, frame := frameOf s } s)

/-- A matrix cell that failed is marked in the setting it reports (R358): unit 256 × wing + cell, detail the setting. -/
def cellDead (unit detail : Nat) (s : State) : State :=
  let x := wingOf s (unit / 256)
  setWing (unit / 256) { x with faults := SMap.set x.faults (unit % 256) (detail % 2) } s

/-- What one failure takes out of use. -/
def unitFailed (f : Nat × Nat × Nat × Nat) (s : State) : State :=
  let (kind, unit, test, detail) := f
  let note := raise Ev.BI_UNIT_FAILED [.u8 kind, .u32 unit, .u8 test]
  if kind = Unit.bank then (bankOut (unit / 136) (unit % 136) s).1
  else if kind = Unit.bench then note (benchDead unit (2 + b2n (test != 1)) s)
  else if kind ∈ [9, 10, 11, 12] then note (laneDead unit s)
  else if kind = Unit.cell then note (cellDead unit detail s)
  else if kind = Unit.ref && unit ≥ 16 then
    note { s with bi := { s.bi with deadWings := addNew (unit - 16) s.bi.deadWings } }
  else s

/-! ### The sequence (R532 to R534, R539) -/

/-- Results of a phase, by kind and unit (R533). -/
def phaseRecord (r : PhaseResult) (s : State) : State :=
  let fails := fun k => (r.failed.filter fun f => f.1 == k).length
  let summary := r.tested.foldl (fun m t =>
    let (a, b, c) := SMap.getD m t.1 (0, 0, 0)
    SMap.set m t.1 (a + t.2, b + (t.2 - fails t.1), c + fails t.1)) s.bi.summary
  let bad := r.failed.map fun f =>
    ({ kind := f.1, test := f.2.2.1, outcome := 2, unit := f.2.1, detail := f.2.2.2, ms := r.ms } : BiResult)
  let un := r.untested.map fun f =>
    ({ kind := f.1, test := f.2.2, outcome := 3, unit := f.2.1, detail := 0, ms := r.ms } : BiResult)
  { s with bi := { s.bi with
    summary := summary, results := (s.bi.results ++ bad ++ un).take 4096
    peak := max s.bi.peak r.peak, running := []
    failed := s.bi.failed + r.failed.length, untested := s.bi.untested + r.untested.length } }

/-- A host port answers while it is not held in reset and the bed dies are up. -/
def hostsTrain (s : State) : State :=
  setPc 1 (fun f => { f with linkUp := !f.perst }) (setPc 0 (fun f => { f with linkUp := !f.perst }) s)

/-- Release (R534). -/
def release (ms : Nat) (s : State) : State :=
  let log := match s.rp.resets with
    | (t, c, k, _) :: r => (t, c, k, ms * 1000) :: r
    | [] => []
  let s := { s with
    bi := { s.bi with state := 2, phase := 6, duration := ms }
    rp := { s.rp with resets := log } }
  let s := raise Ev.BI_DONE [.u32 ms, .i32 s.bi.peak, .u32 s.bi.failed, .u32 s.bi.untested] s
  portsHeldDown (syncIdle 4 (lanesTrain [] s))

/-- Release is blocked (R539): every wing stays dark. -/
def blocked (f : Nat × Nat × Nat × Nat) (s : State) : State :=
  raise Ev.BI_BLOCKED [.u8 f.1, .u32 f.2.1, .u8 f.2.2.1] { s with bi := { s.bi with state := 3 } }

/-- Cells that a matrix test without failure clears: the whole mark table, before the failures of this phase are noted. -/
def matrixPassed (r : PhaseResult) (s : State) : State :=
  if r.tested.any fun t => t.1 == Unit.cell then
    let stays := fun (w c : Nat) => r.untested.any fun u => u.1 == Unit.cell && u.2.1 == 256 * w + c
    { s with ch := s.ch.map fun x => (x.1, { x.2 with faults := x.2.faults.filter fun m => stays x.1 m.1 }) }
  else s

/-- POWER_UP_PHASE_DONE (R532, R533, R539). In a warm reset it gives the results of the short check (R540). -/
def execPowerUpPhaseDone (r : PhaseResult) (s : State) : Out :=
  run (fun s =>
    if s.bi.state != 1 || s.hl.power == .off then s
    else
      let s := r.failed.foldl (fun s f => unitFailed f s) (matrixPassed r (phaseRecord r s))
      match r.failed.find? fun f => unitBlocks s f.1 f.2.1 with
      | some f => blocked f s
      | none =>
        if s.rp.resetClass = 2 then s
        else
          match s.bi.phase with
          | 1 =>
            let (s, o) := bootSlots s
            if o = 3 then { s with bi := { s.bi with state := 4 } }
            else hostsTrain { s with bi := { s.bi with phase := 2 } }
          | 5 => release r.ms s
          | n => { s with bi := { s.bi with phase := n + 1 } }) s

/-! ### Run-time bank tests (R542 to R548) -/

/-- Begin a bank's test: a bank in service is saved first, and a spare is tested in place. -/
def bankTestBegin (stack bank : Nat) (s : State) : State :=
  let k := bankKey stack bank
  let b := bankOf s k
  let spare := b.state == .spare
  setBank k { b with state := .underTest }
    { s with bi := { s.bi with tests := (s.bi.tests.filter fun t => !(t.stack == stack && t.step == 0)) ++
      [{ stack := stack, bank := bank, step := if spare then 2 else 1, failed := false, spare := spare }] } }

/-- Whether a bank may be tested: power on, in service or spare, and no test or level 2 throttle on its stack (R547). -/
def bankTestable (s : State) (stack bank : Nat) : Bool :=
  dpLive s && stack < 4 && bank < 136 && throttleOf s stack != 2
    && ((bankOf s (bankKey stack bank)).state == .inService || (bankOf s (bankKey stack bank)).state == .spare)
    && !(s.bi.tests.any fun t => t.stack == stack && t.step != 0)

/-- The next bank of a stack in ascending order that is not mapped out. -/
def bankNext (s : State) (stack : Nat) : Nat :=
  let from_ := SMap.getD s.bi.nextBank stack 0
  match (List.range 136).find? fun i => (bankOf s (bankKey stack ((from_ + i) % 136))).state != .mappedOut with
  | some i => (from_ + i) % 136
  | none => from_

/-- STRATA_BANK_TEST_START (R542): the bank that a command named and that had to wait, or the next one on its interval. -/
def execStrataBankTestStart (stack bank : Nat) (s : State) : Out :=
  run (fun s =>
    if !bankTestable s stack bank then s
    else if s.bi.tests.any fun t => t.stack == stack && t.bank == bank && t.step == 0 then bankTestBegin stack bank s
    else if Cfg.BI_RT_ENABLE s = 1 && frameOf s % Cfg.BI_STRATA_INTERVAL_FRAMES s = 0 && bank = bankNext s stack then
      bankTestBegin stack bank { s with bi := { s.bi with nextBank := SMap.set s.bi.nextBank stack ((bank + 1) % 136) } }
    else s) s

/-- `BI_STRATA_TEST_NOW`: whether the stack has a bank under test. -/
def bankBusy (stack : Nat) (s : State) : Bool := s.bi.tests.any fun t => t.stack == stack

/-- `BI_STRATA_TEST_NOW`: the test starts, or waits for the throttle level to fall (R547). -/
def bankTestNow (stack bank : Nat) (s : State) : State :=
  if bankTestable s stack bank then bankTestBegin stack bank s
  else if (bankOf s (bankKey stack bank)).state = .mappedOut then s
  else { s with bi := { s.bi with tests := s.bi.tests ++ [{ stack := stack, bank := bank, step := 0, failed := false, spare := false }] } }

/-- Lines of a bank that cannot be read are poisoned where they hold regions (R248, R543); which lines fail is open. -/
def bankPoison (stack : Nat) (s : State) : State :=
  let (n, s) := freshNat 72 s
  let regions := s.fm.regions.filter fun x => x.2.stack == stack
  (List.range n).foldl (fun s i =>
    match (regions.drop (Config.openFn 62 [n, i, 0] % max 1 regions.length)).head? with
    | some x => poisonLine x.1 (Config.openFn 62 [n, i, 1] % max 1 (x.2.size / 64)) s
    | none => s) s

/-- A bank failed its run-time test (R543). -/
def bankFails (t : BankTest) (s : State) : State :=
  let s := count E.BI_RT_BANK_FAILS 1 s
  let k := bankKey t.stack t.bank
  let note := fun (x : Nat) (s : State) => raise Ev.BI_BANK_FAILED [.u8 t.stack, .u8 t.bank, .u8 x] s
  if t.spare then note 0xFF (setBank k { bankOf s k with state := .mappedOut } s)
  else match spareBank s t.stack with
    | some x => note x (bankOut t.stack t.bank s).1
    | none => note 0xFF (bankPoison t.stack (setBank k { bankOf s k with state := .inService } s))

/-- STRATA_BANK_STEP_DONE (R542, R543): save, test and restore follow one another. A save that
finds uncorrectable lines copies them as poisoned. -/
def execStrataBankStepDone (n : Nat) (ok : Bool) (s : State) : Out :=
  run (fun s => match (s.bi.tests.drop n).head? with
    | none => s
    | some t =>
      let put := fun (t : BankTest) (s : State) => { s with bi := { s.bi with tests := listSet s.bi.tests n t } }
      let gone := fun (s : State) => count E.BI_RT_BANK_TESTS 1 { s with bi := { s.bi with tests := listErase s.bi.tests n } }
      let k := bankKey t.stack t.bank
      let pass := fun (st : BankSt) (s : State) => setBank k { bankOf s k with state := st } s
      match t.step with
      | 1 => put { t with step := 2 } (if ok then s else bankPoison t.stack s)
      | 2 =>
        if !t.spare then put { t with step := 3, failed := !ok } s
        else if ok then pass .spare (gone s)
        else bankFails t (gone s)
      | 3 => if t.failed then bankFails t (gone s) else pass .inService (gone s)
      | _ => s) s

/-! ### Host ports (R404, R561, R572, R573) -/

/-- A host's function stops: its queues are disabled, what was read from them is dropped, and its sessions end. -/
def hostDown (h : Nat) (s : State) : State :=
  let s := hostSessionsEnd h s
  setPc h (fun f => { f with ctrl := 0, vectors := [], waiting := [] })
    { s with dx := { s.dx with fetched := s.dx.fetched.filter fun x => x.1 != h } }

/-- FUNCTION_LEVEL_RESET (R404). -/
def execFunctionLevelReset (h : HostPort) (s : State) : Out := run (hostDown h) s

/-- PERST_ASSERT (R561, R572). -/
def execPerstAssert (h : HostPort) (s : State) : Out :=
  run (fun s => setPc h (fun f => { f with perst := true, linkUp := false }) (hostDown h s)) s

/-- Whether the bed dies serve PCIe: from phase 2, and not in recovery or Off (R532, R561). -/
def pcieServed (s : State) : Bool := s.hl.power != .off && (s.bi.phase ≥ 2 && s.bi.state != 4)

/-- PERST_DEASSERT (R561, R573). -/
def execPerstDeassert (h : HostPort) (s : State) : Out :=
  run (fun s => setPc h (fun f => { f with perst := false, linkUp := pcieServed s }) s) s

/-- PCIE_LINK_DOWN (R404): sessions stay open until their leases lapse. -/
def execPcieLinkDown (h : HostPort) (s : State) : Out := run (setPc h fun f => { f with linkUp := false }) s

/-! ### The test port (R563) -/

/-- Test instructions: 0 BYPASS, 1 IDCODE, 2 SAMPLE/PRELOAD, 3 EXTEST, 4 HIGHZ. Every other code acts as BYPASS. -/
def execTestPortInstruction (ir : Nat) (s : State) : Out :=
  run (fun s =>
    let act := if ir = 1 || ir = 2 || ((ir = 3 || ir = 4) && !s.el.rstN) then ir else 0
    { s with hl := { s.hl with testIr := act } }) s

end Sys2Proof.Machine
end

