-- ==== Sys2Proof/Machine/EventNames.lean ====
section
/-! DEFINITION. Names of the event codes and of the count events, as `DX_EVENT_LIST` (R409) and `TM_EVENT_NAMES` (R512, R524) list
them. -/
namespace Sys2Proof.Machine
open Sys2Proof

/-! ### Event codes -/

/-- Events of class 0x01. -/
def evNames1 : List (Nat × String) :=
  [(Ev.TT_READY, "EV_TT_READY"), (Ev.TT_REFUSED, "EV_TT_REFUSED"), (Ev.TT_SWAPPED, "EV_TT_SWAPPED"),
   (Ev.TT_SWAP_MISSED, "EV_TT_SWAP_MISSED"), (Ev.TT_STAGE_FAULT, "EV_TT_STAGE_FAULT"), (Ev.TT_VARIANT, "EV_TT_VARIANT"),
   (Ev.TT_LEASE, "EV_TT_LEASE"), (Ev.TT_USER_ACTION, "EV_TT_USER_ACTION"), (Ev.TT_BAD_HEADER, "EV_TT_BAD_HEADER"),
   (Ev.TT_BAD_LAYOUT, "EV_TT_BAD_LAYOUT"), (Ev.TT_RESERVED_SET, "EV_TT_RESERVED_SET"),
   (Ev.TT_WRONG_POSITION, "EV_TT_WRONG_POSITION"), (Ev.TT_EPOCH_ORDER, "EV_TT_EPOCH_ORDER"), (Ev.TT_LATE, "EV_TT_LATE"),
   (Ev.TT_BAD_REFERENCE, "EV_TT_BAD_REFERENCE"), (Ev.TT_DUPLICATE, "EV_TT_DUPLICATE"),
   (Ev.TT_PARTITION, "EV_TT_PARTITION"), (Ev.TT_LANE_STATE, "EV_TT_LANE_STATE"),
   (Ev.TT_BRIDGE_LOAD, "EV_TT_BRIDGE_LOAD"), (Ev.TT_CONSERVATION, "EV_TT_CONSERVATION"), (Ev.TT_FAN_IN, "EV_TT_FAN_IN"),
   (Ev.TT_SLEW, "EV_TT_SLEW"), (Ev.TT_CHUTE, "EV_TT_CHUTE"), (Ev.TT_BAD_LEASE, "EV_TT_BAD_LEASE"),
   (Ev.TT_TIMED_ACTION, "EV_TT_TIMED_ACTION"), (Ev.TT_BAD_VARIANT, "EV_TT_BAD_VARIANT"),
   (Ev.TT_STAGING_LIMIT, "EV_TT_STAGING_LIMIT"), (Ev.SC_UNBOUND, "EV_SC_UNBOUND"), (Ev.SC_PARTITION, "EV_SC_PARTITION"),
   (Ev.SC_VOQ_BOUND, "EV_SC_VOQ_BOUND"), (Ev.SC_DEADLINE, "EV_SC_DEADLINE"), (Ev.SC_UNDERRUN, "EV_SC_UNDERRUN"),
   (Ev.SC_FOREIGN_MEMBER, "EV_SC_FOREIGN_MEMBER"), (Ev.SC_BLANK_ARRIVAL, "EV_SC_BLANK_ARRIVAL")]

/-- Events of class 0x02. -/
def evNames2 : List (Nat × String) :=
  [(Ev.FT_SERVO_STATE, "EV_FT_SERVO_STATE"), (Ev.FT_DOMAIN_SWITCH, "EV_FT_DOMAIN_SWITCH"),
   (Ev.FT_SLEW_DONE, "EV_FT_SLEW_DONE"), (Ev.FT_ALIGN, "EV_FT_ALIGN"), (Ev.FT_SPLIT, "EV_FT_SPLIT"),
   (Ev.FT_GEN_HOLDOVER, "EV_FT_GEN_HOLDOVER"), (Ev.FT_PPS_MISSING, "EV_FT_PPS_MISSING"),
   (Ev.FT_ACTION_FIRED, "EV_FT_ACTION_FIRED"), (Ev.FT_ACTION_EXPIRED, "EV_FT_ACTION_EXPIRED"),
   (Ev.FT_ACTION_CANCELLED, "EV_FT_ACTION_CANCELLED"), (Ev.FT_CANCEL_LATE, "EV_FT_CANCEL_LATE"),
   (Ev.FT_TABLE_FULL, "EV_FT_TABLE_FULL")]

/-- Events of class 0x03. -/
def evNames3 : List (Nat × String) :=
  [(Ev.PKT_MARKER, "EV_PKT_MARKER"), (Ev.PKT_LINK_MISMATCH, "EV_PKT_LINK_MISMATCH"),
   (Ev.PKT_CREDIT_LOSS, "EV_PKT_CREDIT_LOSS"), (Ev.PKT_CREDIT_STALL, "EV_PKT_CREDIT_STALL"),
   (Ev.PKT_ERRORS, "EV_PKT_ERRORS"), (Ev.PKT_CELL_UNREPRESENTABLE, "EV_PKT_CELL_UNREPRESENTABLE"),
   (Ev.PKT_CREDIT_RESYNC, "EV_PKT_CREDIT_RESYNC"), (Ev.DP_PORT_DOWN, "EV_DP_PORT_DOWN"),
   (Ev.DP_PORT_UP, "EV_DP_PORT_UP"), (Ev.DP_FLAP_DROP, "EV_DP_FLAP_DROP"), (Ev.DP_RESEQ_TIMEOUT, "EV_DP_RESEQ_TIMEOUT"),
   (Ev.DP_MCAST_PARTIAL, "EV_DP_MCAST_PARTIAL"), (Ev.DP_SATURATION, "EV_DP_SATURATION"),
   (Ev.DP_STRATA_ERROR, "EV_DP_STRATA_ERROR")]

/-- Events of class 0x04. -/
def evNames4 : List (Nat × String) :=
  [(Ev.CR_CHUNK_ABANDONED, "EV_CR_CHUNK_ABANDONED"), (Ev.CR_LATE, "EV_CR_LATE"), (Ev.CR_WINDOW, "EV_CR_WINDOW"),
   (Ev.CR_BUFFER, "EV_CR_BUFFER"), (Ev.CR_RESULT_DEADLINE, "EV_CR_RESULT_DEADLINE"),
   (Ev.CR_STORE_REFUSED, "EV_CR_STORE_REFUSED"), (Ev.CR_LENGTH, "EV_CR_LENGTH")]

/-- Events of class 0x05. -/
def evNames5 : List (Nat × String) :=
  [(Ev.FM_REGION_STATE, "EV_FM_REGION_STATE"), (Ev.FM_KEY_REFUSED, "EV_FM_KEY_REFUSED"),
   (Ev.FM_SEQ_LOST, "EV_FM_SEQ_LOST"), (Ev.FM_SOURCE_LIMIT, "EV_FM_SOURCE_LIMIT"), (Ev.FM_HELD_FULL, "EV_FM_HELD_FULL"),
   (Ev.FM_MEDIA_ERROR, "EV_FM_MEDIA_ERROR"), (Ev.FM_FENCED_ACCESS, "EV_FM_FENCED_ACCESS"),
   (Ev.FM_MIRROR_STATE, "EV_FM_MIRROR_STATE"), (Ev.FM_MIRROR_LAG, "EV_FM_MIRROR_LAG"),
   (Ev.FM_CHECKPOINT_DONE, "EV_FM_CHECKPOINT_DONE"), (Ev.FM_CHECKPOINT_SKIPPED, "EV_FM_CHECKPOINT_SKIPPED"),
   (Ev.FM_RESTORE_DONE, "EV_FM_RESTORE_DONE")]

/-- Events of class 0x06. -/
def evNames6 : List (Nat × String) :=
  [(Ev.TB_REHASH_REQUEST, "EV_TB_REHASH_REQUEST"), (Ev.TB_LEARN_CONFLICT, "EV_TB_LEARN_CONFLICT"),
   (Ev.TB_LEARN_MOVE, "EV_TB_LEARN_MOVE"), (Ev.TB_SUBSTITUTED, "EV_TB_SUBSTITUTED"),
   (Ev.TB_SUBST_REFUSED, "EV_TB_SUBST_REFUSED"), (Ev.TB_EPOCH_DROP, "EV_TB_EPOCH_DROP"),
   (Ev.TB_NO_ROUTE, "EV_TB_NO_ROUTE"), (Ev.TB_ECC, "EV_TB_ECC"), (Ev.TB_LEARN_OVERRUN, "EV_TB_LEARN_OVERRUN"),
   (Ev.TB_WRITE_DONE, "EV_TB_WRITE_DONE"), (Ev.TB_WRITE_REFUSED, "EV_TB_WRITE_REFUSED")]

/-- Events of class 0x07. -/
def evNames7 : List (Nat × String) :=
  [(Ev.OT_HEAD_DROP, "EV_OT_HEAD_DROP"), (Ev.OT_POLICER_DROP, "EV_OT_POLICER_DROP"),
   (Ev.OT_CONFIG_REFUSED, "EV_OT_CONFIG_REFUSED")]

/-- Events of class 0x08. -/
def evNames8 : List (Nat × String) :=
  [(Ev.OP_LOCK_LOST, "EV_OP_LOCK_LOST"), (Ev.OP_RELOCKED, "EV_OP_RELOCKED"),
   (Ev.OP_SEARCH_FAILED, "EV_OP_SEARCH_FAILED"), (Ev.OP_LANE_MOVED, "EV_OP_LANE_MOVED"),
   (Ev.OP_LANE_RETURNED, "EV_OP_LANE_RETURNED"), (Ev.OP_LANE_DROPPED, "EV_OP_LANE_DROPPED"),
   (Ev.OP_MOVE_REFUSED, "EV_OP_MOVE_REFUSED"), (Ev.OP_PARTNER_SILENT, "EV_OP_PARTNER_SILENT"),
   (Ev.OP_BOOST_YIELD, "EV_OP_BOOST_YIELD"), (Ev.OP_ELS_WARN, "EV_OP_ELS_WARN"),
   (Ev.OP_ELS_REPLACE, "EV_OP_ELS_REPLACE"), (Ev.OP_ELS_LOST, "EV_OP_ELS_LOST"),
   (Ev.OP_ELS_NO_RESPONSE, "EV_OP_ELS_NO_RESPONSE"), (Ev.OP_ELS_READY, "EV_OP_ELS_READY"),
   (Ev.OP_MARGIN_LOW, "EV_OP_MARGIN_LOW"), (Ev.OP_UNFORECAST, "EV_OP_UNFORECAST"),
   (Ev.OP_LOSS_LOCATED, "EV_OP_LOSS_LOCATED"), (Ev.OP_CAL_DONE, "EV_OP_CAL_DONE"),
   (Ev.OP_CAL_SKIPPED, "EV_OP_CAL_SKIPPED"), (Ev.OP_WING_TEMP, "EV_OP_WING_TEMP")]

/-- Events of class 0x09. -/
def evNames9 : List (Nat × String) :=
  [(Ev.CH_SET_FAILED, "EV_CH_SET_FAILED"), (Ev.CH_CELL_FAULT, "EV_CH_CELL_FAULT"), (Ev.CH_PATH_LOSS, "EV_CH_PATH_LOSS"),
   (Ev.CH_INGRESS_DROPS, "EV_CH_INGRESS_DROPS"), (Ev.CH_CLEARED, "EV_CH_CLEARED"), (Ev.CH_LOOP, "EV_CH_LOOP")]

/-- Events of class 0x0A. -/
def evNames10 : List (Nat × String) :=
  [(Ev.DX_SESSION, "EV_DX_SESSION"), (Ev.DX_OWNER, "EV_DX_OWNER"), (Ev.DX_BLOCK, "EV_DX_BLOCK"),
   (Ev.DX_CHECK, "EV_DX_CHECK"), (Ev.DX_EVENTS_DROPPED, "EV_DX_EVENTS_DROPPED")]

/-- Events of class 0x0B. -/
def evNames11 : List (Nat × String) :=
  [(Ev.HL_RULE, "EV_HL_RULE"), (Ev.HL_THROTTLE, "EV_HL_THROTTLE"), (Ev.HL_TRIP, "EV_HL_TRIP"),
   (Ev.HL_DI_CHATTER, "EV_HL_DI_CHATTER"), (Ev.HL_DI_STUCK, "EV_HL_DI_STUCK"), (Ev.HL_SUSPECT, "EV_HL_SUSPECT"),
   (Ev.HL_ALIVE, "EV_HL_ALIVE"), (Ev.HL_EVIDENCE, "EV_HL_EVIDENCE"), (Ev.HL_CERT_ACCEPTED, "EV_HL_CERT_ACCEPTED"),
   (Ev.HL_CERT_REFUSED, "EV_HL_CERT_REFUSED"), (Ev.HL_FENCE, "EV_HL_FENCE"), (Ev.HL_WDT_RESTART, "EV_HL_WDT_RESTART"),
   (Ev.HL_WDT_ESCALATE, "EV_HL_WDT_ESCALATE"), (Ev.HL_MOTH_RESTART, "EV_HL_MOTH_RESTART"),
   (Ev.HL_ATTN_IN, "EV_HL_ATTN_IN")]

/-- Events of class 0x0C. -/
def evNames12 : List (Nat × String) :=
  [(Ev.RP_SYNC_STATE, "EV_RP_SYNC_STATE"), (Ev.RP_WITHDRAW, "EV_RP_WITHDRAW"), (Ev.RP_JOINED, "EV_RP_JOINED"),
   (Ev.RP_ROTATION, "EV_RP_ROTATION"), (Ev.RP_BENCH_FAILED, "EV_RP_BENCH_FAILED"), (Ev.RP_IMPORT, "EV_RP_IMPORT"),
   (Ev.RP_STREAM, "EV_RP_STREAM"), (Ev.RP_REGION_LOST, "EV_RP_REGION_LOST"), (Ev.RP_RESET, "EV_RP_RESET"),
   (Ev.RP_EPOCH_SPLIT, "EV_RP_EPOCH_SPLIT")]

/-- Events of class 0x0D. -/
def evNames13 : List (Nat × String) :=
  [(Ev.SE_BOOT, "EV_SE_BOOT"), (Ev.SE_FW_STAGED, "EV_SE_FW_STAGED"), (Ev.SE_FW_REFUSED, "EV_SE_FW_REFUSED"),
   (Ev.SE_SIG_REFUSED, "EV_SE_SIG_REFUSED"), (Ev.SE_ROLLBACK, "EV_SE_ROLLBACK"), (Ev.SE_OWNER_KEY, "EV_SE_OWNER_KEY"),
   (Ev.SE_MANAGER_KEYS, "EV_SE_MANAGER_KEYS")]

/-- Events of class 0x0E. -/
def evNames14 : List (Nat × String) :=
  [(Ev.TM_LATCH_SKIPPED, "EV_TM_LATCH_SKIPPED"), (Ev.TM_DUMP_SKIPPED, "EV_TM_DUMP_SKIPPED"),
   (Ev.TM_CAPTURE_LOST, "EV_TM_CAPTURE_LOST"), (Ev.TM_CAPTURE_FULL, "EV_TM_CAPTURE_FULL"),
   (Ev.TM_PROG_OVERFLOW, "EV_TM_PROG_OVERFLOW")]

/-- Events of class 0x0F. -/
def evNames15 : List (Nat × String) :=
  [(Ev.PS_STATE, "EV_PS_STATE"), (Ev.PS_WAKE, "EV_PS_WAKE"), (Ev.PS_REST_REFUSED, "EV_PS_REST_REFUSED"),
   (Ev.BI_DONE, "EV_BI_DONE"), (Ev.BI_BLOCKED, "EV_BI_BLOCKED"), (Ev.BI_UNIT_FAILED, "EV_BI_UNIT_FAILED"),
   (Ev.BI_BANK_FAILED, "EV_BI_BANK_FAILED")]

/-- Every event code with its name. -/
def evNames : List (Nat × String) :=
  evNames1 ++ evNames2 ++ evNames3 ++ evNames4 ++ evNames5 ++ evNames6 ++ evNames7 ++ evNames8 ++ evNames9 ++ evNames10 ++ evNames11 ++ evNames12 ++ evNames13 ++ evNames14 ++ evNames15

/-- `DX_EVENT_LIST`: 96-byte records. The text of a data layout is each build's. -/
def eventList : Bytes :=
  (evNames.map fun x => beBytes 2 x.1 ++ [0, 0] ++ padTo 28 (ascii x.2) ++ padTo 64 (Config.moduleBytes (E.DX_EVENT_LIST * 65536 + x.1))).flatten

/-! ### Count events (R512) -/

/-- Numbers that never occur. -/
def countReserved (n : Nat) : Bool :=
  (93 ≤ n && n ≤ 95) || (119 ≤ n && n ≤ 127) || (140 ≤ n && n ≤ 159) || (172 ≤ n && n ≤ 191) || (192 ≤ n && n < 256 && n % 16 ≥ 9)
    || (576 ≤ n && n < 616 && n % 8 == 7) || (621 ≤ n && n ≤ 631) || (632 ≤ n && n < 696 && (n - 632) % 16 ≥ 12)
    || (696 ≤ n && n ≤ 767) || (815 ≤ n && n ≤ 1007)

/-- Counting modes that a number permits: occurrences, or edge and level. -/
def countModes (n : Nat) : Nat := if n < 768 then 1 else 6

/-- Unit of a fixed event: 0 count, 1 packets, 2 bytes, 3 blocks, 4 cycles, 5 lane-slots. Where the table gives an occurrence no
unit of its own, the unit is count. DESIGN CHOICE, log entry 62. -/
def fixedUnit (n : Nat) : Nat :=
  if n < 4 then 1 else if n < 8 then 2 else if n < 28 then 1 else if n < 32 then 2 else if n < 36 then 5 else if n = 36 then 2
  else if n < 160 then 0 else if n < 166 then 4 else if n < 169 then 5 else if n < 171 then 3 else if n = 171 then 4
  else if n < 192 then 0 else [1, 2, 1, 2, 5, 0, 0, 3, 0].getD (n % 16) 0

/-- Unit of a count event: a per-lane form has that of its event. -/
def countUnit (n : Nat) : Nat :=
  if n < 256 then fixedUnit n
  else if n < 576 then fixedUnit (24 + n % 16)
  else if 632 ≤ n && n < 696 && ((n - 632) % 16 == 8 || (n - 632) % 16 == 9) then 2
  else 0

/-- `TM_EVENT_NAMES`: 32-byte records. The text of a name is each build's, but for RESERVED. -/
def countNames : Bytes :=
  ((List.range 1024).map fun n =>
    beBytes 2 n ++ [BitVec.ofNat 8 (countModes n), BitVec.ofNat 8 (countUnit n)]
      ++ padTo 28 (if countReserved n then ascii "RESERVED" else Config.moduleBytes (E.TM_EVENT_NAMES * 65536 + n))).flatten

end Sys2Proof.Machine
end

