-- ==== Sys2Proof/Machine/Values.lean ====
section
/-! DEFINITION. What a read of each dictionary entry gives, most significant byte first (R379, R384), and the event record. -/
namespace Sys2Proof.Machine
open Sys2Proof

/-! ### Event records (R399, R400) -/

/-- An item's bytes at a step of R400: 0 in full, 1 lists shortened, 2 counts as U16, 3 counts as U8, 4 indices cut. -/
def itemBytes (step : Nat) : Item → List Bytes
  | .u64 v => [beBytes 8 v]
  | .idx v => [beBytes (if step ≥ 4 then 4 else 8) v]
  | .u32 v => [beBytes 4 v]
  | .i32 v => [beBytes 4 (ofSigned 32 v)]
  | .u16 v => [beBytes 2 v]
  | .u8 v => [beBytes 1 v]
  | .units l => if step ≥ 1 then [beBytes 2 (l.headD 0), beBytes 2 l.length] else l.map (beBytes 2)
  | .fracs l => if step ≥ 1 then [beBytes 2 (l.foldl max 0)] else l.map (beBytes 2)
  | .counts l =>
    if step ≥ 3 then l.map fun n => beBytes 1 (min n 0xFF)
    else if step = 2 then l.map fun n => beBytes 2 (min n 0xFFFF)
    else l.map (beBytes 4)

/-- The items in order of decreasing size, those of one size in the order named. -/
def itemsAt (le : Bool) (step : Nat) (l : List Item) : Bytes :=
  let ps := (l.map (itemBytes step)).flatten
  ([8, 4, 2, 1].map fun n => ((ps.filter fun b => b.length == n).map fun b => if le then b.reverse else b).flatten).flatten

/-- The data field in a transport's byte order: the first step at which the items fit in 16 bytes. -/
def itemsField (le : Bool) (l : List Item) : Bytes :=
  match [0, 1, 2, 3].find? fun k => (itemsAt le k l).length ≤ 16 with
  | some k => padTo 16 (itemsAt le k l)
  | none => padTo 16 (itemsAt le 4 l)

/-- A 32-byte event record (R399), its items in a transport's byte order. -/
def eventBytesIn (le : Bool) (e : EventRec) : Bytes :=
  beBytes 2 e.code ++ [0, 0] ++ beBytes 4 e.seq ++ beBytes 8 e.tick ++ itemsField le e.items

def eventBytes (e : EventRec) : Bytes := eventBytesIn false e

/-! ### Tables, records one after another -/

/-- `n` records given by their number. -/
def recs (n : Nat) (f : Nat → Bytes) : Bytes := ((List.range n).map f).flatten

/-- Up to `n` records from a list, the rest zero. -/
def recsPad (n size : Nat) (l : List Bytes) : Bytes := padTo (n * size) (l.take n).flatten

def u8 (v : Nat) : Bytes := beBytes 1 v
def u16 (v : Nat) : Bytes := beBytes 2 v
def u32 (v : Nat) : Bytes := beBytes 4 v
def u64 (v : Nat) : Bytes := beBytes 8 v
def i32 (v : Int) : Bytes := beBytes 4 (ofSigned 32 v)
def i16 (v : Int) : Bytes := beBytes 2 (ofSigned 16 v)
def gap (n : Nat) : Bytes := List.replicate n 0

/-! ### Areas 0 to 2 -/

def vLastWake (s : State) : Bytes := recsPad 8 16 (s.hl.wakes.map fun w => u64 w.1 ++ u8 w.2.1 ++ gap 3 ++ u32 w.2.2)

def vGated (s : State) : Bytes :=
  recs 16 fun i => u8 (sumNat ((List.range 8).map fun k => b2n (s.hl.gated.contains (8 * i + k)) * 2 ^ k))

def vInput (s : State) : Bytes := i32 (reading s 1 8) ++ i32 (reading s 1 9) ++ i32 (reading s 1 10)

def portCode : PortSt → Nat
  | .disabled => 0
  | .training => 1
  | .inService => 2
  | .held => 3
  | .down => 4

def vPortState (s : State) : Bytes :=
  recs 512 fun p =>
    let left := if portState s p = .held then ((portOf s p).holdEnd - now s) / 100000 else 0
    u32 (left * 256 + portCode (portState s p))

def vSat (s : State) : Bytes := recs 134 fun u => let x := SMap.getD s.dp.sat u (0, 0); u16 x.1 ++ u16 x.2

/-! ### Areas 3 and 4 -/

def laneCode : LaneSt → Nat
  | .disabled => 0
  | .training => 1
  | .inService => 2
  | .moved => 3
  | .calibrating => 4
  | .spared => 5
  | .fault => 6

def reserveCode : Reserve → Nat
  | .idle => 0
  | .carrying l => l + 1
  | .boost => 5
  | .unavailable => 6

/-- State shown for a lane; the reserve lane serves once its direction's port does, and shows TRAINING before. -/
def laneShown (s : State) (p d l : Nat) : Nat :=
  if l < 4 then laneCode (laneSt s p d l)
  else if portFormat s p = 0 then 0
  else if reserveOf s p d = .unavailable then 6
  else if anyLane s p d then 2 else 1

def vLaneState (s : State) : Bytes :=
  recs 512 fun p =>
    recs 10 (fun i => u8 (laneShown s p (i / 5) (i % 5))) ++ u8 (reserveCode (reserveOf s p 0)) ++ u8 (reserveCode (reserveOf s p 1)) ++ gap 4

def moveCode : MoveSt → Nat
  | .proposed => 0
  | .accepted => 1
  | .inForce => 2
  | .returning => 3

def vMoves (s : State) : Bytes :=
  ((s.op.moves.take 1024).map fun m =>
    u32 m.id ++ u16 m.port ++ u8 m.src ++ u8 m.dst ++ u8 m.dir ++ u8 m.reason ++ u8 (moveCode m.state) ++ gap 1 ++ u64 m.S ++ gap 4).flatten

def ringCode : RingSt → Nat
  | .off => 0
  | .searching => 1
  | .acquiring => 2
  | .locked => 3
  | .lost => 4
  | .calibrating => 5

def vRings (s : State) : Bytes :=
  recs 5120 fun n =>
    let x := ringOf s n
    u16 (min (x.heater * 1000).floor.toNat 0xFFFF) ++ i16 (max (-32768) (min 32767 (x.e * 10).floor)) ++ u8 (ringCode x.state) ++ gap 3

def elsCode : ElsSt → Nat
  | .absent => 0
  | .starting => 1
  | .inService => 2
  | .warn => 3
  | .replace => 4
  | .readyToRemove => 5
  | .notResponding => 6
  | .lost => 7

def vEls (s : State) : Bytes :=
  recs 80 fun e =>
    let x := elsOf s e
    u8 (elsCode x.state) ++ u8 (ofSigned 8 x.temp) ++ recs 8 (fun k => u8 (SMap.getD x.bias (k + 1) 0)) ++ gap 6

def vMonitors (s : State) : Bytes :=
  recs 640 (fun i => i16 (monitor s i))
    ++ recs 512 fun p => recs 5 (fun l => i16 (m2 s p l)) ++ recs 5 (fun l => i16 (m3 s p l)) ++ i16 (m3Total s p) ++ gap 10

def vLoss (s : State) : Bytes := recs 5120 fun k => u8 (SMap.getD s.op.loss k 0)

/-- Role and partner of a port's ingress (d 1) or egress (d 0) in its wing (R354, R359, R361). -/
def chuteRole (s : State) (p d : Nat) : Nat × Nat :=
  let x := wingOf s (p / 32)
  let n := p % 32
  match x.chutes.find? fun c => if d = 1 then c.i == n else c.j == n with
  | some c =>
    let role := if c.failed then 4 else if s.clk.tick < c.setTick || c.clearTick.isSome then 1 else 2
    (role, if d = 1 then c.j else c.i)
  | none =>
    match x.loops.find? fun l => if d = 1 then l.b == n else l.a == n with
    | some l => (3, if d = 1 then l.a else l.b)
    | none => (b2n (if d = 1 then darkIn s p else darkOut s s.clk.tick p), 0)

def vChutePorts (s : State) : Bytes :=
  recs 512 fun p =>
    let i := chuteRole s p 1
    let e := chuteRole s p 0
    u32 (i.1 * 2 ^ 29 + i.2 * 2 ^ 24 + e.1 * 2 ^ 21 + e.2 * 2 ^ 16)

/-- A cell's setting: as it reports where it is marked faulted (R358). -/
def cellShown (x : WingMx) (c : Nat) : Nat := (SMap.get? x.faults c).getD (cellSetting x c)

def vCells (s : State) : Bytes :=
  recs 16 fun w =>
    let x := wingOf s w
    let sels := fun first => recs 8 fun i => u8 (sumNat ((List.range 4).map fun k => cellShown x (first + 4 * i + k) * 4 ^ (3 - k)))
    recs 18 (fun i => u8 (sumNat ((List.range 8).map fun k => cellShown x (8 * i + k) % 2 * 2 ^ k)))
      ++ sels 144 ++ sels 176
      ++ recs 26 (fun i => u8 (sumNat ((List.range 8).map fun k => b2n (SMap.get? x.faults (8 * i + k)).isSome * 2 ^ k))) ++ gap 4

/-! ### Areas 5 and 6 -/

def nextCode : NextState → Nat
  | .empty => 0
  | .receiving => 1
  | .checking => 2
  | .ready => 3
  | .refused => 4

/-- Header of the next image, once it has been received. -/
def nextHeader (s : State) (off n : Nat) : Nat := beAt s.tt.nextBytes off n

def vCheckLog (s : State) : Bytes :=
  ((s.tt.log.take 16).map fun f => u16 f.code ++ u8 f.sec ++ gap 1 ++ u32 f.record ++ u64 f.detail).flatten

def vPartitions (s : State) : Bytes := (s.tt.active.map fun i => (secRecs i.bytes 2).flatten).getD []

def vLeases (s : State) : Bytes := (s.tt.leases.map fun l => padTo 32 l.record.raw ++ u8 l.state ++ gap 7).flatten

def vActions (s : State) : Bytes :=
  recs 1024 fun n => match SMap.get? s.ft.acts n with
    | none => gap 48
    | some a => padTo 32 a.record.raw ++ u8 (actCode a.state) ++ u8 (b2n a.command) ++ gap 2 ++ u32 a.epoch ++ u32 a.launch ++ u32 a.armFa

/-! ### Area 7 -/

def lpmRecord (x : Nat × Route) : Bytes :=
  u64 (2 ^ 60 + x.1 / 2 ^ 24 * 2 ^ 55 + x.1 % 2 ^ 24 * 2 ^ 31 + x.2.hop * 2 ^ 12 + x.2.safe)

def exactRecord (x : Nat × Route) : Bytes := u64 (2 ^ 60 + x.1 * 2 ^ 36 + x.2.hop * 2 ^ 12 + x.2.safe)

def learnedRecord (s : State) (x : Nat × Learned) : Bytes :=
  u64 (3 * 2 ^ 60 + x.1 * 2 ^ 36 + x.2.port * 2 ^ 12 + min (ageOf s x.2) 4095)

def hopRecord (x : Nat × Hop) : Bytes :=
  u32 (x.1 * 2 ^ 20 + x.2.kind * 2 ^ 16 + x.2.ports.length * 2 ^ 12)
    ++ beBytes 12 (sumNat ((List.range 8).map fun k => x.2.ports.getD k 0 * 2 ^ (12 * (7 - k))))

def groupRecord (x : Nat × Group) : Bytes :=
  u32 (x.1 * 256 + b2n x.2.reflect * 2 + 1) ++ gap 4
    ++ recs 64 fun i => u8 (sumNat ((List.range 8).map fun k => b2n (x.2.ports.contains (8 * i + k)) * 2 ^ k))

def vLpm (s : State) : Bytes := (s.tb.active.lpm.map lpmRecord).flatten
def vExact (s : State) : Bytes := (s.tb.active.exact.map exactRecord).flatten ++ (s.tb.learned.map (learnedRecord s)).flatten
def vHops (s : State) : Bytes := (s.tb.active.hops.map hopRecord).flatten
def vGroups (s : State) : Bytes := (s.tb.active.groups.map groupRecord).flatten

def vOccupancy (s : State) : Bytes :=
  u32 s.tb.active.exact.length ++ u32 s.tb.learned.length ++ u32 s.tb.active.lpm.length ++ u32 s.tb.active.hops.length
    ++ u32 s.tb.active.groups.length ++ u32 ((s.tt.active.map fun i => i.binds.length).getD 0)

def seedBytes (rs : RouteSet) : Bytes := u64 rs.seedLpm ++ u64 rs.seedExact ++ u64 rs.seedSel

/-- 0 idle, 1 waiting, 2 applying (R268). -/
def writeState (s : State) : Nat := if s.tb.applying != [] then 2 else if s.tb.waiting != [] then 1 else 0

/-! ### Area 8 -/

/-- Packets that wait on a shaper. -/
def shaperBacklog (s : State) (n : Nat) : Nat :=
  (s.dp.openq.filter fun x => (pairOn s x.egress x.vc).contains n).length

def vShapers (s : State) : Bytes :=
  recs 4096 fun n =>
    let c := shaperCfg s n
    if !c.on then gap 16
    else
      let x := shaperUpdate c (shaperOf s n) (now s)
      i32 (x.tokens / 65536) ++ u32 (shaperBacklog s n) ++ u64 (if x.wheel.isNone then 0 else nextEligible c x / 1000)

def vPolicers (s : State) : Bytes :=
  recs 4096 fun n => let x := policerOf s n; u32 (x.c / 65536) ++ u32 (x.e / 65536)

/-! ### Areas 9 and 10 -/

def vRegions (s : State) : Bytes :=
  recs 4096 fun n => match SMap.get? s.fm.regions n with
    | none => gap 40
    | some r => defineRecord n 0 { r with key := 0 } ++ u8 (regionCode (some r.state)) ++ u8 (servingBench n r) ++ gap 6

def vStackFree (s : State) : Bytes := recs 4 fun k => u32 (1048576 - stackUsed s k / 1024)

def vSources (s : State) : Bytes :=
  ((s.fm.sources.take 4096).map fun x =>
    u32 x.1 ++ u16 x.2.base ++ u16 x.2.highest ++ u16 (x.2.fault.getD 0) ++ u8 (b2n x.2.fault.isSome) ++ u8 x.2.replay.length
      ++ u16 x.2.held.length ++ gap 6 ++ u64 x.2.activity ++ gap 4).flatten

def vCheckpoints (s : State) : Bytes :=
  let one := fun (c : Option Checkpoint) (st : Nat) => match c with
    | none => gap 32
    | some c => u64 c.step ++ u64 c.tick ++ u8 st ++ gap 7 ++ u64 (ckBytes c)
  one s.fm.complete 2 ++ one s.fm.copying 1

/-- State of a recipe: 1 gated, 2 open, 3 closed. -/
def recipeCode : Gate → Nat
  | .gated => 1
  | .openn => 2
  | .closed => 3

/-- A record of each recipe slot, from the last slot in use. -/
def vRecipes (size : Nat) (f : Recipe → RecState → Bytes) (s : State) : Bytes :=
  recs 16384 fun n => match s.tt.active.bind fun i => SMap.get? i.recipes n with
    | none => gap size
    | some r => f r (recOf s r)

def vRecipeState (s : State) : Bytes :=
  vRecipes 16 (fun r x => beBytes 3 r.coll ++ u8 (recipeCode x.gate) ++ gap 3 ++ beBytes 3 x.base ++ u16 (x.open'.filter fun k => !k.complete).length ++ gap 4) s

def vRecipeStats (s : State) : Bytes :=
  vRecipes 32 (fun _ x => u64 x.done ++ u64 x.abandoned ++ u32 x.late ++ u32 x.windowDrops ++ u32 x.resultDrops ++ u32 x.refusals) s

/-- The missing log in ring order: record k lies at place k mod 4,096. -/
def vMissing (s : State) : Bytes :=
  let n := s.cr.log.length
  recs n fun i => match s.cr.log[(s.cr.written - 1 - i) % 4096]? with
    | some r => padTo 64 r
    | none => gap 64

/-! ### Areas 11 and 12 -/

def vRules (s : State) : Bytes :=
  recs 256 fun n =>
    let x := ruleState s n
    i32 x.last ++ u8 ((x.inputs.filter fun i => i.2.asserted).length) ++ gap 3 ++ u64 x.fires

def vDi (s : State) : Bytes :=
  recs 7 fun d =>
    let x := diOf s d
    u16 (b2n x.raw * 2 ^ 15 + b2n x.filtered * 2 ^ 14 + b2n x.masked * 2 ^ 13 + b2n x.stuck * 2 ^ 12)

def vNeighbours (s : State) : Bytes :=
  recs 512 fun p =>
    let x := nbOf s p
    u32 x.fa ++ u8 (nbCode x.state) ++ u8 x.power ++ gap 2 ++ u32 (min x.age 0xFFFFFFFF) ++ u32 x.counter

def vFences (s : State) : Bytes := ((s.hl.fences.take 1024).map fun c => u32 c.fa ++ u32 c.num ++ u64 c.tick).flatten

def vControllers (s : State) : Bytes :=
  recs 4 fun d =>
    let x := controllerOf s d
    u8 (b2n x.restarting) ++ gap 3 ++ u32 ((x.restarts.filter fun t => now s < t + 1000000000000).length) ++ u64 x.lastTick

/-- F, and the ports in service that agree with it and that do not (R455). -/
def vFabricEpoch (s : State) : Bytes :=
  let f := (fabricEpoch s).getD 0
  let hs := s.rp.heard.filter fun x => portUp s x.1
  let a := if (fabricEpoch s).isNone then 0 else (hs.filter fun x => x.2 == f).length
  u32 f ++ u16 a ++ u16 (hs.length - a)

def vWithdraw (s : State) : Bytes := match s.rp.withdraw with
  | none => gap 16
  | some w => u64 w.frame ++ u16 w.lossSet ++ u8 w.reason ++ gap 5

def vPartners (s : State) : Bytes := recs 512 fun p => padTo 32 (SMap.getD s.rp.partnerNotes p [])

def vResets (s : State) : Bytes :=
  recsPad 8 16 (s.rp.resets.map fun r => u64 r.1 ++ u8 r.2.1 ++ u8 r.2.2.1 ++ gap 2 ++ u32 r.2.2.2)

def benchCode : BenchSt → Nat
  | .serving => 0
  | .spare => 1
  | .testing => 2
  | .failed => 3
  | .retired => 4

def vBenches (s : State) : Bytes :=
  let map := (List.range 128).map (physBench s)
  recs 136 fun x =>
    let v := physSlot s x
    u8 (benchCode v.state) ++ u8 ((map.idxOf? x).getD 0xFF) ++ u8 v.result ++ gap 1 ++ u32 v.frame

def vStream (s : State) : Bytes := match s.rp.stream with
  | none => gap 32
  | some x => u8 x.role ++ u8 x.state ++ gap 2 ++ u32 x.peer ++ u64 x.step ++ u16 x.done ++ u16 x.lost ++ gap 4 ++ u64 x.bytes

/-! ### Areas 13 to 15 -/

def vFwSlots (s : State) : Bytes :=
  recs 2 fun n =>
    let x := fwSlot s n
    if x.image = [] then u8 x.state ++ gap 55
    else u8 x.state ++ u8 (fwVersion x.image) ++ gap 2 ++ slice x.image 0x0C 4 ++ sha (slice x.image 0 864)

def vOwners (s : State) : Bytes :=
  recs 4 fun n => let x := ownerKey s n; u8 x.state ++ gap 7 ++ padTo 97 x.key ++ gap 7

/-- Records of a ring by place, up to the last one in use. -/
def ringBytes (size : Nat) (m : SMap Bytes) : Bytes :=
  recs ((m.map (·.1 + 1)).foldl max 0) fun i => padTo size (SMap.getD m i [])

def vEventRing (s : State) : Bytes :=
  recs 65536 fun i => match s.ev.ring.find? fun e => e.seq % 65536 == i with
    | some e => eventBytes e
    | none => gap 32

def vSummary (s : State) : Bytes :=
  recs 14 fun k => let x := SMap.getD s.bi.summary (k + 1) (0, 0, 0); u32 x.1 ++ u32 x.2.1 ++ u32 x.2.2

def vResults (s : State) : Bytes :=
  (s.bi.results.map fun r => u8 r.kind ++ u8 r.test ++ u8 r.outcome ++ gap 1 ++ u32 r.unit ++ u32 r.detail ++ u32 r.ms).flatten

def bankCode : BankSt → Nat
  | .inService => 0
  | .spare => 1
  | .underTest => 2
  | .mappedOut => 3

def vBanks (s : State) : Bytes := recs 544 fun k => let b := bankOf s k; u8 (bankCode b.state) ++ u8 b.replaces

/-! ### Area 17 -/

/-- Areas that a session owns, bit a for area a. -/
def areasOwned (s : State) (n : Nat) : Nat := sumNat ((s.dx.owners.filter fun o => o.2 == n).map fun o => 2 ^ o.1)

def vSessions (s : State) : Bytes :=
  recsPad 64 32 (s.dx.sessions.map fun x =>
    u16 x.num ++ u8 x.kind ++ u8 1 ++ u32 x.fa ++ u32 (ceilDiv (x.leaseEnd - now s) 1000000000) ++ u32 (areasOwned s x.num)
      ++ u64 x.commands ++ u64 x.openTick)

def vAreaOwners (s : State) : Bytes :=
  recs 19 fun a =>
    let n := ownerOf s a
    u16 n ++ u8 (((sessionOf s n).map (·.kind)).getD 0) ++ gap 1

/-- Bytes a transfer has received, and the first that it has not. -/
def xferBytes (x : Xfer) : Nat := sumNat (x.lines.map fun l => l.2.length)

def firstMissing (x : Xfer) : Nat :=
  match (List.range (ceilDiv x.length 64)).find? fun i => (SMap.get? x.lines i).isNone with
  | some i => 64 * i
  | none => x.length

def vTransfers (s : State) : Bytes :=
  recsPad 16 40
    ((s.dx.xfers.map fun x =>
      u32 x.entry ++ u16 x.session ++ u8 1 ++ u8 (b2n (x.state == .verifying)) ++ u64 x.length ++ u64 (xferBytes x)
        ++ u64 (firstMissing x) ++ u64 x.activity)
     ++ s.dx.snaps.map fun x =>
      u32 x.entry ++ u16 x.session ++ u8 2 ++ u8 0 ++ u64 x.data.length ++ u64 x.served ++ u64 0 ++ u64 x.activity)

def vSubs (s : State) : Bytes :=
  recsPad 64 16 (s.dx.subs.map fun b => u16 b.num ++ u16 b.session ++ u8 b.kind ++ gap 3 ++ u32 b.arg ++ u32 b.interval)

def vPending (s : State) : Bytes :=
  ((s.dx.pending.take 1024).map fun w => u32 w.entry ++ u16 w.session ++ gap 2 ++ u64 (w.tick.getD 0)).flatten

/-- Whether an entry is block-only (R380). -/
def blockOnly (e : Entry) : Bool := e.size > 3968 || e.id == E.TT_NEXT_IMAGE

def entryList : Bytes :=
  (catalog.map fun e =>
    u32 e.id ++ u8 e.ty ++ u8 e.acc ++ u8 e.eff ++ u8 (b2n e.retained + 2 * b2n (blockOnly e)) ++ u32 e.size ++ u32 e.recSize
      ++ padTo 48 (ascii e.name)).flatten

/-! ### Every entry -/

/-- Value of an entry that the part fixes or that its state gives, most significant byte first; none for settings and
counters. -/
def ownValue (s : State) (session : Nat) (e : Nat) : Option Bytes :=
  if e < 0x100000 then
    if e = E.ID_VENDOR then some (ascii "Sniaro")
    else if e = E.ID_PART_NUMBER then some (ascii "WSP4-512C")
    else if e = E.ID_ORDERING_CODE then some (padTo 12 (Config.moduleBytes e))
    else if e = E.ID_SERIAL then some (padTo 16 (Config.moduleBytes e))
    else if e = E.ID_BUILD_CODE then some (u16 (Config.moduleNum e))
    else if e = E.INV_BENCH_MAP then some (benchMapBytes s)
    else none
  else if e < 0x200000 then
    if e = E.PS_STATE then some (u8 (powerCode s.hl.power))
    else if e = E.PS_LAST_WAKE then some (vLastWake s)
    else if e = E.PS_GATED then some (vGated s)
    else if e = E.PS_OFF_CAUSE then some (u8 s.hl.offCause)
    else if e = E.PS_INPUT then some (vInput s)
    else if e = E.PS_THROTTLE then some (recs 4 fun d => u8 (throttleOf s d))
    else none
  else if e < 0x300000 then
    if e = E.PORT_CONFIG then some ((SMap.get? s.dict.tabs e).getD (recs 512 fun _ => u32 0x100))
    else if e = E.PORT_PARTNER then some (recs 512 fun p => padTo 32 (linkOf s p).partner)
    else if e = E.DP_PORT_STATE then some (vPortState s)
    else if e = E.DP_SAT_STATE then some (vSat s)
    else if e = E.LAT_TERMS then some (latTerms.map u32).flatten
    else none
  else if e < 0x380000 then
    if e = E.OP_WAVELENGTHS then some (recs 5 fun l => u32 (waveGhz l))
    else if e = E.OP_RX_SENSITIVITY_DBM then some (i16 (-750) ++ i16 (-650))
    else if e = E.OP_LANE_STATE then some (vLaneState s)
    else if e = E.OP_MOVES then some (vMoves s)
    else if e = E.OP_RING_STATE then some (vRings s)
    else if e = E.OP_FF_COUPLING then some (padTo 20480 (Config.moduleBytes e))
    else if e = E.OP_HEATER_EFFICIENCY then some (recs 5120 fun n => u32 (efficiencyOf s n))
    else if e = E.OP_ELS_STATE then some (vEls s)
    else if e = E.OP_MONITORS then some (vMonitors s)
    else if e = E.OP_LOSS_LOCATION then some (vLoss s)
    else none
  else if e < 0x400000 then
    if e = E.CH_PORT_STATE then some (vChutePorts s)
    else if e = E.CH_CELL_STATE then some (vCells s)
    else if e = E.CH_DELAY || e = E.CH_LOSS then some (padTo 32768 (Config.moduleBytes e))
    else none
  else if e < 0x480000 then
    if e = E.TT_NEXT_STATE then some (u8 (nextCode s.tt.next))
    else if e = E.TT_NEXT_EPOCH then some (u32 ((s.tt.nextImage.map (·.epoch)).getD (nextHeader s 0x0C 4)))
    else if e = E.TT_NEXT_ACTIVATION_FRAME then some (u64 ((s.tt.nextImage.map (·.frame)).getD (nextHeader s 0x10 8)))
    else if e = E.TT_NEXT_DIGEST then some (padTo 48 s.tt.nextDigest)
    else if e = E.TT_NEXT_CHECK_LOG then some (vCheckLog s)
    else if e = E.TT_ACTIVE_EPOCH then some (u32 (activeEpoch s))
    else if e = E.TT_ACTIVE_DIGEST then some (padTo 48 ((s.tt.active.map (·.digest)).getD []))
    else if e = E.TT_ACTIVE_ACTIVATION_FRAME then some (u64 ((s.tt.active.map (·.frame)).getD 0))
    else if e = E.TT_ACTIVE_PERIOD then some (u16 ((s.tt.active.map (·.period)).getD 0))
    else if e = E.TT_ACTIVE_VARIANT then some (u16 s.tt.variant)
    else if e = E.TT_PARTITIONS_ACTIVE then some (vPartitions s)
    else if e = E.TT_LEASES_ACTIVE then some (vLeases s)
    else none
  else if e < 0x500000 then
    if e = E.FT_NOW then some (beBytes 10 (now16 s))
    else if e = E.FT_TICK then some (u64 s.clk.tick)
    else if e = E.FT_GEN_STATE then some (u8 (genCode s.ft.gen))
    else if e = E.FT_SERVO_STATE_A then some (u8 (servoCode s.ft.servoA.state))
    else if e = E.FT_SERVO_STATE_B then some (u8 (servoCode s.ft.servoB.state))
    else if e = E.FT_OFFSET_A then some (u64 (ofSigned 64 s.ft.servoA.last))
    else if e = E.FT_OFFSET_B then some (u64 (ofSigned 64 s.ft.servoB.last))
    else if e = E.FT_DOMAIN_ACTIVE then some (u8 s.ft.active)
    else if e = E.FT_SLEW_REMAINING then some (i32 s.ft.slew)
    else if e = E.FT_CORRECTIONS then some corrTable
    else if e = E.FT_ACTION_TABLE then some (vActions s)
    else if e = E.FT_ACTION_FREE then some (u16 (1024 - s.ft.acts.length))
    else none
  else if e < 0x580000 then
    if e = E.TB_WRITE_STATE then some (u8 (writeState s))
    else if e = E.TB_LPM_ACTIVE then some (vLpm s)
    else if e = E.TB_EXACT_ACTIVE then some (vExact s)
    else if e = E.TB_NEXTHOP_ACTIVE then some (vHops s)
    else if e = E.TB_GROUP_ACTIVE then some (vGroups s)
    else if e = E.TB_OCCUPANCY then some (vOccupancy s)
    else if e = E.TB_SEED_ACTIVE then some (seedBytes s.tb.active)
    else if e = E.TB_SEED_NEXT then some ((SMap.get? s.dict.tabs e).getD (seedBytes s.tb.active))
    else if e = E.TB_REHASH_PENDING then some (u8 s.tb.rehash)
    else if e = E.TB_LEARN_PORTS then some ((SMap.get? s.dict.tabs e).getD (List.replicate 64 0xFF))
    else none
  else if e < 0x600000 then
    if e = E.OT_SHAPER_STATE then some (vShapers s)
    else if e = E.OT_POLICER_STATE then some (vPolicers s)
    else none
  else if e < 0x700000 then
    if e = E.FM_REGION_TABLE then some (vRegions s)
    else if e = E.FM_STACK_FREE then some (vStackFree s)
    else if e = E.FM_SOURCES then some (vSources s)
    else if e = E.FM_MIRROR_STATE then some (u8 (mirrorCode s.fm.mirror))
    else if e = E.FM_MIRROR_LAG_NS then some (u32 (min (mirrorLag s) 0xFFFFFFFF))
    else if e = E.FM_MIRROR_IN_STEP then some (u64 ((s.fm.winCk.map (·.step)).getD 0))
    else if e = E.FM_CHECKPOINT_STATE then some (vCheckpoints s)
    else none
  else if e < 0x800000 then
    if e = E.CR_RECIPE_STATE then some (vRecipeState s)
    else if e = E.CR_RECIPE_STATS then some (vRecipeStats s)
    else if e = E.CR_MISSING_LOG then some (vMissing s)
    else if e = E.CR_MISSING_LOG_WRITTEN then some (u64 s.cr.written)
    else none
  else if e < 0x900000 then
    if e = E.HL_RULES then some ((SMap.get? s.dict.tabs e).getD rulesDefault)
    else if e = E.HL_RULE_STATE then some (vRules s)
    else if e = E.HL_DI_CONFIG then some ((SMap.get? s.dict.tabs e).getD (recs 7 fun _ => diDefault))
    else if e = E.HL_DI_STATE then some (vDi s)
    else if e = E.HL_FAULT_CAUSE then some (u32 s.hl.faultCause)
    else if e = E.HL_ATTN_CAUSE then some (u32 s.hl.attnCause)
    else if e = E.HL_NEIGHBOURS then some (vNeighbours s)
    else if e = E.HL_FENCES then some (vFences s)
    else if e = E.HL_CONTROLLERS then some (vControllers s)
    else none
  else if e < 0xA00000 then
    if e = E.RP_SYNC_STATE then some (u8 (syncCode s.rp.sync))
    else if e = E.RP_HELD_EPOCH then some (u32 ((s.tt.active.map (·.epoch)).getD s.rp.held))
    else if e = E.RP_FABRIC_EPOCH then some (vFabricEpoch s)
    else if e = E.RP_JOIN_FRAME then some (u64 s.rp.join)
    else if e = E.RP_WITHDRAW_STATE then some (vWithdraw s)
    else if e = E.RP_PARTNER_WITHDRAWS then some (vPartners s)
    else if e = E.RP_LAST_RESET then some (vResets s)
    else if e = E.RP_BENCH_STATE then some (vBenches s)
    else if e = E.RP_POSITION_RECORD then some s.rp.record
    else if e = E.RP_IMPORT_STATE then some (u8 s.rp.importState)
    else if e = E.RP_STREAM_STATE then some (vStream s)
    else none
  else if e < 0xB00000 then
    if e = E.SE_VENDOR_KEY_HASH then some (padTo 48 (Config.moduleBytes e))
    else if e = E.SE_ROLLBACK_FUSED then some (u8 s.se.fused)
    else if e = E.SE_FW_STATE then some (vFwSlots s)
    else if e = E.SE_FW_RUNNING then some (u8 s.se.running)
    else if e = E.SE_FW_ACTIVATE then some (u8 s.se.activate)
    else if e = E.SE_ROLLBACK_COMMIT then some (u8 s.se.fused)
    else if e = E.SE_OWNER_KEYS then some (vOwners s)
    else if e = E.SE_OWNER_ENROL || e = E.SE_OWNER_REVOKE then
      some (if e = E.SE_OWNER_ENROL then gap 112 else u8 0)
    else if e = E.SE_SIGNED_COUNTER then some (u64 s.se.counter)
    else if e = E.SE_MANAGER_KEYS then some s.se.managers
    else if e = E.SE_QUORUM then some (u8 s.se.quorum)
    else if e = E.SE_ID_CERT then some ((Config.moduleBytes e).take 2048)
    else if e = E.SE_ID_CHAIN then some ((Config.moduleBytes e).take 8192)
    else if e = E.SE_ID_PUBLIC then some (padTo 97 (Config.moduleBytes e))
    else if e = E.SE_ATTEST_REPORT then
      some (padTo 448 (((s.se.reports.find? fun r => session == 0 || r.1 == session).map (·.2)).getD []))
    else none
  else if e < 0xC00000 then
    if e = E.TM_EVENT_NAMES then some countNames
    else if e = E.TM_FIXED_LIVE then some (recs 32768 fun i => beBytes 12 (fixedValue s (i / 256) (i % 256)))
    else if e = E.TM_PROG_LIVE then some (recs 2048 fun i => beBytes 12 (progPlace s (i / 16) (i % 16)))
    else if e = E.TM_DUMP_WRITTEN then some (u64 s.tm.written)
    else if e = E.TM_DUMP_RING then some (ringBytes 434432 s.tm.ring)
    else if e = E.TM_LATCHED then some (padTo 434432 s.tm.latched)
    else if e = E.TM_DEVICE_COUNTER_LIST then some ((Config.moduleBytes e).take 4096)
    else if e = E.TM_CAPTURE_WRITTEN then some (u64 s.tm.captureSeq)
    else if e = E.TM_CAPTURE_RING then some (ringBytes 128 s.tm.captures)
    else if e = E.TM_EVENT_RING then some (vEventRing s)
    else if e = E.TM_EVENT_LAST then some (u32 (s.ev.next - 1))
    else none
  else if e < 0xE00000 then
    if e = E.BI_STATE then some (u8 s.bi.state)
    else if e = E.BI_PHASE then some (u8 s.bi.phase)
    else if e = E.BI_DURATION_MS then some (u32 s.bi.duration)
    else if e = E.BI_SUMMARY then some (vSummary s)
    else if e = E.BI_RESULTS then some (vResults s)
    else if e = E.BI_POWER_PEAK_W then some (u16 s.bi.peak)
    else if e = E.BI_MATRIX_PATTERNS then some (padTo 256 (Config.moduleBytes e))
    else if e = E.BI_STRATA_BANKS then some (vBanks s)
    else none
  else if e = E.DX_ENTRY_COUNT then some (u32 catalog.length)
  else if e = E.DX_ENTRY_LIST then some entryList
  else if e = E.DX_EVENT_LIST then some eventList
  else if e = E.DX_PCI_IDS then some (padTo 8 (Config.moduleBytes e))
  else if e = E.DX_SESSIONS then some (vSessions s)
  else if e = E.DX_AREA_OWNERS then some (vAreaOwners s)
  else if e = E.DX_AREA_CLAIMERS then some ((SMap.get? s.dict.tabs e).getD (List.replicate 19 0x0F))
  else if e = E.DX_T1S_ADDR then some (padTo 6 (Config.moduleBytes e))
  else if e = E.DX_TRANSFERS then some (vTransfers s)
  else if e = E.DX_SUBSCRIPTIONS then some (vSubs s)
  else if e = E.DX_PENDING then some (vPending s)
  else none

/-- Whether the type code is a scalar's. -/
def scalarType (ty : Nat) : Bool := ty ≤ 11

/-- Value of an entry of the listing as a READ gives it, before the transport's byte order. -/
def entryValue (s : State) (session : Nat) (e : Entry) : Bytes :=
  match ownValue s session e.id with
  | some v => v
  | none =>
    if scalarType e.ty then beBytes e.size (getNum s e.id (ofSigned (8 * e.size) e.dfl))
    else (SMap.get? s.dict.tabs e.id).getD (if e.fixed || e.ty = 13 then gap e.size else [])

/-- The bytes of a value in a transport's order (R384). -/
def orderBytes (le : Bool) (e : Entry) (v : Bytes) : Bytes :=
  if !le then v
  else if scalarType e.ty then v.reverse
  else if e.layout = [] then v
  else ((chunks e.recSize v).map (flipPieces e.layout)).flatten

end Sys2Proof.Machine
end

