-- ==== Sys2Proof/Machine/Records.lean ====
section
/-! DEFINITION. The position record (R468 to R471) and the attestation report (R505). -/
namespace Sys2Proof.Machine
open Sys2Proof

/-! ### The position record -/

/-- Entries that section 0 leaves out (R470), and `RP_RESET`, which holds no value. -/
def recordLeavesOut (e : Nat) : Bool :=
  e < 0x000100 || (0x000200 ≤ e && e < 0x001000) || areaOf e == 13
    || e ∈ [E.OP_ELS_ADDR, E.OP_ELS_BIAS_CEIL, E.FT_PORT_ASYMMETRY, E.DX_T1S_PLCA_ID, E.DX_T1S_BOARD_ADDR, E.RP_POSITION_FA, E.RP_RESET]

/-- Whether section 0 carries an entry (R469). -/
def recordCarries (e : Entry) : Bool := e.retained && (e.acc == 2 || e.acc == 4) && !recordLeavesOut e.id

/-- Bytes up to the next multiple of `n`. -/
def padUp (n : Nat) (b : Bytes) : Bytes := padTo (ceilDiv b.length n * n) b

/-- Section 0. -/
def secValues (s : State) : Bytes :=
  ((catalog.filter recordCarries).map fun e =>
    let v := entryValue s 0 e
    u32 (e.id * 256) ++ u32 v.length ++ padUp 8 v).flatten

/-- Section 2: a route set in the form of R469. -/
def secRoutes (rs : RouteSet) : Bytes :=
  u32 rs.lpm.length ++ u32 rs.exact.length ++ u32 rs.hops.length ++ u32 rs.groups.length
    ++ (rs.lpm.map lpmRecord).flatten ++ (rs.exact.map exactRecord).flatten ++ (rs.hops.map hopRecord).flatten
    ++ (rs.groups.map groupRecord).flatten ++ seedBytes rs

/-- Section 3. -/
def secRegions (s : State) : Bytes :=
  recs 4096 fun n => match SMap.get? s.fm.regions n with
    | some r => defineRecord n 1 r
    | none => u32 n ++ gap 28

/-- Section 4. -/
def secFences (s : State) : Bytes :=
  u32 (getNum s E.HL_CERT_COUNTER 0) ++ u32 (getNum s E.TB_SUBST_COUNTER 0) ++ vFences s

/-- Lay sections out from 128 bytes on, each at a multiple of 64. -/
def layOut : Nat → List Bytes → List (Nat × Nat) × Bytes
  | _, [] => ([], [])
  | off, b :: r =>
    let p := padUp 64 b
    let (d, rest) := layOut (off + p.length) r
    ((off, b.length) :: d, p ++ rest)

/-- The record of the part as it stands, for the epoch boundary of a frame. -/
def positionRecord (frame : Nat) (s : State) : Bytes :=
  let img := (s.tt.active.map (·.bytes)).getD []
  let (dir, body) := layOut 128 [secValues s, img, secRoutes s.tb.active, secRegions s, secFences s]
  let epoch := (s.tt.active.map (·.epoch)).getD s.rp.held
  u32 0x57504F53 ++ u16 1 ++ u16 (getNum s E.BEHAVIOUR_LEVEL_ACTIVE 0x0400) ++ u32 (128 + body.length) ++ u32 epoch ++ u64 frame
    ++ u32 (posFa s) ++ gap 4 ++ padTo 16 (Config.moduleBytes E.ID_SERIAL)
    ++ (dir.map fun d => u64 (d.1 * 2 ^ 32 + d.2)).flatten ++ gap 40 ++ body

/-- POSITION_RECORD_BUILT (R471). -/
def execPositionRecordBuilt (s : State) : Out :=
  run (fun s => match s.rp.building with
    | none => s
    | some f =>
      if s.rp.sync != .current then { s with rp := { s.rp with building := none } }
      else { s with rp := { s.rp with building := none, record := positionRecord f s } }) s

/-! ### Attestation (R505) -/

/-- Value of an entry by its number, as a read on MC gives it. -/
def readMc (s : State) (e : Nat) : Bytes := match findEntry e with
  | some x => entryValue s 0 x
  | none => []

/-- Digest of what the part holds, or 48 zero bytes. -/
def digestOr (held : Bool) (b : Bytes) : Bytes := if held then sha b else gap 48

/-- The signed part of a report for a nonce. -/
def attestBody (nonce : Bytes) (s : State) : Bytes :=
  let img := (fwSlot s s.se.running).image
  let count := fun n => (s.se.owners.filter fun x => x.2.state == n).length
  u32 0x57415452 ++ u16 1 ++ u16 (getNum s E.BEHAVIOUR_LEVEL_ACTIVE 0x0400) ++ u32 448 ++ gap 4
    ++ padTo 16 (Config.moduleBytes E.ID_SERIAL) ++ padTo 32 nonce ++ beBytes 10 (now16 s) ++ gap 6 ++ u64 s.clk.tick
    ++ u32 (activeEpoch s) ++ u8 (syncCode s.rp.sync) ++ u8 (powerCode s.hl.power) ++ u8 s.se.running ++ gap 1
    ++ u8 (if img = [] then 0 else fwVersion img) ++ u8 s.se.fused ++ u8 (count 1 * 16 + count 2) ++ gap 1 ++ gap 4
    ++ u64 s.se.counter ++ digestOr (img != []) (slice img 0 864)
    ++ padTo 48 ((s.tt.active.map (·.digest)).getD []) ++ sha (secRoutes s.tb.active) ++ sha (vRegions s)
    ++ sha (([E.SE_MANAGER_KEYS, E.SE_QUORUM, E.DX_MC_SOURCES, E.DX_AREA_CLAIMERS, E.HL_CERT_COUNTER, E.HL_FENCES].map (readMc s)).flatten)

/-- The whole report: the device identity key signs it. -/
def attestReport (nonce : Bytes) (s : State) : Bytes :=
  let b := attestBody nonce s
  b ++ signature (padTo 97 (Config.moduleBytes E.SE_ID_PUBLIC)) b

/-- A write of `SE_ATTEST_REQUEST` by a session. -/
def attest (session : Nat) (nonce : Bytes) (s : State) : State :=
  let r := attestReport nonce s
  count E.SE_ATTEST_REPORTS 1
    { s with se := { s.se with reports := (session, r) :: s.se.reports.filter fun x => x.1 != session } }

end Sys2Proof.Machine
end

