-- ==== Sys2Proof/Machine/Judge.lean ====
section
/-! DEFINITION. What the part checks of a value that is written: its length, reserved bits, ranges and the rules of the owning
chapters (R379 to R388, steps 9 to 15). -/
namespace Sys2Proof.Machine
open Sys2Proof

/-- A status and its detail. -/
abbrev Verdict := Option (Nat × Nat)

/-! ### Length (step 9) -/

/-- Whether a route-write entry takes records of R265 or R266. -/
def tbWrites (id : Nat) : Bool := id ∈ [E.TB_LPM_WRITE, E.TB_EXACT_WRITE, E.TB_NEXTHOP_WRITE, E.TB_GROUP_WRITE]

/-- BLOB entries whose value has any length up to the largest. -/
def anyLength (id : Nat) : Bool := id ∈ [E.TT_NEXT_IMAGE, E.RP_POSITION_IMPORT, E.SE_FW_IMAGE, E.HL_CERT_SUBMIT]

/-- Whether a value of a length at an offset suits the entry (R379, R383); `size` is the present size of a table. -/
def lengthOk (e : Entry) (off len size : Nat) : Bool :=
  if e.ty = 14 then
    off % e.recSize == 0 && len % e.recSize == 0 && off + len ≤ e.size && (e.fixed || off ≤ size)
  else if off != 0 then false
  else if scalarType e.ty then len == e.size
  else if tbWrites e.id then len != 0 && len % tbRecSize e.id == 0 && len ≤ e.size
  else if anyLength e.id then len ≤ e.size
  else len == e.size

/-! ### Reserved bits and codes (step 10) -/

/-- Bits of one record that are not reserved, for entries that have reserved bits. The listings leave some bits without a
meaning and without the word "reserved": bits [7:2] or 7 of `HL_DI_UNMASK`, `TM_CLEAR`, `HL_GPO`, `PS_WAKE_SOURCES` and
`FT_SERVO_RESTART`, and the top byte of a U32 that holds an FA. The model treats them as reserved. DESIGN CHOICE, log entry 21. -/
def recordMask (e : Entry) : Bytes :=
  if scalarType e.ty then beBytes e.size e.mask
  else if e.id = E.PORT_CONFIG then w32 0x0000FFFF
  else if e.id = E.OP_ELS_ADDR || e.id = E.DX_T1S_BOARD_ADDR then [0, 0] ++ ones 6
  else if e.id = E.FT_LAUNCH_SOURCES || e.id = E.DX_MC_SOURCES then w32 0x00FFFFFF
  else if e.id = E.OT_SHAPER_CONFIG then w32 0xC00FFFFF ++ ones 4 ++ gap 8
  else if e.id = E.OT_SHAPER_MAP then w32 0x8FFF8FFF
  else if e.id = E.OT_POLICER_CONFIG then w32 0xF00FFFFF ++ ones 4 ++ w32 0x00FFFFFF ++ gap 4
  else if e.id = E.OT_POLICER_MAP then [0x8F, 0xFF]
  else if e.id = E.HL_RULES then w32 0xFEFFFFFF ++ ones 12 ++ gap 16
  else if e.id = E.SE_MANAGER_KEYS || e.id = E.SE_OWNER_ENROL then ones 1 ++ gap 7 ++ ones 97 ++ gap 7
  else if e.id = E.TM_PROG_CONFIG then w32 0xFFF8FFFF ++ w32 0x000003FF
  else if e.id = E.TM_SAMPLER_CONFIG then
    w32 0xE0FFFFFF ++ w32 0xF0FFF800 ++ w32 0xFFFFF000 ++ w32 0xFFFF0000 ++ (List.replicate 4 (w32 0x00FFFFFF)).flatten
  else if e.id = E.TM_DUMP_HOST then ones 12 ++ gap 4
  else if e.id = E.DX_AREA_CLAIMERS then [0x0F]
  else if e.id = E.OP_LANE_COMMAND then ones 3 ++ gap 5
  else if e.id = E.CH_LOOP_COMMAND then w32 0xFFFFC000 ++ gap 4
  else if e.id = E.TB_SUBSTITUTE then
    w32 0x00FFFFFF ++ w32 0x000001FF ++ ones 4 ++ w32 0x000000FF ++ w32 0x00FFFFFF ++ gap 4 ++ ones 104
  else if e.id = E.FM_REGION_DEFINE then w32 0xC000FFFF ++ ones 28
  else if e.id = E.RP_WITHDRAW then ones 8 ++ w32 0xFFFF0000 ++ gap 4
  else if e.id = E.RP_RESET then w32 0xFF800000 ++ gap 4 ++ ones 8
  else if e.id = E.RP_STREAM_START then w32 0x00FFFFFF ++ ones 1 ++ gap 3 ++ ones 8 ++ w32 0xFFF00000 ++ gap 4
  else if e.id = E.RP_STREAM_ACCEPT then w32 0x00FFFFFF ++ gap 4 ++ ones 8 ++ w32 0xFFF00000 ++ gap 4
  else []

/-- Byte of a record that holds a reserved code, most significant byte first. -/
def reservedCode (id : Nat) (r : Bytes) : Option Nat :=
  if id = E.HL_RULES then
    if bits (beAt r 0 4) 25 2 = 3 then some 0
    else if bits (beAt r 0 4) 13 3 = 7 then some 2
    else if bits (beAt r 4 4) 28 4 > 2 then some 4 else none
  else if id = E.TM_PROG_CONFIG then (if bits (beAt r 0 8) 61 2 = 3 then some 0 else none)
  else if id = E.FM_REGION_DEFINE then (if 1 ≤ bits (beAt r 0 4) 12 4 && bits (beAt r 0 4) 12 4 ≤ 4 then none else some 2)
  else none

/-- Records of a write, numbered as in the table. -/
def writeRecs (e : Entry) (off : Nat) (v : Bytes) : List (Nat × Bytes) :=
  if e.ty = 14 then (List.range (v.length / e.recSize)).map fun i => (off / e.recSize + i, slice v (i * e.recSize) e.recSize)
  else [(0, v)]

/-- Byte offset in the value of the first reserved bit or code that is set. `le`: the value travelled little-endian. -/
def reservedAt (le : Bool) (e : Entry) (off : Nat) (v : Bytes) : Option Nat :=
  let size := if e.ty = 14 then e.recSize else v.length
  let mask := orderBytes le e (recordMask e)
  (writeRecs e off v).findSome? fun x =>
    let a := maskBreak mask (orderBytes le e x.2)
    let b := reservedCode e.id x.2
    let m := match a, b with
      | some i, some j => some (min i j)
      | some i, none => some i
      | none, j => j
    m.map fun i => x.1 * size + i

/-! ### Ranges (step 11) -/

/-- Last index of an input class of R420. -/
def classLast : Nat → Nat
  | 0 => 63
  | 1 => 10
  | 2 => 5119
  | 3 => 6271
  | 4 => 799
  | 5 => 6
  | 6 => 511
  | _ => 0

/-- Whether an action parameter suits a rule's action (R423). -/
def ruleParamOk (act cls p : Nat) : Bool := match act with
  | 0 => true
  | 2 => p == 0 && (cls == 2 || cls == 3)
  | 3 => bits p 6 9 == 0 && (bits p 4 2 == 1 || bits p 4 2 == 2)
  | 6 => bits p 9 7 == 0 && bits p 0 8 ≤ 1
  | 7 => false
  | _ => p == 0

/-- Whether an enabled rule keeps R422 and R423. -/
def ruleOk (r : Bytes) : Bool :=
  let w := beAt r 0 4
  let x := beAt r 4 4
  let set := toSigned 32 (beAt r 8 4)
  let clear := toSigned 32 (beAt r 12 4)
  let n := bits x 16 8
  !bit w 31 ||
    (1 ≤ bits w 16 8 && 1 ≤ n && n ≤ 64 && bits w 0 13 + n ≤ classLast (bits w 13 3) + 1
      && (if bit w 27 then decide (set ≤ clear) else decide (clear ≤ set)) && ruleParamOk (bits w 28 3) (bits w 13 3) (bits x 0 16))

/-- Whether a programmable counter's record keeps R514. -/
def progOk (i : Nat) (r : Bytes) : Bool :=
  let w := beAt r 0 8
  let ev := bits w 0 10
  (if bits w 61 2 = 0 then ev < 768 else 768 ≤ ev) && (!bit w 60 || i % 2 == 0) && (bit w 51 || bits w 32 16 == 0)

/-- Whether a binary32 value lies between two bounds; every finite value does where there are none. -/
def f32In (v : Nat) (bounds : Option (Rat × Rat)) : Bool :=
  bits v 23 8 != 255 && (match bounds with
    | none => true
    | some (a, b) => decide (a ≤ ratOf32 v) && decide (ratOf32 v ≤ b))

/-- Bounds of the gains. -/
def f32Bounds (id : Nat) : Option (Rat × Rat) :=
  if id = E.OP_KP then some (0, 2)
  else if id = E.OP_KI then some (0, 1 / 2)
  else if id = E.FT_KP_A || id = E.FT_KP_B then some (0, 1)
  else if id = E.FT_KI_A || id = E.FT_KI_B then some (0, 1 / 8)
  else none

/-- Whether a scalar's value lies in the range of its listing. -/
def scalarOk (s : State) (e : Entry) (v : Nat) : Bool :=
  if e.ty = 10 then f32In v (f32Bounds e.id)
  else if 6 ≤ e.ty && e.ty ≤ 9 then decide (e.lo ≤ toSigned (8 * e.size) v) && decide (toSigned (8 * e.size) v ≤ e.hi)
  else if e.id = E.OT_HEAD_DROP_US || e.id = E.OT_HEAD_DROP_MARKED_US then v == 0 || (10 ≤ v && v ≤ 1000000)
  else if e.id = E.OP_UNLOCK_GHZ then Cfg.OP_LOCK_GHZ s < v && v ≤ 400
  else if e.id = E.BI_STRATA_TEST_NOW then v / 256 ≤ 3 && v % 256 ≤ 135
  else decide (e.lo ≤ (v : Int)) && decide ((v : Int) ≤ e.hi)

/-- Whether a record of a table or BLOB keeps the ranges of its listing. -/
def recordOk (id i : Nat) (r : Bytes) : Bool :=
  if id = E.PORT_CONFIG then beAt r 2 1 ≤ 2 && (beAt r 2 1 == 2 || beAt r 3 1 ≤ 1)
  else if id = E.OT_SHAPER_CONFIG then
    let w := beAt r 0 4
    !bit w 31 || (1 ≤ bits w 0 20 && bits w 0 20 ≤ 800000)
  else if id = E.OT_POLICER_CONFIG then
    let w := beAt r 0 4
    (!bit w 31 || (1 ≤ bits w 0 20 && bits w 0 20 ≤ 800000)) && (bits w 28 2 == 3 || beAt r 8 4 == 0)
  else if id = E.HL_RULES then ruleOk r
  else if id = E.HL_DI_CONFIG then 1 ≤ beAt r 0 2 && beAt r 0 2 ≤ 10000
  else if id = E.TM_PROG_CONFIG then progOk i r
  else if id = E.TM_SAMPLER_CONFIG then !bit (beAt r 0 4) 31 || 1 ≤ bits (beAt r 0 4) 0 24
  else if id = E.TM_DUMP_HOST then beAt r 0 8 % 4096 == 0 && beAt r 8 4 % 434432 == 0
  else if id = E.OP_LANE_COMMAND then
    let v := beNat r
    bits v 48 16 ≤ 511 && bits v 45 3 ≤ 3 && (bits v 40 4 == 1 || bits v 40 4 == 2)
  else if id = E.CH_LOOP_COMMAND then beAt r 0 1 / 16 == 1 || beAt r 0 1 / 16 == 2
  else if id = E.FM_MCAST_LOCAL then beAt r 0 4 ≤ 16383
  else if id = E.RP_RESET then
    (beAt r 0 1 == 2 || beAt r 0 1 == 3) && (bit (beAt r 0 4) 23 || beAt r 8 8 == 0)
  else if id = E.RP_STREAM_START then beAt r 4 1 ≤ 1
  else true

/-- Record number of the first value outside its range. -/
def rangeBad (s : State) (e : Entry) (off : Nat) (v : Bytes) : Option Nat :=
  if scalarType e.ty then (if scalarOk s e (beNat v) then none else some 0)
  else ((writeRecs e off v).find? fun x => !recordOk e.id x.1 x.2).map (·.1)

/-! ### The named tick (step 12) -/

/-- In Rest a write of Active or Trim takes effect at once (R429), so that it names no tick. -/
def wakesNow (s : State) (id : Nat) (v : Bytes) : Bool := id == E.PS_REQUEST && s.hl.power == .rest && beNat v < 2

/-- Whether the header's tick is right for the entry (R382), and the owning chapter takes the tick named. -/
def tickOk (s : State) (e : Entry) (tick : Nat) (v : Bytes) : Bool :=
  let lead := getNum s E.DX_TICK_LEAD 4
  if e.eff != 2 then tick == 0
  else if wakesNow s e.id v then true
  else s.clk.tick + lead ≤ tick && tick ≤ s.clk.tick + 2 ^ 20 && tickRule s e.id (beNat v) tick

/-! ### The owning chapters' rules (step 15) -/

/-- Configured FEC mode of a port's record (R351): 3 where it has none. -/
def configuredFec (w : Nat) : Nat := match bits w 8 8 with
  | 1 => bits w 0 8
  | 2 => 2
  | _ => 3

/-- Ports that the active image's chute map names. -/
def chutePorts (s : State) : List Nat := match s.tt.active with
  | none => []
  | some i => i.chutes.flatMap fun c => [32 * c.wing + c.i, 32 * c.wing + c.j]

/-- Whether a map record names only shapers of the port's bench, and two different ones (R290). -/
def shaperMapOk (i : Nat) (r : Bytes) : Bool :=
  let w := beAt r 0 4
  let b := benchOf (i / 3)
  (!bit w 31 || bits w 16 12 / 32 == b) && (!bit w 15 || bits w 0 12 / 32 == b)
    && !(bit w 31 && bit w 15 && bits w 16 12 == bits w 0 12)

def policerMapOk (i : Nat) (r : Bytes) : Bool :=
  let w := beAt r 0 2
  !bit w 15 || bits w 0 12 / 32 == benchOf (i / 3)

/-- A record of a table write that the owning chapter refuses. -/
def recordRefused (s : State) (id i : Nat) (r : Bytes) : Bool :=
  if id = E.PORT_CONFIG then (chutePorts s).contains i && configuredFec (beAt r 0 4) != configuredFec (portCfg s i)
  else if id = E.OT_SHAPER_MAP then !shaperMapOk i r
  else if id = E.OT_POLICER_MAP then !policerMapOk i r
  else if id = E.HL_RULES then i < 8 && r != slice (tabBytes s E.HL_RULES rulesDefault) (32 * i) 32
  else false

/-- Whether the owning chapter refuses a scalar's value, written for a tick. -/
def scalarRefused (s : State) (id v tick : Nat) : Bool :=
  if id = E.BEHAVIOUR_LEVEL_SET then v < 0x400 || getNum s E.BEHAVIOUR_LEVEL_MAX 0x400 < v
  else if id = E.FT_ORIGIN_SECONDS then s.ft.gen != .free
  else if id = E.FT_DOMAIN_SELECT then (domainSelect v s).isNone
  else if id = E.TT_VARIANT_NEXT then !variantHeld (nextHeld s) v
  else if id = E.RP_POSITION_FA then positionRefused s
  else if id = E.SE_QUORUM then quorumRefused v s
  else if id = E.SE_FW_ACTIVATE then fwActivateRefused v s
  else if id = E.SE_ROLLBACK_COMMIT then rollbackRefused v s
  else if id = E.RP_BENCH_RESET then benchResetRefused v s
  else if id = E.BI_STRATA_TEST_NOW then (bankOf s (bankKey (v / 256) (v % 256))).state == .mappedOut
  else atTickRefused s s.tt.active id v tick

/-- Refusal by the owning chapter of an entry whose write sets a value for a tick: status and detail. -/
def ownerRefuses (s : State) (e : Entry) (off tick : Nat) (v : Bytes) : Verdict :=
  if scalarType e.ty then
    if scalarRefused s e.id (beNat v) tick then some (St.REFUSED, 0)
    else if e.id = E.BI_STRATA_TEST_NOW && bankBusy (beNat v / 256) s then some (St.BUSY, 0)
    else none
  else ((writeRecs e off v).find? fun x => recordRefused s e.id x.1 x.2).map fun x => (St.REFUSED, x.1)

/-! ### The value as it will stand (R383) -/

/-- The whole value after a write on it. -/
def newValue (e : Entry) (off : Nat) (v old : Bytes) : Bytes :=
  if e.ty = 14 && (e.fixed || off != 0) then splice old off v else v

/-- The value that the latest pending write of an entry will put in force; the value in force where none is pending. -/
def pendingValue (s : State) (session : Nat) (e : Entry) : Bytes :=
  let cur := entryValue s session e
  let ws := s.dx.pending.filter fun w => w.entry == e.id
  if e.id = E.TB_SEED_NEXT then seedBytes (futureShadow s)
  else match ws.getLast? with
    | none => cur
    | some l =>
      let before := (ws.filter fun w => w.tick.any fun t => l.tick.any (t < ·)).mergeSort fun a b => a.tick.getD 0 ≤ b.tick.getD 0
      newValue e l.offset l.body (before.foldl (fun b w => newValue e w.offset w.body b) cur)

end Sys2Proof.Machine
end

