-- ==== Sys2Proof/Machine/Writes.lean ====
section
/-! DEFINITION. What a write does when it takes effect (R382, R383). -/
namespace Sys2Proof.Machine
open Sys2Proof

/-! ### Ports (R135, R141) -/

/-- A port whose configuration changes goes down and retrains: lanes, link and neighbour start anew (R135). -/
def portRetrain (p : Nat) (s : State) : State :=
  let s := if portState s p = .inService then portFalls p s else s
  let ofPort := fun (n k : Nat) => k / n == p
  let lanes := (s.op.lanes.filter fun x => !ofPort 10 x.1) ++ (s.bi.deadLanes.filter fun k => ofPort 10 k && k % 5 != 4).map fun k => (k, LaneSt.fault)
  let lanes := lanes.foldl (fun m x => SMap.set m x.1 x.2) []
  let reserves := (s.bi.deadLanes.filter fun k => ofPort 10 k && k % 5 == 4).foldl (fun m k => SMap.set m (k / 5) .unavailable)
    (s.op.reserves.filter fun x => !ofPort 2 x.1)
  let fresh := fun (x : Nat × Neighbour) =>
    if x.1 = p && x.2.state != .fenced then (x.1, { x.2 with state := .unknown, counted := false, good := 0, frameSuspect := false }) else x
  { s with
    op := { s.op with
      lanes := lanes, reserves := reserves
      markers := s.op.markers.filter fun x => !ofPort 5 x.1
      roles := s.op.roles.filter fun x => !ofPort 5 x.1
      moves := s.op.moves.filter fun m => m.port != p
      faultSent := s.op.faultSent.filter fun x => !ofPort 10 x.1
      outbox := s.op.outbox.filter fun x => x.1 != p
      again := s.op.again.filter fun x => x.1 != p
      recent := s.op.recent.filter fun x => !ofPort 10 x.1 }
    links := s.links.map fun x => if x.1 = p then (x.1, linkTrain x.2) else x
    hl := { s.hl with neighbours := s.hl.neighbours.map fresh }
    rp := { s.rp with heard := SMap.erase s.rp.heard p } }

/-- What a port's record configures: the FEC mode is ignored in cell mode. -/
def portMeaning (w : Nat) : Nat × Nat := (bits w 8 8, if bits w 8 8 = 1 then bits w 0 8 else 0)

/-! ### Entries whose write sets a value -/

/-- Set a value without more: a scalar, or the whole of a table or BLOB. -/
def putValue (e : Entry) (v : Bytes) (s : State) : State :=
  if scalarType e.ty then setNum e.id (beNat v) s else setTab e.id v s

/-- Records of `n` bytes whose bytes differ under `f`, among those a write carries. -/
def changedRecs (e : Entry) (off : Nat) (v old new : Bytes) (f : Bytes → Nat) : List Nat :=
  ((writeRecs e off v).map (·.1)).filter fun i => f (slice old (i * e.recSize) e.recSize) != f (slice new (i * e.recSize) e.recSize)

/-- Fields of a shaper or policer record whose change starts it afresh: all but the overhead, the reset bit and the action
(R296). -/
def bucketFields (r : Bytes) : Nat :=
  let w := beAt r 0 4
  (b2n (bit w 31) * 2 ^ 20 + bits w 0 20) * 2 ^ 88 + beAt r 5 3 * 2 ^ 64 + beAt r 8 8

/-- A selection of the mirrored partner changes (R235, R236). -/
def partnerSet (v : Nat) (s : State) : State :=
  if v = Cfg.FM_MIRROR_PARTNER s then s else mirrorPartner (setNum E.FM_MIRROR_PARTNER v s)

/-- A new quantum restarts every stamp (R280). -/
def quantumSet (v : Nat) (s : State) : State :=
  let s := setNum E.TB_AGE_QUANTUM_US v s
  { s with tb := { s.tb with learned := s.tb.learned.map fun x => (x.1, { x.2 with stamp := nowQ s }) } }

/-- `PS_REQUEST`: a request of Rest waits for its boundary, where REST_ENTRY acts. A request of Active or Trim that takes effect
first, or at that boundary after it, stands in its place (R9). -/
def requestSet (v : Nat) (s : State) : State :=
  let s := setNum E.PS_REQUEST v s
  if v < 2 then
    powerEffect v { s with hl := { s.hl with restTick := s.hl.restTick.filter (s.clk.tick < ·) } }
  else s

/-- A value takes effect. -/
def valueEffect (e : Entry) (off : Nat) (v : Bytes) (s : State) : State :=
  let old := entryValue s 0 e
  let new := newValue e off v old
  let n := beNat v
  let plain := putValue e new s
  if e.id = E.PORT_CONFIG then
    (changedRecs e off v old new fun r => (portMeaning (beNat r)).1 * 256 + (portMeaning (beNat r)).2).foldl (fun s p => portRetrain p s) plain
  else if e.id = E.OT_SHAPER_CONFIG then (changedRecs e off v old new bucketFields).foldl (fun s i => shaperReset i s) plain
  else if e.id = E.OT_POLICER_CONFIG then (changedRecs e off v old new bucketFields).foldl (fun s i => policerReset i s) plain
  else if e.id = E.TM_PROG_CONFIG then progConfig old new plain
  else if e.id = E.TM_SAMPLER_CONFIG then samplerConfig (off / 32) (v.length / 32) plain
  else if e.id = E.TM_CAPTURE_RING_MIB then (if n = Cfg.TM_CAPTURE_RING_MIB s then plain else captureRestart plain)
  else if e.id = E.TM_CLEAR then
    let s := latchDue s
    let s := if bit n 0 then clearFixed s else s
    if bit n 1 then clearProg s else s
  else if e.id = E.TM_LATCH_NOW then (if n = 1 then latch 4 s else s)
  else if e.id = E.FM_CHECKPOINT_STEP then checkpointTake n plain
  else if e.id = E.FM_CHECKPOINT_RESTORE then checkpointBack s
  else if e.id = E.FM_MIRROR_PARTNER then partnerSet n s
  else if e.id = E.FM_MIRROR_FROM then mirrorFrom n s
  else if e.id = E.TB_AGE_QUANTUM_US then quantumSet n s
  else if e.id = E.HL_RULES then withPins (fun s => rulesWritten old new (setTab e.id new s)) s
  else if e.id = E.HL_GPO then withPins (putValue e new) s
  else if e.id = E.PS_REQUEST then requestSet n s
  else if e.id = E.FT_ENABLE_A || e.id = E.FT_ENABLE_B then servoEnables plain
  else if e.id = E.RP_POSITION_FA then positionFa n s
  else if e.id = E.BEHAVIOUR_LEVEL_SET then setNum E.BEHAVIOUR_LEVEL_ACTIVE n plain
  else if e.id = E.FT_DOMAIN_SELECT then (domainSelect n s).getD s
  else if e.id = E.SE_FW_ACTIVATE then fwActivate n s
  else if e.id = E.SE_ROLLBACK_COMMIT then rollbackCommit n s
  else if e.id = E.SE_MANAGER_KEYS then managerKeysSet new s
  else if e.id = E.SE_QUORUM then quorumSet n s
  else plain

/-! ### Entries whose write carries a command (R9) -/

/-- What a command is answered with. A reset sends no answer (R415). -/
structure Answer where
  status : Nat
  detail : Nat := 0
  body : Bytes := []
  sent : Bool := true
  /-- Session of the answer's header, where it differs from the command's. -/
  session : Option Nat := none
deriving DecidableEq, Repr

def answerDone : Answer := { status := St.DONE }
def answerRefused (d : Nat) : Answer := { status := St.REFUSED, detail := d }

/-- An effect where it is allowed. -/
def actIf (ok : Bool) (f : State → State) (s : State) : State × Answer := if ok then (f s, answerDone) else (s, answerRefused 0)

/-- `OP_LANE_COMMAND`. -/
def laneCommand (v : Nat) (s : State) : State :=
  if bits v 40 4 = 1 then movePropose (bits v 48 16) (bits v 44 1) (bits v 45 3) 6 s else returnPropose (bits v 48 16) (bits v 44 1) (bits v 45 3) 6 s

/-- A route write or a seed write, answered as R580 says. -/
def routeCommand (w : TbWrite) (s : State) : State × Answer :=
  match tbTake w s with
  | (s, none) => (s, answerDone)
  | (s, some f) => (s, { status := f.status, detail := f.detail })

/-- The reason a substitution notice is refused, by the list of R277 from 1; 0 where it is accepted. -/
def substReason (b : Bytes) (s : State) : Nat :=
  let fa := beAt b 1 3
  let port := beAt b 4 4
  let sigOk := match managerKey s (beAt b 0xF 1) with
    | some k => verify k (b.take 0x20) (slice b 0x20 96)
    | none => false
  if !sigOk then 1
  else if beAt b 0x11 3 != posFa s then 2
  else if beAt b 8 4 ≤ getNum s E.TB_SUBST_COUNTER 0 then 3
  else if beAt b 0x18 8 < s.clk.tick then 4
  else if portFormat s port = 0 || !learnOn s port then 5
  else if (SMap.get? s.tb.active.exact fa).isSome then 6
  else 0

/-- `TB_SUBSTITUTE` (R277). The manual gives the reasons no codes. -/
def substitute (b : Bytes) (s : State) : State × Answer :=
  let fa := beAt b 1 3
  let port := beAt b 4 4
  let bad := fun (n : Nat) =>
    (raise Ev.TB_SUBST_REFUSED [.u8 (Config.openFn 25 [n] % 256)] (count E.TB_SUBST_REFUSED 1 s), answerRefused 0)
  match substReason b s with
  | 0 => match bindLearned fa port s with
    | none =>
      let (t, a) := bad 7
      (rehashRequest 1 s.tb.active.exactPlaces.length t, a)
    | some t =>
      let moved := (SMap.get? s.tb.learned fa).any fun l => l.port != port
      let t := if moved then tally E.TB_LEARN_MOVES (benchOf port) 106 1 {} t else t
      (raise Ev.TB_SUBSTITUTED [.u32 fa, .u16 port, .u32 (beAt b 8 4)] (setNum E.TB_SUBST_COUNTER (beAt b 8 4) t), answerDone)
  | n => bad n

/-- `RP_WITHDRAW`. -/
def withdrawCommand (v : Bytes) (s : State) : State × Answer :=
  let w := beAt v 0 8
  match withdrawJudge w (beAt v 8 2) s with
  | 0 => (withdrawAccept w (withdrawLoss (beAt v 8 2) s) 1 s, answerDone)
  | st => (s, { status := st })

/-- `RP_RESET`: at once, or at W after a withdraw. -/
def resetCommand (v : Bytes) (s : State) : State × Answer :=
  let cls := beAt v 0 1
  if bit (beAt v 0 4) 23 then
    let w := beAt v 8 8
    match withdrawJudge w 0 s with
    | 0 => (withdrawAccept w (withdrawLoss 0 s) (cls + 1) s, answerDone)
    | st => (s, { status := st })
  else (resetNow cls s, { status := St.DONE, sent := false })

/-- Entries whose writes are carried out one by one. -/
def commandEntry (id : Nat) : Bool :=
  tbWrites id || id ∈ [E.OP_LANE_COMMAND, E.OP_ELS_REPLACE_PREPARE, E.CH_LOOP_COMMAND, E.TT_NEXT_DISCARD, E.FT_SERVO_RESTART,
    E.FT_ACTION_ADD, E.FT_ACTION_ARM, E.FT_ACTION_CANCEL, E.TB_SEED_NEXT, E.TB_SUBSTITUTE, E.FM_REGION_DEFINE,
    E.CR_MISSING_LOG_CLEAR, E.HL_DI_UNMASK, E.HL_FAULT_CLEAR, E.HL_ATTN_CLEAR, E.HL_CERT_SUBMIT, E.RP_WITHDRAW, E.RP_RESET,
    E.RP_BENCH_RESET, E.RP_STREAM_START, E.RP_STREAM_ACCEPT, E.RP_STREAM_ABORT, E.SE_OWNER_ENROL, E.SE_OWNER_REVOKE,
    E.SE_ATTEST_REQUEST, E.TM_CAPTURE_RESTART, E.BI_STRATA_TEST_NOW]

/-- Carry out the command that a write carries. -/
def commandEffect (c : Cmd) (e : Entry) (off : Nat) (v : Bytes) (s : State) : State × Answer :=
  let n := beNat v
  let always := fun (f : State → State) => (f s, answerDone)
  let onOne := fun (f : State → State) => (if n = 1 then f s else s, answerDone)
  if tbWrites e.id then routeCommand { entry := e.id, body := v, seed := false } s
  else if e.id = E.TB_SEED_NEXT then
    routeCommand { entry := e.id, body := splice (seedBytes (futureShadow s)) off v, seed := true } s
  else if e.id = E.OP_LANE_COMMAND then always (laneCommand n)
  else if e.id = E.OP_ELS_REPLACE_PREPARE then always (elsPrepare n)
  else if e.id = E.CH_LOOP_COMMAND then
    match loopCommand n s with
    | (s, true) => (s, answerDone)
    | (s, false) => (s, answerRefused 0)
  else if e.id = E.TT_NEXT_DISCARD then onOne (nextGone .empty)
  else if e.id = E.FT_SERVO_RESTART then always (servoRestart n)
  else if e.id = E.FT_ACTION_ADD then
    match actAdd v s with
    | (s, true) => (s, answerDone)
    | (s, false) => (s, answerRefused 0)
  else if e.id = E.FT_ACTION_ARM || e.id = E.FT_ACTION_CANCEL then
    match actCommand (e.id == E.FT_ACTION_ARM) n (srcFa c.src) s with
    | (s, 0) => (s, answerDone)
    | (s, d) => (s, answerRefused d)
  else if e.id = E.TB_SUBSTITUTE then substitute v s
  else if e.id = E.FM_REGION_DEFINE then
    match regionCommand v s with
    | some s => (s, answerDone)
    | none => (s, answerRefused 0)
  else if e.id = E.CR_MISSING_LOG_CLEAR then onOne fun s => { s with cr := { s.cr with log := [], written := 0 } }
  else if e.id = E.HL_DI_UNMASK then always (withPins (diUnmask n))
  else if e.id = E.HL_FAULT_CLEAR then always (faultClear n)
  else if e.id = E.HL_ATTN_CLEAR then always (attnClear n)
  else if e.id = E.HL_CERT_SUBMIT then
    match certSubmit v s with
    | (s, true) => (s, answerDone)
    | (s, false) => (s, answerRefused 0)
  else if e.id = E.RP_WITHDRAW then withdrawCommand v s
  else if e.id = E.RP_RESET then resetCommand v s
  else if e.id = E.RP_BENCH_RESET then actIf (!benchResetRefused n s) id s
  else if e.id = E.RP_STREAM_START then actIf (!streamStartRefused v s) (streamStart v) s
  else if e.id = E.RP_STREAM_ACCEPT then actIf (!streamRunning s) (streamAccept v) s
  else if e.id = E.RP_STREAM_ABORT then onOne streamAbandon
  else if e.id = E.SE_OWNER_ENROL then actIf (!enrolRefused v s) (ownerEnrol v) s
  else if e.id = E.SE_OWNER_REVOKE then actIf (!revokeRefused n (sigIndex c) s) (ownerRevoke n) s
  else if e.id = E.SE_ATTEST_REQUEST then always (attest c.session.toNat v)
  else if e.id = E.TM_CAPTURE_RESTART then onOne captureRestart
  else if e.id = E.BI_STRATA_TEST_NOW then
    match ownerRefuses s e off 0 v with
    | some x => (s, { status := x.1, detail := x.2 })
    | none => (bankTestNow (n / 256) (n % 256) s, answerDone)
  else always id

/-! ### Taking a write -/

/-- What a refused write raises besides its answer: R303 and R428. -/
def refusalEvents (e : Entry) (off : Nat) (v : Bytes) (st d : Nat) (s : State) : State :=
  if e.id ∈ [E.OT_SHAPER_CONFIG, E.OT_SHAPER_MAP, E.OT_POLICER_CONFIG, E.OT_POLICER_MAP]
      && (st == St.RESERVED_SET || st == St.OUT_OF_RANGE || st == St.REFUSED) then
    raise Ev.OT_CONFIG_REFUSED [.u32 (e.id * 256), .u16 (if st = St.RESERVED_SET then d / e.recSize else d)] s
  else if e.id = E.PS_REQUEST && st == St.REFUSED && beNat v == 2 then
    raise Ev.PS_REST_REFUSED [.u8 ((restRefusal s).getD 0)] s
  else if off = 0 then s else s

/-- Put a write among the pending ones; a request of Rest is accepted with it, and a selection is taken up. -/
def pend (e : Entry) (session off tick : Nat) (v : Bytes) (s : State) : State :=
  let w : PendWrite := { entry := e.id, session := session, tick := if e.eff = 2 then some tick else none, offset := off, body := v }
  let s := { s with dx := { s.dx with pending := s.dx.pending ++ [w] } }
  if e.id = E.PS_REQUEST && beNat v == 2 then restAccept tick s
  else if e.id = E.TT_VARIANT_SELECT then reselect s
  else s

/-- Complete a write that has passed the checks up to step 14. `full`: some limit of chapter 13 forbids it (step 16). -/
def takeWrite (c : Cmd) (e : Entry) (off tick : Nat) (v : Bytes) (full : Bool) (s : State) : State × Answer :=
  let limit : Answer := { status := St.NO_RESOURCES }
  if commandEntry e.id then
    let (t, a) := commandEffect c e off v s
    if full && a.status == St.DONE then (s, limit) else (t, a)
  else match ownerRefuses s e off (if e.eff = 2 then tick else s.clk.tick) v with
    | some x => (refusalEvents e off v x.1 x.2 s, { status := x.1, detail := x.2 })
    | none =>
      if full then (s, limit)
      else if e.eff = 1 || wakesNow s e.id v then (valueEffect e off v s, answerDone)
      else if s.dx.pending.length ≥ 1024 then (s, limit)
      else (pend e c.session.toNat off tick v s, answerDone)

/-! ### Pending writes (R382, R9) -/

/-- Whether a pending write is due: its boundary has come, and the frame's swap has been done. -/
def writeDue (s : State) (w : PendWrite) : Bool := w.tick.any (· ≤ s.clk.tick) && s.frame == frameOf s

/-- Entries of pending writes that rows of their own carry out. -/
def ownRow (id : Nat) : Bool := id ∈ [E.TT_VARIANT_SELECT, E.FM_CHECKPOINT_STEP, E.FM_CHECKPOINT_RESTORE]

/-- Entries whose at-tick writes are all carried out (R9): those whose write carries a command. For `TM_CLEAR` the spec does not
say whether its write sets a value or carries a command; the model carries every write out. DESIGN CHOICE, log entry 22. -/
def neverSuperseded (id : Nat) : Bool := id ∈ [E.TM_CLEAR, E.TM_LATCH_NOW, E.FM_CHECKPOINT_RESTORE]

/-- The status that the owning chapter's refusal of a DICT_WRITE draws at its fire tick. -/
def dictRefused (a : ActEntry) (s : State) : Option Nat :=
  match findEntry (dictEntry a.record) with
  | none => some St.REFUSED
  | some e => (ownerRefuses s e 0 s.clk.tick (beBytes e.size (dictValue a.record))).map (·.1)

/-- Whether a timed action of the running tick writes the entry later (R413). -/
def actionOver (s : State) (id : Nat) : Bool :=
  actLive s && s.ft.acts.any fun x =>
    actReady s x.2 && x.2.record.code == 5 && dictEntry x.2.record == id && (dictRefused x.2 s).isNone

/-- Carry out the pending writes of an entry for one tick: of several the one that completed last stands, and none where a timed
action of the tick writes the entry too (R9, R413). Writes that carry commands are carried out one by one in their order. The
writes of an earlier tick come first. -/
def pendingTake (w : PendWrite) (s : State) : State :=
  let same := fun (x : PendWrite) => x.entry == w.entry && x.tick == w.tick
  let ws := s.dx.pending.filter same
  let left := fun (l : List PendWrite) (s : State) => { s with dx := { s.dx with pending := l } }
  let act := fun (x : Option PendWrite) (s : State) => match x, findEntry w.entry with
    | some x, some e => valueEffect e x.offset x.body s
    | _, _ => s
  if s.dx.pending.any fun x => x.entry == w.entry && x.tick.any fun t => w.tick.any (t < ·) then s
  else if neverSuperseded w.entry then act ws.head? (left (ws.head?.elim s.dx.pending (s.dx.pending.erase ·)) s)
  else
    let acted := actionOver s w.entry
    let s := count E.DX_SUPERSEDED (ws.length - if acted then 0 else 1) (left (s.dx.pending.filter fun x => !same x) s)
    if acted then s else act ws.getLast? s

/-- PENDING_WRITE_EFFECT (R382). -/
def execPendingWriteEffect (n : Nat) (s : State) : Out :=
  run (fun s => match (s.dx.pending.drop n).head? with
    | none => s
    | some w => if writeDue s w && !ownRow w.entry then pendingTake w s else s) s

/-- The earliest pending write of an entry that is due. -/
def pendingOf (s : State) (id : Nat) : Option PendWrite :=
  (s.dx.pending.filter fun x => x.entry == id && writeDue s x).foldl (fun (m : Option PendWrite) x => match m with
    | some y => if x.tick.getD 0 < y.tick.getD 0 then some x else m
    | none => some x) none

/-- CHECKPOINT_RESTORE (R239): every due write to `FM_CHECKPOINT_RESTORE`, one a command. -/
def execCheckpointRestore (s : State) : Out :=
  run (fun s => match pendingOf s E.FM_CHECKPOINT_RESTORE with
    | some w => pendingTake w s
    | none => s) s

/-- CHECKPOINT_SNAPSHOT (R238): a due write to `FM_CHECKPOINT_STEP`, once no restore of the tick is outstanding (R252). -/
def execCheckpointSnapshot (s : State) : Out :=
  run (fun s => match pendingOf s E.FM_CHECKPOINT_STEP with
    | some w => if (pendingOf s E.FM_CHECKPOINT_RESTORE).isSome then s else pendingTake w s
    | none => s) s

/-- Writes to `PORT_CONFIG` due at a frame boundary take effect before its swap (R141). -/
def portWrites (s : State) : State :=
  let due := fun (s : State) => s.dx.pending.find? fun w => w.entry == E.PORT_CONFIG && w.tick.any (· ≤ s.clk.tick)
    && !s.dx.pending.any fun x => x.entry == w.entry && x.tick.any fun t => w.tick.any (t < ·)
  s.dx.pending.foldl (fun s _ => match due s with
    | some w => pendingTake w s
    | none => s) s

/-! ### DICT_WRITE (R43, R382, R413) -/

/-- A DICT_WRITE, which gives way to a swap of its tick where it selects a variant (R64), takes effect in place of every command write of its tick to the entry (R413), and gives way to a DICT_WRITE of the
same tick to the entry whose turn comes later (R9). -/
def dictApply (a : ActEntry) (s : State) : State :=
  match findEntry (dictEntry a.record) with
  | none => s
  | some e =>
    let n := dictValue a.record
    let past := if neverSuperseded e.id then [] else s.dx.pending.filter fun w => w.entry == e.id && w.tick.any (· ≤ s.clk.tick)
    let s := count E.DX_SUPERSEDED past.length { s with dx := { s.dx with pending := s.dx.pending.filter fun w => !past.contains w } }
    if !neverSuperseded e.id && actionOver s e.id then count E.DX_SUPERSEDED 1 s
    else if e.id = E.PS_REQUEST && n == 2 then restAccept s.clk.tick (setNum e.id 2 s)
    else if e.id = E.TT_VARIANT_SELECT then
      let s := reselect s
      if s.tt.swapTick = some s.clk.tick then raise Ev.TT_VARIANT [.u16 s.tt.variant] (count E.DX_SUPERSEDED 1 s) else
      raise Ev.TT_VARIANT [.u16 n] (setNum e.id n { s with tt := { s.tt with variant := n } })
    else valueEffect e 0 (beBytes e.size n) s

/-- DICT_WRITE (R43, R382). A refusal at the fire tick changes nothing, is counted and shows in the event. -/
def execDictWrite (n : Nat) (s : State) : Out :=
  run (fun s => match actTurn n 5 s with
    | none => s
    | some a => match dictRefused a s with
      | none => dictApply a (actEnd n a .fired s)
      | some st => actEndWith [.u8 st] n a .fired (countTab E.DX_STATUS_COUNTS 168 st s)) s

end Sys2Proof.Machine
end

