-- ==== Sys2Proof/Machine/Import.lean ====
section
/-! DEFINITION. Importing a position record (R468 to R470, R472). -/
namespace Sys2Proof.Machine
open Sys2Proof

/-- A section of a record by the directory. -/
def secDir (b : Bytes) (i : Nat) : Nat × Nat := (beAt b (0x30 + 8 * i) 4, beAt b (0x34 + 8 * i) 4)
def sectionBytes (b : Bytes) (i : Nat) : Bytes := slice b (secDir b i).1 (secDir b i).2

/-- Whether two sections do not overlap. -/
def apart (x y : Nat × Nat) : Bool := x.2 == 0 || y.2 == 0 || x.1 + x.2 ≤ y.1 || y.1 + y.2 ≤ x.1

/-- Records of section 0: entry number and value; none where they do not fill the section. -/
def valueRecords : Nat → Bytes → Option (List (Nat × Bytes))
  | 0, _ => none
  | f + 1, b =>
    if b = [] then some []
    else
      let n := beAt b 4 4
      let step := 8 + ceilDiv n 8 * 8
      if b.length < step || beAt b 3 1 != 0 then none
      else (valueRecords f (b.drop step)).map fun r => (beAt b 0 4 / 256, slice b 8 n) :: r

def recordValues (b : Bytes) : Option (List (Nat × Bytes)) := let v := sectionBytes b 0; valueRecords (v.length + 1) v

/-- Header and layout (R468, R469), before what the sections hold. -/
def importShape (b : Bytes) : Bool :=
  let ss := (List.range 5).map (secDir b)
  128 ≤ b.length && beAt b 0 4 == 0x57504F53 && beAt b 4 2 == 1 && beAt b 8 4 == b.length && b.length ≤ 536870912
    && beAt b 0x18 1 == 0 && zeros b 0x1C 4 && zeros b 0x58 40
    && ss.all (fun x => x.1 % 64 == 0 && (x.2 == 0 || (128 ≤ x.1 && x.1 + x.2 ≤ b.length)))
    && (numbered ss).all (fun x => (numbered ss).all fun y => x.1 == y.1 || apart x.2 y.2)

/-- Section 0 holds one record of each entry that R469 and R470 name. -/
def importEntries (b : Bytes) : Bool := match recordValues b with
  | none => false
  | some vs =>
    let want := (catalog.filter recordCarries).map (·.id)
    (vs.map (·.1)).Nodup && vs.length == want.length && (vs.map (·.1)).all want.contains

/-- The route set of section 2; none where it breaks its form. -/
def importRoutes (b : Bytes) : Option RouteSet :=
  let x := sectionBytes b 2
  let n := fun i => beAt x (4 * i) 4
  let sizes := [8 * n 0, 8 * n 1, 16 * n 2, 72 * n 3]
  let at_ := fun i => 16 + sumNat (sizes.take i)
  if x.length != at_ 4 + 24 then none
  else
    let part := fun i => slice x (at_ i) (sizes.getD i 0)
    let e := emptySet (beAt x (at_ 4) 8) (beAt x (at_ 4 + 8) 8) (beAt x (at_ 4 + 16) 8)
    let steps := [(E.TB_NEXTHOP_WRITE, part 2), (E.TB_GROUP_WRITE, part 3), (E.TB_LPM_WRITE, part 0), (E.TB_EXACT_WRITE, part 1)]
    steps.foldl (fun (rs : Option RouteSet) w => rs.bind fun rs =>
      if w.2 = [] then some rs else match routeWrite w.1 w.2 rs with | .ok r => some r | .error _ => none) (some e)

/-- The regions of section 3; none where a record breaks R222 or R223. -/
def importRegions (b : Bytes) : Option (SMap Region) :=
  let x := sectionBytes b 3
  let one := fun (n : Nat) =>
    let r := slice x (32 * n) 32
    let w := beAt r 0 4
    let y := beAt r 4 4
    ({ state := if bit w 31 then .restoring else .lost, mirrored := bit w 31, checkpointed := bit w 30, gen := y >>> 20,
       stack := y % 4, placement := bits y 2 18, base := beAt r 8 8, size := beAt r 16 8, key := beAt r 24 8, data := [],
       poison := [], atJoin := false } : Region)
  let form := (List.range 4096).all fun n =>
    let w := beAt x (32 * n) 4
    w % 4096 == n && bits w 16 14 == 0 && (bits w 12 4 == 0 || bits w 12 4 == 1)
  let rs := ((List.range 4096).filter fun n => bits (beAt x (32 * n) 4) 12 4 == 1).map fun n => (n, one n)
  let good := rs.all fun p =>
    let r := p.2
    1 ≤ r.gen && r.key != 0 && r.base % 4096 == 0 && r.size % 4096 == 0 && 4096 ≤ r.size && r.base + r.size ≤ 0xFE00000000
      && 4096 * r.placement + r.size ≤ 2 ^ 30
      && rs.all fun q => q.1 == p.1 || ((q.2.base + q.2.size ≤ r.base || r.base + r.size ≤ q.2.base)
        && (q.2.stack != r.stack || 4096 * q.2.placement + q.2.size ≤ 4096 * r.placement || 4096 * r.placement + r.size ≤ 4096 * q.2.placement))
  if x.length == 131072 && form && good then some rs else none

def importFencesOk (b : Bytes) : Bool :=
  let n := (secDir b 4).2
  8 ≤ n && (n - 8) % 16 == 0 && (n - 8) / 16 ≤ 1024

/-- A scalar of section 0. -/
def importNum (vs : List (Nat × Bytes)) (id dfl : Nat) : Nat := match vs.find? fun v => v.1 == id with
  | some v => beNat v.2
  | none => dfl

/-- Whether a value keeps its entry's type, range and rules, those apart that look at the part's state. -/
def importValueOk (s : State) (vs : List (Nat × Bytes)) (v : Nat × Bytes) : Bool := match findEntry v.1 with
  | none => false
  | some e =>
    lengthOk e 0 v.2.length v.2.length && (!e.fixed || v.2.length == e.size) && (reservedAt false e 0 v.2).isNone
      && (if e.id = E.OP_UNLOCK_GHZ then importNum vs E.OP_LOCK_GHZ 20 < beNat v.2 && beNat v.2 ≤ 400 else (rangeBad s e 0 v.2).isNone)
      && (if e.id = E.BEHAVIOUR_LEVEL_SET then !scalarRefused s e.id (beNat v.2) s.clk.tick
          else if e.id = E.PKT_CREDIT_LIMIT_OC0 then
            beNat v.2 + importNum vs E.PKT_CREDIT_LIMIT_OC1 256 + importNum vs E.PKT_CREDIT_LIMIT_MC 128 ≤ 32768
          else if e.id ∈ [E.OT_SHAPER_MAP, E.OT_POLICER_MAP, E.HL_RULES] then
            (writeRecs e 0 v.2).all fun x => !recordRefused s e.id x.1 x.2
          else true)

/-- Whether the part may take a record: UNASSIGNED or STALE, with no stream open. -/
def importAllowed (s : State) : Bool := (s.rp.sync == .unassigned || s.rp.sync == .stale) && !streamRunning s

/-- Whether a session owns the areas that an import needs. -/
def importOwns (s : State) (session : Nat) : Bool :=
  (List.range 17).all fun a => a == 0 || a == 13 || ownerOf s a == session

/-- The reason a record is refused; 0 where it is applied. -/
def importReason (s : State) (b : Bytes) : Nat :=
  if !importShape b || !importEntries b || (importRoutes b).isNone || (importRegions b).isNone || !importFencesOk b then 1
  else if beAt b 6 2 > getNum s E.BEHAVIOUR_LEVEL_MAX 0x400 then 2
  else if !importAllowed s then 3
  else
    let vs := (recordValues b).getD []
    if !(vs.all (importValueOk s vs)) then 4
    else if s.ft.gen != .free && importNum vs E.FT_ORIGIN_SECONDS 0 != getNum s E.FT_ORIGIN_SECONDS 0 then 5
    else 0

def importRefuse (reason : Nat) (s : State) : State :=
  raise Ev.RP_IMPORT [.u8 reason] { s with rp := { s.rp with importState := 3, importing := none } }

/-- The digest of a transfer to `RP_POSITION_IMPORT` is verified: the record waits for its checks. -/
def importReceived (session : Nat) (b : Bytes) (s : State) : State :=
  if !importAllowed s || !importOwns s session then importRefuse 3 s
  else { s with rp := { s.rp with importState := 1, importing := some b } }

/-- A value of the record. `FM_MIRROR_FROM` waits for the end of the stream (R473), and the seeds come with the routes. -/
def importValue (v : Nat × Bytes) (s : State) : State :=
  if v.1 = E.FM_MIRROR_FROM then { s with rp := { s.rp with mirrorFromAfter := some (beNat v.2) } }
  else if v.1 = E.TB_SEED_NEXT then s
  else match findEntry v.1 with
    | none => s
    | some e =>
      if e.id = E.FT_DOMAIN_SELECT && (domainSelect (beNat v.2) s).isNone then putValue e v.2 s
      else valueEffect e 0 v.2 s

/-- The route set goes into both buffers; learned entries are placed anew. -/
def importRouteSet (rs : RouteSet) (s : State) : State :=
  let keys := (s.tb.learned.map (·.1)).filter fun f => (SMap.get? rs.exact f).isNone
  let (places, lost) := placeAll rs.seedExact keys rs.exactPlaces
  let rs := { rs with exactPlaces := places }
  { s with tb := { s.tb with
      active := rs, shadow := rs, grace := none, copying := false, waiting := [], applying := [], rehash := 0, queue := []
      learned := s.tb.learned.filter fun l => keys.contains l.1 && !lost.contains l.1 } }

/-- Fence state: each fence of the record takes effect anew (R440). -/
def importFences (b : Bytes) (s : State) : State :=
  let x := sectionBytes b 4
  let cs : List Cert := (chunks 16 (x.drop 8)).map fun r => { expel := true, fa := beAt r 1 3, num := beAt r 4 4, tick := beAt r 8 8 }
  let s := setNum E.TB_SUBST_COUNTER (beAt x 4 4) (setNum E.HL_CERT_COUNTER (beAt x 0 4) s)
  { s with hl := { s.hl with fences := cs, certs := cs } }

/-- Apply a record that has passed its checks. -/
def importApply (b : Bytes) (s : State) : State :=
  let vs := (recordValues b).getD []
  let s := setNum E.RP_POSITION_FA (beAt b 0x19 3) s
  let s := vs.foldl (fun s v => importValue v s) s
  let s := importFences b (importRouteSet ((importRoutes b).getD s.tb.active) s)
  let s := setHeld (beAt b 0x0C 4) (activeGone (nextGone .empty s))
  let s := { s with fm := { s.fm with regions := (importRegions b).getD [], sources := [], applies := [], outcomes := [], restores := [] } }
  let s := syncIdle 13 s
  let img := sectionBytes b 1
  let s := if img = [] then s else ttVerified img (sha img) s
  let lost := (s.fm.regions.filter fun x => x.2.state == .lost).map (·.1)
  let s := regionsLose lost s
  raise Ev.RP_IMPORT [.u8 0] { s with rp := { s.rp with importState := 2, importing := none } }

/-- IMPORT_APPLY_DONE (R472). -/
def execImportApplyDone (s : State) : Out :=
  run (fun s => match s.rp.importing with
    | none => s
    | some b => match importReason s b with
      | 0 => importApply b s
      | n => importRefuse n s) s

end Sys2Proof.Machine
end

