-- ==== Sys2Proof/Machine/Dict.lean ====
section
/-! DEFINITION. Taking a command of the dictionary: the checks of R388 in their order, what each op code does, and the answer
(R379 to R418). -/
namespace Sys2Proof.Machine
open Sys2Proof

/-! ### Fields of a command (R385, R386) -/

/-- Op codes. -/
def Dx.READ : Nat := 1
def Dx.WRITE : Nat := 2
def Dx.READ_BLOCK : Nat := 3
def Dx.WRITE_BLOCK : Nat := 4
def Dx.SUBSCRIBE : Nat := 5
def Dx.ACTION : Nat := 6
def Dx.SIGNED_WRITE : Nat := 7
def Dx.EVENT : Nat := 8
/-- The model's own code for a whole block transfer taken as one command: its BEGIN, its segments and its COMMIT, whose body is
the value. Its low byte is WRITE_BLOCK. -/
def Dx.WHOLE : Nat := 0x104

/-- Action codes. -/
def Act.OPEN : Nat := 0x0001
def Act.CLOSE : Nat := 0x0002
def Act.RENEW : Nat := 0x0003
def Act.CLAIM : Nat := 0x0010
def Act.RELEASE : Nat := 0x0011
def Act.HANDOVER : Nat := 0x0012

def cmdLe (c : Cmd) : Bool := srcLe c.src
def cmdSession (c : Cmd) : Nat := c.session.toNat
/-- Phase or kind. -/
def cmdPhase (c : Cmd) : Nat := bits c.operand.toNat 24 8
def cmdLow (c : Cmd) : Nat := bits c.operand.toNat 0 24
def cmdAction (c : Cmd) : Nat := bits c.operand.toNat 16 16
def cmdOff (c : Cmd) : Nat := c.offset.toNat
def cmdTick (c : Cmd) : Nat := c.tick.toNat
/-- A number of the body in the transport's order. -/
def cmdNum (c : Cmd) (off n : Nat) : Nat := numAt (cmdLe c) c.body off n

/-- Op codes that name an entry. -/
def namesEntry (op : Nat) : Bool := op ∈ [Dx.READ, Dx.WRITE, Dx.READ_BLOCK, Dx.WRITE_BLOCK, Dx.SIGNED_WRITE, Dx.WHOLE]

/-- Op codes that write the entry they name. -/
def writesEntry (op : Nat) : Bool := op ∈ [Dx.WRITE, Dx.WRITE_BLOCK, Dx.SIGNED_WRITE, Dx.WHOLE]

/-- Op codes whose body holds a value. -/
def carriesValue (op : Nat) : Bool := op ∈ [Dx.WRITE, Dx.SIGNED_WRITE, Dx.WHOLE]

/-- Entry a command names: in its header, or a subscription in its body. -/
def entryNamed (op : Nat) (c : Cmd) : Option Nat :=
  if namesEntry op then some c.entry.toNat
  else if op = Dx.SUBSCRIBE && cmdPhase c == 2 then some (cmdNum c 0 4 / 256)
  else none

/-! ### Transports (R402 to R408) -/

/-- Whether the moth serves the segment. -/
def mothUp (s : State) : Bool := s.el.rstN && (s.hl.power != .off || s.hl.tripped)

/-- Whether the part takes commands of a 10BASE-T1S address (R408). -/
def t1sPermitted (s : State) (a : Nat) : Bool :=
  let l := tabList s E.DX_T1S_BOARD_ADDR 8
  if l = [] then !(tabList s E.OP_ELS_ADDR 8).any fun r => beAt r 2 6 == a
  else l.any fun r => beAt r 2 6 == a

/-- Whether the completion queue of a host is full (R406). -/
def cqFull (f : PcieFn) : Bool := (f.cqTail + 1) % 2 ^ f.cqLog2 == f.cqHead % 2 ^ f.cqLog2

/-- Whether the transport of a source takes its commands. -/
def transportUp (s : State) : Source → Bool
  | .t1s a => mothUp s && t1sPermitted s a.toNat
  | .pcie h => pcieServed s && (pcOf s h).linkUp && !(pcOf s h).perst && bit (pcOf s h).ctrl 0
  | .mc _ _ => s.hl.power != .off && (s.bi.state == 2 || (s.bi.state == 1 && s.rp.resetClass == 2))

/-- Largest segment of a block transfer (R402). -/
def segmentLimit (s : State) (d : Source) : Nat :=
  let n := bodyLimit s d
  if n = 4048 then 4032 else if n = 2000 then 1984 else 1408

/-- Write a response into a host's completion queue (R406). -/
def cqWrite (h : Nat) (r : Resp) (s : State) : State :=
  let f := pcOf s h
  let tail := (f.cqTail + 1) % 2 ^ f.cqLog2
  let s := emit (.resp r) (setPc h (fun f => { f with cqTail := tail, cqPhase := if tail = 0 then !f.cqPhase else f.cqPhase }) s)
  signal h 0 s

/-- Send a response to where its command came from, counted by its status (R387, R403, R406, R408). -/
def deliver (r : Resp) (s : State) : State :=
  let s := countTab E.DX_STATUS_COUNTS 168 r.status s
  match r.dest with
  | .t1s _ => emit (.resp r) s
  | .pcie h =>
    let f := pcOf s h
    if !bit f.ctrl 0 then s
    else if f.waiting != [] || cqFull f then setPc h (fun f => { f with waiting := f.waiting ++ [r] }) s
    else cqWrite h r s
  | .mc fa p =>
    answerBy (some p.val)
      (mkData { vc := Vc.MC, e := eBit s, dest := fa.toNat, op := Op.CMD_RSP, src := posFa s, hop := Cfg.PKT_ORIGIN_HOP_LIMIT s }
        (respBytes r false) (stampNow s)) (emit (.resp r) s)

/-- The response to a command. -/
def respOf (op : Nat) (c : Cmd) (a : Answer) (s : State) : Resp :=
  { dest := c.src, op := op % 256, session := a.session.getD (cmdSession c), tag := c.tag.toNat, entry := c.entry.toNat, status := a.status,
    detail := a.detail % 2 ^ 32, tick := s.clk.tick, replayed := false, body := a.body }

/-- Keep a response for retries: the latest 16 tags (R391). -/
def cachePut (r : Resp) (l : List (Nat × Resp)) : List (Nat × Resp) := ((r.tag, r) :: l.filter fun x => x.1 != r.tag).take 16

/-- Answer a command (R390, R391). -/
def respond (op : Nat) (c : Cmd) (a : Answer) (s : State) : State :=
  if !a.sent then s
  else
    let r := respOf op c a s
    let own := (sessionOf s (cmdSession c)).any fun x => samePrincipal x c.src
    let s := if own && a.status != St.CHECK_FAILED && a.status != St.NO_SESSION then
        setSession (cmdSession c) (fun x => { x with replay := cachePut r x.replay }) s
      else s
    deliver r s

/-! ### Steps 2 to 4 -/

/-- Whether the operand suits the op code. -/
def operandOk (op : Nat) (c : Cmd) : Bool :=
  if op = Dx.READ then cmdPhase c == 0
  else if op = Dx.READ_BLOCK then 1 ≤ cmdPhase c && cmdPhase c ≤ 3
  else if op = Dx.WHOLE then cmdPhase c == 3 && cmdLow c == 0
  else if op = Dx.WRITE_BLOCK then 1 ≤ cmdPhase c && cmdPhase c ≤ 4 && cmdLow c == 0
  else if op = Dx.SUBSCRIBE then 1 ≤ cmdPhase c && cmdPhase c ≤ 3 && cmdLow c == 0
  else if op = Dx.ACTION then
    cmdAction c ∈ [Act.OPEN, Act.CLOSE, Act.RENEW, Act.CLAIM, Act.RELEASE, Act.HANDOVER] && c.operand.toNat % 2 ^ 16 == 0
  else (op == Dx.WRITE || op == Dx.SIGNED_WRITE) && c.operand == 0

/-- Whether the header breaks R385, R386 or R395 (step 2). -/
def headerBad (op : Nat) (c : Cmd) : Bool :=
  let takesOff := op ∈ [Dx.READ, Dx.WRITE, Dx.SIGNED_WRITE] || ((op == Dx.READ_BLOCK || op == Dx.WRITE_BLOCK) && cmdPhase c == 2)
  !operandOk op c || (c.flags != 0 && !(op == Dx.READ && c.flags == 1)) || c.status != 0 || c.detail != 0 || c.reserved != 0
    || (!takesOff && c.offset != 0) || (!namesEntry op && c.entry != 0)
    || (op == Dx.ACTION && cmdAction c == Act.OPEN && c.session != 0)

/-- Step 3: MC sources outside `DX_MC_SOURCES` are refused, unless it is empty (R403). -/
def sourceRefused (c : Cmd) (s : State) : Bool := match c.src with
  | .mc fa _ =>
    let l := tabList s E.DX_MC_SOURCES 4
    l != [] && !l.any fun r => beAt r 0 4 == fa.toNat
  | _ => false

/-- Commands that need no session (R395). -/
def sessionless (op : Nat) (c : Cmd) : Bool :=
  op == Dx.READ || op == Dx.READ_BLOCK || (op == Dx.SUBSCRIBE && cmdPhase c != 3) || (op == Dx.ACTION && cmdAction c == Act.OPEN)

/-- Step 4. -/
def sessionOk (op : Nat) (c : Cmd) (s : State) : Bool :=
  if c.session = 0 then sessionless op c else (sessionOf s (cmdSession c)).any fun x => samePrincipal x c.src

/-! ### Steps 5 to 8 -/

/-- Whether the power state, bring-up or recovery serves a command (R414, R430, R491, R538). -/
def available (op : Nat) (c : Cmd) (s : State) : Bool :=
  let a := (entryNamed op c).map areaOf
  let onT1s := srcKind c.src == 3
  let reads := op == Dx.READ || op == Dx.READ_BLOCK
  if s.hl.tripped then onT1s && op == Dx.READ && a.any (· ∈ [0, 1, 11])
  else if s.bi.state = 4 then
    onT1s && (op == Dx.ACTION || (reads && a.any (· ∈ [0, 13, 17])) || (op == Dx.WRITE_BLOCK && c.entry.toNat == E.SE_FW_IMAGE)
      || (op == Dx.SIGNED_WRITE && c.entry.toNat == E.SE_FW_ACTIVATE))
  else if s.bi.state != 2 then a.all (· ∈ [0, 1, 11, 13, 15, 17])
  else if s.hl.power == .active || s.hl.power == .trim then true
  else a.all restServes

/-- Whether the entry's rights permit the command (R380). -/
def accessOk (op : Nat) (c : Cmd) (e : Entry) : Bool :=
  let plain := e.acc == 2 || e.acc == 3
  let long := e.ty ≥ 12
  if op = Dx.WRITE then plain && !blockOnly e
  else if op = Dx.WRITE_BLOCK || op = Dx.WHOLE then plain && long
  else if op = Dx.SIGNED_WRITE then e.acc == 4
  else if op = Dx.READ_BLOCK then e.acc != 3 && long
  else cmdPhase c == 3 || e.acc != 3

/-- NOT_OWNER with its detail for an area (R387). -/
def notOwner (a : Nat) (s : State) : Nat × Nat :=
  let n := ownerOf s a
  (St.NOT_OWNER, n * 65536 + a * 256 + ((sessionOf s n).map (·.kind)).getD 0)

/-! ### Transfers (R392, R393) -/

def xferOf (s : State) (entry : Nat) : Option Xfer := s.dx.xfers.find? fun x => x.entry == entry

/-- The open transfer that a command of its session speaks of. -/
def ownXfer (c : Cmd) (s : State) : Option Xfer := (xferOf s c.entry.toNat).filter fun x => x.session == cmdSession c && x.state == .openn

def setXfer (entry : Nat) (f : Xfer → Xfer) (s : State) : State :=
  { s with dx := { s.dx with xfers := s.dx.xfers.map fun x => if x.entry = entry then f x else x } }

/-- Whether a snapshot belongs to a command's session, or without one to its principal. -/
def snapIs (c : Cmd) (x : Snap) : Bool :=
  x.entry == c.entry.toNat && x.session == cmdSession c && srcKind x.src == srcKind c.src && srcFa x.src == srcFa c.src

def ownSnap (c : Cmd) (s : State) : Option Snap := s.dx.snaps.find? (snapIs c)

/-- End of the idle time of a transfer or snapshot that is used now. -/
def idleEndNow (s : State) : Nat := now s + Cfg.DX_BLOCK_IDLE_MS s * 1000000000

/-! ### Step 9 -/

/-- A status without detail where a test fails. -/
def failIf (b : Bool) (st : Nat) : Verdict := if b then some (st, 0) else none

/-- The value of a WRITE or SIGNED_WRITE, as it travelled. -/
def cmdValue (op : Nat) (c : Cmd) : Bytes := if op = Dx.SIGNED_WRITE then c.body.take (c.body.length - 112) else c.body

/-- The value that a READ speaks of, in the transport's order. -/
def readValue (c : Cmd) (e : Entry) (s : State) : Bytes :=
  orderBytes (cmdLe c) e (if c.flags = 1 then pendingValue s (cmdSession c) e else entryValue s (cmdSession c) e)

/-- Length a READ asks for of a value of `n` bytes. -/
def readLen (c : Cmd) (n : Nat) : Nat := if cmdLow c = 0 then n - cmdOff c else cmdLow c

def readLengthOk (c : Cmd) (e : Entry) (s : State) : Bool :=
  let n := (readValue c e s).length
  c.body.length == 0 && cmdOff c + readLen c n ≤ n && cmdOff c ≤ n && readLen c n ≤ bodyLimit s c.src
    && (!scalarType e.ty || (cmdOff c == 0 && readLen c n == n))

/-- BEGIN: the length and the digest. -/
def beginLength (c : Cmd) : Nat := cmdNum c 0 8

def beginLengthBad (c : Cmd) (e : Entry) : Verdict :=
  let n := beginLength c
  if c.body.length != 56 then some (St.BAD_LENGTH, 0)
  else if n > e.size || n > 2 ^ 32 then some (St.TOO_LARGE, 0)
  else failIf (n == 0 || !lengthOk e 0 n n) St.BAD_LENGTH

/-- SEGMENT of a write transfer. -/
def segmentLengthOk (c : Cmd) (s : State) : Bool :=
  let n := c.body.length
  cmdOff c % 64 == 0 && n != 0 && n ≤ segmentLimit s c.src
    && (match ownXfer c s with
      | some x => cmdOff c + n ≤ x.length && (n % 64 == 0 || cmdOff c + n == x.length)
      | none => true)

/-- SEGMENT of a snapshot. -/
def snapLengthOk (c : Cmd) (s : State) : Bool :=
  c.body.length == 0 && cmdLow c ≤ segmentLimit s c.src
    && (match ownSnap c s with
      | some x => cmdOff c + cmdLow c ≤ x.data.length
      | none => true)

/-- Body sizes of the actions. -/
def actionBody (a : Nat) : Nat := if a = Act.CLAIM || a = Act.RELEASE then 4 else if a = Act.HANDOVER then 8 else 0

/-- Step 9: TOO_LARGE, then BAD_LENGTH. -/
def lengthBad (op : Nat) (c : Cmd) (e : Entry) (s : State) : Verdict :=
  let n := c.body.length
  if op = Dx.WHOLE && n > e.size then some (St.TOO_LARGE, 0)
  else if c.bodyLen.toNat != n || (op != Dx.WHOLE && n > bodyLimit s c.src) then some (St.BAD_LENGTH, 0)
  else if op = Dx.WHOLE then failIf (n == 0 || !lengthOk e 0 n n) St.BAD_LENGTH
  else if op = Dx.READ then failIf (!readLengthOk c e s) St.BAD_LENGTH
  else if op = Dx.WRITE || op = Dx.SIGNED_WRITE then
    failIf ((op == Dx.SIGNED_WRITE && c.body.length < 112)
      || !lengthOk e (cmdOff c) (cmdValue op c).length (entryValue s (cmdSession c) e).length) St.BAD_LENGTH
  else if op = Dx.WRITE_BLOCK then match cmdPhase c with
    | 1 => beginLengthBad c e
    | 2 => failIf (!segmentLengthOk c s) St.BAD_LENGTH
    | _ => failIf (c.body.length != 0) St.BAD_LENGTH
  else if op = Dx.READ_BLOCK then
    if cmdPhase c = 2 then failIf (!snapLengthOk c s) St.BAD_LENGTH else failIf (c.body.length != 0) St.BAD_LENGTH
  else if op = Dx.SUBSCRIBE then failIf (c.body.length != if cmdPhase c = 2 then 8 else 4) St.BAD_LENGTH
  else failIf (c.body.length != actionBody (cmdAction c)) St.BAD_LENGTH

/-! ### Steps 10 to 13 -/

/-- A value's bytes most significant first. -/
def cmdCanon (op : Nat) (c : Cmd) (e : Entry) : Bytes := orderBytes (cmdLe c) e (cmdValue op c)

/-- RESERVED_SET with the first byte of a run that sets bits outside a mask. -/
def reservedRun (mask v : Bytes) : Verdict := (maskBreak mask v).map fun i => (St.RESERVED_SET, i)

/-- Mask of a number in the transport's order. -/
def cmdMask (c : Cmd) (n v : Nat) : Bytes := numBytes (cmdLe c) n v

/-- Step 10. -/
def reservedBad (op : Nat) (c : Cmd) (e : Entry) : Verdict :=
  if carriesValue op then
    match reservedAt (cmdLe c) e (cmdOff c) (cmdCanon op c e) with
    | some d => some (St.RESERVED_SET, d)
    | none =>
      if op = Dx.SIGNED_WRITE then reservedRun (ones (c.body.length - 103) ++ gap 7 ++ ones 96) c.body else none
  else if op = Dx.SUBSCRIBE then
    if cmdPhase c = 1 then reservedRun (cmdMask c 4 0xFFFE) c.body
    else if cmdPhase c = 2 then reservedRun (cmdMask c 4 0xFFFFFF00 ++ ones 4) c.body
    else none
  else if op = Dx.ACTION then
    if cmdAction c = Act.HANDOVER then reservedRun (cmdMask c 4 0x7FFFF ++ ones 2 ++ gap 2) c.body
    else reservedRun (cmdMask c 4 0x7FFFF) c.body
  else none

/-- Step 11. -/
def outOfRange (op : Nat) (c : Cmd) (e : Entry) (s : State) : Verdict :=
  if carriesValue op then (rangeBad s e (cmdOff c) (cmdCanon op c e)).map fun n => (St.OUT_OF_RANGE, n)
  else failIf (op == Dx.SUBSCRIBE && cmdPhase c == 2 && !(1 ≤ cmdNum c 4 4 && cmdNum c 4 4 ≤ 65535)) St.OUT_OF_RANGE

/-- Step 12. The tick of a COMMIT to an at-tick entry is judged with the value (R578). -/
def badTick (op : Nat) (c : Cmd) (e : Entry) (s : State) : Verdict :=
  if carriesValue op then failIf (!tickOk s e (cmdTick c) (cmdCanon op c e)) St.BAD_TICK
  else failIf (cmdTick c != 0 && !(op == Dx.WRITE_BLOCK && cmdPhase c == 3 && e.eff == 2)) St.BAD_TICK

/-- Step 13. -/
def transferState (op : Nat) (c : Cmd) (s : State) : Verdict :=
  failIf ((op == Dx.WRITE_BLOCK && cmdPhase c != 1 && (ownXfer c s).isNone)
    || (op == Dx.READ_BLOCK && cmdPhase c != 1 && (ownSnap c s).isNone)) St.TRANSFER_STATE

/-- What the BEGIN of a whole transfer runs into. -/
def wholeBegin (op : Nat) (c : Cmd) (e : Entry) (s : State) : Verdict :=
  if op != Dx.WHOLE then none
  else match xferOf s e.id with
    | some x => if x.session = cmdSession c then none else some (St.BUSY, x.session)
    | none => failIf (s.dx.xfers.length ≥ 8) St.NO_RESOURCES

/-- An entry that stands in for none. -/
def noEntry : Entry := { id := 0, ty := 13, acc := 2, eff := 1, retained := false, name := "", size := 0 }

/-- Steps 5 to 13, for every op code. -/
def checkSteps (op : Nat) (c : Cmd) (s : State) : Verdict :=
  let ent := (entryNamed op c).bind findEntry
  let e := ent.getD noEntry
  let named := (entryNamed op c).isSome
  let a := areaOf e.id
  if !available op c s then some (St.NOT_AVAILABLE, 0)
  else if named && ent.isNone then some (St.NO_ENTRY, 0)
  else if named && !accessOk op c e then some (St.ACCESS, 0)
  else if writesEntry op && a < 17 && ownerOf s a != cmdSession c then some (notOwner a s)
  else (lengthBad op c e s <|> wholeBegin op c e s <|> reservedBad op c e <|> outOfRange op c e s <|> badTick op c e s <|> transferState op c s)

/-! ### Effects -/

/-- A number that is in no use, from 1 to 65,535. The part's choice among them is open. -/
def unusedNum (used : List Nat) (purpose : Nat) (s : State) : Nat × State :=
  let (v, s) := freshNat purpose s
  ((((List.range (used.length + 1)).map fun i => (v + i) % 65535 + 1).find? fun n => !used.contains n).getD 1, s)

def answerOf (v : Nat × Nat) : Answer := { status := v.1, detail := v.2 }
def noResources : Answer := { status := St.NO_RESOURCES }

/-- READ (R383). -/
def dxRead (c : Cmd) (e : Entry) (s : State) : Answer :=
  let v := readValue c e s
  { status := St.DONE, body := (v.drop (cmdOff c)).take (readLen c v.length) }

/-- READ_BLOCK (R393). -/
def dxReadBlock (full : Bool) (c : Cmd) (e : Entry) (s : State) : State × Answer :=
  let others := s.dx.snaps.filter fun x => !snapIs c x
  if full then (s, noResources)
  else if cmdPhase c = 1 then
    let v := orderBytes (cmdLe c) e (entryValue s (cmdSession c) e)
    if others.length ≥ 8 || sumNat (others.map (·.data.length)) + v.length > 2 ^ 30 then (s, noResources)
    else
      let x : Snap := { entry := e.id, session := cmdSession c, src := c.src, data := v, served := 0, idleEnd := idleEndNow s, activity := s.clk.tick }
      ({ s with dx := { s.dx with snaps := others ++ [x] } }, { status := St.DONE, body := numBytes (cmdLe c) 8 v.length ++ sha v })
  else if cmdPhase c = 2 then
    let used := fun (x : Snap) => { x with served := x.served + cmdLow c, idleEnd := idleEndNow s, activity := s.clk.tick }
    let v := ((ownSnap c s).map (·.data)).getD []
    ({ s with dx := { s.dx with snaps := s.dx.snaps.map fun x => if snapIs c x then used x else x } },
      { status := St.DONE, body := (v.drop (cmdOff c)).take (cmdLow c) })
  else ({ s with dx := { s.dx with snaps := others } }, answerDone)

/-- Whether the owning chapter refuses a BEGIN (R472, R492). -/
def beginRefused (c : Cmd) (e : Entry) (s : State) : Bool :=
  (e.id == E.SE_FW_IMAGE && fwBeginRefused s)
    || (e.id == E.RP_POSITION_IMPORT && !(importAllowed s && importOwns s (cmdSession c)))

/-- What a BEGIN does to the entry. -/
def beginEffect (e : Entry) (s : State) : State :=
  if e.id = E.TT_NEXT_IMAGE then ttBegin s else if e.id = E.SE_FW_IMAGE then fwBegin s else s

def newXfer (c : Cmd) (e : Entry) (s : State) : Xfer :=
  { entry := e.id, session := cmdSession c, state := .openn, length := beginLength c, digest := slice c.body 8 48, lines := [],
    idleEnd := idleEndNow s, activity := s.clk.tick, commit := none }

/-- BEGIN: another session's transfer is in the way; the session's own is aborted. -/
def dxBegin (full : Bool) (c : Cmd) (e : Entry) (s : State) : State × Answer :=
  if beginRefused c e s then (s, answerRefused 0)
  else
    let old := xferOf s e.id
    match old.filter fun x => x.session != cmdSession c with
    | some x => (s, { status := St.BUSY, detail := x.session })
    | none =>
      if full || (old.isNone && s.dx.xfers.length ≥ 8) then (s, noResources)
      else
        let s := match old with | some x => xferAbort x s | none => s
        let s := beginEffect e s
        ({ s with dx := { s.dx with xfers := s.dx.xfers ++ [newXfer c e s] } }, answerDone)

/-- The bytes of a segment, by 64-byte line. -/
def putLines (off : Nat) (v : Bytes) (m : SMap Bytes) : SMap Bytes :=
  (numbered (chunks 64 v)).foldl (fun m x => SMap.set m (off / 64 + x.1) x.2) m

def dxSegment (c : Cmd) (x : Xfer) (s : State) : State :=
  let s := if x.lines = [] && x.entry == E.TT_NEXT_IMAGE then ttReceiving s else s
  setXfer x.entry (fun x => { x with lines := putLines (cmdOff c) c.body x.lines, idleEnd := idleEndNow s, activity := s.clk.tick }) s

/-- WRITE_BLOCK (R392). The answer to a COMMIT that finds the value whole comes with the verification. -/
def dxWriteBlock (full : Bool) (c : Cmd) (e : Entry) (s : State) : State × Answer :=
  if cmdPhase c = 1 then dxBegin full c e s
  else match ownXfer c s with
    | none => (s, { status := St.TRANSFER_STATE })
    | some x =>
      if full then (s, noResources)
      else if cmdPhase c = 2 then (dxSegment c x s, answerDone)
      else if cmdPhase c = 3 then
        if firstMissing x < x.length then (s, { status := St.INCOMPLETE, detail := firstMissing x })
        else (setXfer x.entry (fun x => { x with state := .verifying, commit := some c, activity := s.clk.tick }) s,
          { status := St.DONE, sent := false })
      else (xferAbort x s, answerDone)

/-- SUBSCRIBE (R401). -/
def dxSubscribe (full : Bool) (c : Cmd) (s : State) : State × Answer :=
  if cmdPhase c = 3 then
    let n := cmdNum c 0 4
    let own := fun (b : Sub) => b.num == n && (b.session == cmdSession c
      || (b.session == 0 && srcKind b.dest == srcKind c.src && srcFa b.dest == srcFa c.src))
    if !s.dx.subs.any own then (s, answerRefused 0)
    else if full then (s, noResources)
    else ({ s with dx := { s.dx with subs := s.dx.subs.filter fun b => b.num != n } }, answerDone)
  else if full || s.dx.subs.length ≥ 64 then (s, noResources)
  else
    let (n, s) := unusedNum (s.dx.subs.map (·.num)) 74 s
    let b : Sub := { num := n, session := cmdSession c, kind := cmdPhase c, arg := cmdNum c 0 4,
                     interval := if cmdPhase c = 2 then cmdNum c 4 4 else 0, dest := c.src, sent := 0, queue := [] }
    ({ s with dx := { s.dx with subs := s.dx.subs ++ [b] } }, { status := St.DONE, detail := n })

/-- A principal's lease restarts (R395). -/
def leaseEndNow (s : State) : Nat := now s + Cfg.DX_LEASE_MS s * 1000000000

/-- OPEN_SESSION: at most 64 sessions, 8 of one principal (R395). -/
def dxOpen (c : Cmd) (s : State) : State × Answer :=
  if s.dx.sessions.length ≥ 64 || (s.dx.sessions.filter fun x => samePrincipal x c.src).length ≥ 8 then (s, noResources)
  else
    let (n, s) := unusedNum (s.dx.sessions.map (·.num)) 73 s
    let x : Session := { num := n, kind := srcKind c.src, fa := srcFa c.src, src := c.src, leaseEnd := leaseEndNow s, commands := 0,
                         openTick := s.clk.tick, replay := [], waiting := [] }
    (raise Ev.DX_SESSION [.u16 n, .u8 x.kind, .u32 x.fa, .u8 1] { s with dx := { s.dx with sessions := s.dx.sessions ++ [x] } },
      { status := St.DONE, detail := Cfg.DX_LEASE_MS s, session := some n })

/-- Ownable areas that a mask names. -/
def maskAreas (m : Nat) : List Nat := (List.range 17).filter fun a => bit m a

/-- Whether a principal kind may own an area (R396). -/
def mayClaim (kind a : Nat) (s : State) : Bool :=
  bit (beAt ((SMap.get? s.dict.tabs E.DX_AREA_CLAIMERS).getD (List.replicate 19 0x0F)) a 1) (kind - 1)

/-- CLAIM: every area named, or none. -/
def dxClaim (c : Cmd) (s : State) : Verdict × List Nat :=
  let n := cmdSession c
  let as := maskAreas (cmdNum c 0 4)
  (((as.find? fun a => !((ownerOf s a == 0 || ownerOf s a == n) && mayClaim (srcKind c.src) a s))).map fun a => notOwner a s, as)

/-- HANDOVER: its refusals in the order of R579. -/
def dxHandover (c : Cmd) (s : State) : Verdict :=
  let as := maskAreas (cmdNum c 0 4)
  match sessionOf s (cmdNum c 4 2) with
  | none => some (St.REFUSED, 0)
  | some t =>
    if as.any fun a => !mayClaim t.kind a s then some (St.REFUSED, 0)
    else (as.find? fun a => ownerOf s a != cmdSession c).map fun a => notOwner a s

def ownAll (as : List Nat) (n cause : Nat) (s : State) : State := as.foldl (fun s a => setOwner a n cause s) s

/-- ACTION (R396, R579). A session ends only after the answer. -/
def dxAction (full : Bool) (c : Cmd) (s : State) : State × Answer :=
  let n := cmdSession c
  let m := cmdNum c 0 4
  let a := cmdAction c
  let done := fun (f : State → State) => if full then (s, noResources) else (f s, answerDone)
  let masked := a == Act.CLAIM || a == Act.RELEASE || a == Act.HANDOVER
  if masked && (bit m 17 || bit m 18) then (s, answerRefused 0)
  else if a = Act.OPEN then (if full then (s, noResources) else dxOpen c s)
  else if a = Act.CLAIM then match dxClaim c s with
    | (some v, _) => (s, answerOf v)
    | (none, as) => done (ownAll as n 1)
  else if a = Act.RELEASE then done (ownAll ((maskAreas m).filter fun a => ownerOf s a == n) 0 2)
  else if a = Act.HANDOVER then match dxHandover c s with
    | some v => (s, answerOf v)
    | none => done (ownAll (maskAreas m) (cmdNum c 4 2) 3)
  else done id

/-- The transfer of a whole transfer's value. -/
def wholeXfer (c : Cmd) (s : State) : Xfer :=
  { entry := c.entry.toNat, session := cmdSession c, state := .verifying, length := c.body.length, digest := [], lines := [],
    idleEnd := 0, activity := s.clk.tick, commit := none }

/-- A value that passes closes its transfer DONE and counts its bytes; one that is refused closes it FAILED (R578). -/
def blockEnd (x : Xfer) (a : Answer) (s : State) : State :=
  if a.status = St.DONE then count E.DX_BLOCK_BYTES x.length (xferClose x 1 s) else xferClose x 4 s

/-- A whole transfer: an open one of the session is aborted by its BEGIN. -/
def dxWhole (full : Bool) (c : Cmd) (e : Entry) (s : State) : State × Answer :=
  if full then (s, noResources)
  else
    let s := match xferOf s e.id with | some x => xferAbort x s | none => s
    let (s, a) := takeWrite c e 0 (cmdTick c) (cmdCanon Dx.WHOLE c e) false s
    (blockEnd (wholeXfer c s) a s, a)

/-- What a command that has passed steps 1 to 14 does, with steps 15 and 16. -/
def dxEffect (full : Bool) (op : Nat) (c : Cmd) (s : State) : State × Answer :=
  let e := ((entryNamed op c).bind findEntry).getD noEntry
  if op = Dx.READ then (s, if full then noResources else dxRead c e s)
  else if op = Dx.WRITE || op = Dx.SIGNED_WRITE then takeWrite c e (cmdOff c) (cmdTick c) (cmdCanon op c e) full s
  else if op = Dx.WHOLE then dxWhole full c e s
  else if op = Dx.READ_BLOCK then dxReadBlock full c e s
  else if op = Dx.WRITE_BLOCK then dxWriteBlock full c e s
  else if op = Dx.SUBSCRIBE then dxSubscribe full c s
  else dxAction full c s

/-! ### Judging a command (R388) -/

/-- Sessions whose lease has lapsed end before a command is judged (R411). -/
def leasesLapse (s : State) : State :=
  ((s.dx.sessions.filter fun x => x.leaseEnd ≤ now s).map (·.num)).foldl (fun s n => sessionEnd n 3 s) s

/-- A command that passes the session check restarts the lease (R395). -/
def sessionTouch (n : Nat) (s : State) : State :=
  setSession n (fun x => { x with leaseEnd := leaseEndNow s, commands := x.commands + 1 }) s

/-- Subscriptions of an MC principal answer by the port of its latest command (R454). -/
def subsFollow (c : Cmd) (s : State) : State :=
  match c.src with
  | .mc fa _ =>
    let mine := fun (b : Sub) => match b.dest with
      | .mc f _ => f == fa && (b.session == 0 || b.session == cmdSession c)
      | _ => false
    { s with dx := { s.dx with subs := s.dx.subs.map fun b => if mine b then { b with dest := c.src } else b } }
  | _ => s

/-- The response that the replay cache holds for a command (R391). -/
def cached (c : Cmd) (s : State) : Option Resp :=
  (sessionOf s (cmdSession c)).bind fun x => (x.replay.find? fun r => r.1 == c.tag.toNat).map (·.2)

/-- Transport of a source, for `EV_DX_CHECK`. -/
def transportKey : Source → Nat
  | .pcie _ => 0
  | .t1s _ => 1
  | .mc _ _ => 2

/-- A refused write raises what its chapter names. -/
def refusedBy (op : Nat) (c : Cmd) (v : Nat × Nat) (s : State) : State :=
  match (entryNamed op c).bind findEntry with
  | some e =>
    let s := if carriesValue op then refusalEvents e (cmdOff c) (cmdCanon op c e) v.1 v.2 s else s
    if op = Dx.WHOLE && v.1 ∈ [St.RESERVED_SET, St.OUT_OF_RANGE, St.BAD_TICK] then xferClose (wholeXfer c s) 4 s else s
  | none => s

/-- After its checks: the signature, the effect and the answer. -/
def dxAct (full : Bool) (op : Nat) (c : Cmd) (s : State) : State :=
  let (s, ok) := if op = Dx.SIGNED_WRITE then sigJudge op c s else (s, true)
  if !ok then respond op c { status := St.SIGNATURE } s
  else
    let (s, a) := dxEffect full op c s
    let s := respond op c a s
    if op = Dx.ACTION && cmdAction c == Act.CLOSE && a.status == St.DONE then sessionEnd (cmdSession c) 2 s else s

/-- Judge a command and answer it (R388). -/
def dxJudge (full : Bool) (op : Nat) (c : Cmd) (s : State) : State :=
  let s := leasesLapse s
  let fail := fun (st : Nat) => respond op c { status := st } s
  if c.check.toNat != cmdCheck (op % 256) c then
    respond op c { status := St.CHECK_FAILED } (raiseOnce Ev.DX_CHECK (transportKey c.src) [] s)
  else if headerBad op c then fail St.BAD_COMMAND
  else if sourceRefused c s then fail St.SOURCE_REFUSED
  else if !sessionOk op c s then fail St.NO_SESSION
  else
    let s := subsFollow c (if c.session = 0 then s else sessionTouch (cmdSession c) s)
    match cached c s with
    | some r => deliver { r with dest := c.src, replayed := true } (count E.DX_REPLAYED 1 s)
    | none => match checkSteps op c s with
      | some v => respond op c (answerOf v) (refusedBy op c v s)
      | none => dxAct full op c s

/-- Whether a COMMIT of a session is being verified. -/
def verifying (s : State) (n : Nat) : Bool := s.dx.xfers.any fun x => x.session == n && x.state == .verifying

/-- Take a command from its session's order: behind a COMMIT in verification it waits, up to 64 (R390). -/
def dxTake (op : Nat) (c : Cmd) (s : State) : State :=
  let s := count E.DX_COMMANDS 1 s
  match (sessionOf s (cmdSession c)).filter fun x => samePrincipal x c.src && verifying s x.num with
  | some x =>
    if x.waiting.length ≥ 63 then dxJudge true op c s
    else setSession x.num (fun x => { x with waiting := x.waiting ++ [(op, c)] }) s
  | none => dxJudge false op c s

/-- Commands that waited behind a COMMIT, until another COMMIT is being verified. -/
def runWaiting (n : Nat) : Nat → State → State
  | 0, s => s
  | k + 1, s => match sessionOf s n with
    | none => s
    | some x => match x.waiting with
      | [] => s
      | w :: r => if verifying s n then s
        else runWaiting n k (dxJudge false w.1 w.2 (setSession n (fun x => { x with waiting := r }) s))

/-! ### The submission queues (R406) -/

/-- A slot that could not be read. -/
def badSlot : Nat × Cmd := (0, { src := .t1s 0, bodyLen := 0xFFFFFFFF })

/-- One submission slot as a command. -/
def slotCmd (h : HostPort) (b : Bytes) : Nat × Cmd :=
  let x := parseCmd (.pcie h) b
  (x.1, { x.2 with body := x.2.body.take x.2.bodyLen.toNat })

/-- Slots of a host that the part has read and not taken. -/
def fetchedOf (s : State) (h : Nat) : List (Nat × Nat × Cmd) := s.dx.fetched.filter fun x => x.1 == h

/-- A slot error stops the queues (R406). -/
def queueStop (h : Nat) (s : State) : State :=
  setPc h (fun f => { f with queueError := true, ctrl := 0, waiting := [] })
    { s with dx := { s.dx with fetched := s.dx.fetched.filter fun x => x.1 != h } }

/-- A slot is taken: the next one is the head. -/
def slotTaken (h : Nat) (x : Nat × Nat × Cmd) (s : State) : State :=
  setPc h (fun f => { f with sqHead := (f.sqHead + 1) % 2 ^ f.sqLog2 }) { s with dx := { s.dx with fetched := s.dx.fetched.erase x } }

/-- Act on slots at the head of the queue that no command of the table stands for: a bad length or address stops the queues, and
an op code outside R386 is answered. -/
def slotsJudge (h : HostPort) : Nat → State → State
  | 0, s => s
  | k + 1, s => match fetchedOf s h with
    | [] => s
    | x :: _ =>
      if x.2.2.bodyLen.toNat > 4048 then queueStop h s
      else if (1 ≤ x.2.1 && x.2.1 ≤ 7) || cqFull (pcOf s h) || (controllerOf s (hostDie h)).restarting then s
      else slotsJudge h k (dxTake x.2.1 x.2.2 (slotTaken h x s))

/-! ### Commands as they reach the part -/

/-- The inbox packet that a command came in, if it did. -/
def inboxCmd (op : Nat) (c : Cmd) (fa : FA) (p : Port) (s : State) : Option (Nat × Packet) :=
  s.dx.inbox.find? fun x => x.1 == p.val && pkOp x.2 == Op.CMD && parseCmd (.mc fa p) (pkPayload x.2) == (op, { c with takenAt := 0 })

/-- A command of the table reaches the part. While the transport does not serve, or a host's completion queue is full, it is not
taken; while a host's controller restarts it is held (R441). -/
def dxCommand (op : Nat) (c : Cmd) (s : State) : State :=
  match c.src with
  | .t1s _ => if transportUp s c.src then dxTake op c s else s
  | .mc fa p =>
    let s := match inboxCmd op c fa p s with
      | some x => fromInbox x.1 x.2 s
      | none => s
    if transportUp s c.src then dxTake op c s else s
  | .pcie h =>
    if !transportUp s c.src || cqFull (pcOf s h) then s
    else
      let x := (h.val, op, { c with takenAt := 0 })
      let s := if s.dx.fetched.contains x then slotTaken h x s else s
      if (controllerOf s (hostDie h)).restarting then setController (hostDie h) (fun d => { d with heldCmds := d.heldCmds ++ [(op, c)] }) s
      else
        let s := dxTake op c s
        slotsJudge h (fetchedOf s h).length s

/-- A command row: the command runs at the time it is taken. -/
def cmdRow (op : Nat) (c : Cmd) (s : State) : Out := runAt c.takenAt (dxCommand op c) s

end Sys2Proof.Machine
end

