-- ==== Sys2Proof/Machine/DictRows.lean ====
section
/-! DEFINITION. The rows of the dictionary's commands, each over the one operation that takes a command (chapter 13), and the
end of a transfer's verification. -/
namespace Sys2Proof.Machine
open Sys2Proof

/-! ### What a row fixes of its command -/

/-- The command with a phase or kind. -/
def withPhase (n : Nat) (c : Cmd) : Cmd := { c with operand := BitVec.ofNat 32 (n * 2 ^ 24 + cmdLow c) }

/-- The command with an action code. -/
def withAction (a : Nat) (c : Cmd) : Cmd := { c with operand := BitVec.ofNat 32 (a * 2 ^ 16 + c.operand.toNat % 2 ^ 16) }

/-- The command on an entry. -/
def onEntry (id : Nat) (c : Cmd) : Cmd := { c with entry := BitVec.ofNat 24 id }

/-- The command with byte `i` of its value under `f`, where the value has `n` bytes. -/
def withByte (op n i : Nat) (f : Nat → Nat) (c : Cmd) : Cmd :=
  if (cmdValue op c).length = n then { c with body := splice c.body i [BitVec.ofNat 8 (f (beAt c.body i 1))] } else c

/-- A WRITE of an entry. -/
def writeRow (id : Nat) (c : Cmd) (s : State) : Out := cmdRow Dx.WRITE (onEntry id c) s

/-- A SIGNED_WRITE of an entry. -/
def signedRow (id : Nat) (c : Cmd) (s : State) : Out := cmdRow Dx.SIGNED_WRITE (onEntry id c) s

/-- A WRITE whose value has its byte `i` of `n` as the row fixes it. -/
def fixedRow (id n i : Nat) (f : Nat → Nat) (c : Cmd) (s : State) : Out :=
  cmdRow Dx.WRITE (withByte Dx.WRITE n i f (onEntry id c)) s

/-- A region record with its command code in bits [15:12] of its first word. -/
def regionRow (cmd : Nat) (c : Cmd) (s : State) : Out := fixedRow E.FM_REGION_DEFINE 32 2 (fun b => cmd * 16 + b % 16) c s

/-- An `OP_LANE_COMMAND` with its action in bits [43:40]. -/
def laneRow (act : Nat) (c : Cmd) (s : State) : Out := fixedRow E.OP_LANE_COMMAND 8 2 (fun b => b / 16 * 16 + act) c s

/-- A `CH_LOOP_COMMAND` with its action in bits [63:60]. -/
def loopRow (act : Nat) (c : Cmd) (s : State) : Out := fixedRow E.CH_LOOP_COMMAND 8 0 (fun b => act * 16 + b % 16) c s

/-- A `RP_RESET` with its class in the first byte. -/
def resetRow (cls : Nat) (c : Cmd) (s : State) : Out :=
  cmdRow Dx.SIGNED_WRITE (withByte Dx.SIGNED_WRITE 16 0 (fun _ => cls) (onEntry E.RP_RESET c)) s

/-- A block write of route records, its whole transfer taken as one command. -/
def routeRow (id : Nat) (c : Cmd) (s : State) : Out := cmdRow Dx.WHOLE (withPhase 3 (onEntry id c)) s

def actionRow (a : Nat) (c : Cmd) (s : State) : Out := cmdRow Dx.ACTION (withAction a c) s

/-! ### The protocol's commands -/

/-- READ (R383). -/
def execRead (c : Cmd) (s : State) : Out := cmdRow Dx.READ c s
/-- WRITE (R382). -/
def execWrite (c : Cmd) (s : State) : Out := cmdRow Dx.WRITE c s
/-- SIGNED_WRITE (R496). -/
def execSignedWrite (c : Cmd) (s : State) : Out := cmdRow Dx.SIGNED_WRITE c s
/-- READ_BLOCK_OPEN (R393). -/
def execReadBlockOpen (c : Cmd) (s : State) : Out := cmdRow Dx.READ_BLOCK (withPhase 1 c) s
/-- READ_BLOCK_SEGMENT (R393). -/
def execReadBlockSegment (c : Cmd) (s : State) : Out := cmdRow Dx.READ_BLOCK (withPhase 2 c) s
/-- READ_BLOCK_CLOSE (R393). -/
def execReadBlockClose (c : Cmd) (s : State) : Out := cmdRow Dx.READ_BLOCK (withPhase 3 c) s
/-- WRITE_BLOCK_BEGIN (R392). -/
def execWriteBlockBegin (c : Cmd) (s : State) : Out := cmdRow Dx.WRITE_BLOCK (withPhase 1 c) s
/-- WRITE_BLOCK_SEGMENT (R392). -/
def execWriteBlockSegment (c : Cmd) (s : State) : Out := cmdRow Dx.WRITE_BLOCK (withPhase 2 c) s
/-- WRITE_BLOCK_COMMIT (R392). -/
def execWriteBlockCommit (c : Cmd) (s : State) : Out := cmdRow Dx.WRITE_BLOCK (withPhase 3 c) s
/-- WRITE_BLOCK_ABORT (R392). -/
def execWriteBlockAbort (c : Cmd) (s : State) : Out := cmdRow Dx.WRITE_BLOCK (withPhase 4 c) s
/-- SUBSCRIBE_EVENTS (R401). -/
def execSubscribeEvents (c : Cmd) (s : State) : Out := cmdRow Dx.SUBSCRIBE (withPhase 1 c) s
/-- SUBSCRIBE_ENTRY (R401). -/
def execSubscribeEntry (c : Cmd) (s : State) : Out := cmdRow Dx.SUBSCRIBE (withPhase 2 c) s
/-- SUBSCRIBE_END (R401). -/
def execSubscribeEnd (c : Cmd) (s : State) : Out := cmdRow Dx.SUBSCRIBE (withPhase 3 c) s
/-- OPEN_SESSION (R395). -/
def execOpenSession (c : Cmd) (s : State) : Out := actionRow Act.OPEN c s
/-- CLOSE_SESSION (R397). -/
def execCloseSession (c : Cmd) (s : State) : Out := actionRow Act.CLOSE c s
/-- RENEW (R396). -/
def execRenew (c : Cmd) (s : State) : Out := actionRow Act.RENEW c s
/-- CLAIM (R396). -/
def execClaim (c : Cmd) (s : State) : Out := actionRow Act.CLAIM c s
/-- RELEASE (R579). -/
def execRelease (c : Cmd) (s : State) : Out := actionRow Act.RELEASE c s
/-- HANDOVER (R396). -/
def execHandover (c : Cmd) (s : State) : Out := actionRow Act.HANDOVER c s

/-! ### The end of a verification (R392, R578) -/

/-- Bytes of a transfer that is whole. -/
def xferValue (x : Xfer) : Bytes := (x.lines.map (·.2)).flatten

/-- Judge a value from step 10 of R388 on and write it. -/
def blockWrite (c : Cmd) (e : Entry) (v : Bytes) (s : State) : State × Answer :=
  let c := { c with body := v, offset := 0 }
  match reservedBad Dx.WHOLE c e <|> outOfRange Dx.WHOLE c e s <|> badTick Dx.WHOLE c e s with
  | some d => (refusalEvents e 0 (cmdCanon Dx.WHOLE c e) d.1 d.2 s, answerOf d)
  | none => takeWrite c e 0 (cmdTick c) (cmdCanon Dx.WHOLE c e) false s

/-- Entries that check their value after the transfer. -/
def checksLater (id : Nat) : Bool := id ∈ [E.TT_NEXT_IMAGE, E.SE_FW_IMAGE, E.RP_POSITION_IMPORT]

/-- The value passes to an entry that checks it later. -/
def blockPass (x : Xfer) (v : Bytes) (s : State) : State :=
  if x.entry = E.TT_NEXT_IMAGE then ttVerified v x.digest s
  else if x.entry = E.SE_FW_IMAGE then fwReceived v s
  else importReceived x.session v s

/-- The outcome of a verification, with the transfer closed. -/
def blockOutcome (x : Xfer) (c : Cmd) (s : State) : State × Answer :=
  let v := xferValue x
  if sha v != x.digest then (xferFailed x.entry (xferClose x 2 s), { status := St.DIGEST_MISMATCH })
  else if checksLater x.entry then (blockEnd x answerDone (blockPass x v s), answerDone)
  else match findEntry x.entry with
    | none => (xferClose x 4 s, answerRefused 0)
    | some e =>
      let (s, a) := blockWrite c e v s
      (blockEnd x a s, a)

/-- BLOCK_VERIFY_DONE (R578): the COMMIT is answered, and the commands behind it go on. -/
def execBlockVerifyDone (entry : Nat) (s : State) : Out :=
  run (fun s => match xferOf s entry with
    | none => s
    | some x => match x.commit with
      | none => s
      | some c =>
        let (s, a) := blockOutcome x c s
        runWaiting x.session 64 (respond Dx.WRITE_BLOCK c a s)) s

/-! ### Entries with rows of their own -/

/-- BEHAVIOUR_LEVEL_SET (R4). -/
def execBehaviourLevelSet (c : Cmd) (s : State) : Out := signedRow E.BEHAVIOUR_LEVEL_SET c s
/-- PORT_CONFIG (R135). -/
def execPortConfig (c : Cmd) (s : State) : Out := writeRow E.PORT_CONFIG c s
/-- TT_NEXT_DISCARD (R59). -/
def execTtNextDiscard (c : Cmd) (s : State) : Out := writeRow E.TT_NEXT_DISCARD c s
/-- TT_VARIANT_SELECT (R60). -/
def execTtVariantSelect (c : Cmd) (s : State) : Out := writeRow E.TT_VARIANT_SELECT c s
/-- TT_VARIANT_NEXT (R60). -/
def execTtVariantNext (c : Cmd) (s : State) : Out := writeRow E.TT_VARIANT_NEXT c s
/-- FT_ACTION_ADD (R92). -/
def execFtActionAdd (c : Cmd) (s : State) : Out := writeRow E.FT_ACTION_ADD c s
/-- FT_ACTION_ARM (R576). -/
def execFtActionArm (c : Cmd) (s : State) : Out := writeRow E.FT_ACTION_ARM c s
/-- FT_ACTION_CANCEL (R576). -/
def execFtActionCancel (c : Cmd) (s : State) : Out := writeRow E.FT_ACTION_CANCEL c s
/-- FT_SERVO_RESTART (R81). -/
def execFtServoRestart (c : Cmd) (s : State) : Out := writeRow E.FT_SERVO_RESTART c s
/-- FT_DOMAIN_SELECT (R89). -/
def execFtDomainSelect (c : Cmd) (s : State) : Out := writeRow E.FT_DOMAIN_SELECT c s
/-- CR_MISSING_LOG_CLEAR (R212). -/
def execCrMissingLogClear (c : Cmd) (s : State) : Out := writeRow E.CR_MISSING_LOG_CLEAR c s
/-- REGION_CREATE (R224). -/
def execRegionCreate (c : Cmd) (s : State) : Out := regionRow 1 c s
/-- REGION_RETIRE (R224). -/
def execRegionRetire (c : Cmd) (s : State) : Out := regionRow 2 c s
/-- REGION_REKEY (R224). -/
def execRegionRekey (c : Cmd) (s : State) : Out := regionRow 3 c s
/-- REGION_REINITIALISE (R224). -/
def execRegionReinitialise (c : Cmd) (s : State) : Out := regionRow 4 c s
/-- FM_CHECKPOINT_STEP (R238). -/
def execFmCheckpointStep (c : Cmd) (s : State) : Out := writeRow E.FM_CHECKPOINT_STEP c s
/-- FM_CHECKPOINT_RESTORE (R239). -/
def execFmCheckpointRestore (c : Cmd) (s : State) : Out := writeRow E.FM_CHECKPOINT_RESTORE c s
/-- TB_LPM_WRITE (R265). -/
def execTbLpmWrite (c : Cmd) (s : State) : Out := routeRow E.TB_LPM_WRITE c s
/-- TB_EXACT_WRITE (R265). -/
def execTbExactWrite (c : Cmd) (s : State) : Out := routeRow E.TB_EXACT_WRITE c s
/-- TB_NEXTHOP_WRITE (R266). -/
def execTbNexthopWrite (c : Cmd) (s : State) : Out := routeRow E.TB_NEXTHOP_WRITE c s
/-- TB_GROUP_WRITE (R266). -/
def execTbGroupWrite (c : Cmd) (s : State) : Out := routeRow E.TB_GROUP_WRITE c s
/-- TB_SEED_NEXT (R273). -/
def execTbSeedNext (c : Cmd) (s : State) : Out := writeRow E.TB_SEED_NEXT c s
/-- TB_SUBSTITUTE (R277). -/
def execTbSubstitute (c : Cmd) (s : State) : Out := writeRow E.TB_SUBSTITUTE c s
/-- LANE_COMMAND_MOVE (R327). -/
def execLaneCommandMove (c : Cmd) (s : State) : Out := laneRow 1 c s
/-- LANE_COMMAND_RETURN (R327). -/
def execLaneCommandReturn (c : Cmd) (s : State) : Out := laneRow 2 c s
/-- OP_ELS_REPLACE_PREPARE (R336). -/
def execOpElsReplacePrepare (c : Cmd) (s : State) : Out := writeRow E.OP_ELS_REPLACE_PREPARE c s
/-- CHUTE_LOOP_SET (R361). -/
def execChuteLoopSet (c : Cmd) (s : State) : Out := loopRow 1 c s
/-- CHUTE_LOOP_CLEAR (R361). -/
def execChuteLoopClear (c : Cmd) (s : State) : Out := loopRow 2 c s
/-- PS_REQUEST_ACTIVE (R429). -/
def execPsRequestActive (c : Cmd) (s : State) : Out := fixedRow E.PS_REQUEST 1 0 (fun _ => 0) c s
/-- PS_REQUEST_TRIM (R427). -/
def execPsRequestTrim (c : Cmd) (s : State) : Out := fixedRow E.PS_REQUEST 1 0 (fun _ => 1) c s
/-- PS_REQUEST_REST (R428). -/
def execPsRequestRest (c : Cmd) (s : State) : Out := fixedRow E.PS_REQUEST 1 0 (fun _ => 2) c s
/-- HL_DI_UNMASK (R432). -/
def execHlDiUnmask (c : Cmd) (s : State) : Out := writeRow E.HL_DI_UNMASK c s
/-- HL_FAULT_CLEAR (R433). -/
def execHlFaultClear (c : Cmd) (s : State) : Out := writeRow E.HL_FAULT_CLEAR c s
/-- HL_ATTN_CLEAR (R433). -/
def execHlAttnClear (c : Cmd) (s : State) : Out := writeRow E.HL_ATTN_CLEAR c s
/-- HL_CERT_SUBMIT (R439). -/
def execHlCertSubmit (c : Cmd) (s : State) : Out := writeRow E.HL_CERT_SUBMIT c s
/-- RP_POSITION_FA (R453). -/
def execRpPositionFa (c : Cmd) (s : State) : Out := writeRow E.RP_POSITION_FA c s
/-- RP_WITHDRAW (R461). -/
def execRpWithdraw (c : Cmd) (s : State) : Out := writeRow E.RP_WITHDRAW c s
/-- RP_BENCH_RESET (R462). -/
def execRpBenchReset (c : Cmd) (s : State) : Out := writeRow E.RP_BENCH_RESET c s
/-- RP_STREAM_ACCEPT (R473). -/
def execRpStreamAccept (c : Cmd) (s : State) : Out := writeRow E.RP_STREAM_ACCEPT c s
/-- RP_STREAM_START (R474). -/
def execRpStreamStart (c : Cmd) (s : State) : Out := writeRow E.RP_STREAM_START c s
/-- RP_STREAM_ABORT (R476). -/
def execRpStreamAbort (c : Cmd) (s : State) : Out := writeRow E.RP_STREAM_ABORT c s
/-- SE_FW_ACTIVATE (R493). -/
def execSeFwActivate (c : Cmd) (s : State) : Out := signedRow E.SE_FW_ACTIVATE c s
/-- SE_ROLLBACK_COMMIT (R494). -/
def execSeRollbackCommit (c : Cmd) (s : State) : Out := signedRow E.SE_ROLLBACK_COMMIT c s
/-- SE_OWNER_ENROL (R498). -/
def execSeOwnerEnrol (c : Cmd) (s : State) : Out := signedRow E.SE_OWNER_ENROL c s
/-- SE_OWNER_REVOKE (R499). -/
def execSeOwnerRevoke (c : Cmd) (s : State) : Out := signedRow E.SE_OWNER_REVOKE c s
/-- SE_MANAGER_KEYS (R500). -/
def execSeManagerKeys (c : Cmd) (s : State) : Out := signedRow E.SE_MANAGER_KEYS c s
/-- SE_QUORUM (R500). -/
def execSeQuorum (c : Cmd) (s : State) : Out := signedRow E.SE_QUORUM c s
/-- SE_ATTEST_REQUEST (R505). -/
def execSeAttestRequest (c : Cmd) (s : State) : Out := writeRow E.SE_ATTEST_REQUEST c s
/-- TM_LATCH_NOW (R517). -/
def execTmLatchNow (c : Cmd) (s : State) : Out := writeRow E.TM_LATCH_NOW c s
/-- TM_CAPTURE_RESTART (R522). -/
def execTmCaptureRestart (c : Cmd) (s : State) : Out := writeRow E.TM_CAPTURE_RESTART c s
/-- BI_STRATA_TEST_NOW (R542). -/
def execBiStrataTestNow (c : Cmd) (s : State) : Out := writeRow E.BI_STRATA_TEST_NOW c s
/-- RP_RESET_WARM (R462). -/
def execRpResetWarm (c : Cmd) (s : State) : Out := resetRow 2 c s
/-- RP_RESET_COLD (R462). -/
def execRpResetCold (c : Cmd) (s : State) : Out := resetRow 3 c s
/-- TM_CLEAR_FIXED (R516). -/
def execTmClearFixed (c : Cmd) (s : State) : Out := fixedRow E.TM_CLEAR 1 0 (fun b => b ||| 1) c s
/-- TM_CLEAR_PROG (R516). -/
def execTmClearProg (c : Cmd) (s : State) : Out := fixedRow E.TM_CLEAR 1 0 (fun b => b ||| 2) c s

end Sys2Proof.Machine
end

