-- ==== Sys2Proof/Machine/Boundary.lean ====
section
/-! DEFINITION. What the tick generator brings: the boundary of a tick, the boundary of a frame, and the gap slot (R7, R121). -/
namespace Sys2Proof.Machine
open Sys2Proof

/-! ### Events to subscriptions (R401) -/

/-- One EVENT response with up to `n` of a subscription's events. -/
def eventResp (b : Sub) (es : List EventRec) (s : State) : Resp :=
  { dest := b.dest, op := Dx.EVENT, session := b.session, tag := b.num, entry := 0, status := St.DONE, detail := 0, tick := s.clk.tick,
    operand := es.length, replayed := false, body := (es.map (eventBytesIn (srcLe b.dest))).flatten }

def setSub (n : Nat) (f : Sub → Sub) (s : State) : State :=
  { s with dx := { s.dx with subs := s.dx.subs.map fun b => if b.num = n then f b else b } }

/-- Send what waits for a subscription, in as few EVENT responses as hold it, up to the frame's limit. -/
def subSend (n : Nat) : Nat → State → State
  | 0, s => s
  | k + 1, s => match s.dx.subs.find? fun b => b.num == n with
    | none => s
    | some b =>
      if b.queue = [] || b.sent ≥ Cfg.DX_EVENT_PKT_LIMIT s || !transportUp s b.dest then s
      else
        let m := eventsPer s b.dest
        let es := b.queue.take m
        let s := setSub n (fun b => { b with queue := b.queue.drop m, sent := b.sent + 1 }) s
        subSend n k (deliver (eventResp b es s) (count E.DX_EVENTS_SENT es.length s))

def subsSend (s : State) : State := (s.dx.subs.map (·.num)).foldl (fun s n => subSend n 1024 s) s

/-- The READ response of an entry subscription. -/
def entryReport (b : Sub) (s : State) : State :=
  match findEntry (b.arg / 256) with
  | none => s
  | some e =>
    let v := orderBytes (srcLe b.dest) e (entryValue s b.session e)
    let st := if !available Dx.READ { src := b.dest, entry := BitVec.ofNat 24 e.id } s then St.NOT_AVAILABLE
      else if v.length > bodyLimit s b.dest then St.BAD_LENGTH else St.DONE
    if !transportUp s b.dest then s
    else deliver { dest := b.dest, op := Dx.READ, session := b.session, tag := b.num, entry := e.id, status := st, detail := 0,
                   tick := s.clk.tick, replayed := false, body := if st = St.DONE then v else [] } s

/-- Entry subscriptions whose interval divides the frame. -/
def entryReports (s : State) : State :=
  (s.dx.subs.filter fun b => b.kind == 2 && frameOf s % max b.interval 1 == 0).foldl (fun s b => entryReport b s) s

/-! ### Tick boundary -/

/-- Whether rings are updated in a tick: every tick, in Rest every 16th (R318). -/
def ringsRun (s : State) : Bool := s.hl.power != .off && (s.hl.power != .rest || s.clk.tick % 16 == 0)

/-- The dies' power against the forecast, and ring updates with the detunings measured (R318, R319). -/
def opticsTick (r : TickReadings) (s : State) : State :=
  let s := r.power.foldl (fun s x => setReading 1 x.1 (x.2 : Int) s) s
  let s := if s.bi.state = 1 then { s with bi := { s.bi with peak := max s.bi.peak (reading s 1 10 / 10).toNat } } else s
  let s := if dpLive s then (List.range 4).foldl (fun s d => forecastCheck d s) s else s
  let s := if ringsRun s then r.rings.foldl (fun s x => ringUpdate x.1 x.2 s) s else s
  if s.hl.power = .off then s else wingTemps s

/-- A packet drawn for a lane-slot that has passed is lost: its lane left service, or its port went to cell mode (R132). -/
def drawnLost (d : Drawn) (s : State) : State :=
  let s := { s with dp := { s.dp with drawn := s.dp.drawn.erase d } }
  let s := if portCell s d.port then noCell d.port s else entryLost d.port d.lane s
  let s := copiesLost d.id d.pkt [d.port] s
  if s.dp.sc.any (fun x => x.id == d.id) || s.dp.drawn.any (fun x => x.id == d.id) then s else packetDone d.id s

/-- Lane-slots of the tick that has ended are over. -/
def slotsOver (s : State) : State :=
  let s := (s.dp.drawn.filter fun d => d.tick < s.clk.tick).foldl (fun s d => drawnLost d s) s
  let s := s.dp.idle.foldl (fun s k => slotUnused k s) s
  { s with dp := { s.dp with
    idle := []
    lent := s.dp.lent.filter fun x => s.clk.tick * 25 ≤ x.2
    lost := s.dp.lost.filter fun x => s.clk.tick * 25 ≤ x.2
    cross := s.dp.cross.filter fun x => s.clk.tick * 12800 ≤ x.1 } }

/-- Blocks of a bench's scheduled and open queues (R512, events 169 and 170). -/
def queueBlocks (s : State) (b : Nat) : Nat × Nat :=
  (sumNat ((s.dp.sc.filter fun x => benchOf x.port == b).map fun x => pkBlocks x.pkt),
   sumNat ((s.dp.openq.filter fun x => benchOf x.port == b).map fun x => pkBlocks x.pkt))

def queueSums (s : State) : State :=
  (List.range 128).foldl (fun s b =>
    let (x, y) := queueBlocks s b
    let s := if x = 0 then s else busyAdd (768 + b) x x (occ b 169 x {} s)
    if y = 0 then s else busyAdd (896 + b) y 0 (occ b 170 y {} s)) s

/-- Counts of a lane in the order of R121. -/
def laneCounts (c : CellLane) : Bytes := ([1, 2, 3].map fun vc => beBytes 4 (c.vc vc).sent ++ beBytes 4 (c.vc vc).freed).flatten

/-- Head of a credit cell: link-local, on MC, of op class 0x3F, with 24 bytes of payload (R130, R133). -/
def creditHead (s : State) : Bytes :=
  beBytes 16 (0xFFFFFF * 2 ^ 104 + posFa s * 2 ^ 80 + 2 * 2 ^ 78 + 0x3F * 2 ^ 72 + 24 * 2 ^ 60)

/-- A credit cell on a lane, as soon as the lane is free. -/
def creditCell (p l : Nat) (s : State) : State :=
  let c := (linkOf s p).cell l
  let free := laneFree s p l
  let s := emit (.cell p l (mkCell 3 40 (c.txCount % 256) (creditHead s ++ laneCounts c))) s
  onWireFrom p l free 5120 (setLink p (fun k => k.setCell l fun c => { c with txCount := (c.txCount + 1) % 256 }) s)

/-- Every cell-mode lane sends its counts (R133). -/
def creditCells (s : State) : State :=
  if !dpLive s then s
  else ((List.range 512).filter fun p => portCell s p && !darkOut s s.clk.tick p).foldl (fun s p =>
    (egressLanes s p).foldl (fun s l => creditCell p l s) s) s

/-- What the moth does at a tick boundary. -/
def mothTick (s : State) : State :=
  if s.hl.power = .off then s else withPins (fun s => fenceSweep (ageTick (throttleTick (diTick s)))) s

/-- Everything bound to a tick's boundary. -/
def tickWork (r : TickReadings) (s : State) : State :=
  let s := genTick (servoEnables (ppsFall s))
  let s := tickMoves (chuteTick (slotsOver s))
  let s := mothTick (opticsTick r s)
  let s := lagCheck (creditCells (queueSums (stageTick (burnsOver s))))
  subsSend (capWriteUp 64 s)

/-- The next tick. -/
def nextTick (s : State) : State := { s with clk := { tick := s.clk.tick + 1, ps := 0 } }

/-- Bits of stored table words have been upset (R259). -/
def upsetWords (r : TickReadings) (s : State) : State :=
  { s with tb := { s.tb with upset := r.upsets.foldl (fun l u => (wordAt u.1.die u.1.table u.1.place, u.2) :: l.filter fun x =>
      x.1 != wordAt u.1.die u.1.table u.1.place) s.tb.upset } }

/-- TICK_BOUNDARY (R7). -/
def execTickBoundary (r : TickReadings) (s : State) : Out := run (fun s => tickWork r (upsetWords r s)) (nextTick s)

/-! ### Frame boundary -/

/-- A limit entry's value. -/
def limitValue (s : State) (e : Nat) : Nat := getNum s e (((findEntry e).map fun x => x.dfl.toNat).getD 0)

/-- Limits that are off at 0 (R58, R164). -/
def offAtZero (e : Nat) : Bool := e == E.TT_UNDERRUN_EVENT_LIMIT || e == E.DP_RESEQ_EVENT_LIMIT

/-- What a frame total counts against its limit: stomps sent are no drops of the port (R128). -/
def accTotal (a : FrameAcc) : Nat :=
  if a.code = Ev.PKT_ERRORS then sumNat (a.counts.take 2 ++ a.counts.drop 3) else sumNat a.counts

/-- Whether a frame total is raised. A bench's breach of R58 is, where a cause of it counts (R195). -/
def accRaised (s : State) (a : FrameAcc) : Bool := match a.limit with
  | none => !(a.code = Ev.SC_PARTITION || a.code = Ev.SC_FOREIGN_MEMBER) || onceKey a.code (2 ^ 31 + a.key) s
  | some e => limitValue s e < accTotal a && !(offAtZero e && limitValue s e == 0)

/-- Items of a frame total: those of the first occurrence, then the frame's counts where the event carries them. -/
def accItems (a : FrameAcc) : List Item :=
  a.first ++ (if a.code = Ev.DP_RESEQ_TIMEOUT then []
    else match a.counts with
      | [n] => [.u32 (min n 0xFFFFFFFF)]
      | l => [.counts l])

/-- The frame's totals are raised and its once-a-frame notes are cleared (R577). -/
def frameFlush (s : State) : State :=
  let acc := s.ev.acc.filter (accRaised s)
  let s := { s with
    ev := { s.ev with acc := [], once := [] }
    dx := { s.dx with subs := s.dx.subs.map fun b => { b with sent := 0 } }
    links := s.links.map fun x => (x.1, { x.2 with markers := 0, firstMarker := 0 }) }
  acc.foldl (fun s a => raise a.code (accItems a) s) s

/-- Level of a unit of R162: 0 bench, 1 die, 2 device, 3 plane; and its number in the level. -/
def unitLevel (u : Nat) : Nat × Nat :=
  if u < 128 then (0, u) else if u < 132 then (1, u - 128) else if u = 132 then (2, 0) else (3, 0)

/-- Neighbours of a unit (R163). -/
def unitNeighbours (u : Nat) : List Nat :=
  if u < 128 then [128 + u / 32]
  else if u < 132 then ((List.range 32).map fun i => 32 * (u - 128) + i) ++ [132]
  else if u = 132 then [128, 129, 130, 131, 133]
  else [132]

/-- A busy fraction: what is used, of what, and how much of what is used SC and crusher traffic uses. -/
structure Busy where
  used : Nat
  total : Nat
  sched : Nat
deriving DecidableEq, Repr

/-- The larger of two busy fractions. -/
def Busy.maxOf (a b : Busy) : Busy := if a.used * b.total < b.used * a.total then b else a

/-- A fraction in 1/65,536, and the scheduled share of what is used. -/
def Busy.frac (x : Busy) : Nat := x.used * 65536 / max x.total 1
def Busy.share (x : Busy) : Nat := if x.used = 0 then 0 else x.sched * 65536 / x.used

/-- Whether a fraction is at least, or at most, so many per cent. -/
def Busy.atLeast (x : Busy) (pct : Nat) : Bool := pct * x.total ≤ x.used * 100
def Busy.atMost (x : Busy) (pct : Nat) : Bool := x.used * 100 ≤ pct * x.total

/-- A part of the running frame, by its key, of `total`. -/
def busyOf (s : State) (key total : Nat) : Busy :=
  let (a, b) := SMap.getD s.dp.busy key (0, 0)
  { used := a, total := max total 1, sched := b }

/-- The same of a path's clock cycles: 1,677,721.6 in a frame. -/
def busyCycles (s : State) (key : Nat) : Busy :=
  let (a, b) := SMap.getD s.dp.busy key (0, 0)
  { used := 10 * a, total := 16777216, sched := 10 * b }

/-- Lane-slots used of those in service, over benches. -/
def busySlots (s : State) (bs : List Nat) : Busy :=
  let sum := fun base => sumNat (bs.map fun b => (SMap.getD s.dp.busy (base + b) (0, 0)).1)
  { used := sum 512, total := max (sum 640) 1, sched := sumNat (bs.map fun b => (SMap.getD s.dp.busy (512 + b) (0, 0)).2) }

/-- The busy fractions that R162 lists for a unit: 0 to 127 benches, 128 to 131 dies, 132 the device, 133 the plane. Queue storage
is taken as its mean over the frame's ticks. -/
def busyList (strata : List (Nat × Nat × Nat)) (s : State) (u : Nat) : List Busy :=
  if u < 128 then
    let limits := sumNat ([1, 2, 3].map (ownLimit s))
    [busyCycles s u, busySlots s [u], busyOf s (768 + u) (1024 * (((s.tt.active.map (·.voqKib)).getD 0) * 4)), busyOf s (896 + u) (4096 * limits)]
  else if u < 132 then
    ((List.range 32).flatMap fun i => [busyCycles s (128 + 32 * (u - 128) + i), busyCycles s (256 + 32 * (u - 128) + i)])
      ++ (List.range 4).map fun e => busyOf s (384 + 4 * (u - 128) + e) 6291456000
  else if u = 132 then
    (strata.map fun x => { used := x.2.1, total := 12582912000, sched := x.2.2 })
      ++ (List.range 4).map fun d => let x := busyOf s (1024 + d) 1; { used := 10 * x.used, total := 2147483648, sched := 10 * x.sched }
  else [busySlots s (List.range 128)]

/-- A unit's busy fraction: the largest of its own. -/
def busyUnit (strata : List (Nat × Nat × Nat)) (s : State) (u : Nat) : Busy :=
  (busyList strata s u).foldl Busy.maxOf { used := 0, total := 1, sched := 0 }

def satOf (s : State) (u : Nat) : Nat × Nat := SMap.getD s.dp.sat u (0, 0)

/-- The frame's busy fractions, and the saturated units whose neighbours are all idle. `DP_SAT_STATE` shows a whole as 65,535. The
codes of the levels are open. -/
def satCheck (strata : List (Nat × Nat × Nat)) (s : State) : State :=
  let all := (List.range 134).map (busyUnit strata s)
  let of := fun (u : Nat) => all.getD u { used := 0, total := 1, sched := 0 }
  let s := { s with dp := { s.dp with
    sat := ((List.range 134).filter fun u => (of u).used != 0).map fun u => (u, (min (of u).frac 65535, min (of u).share 65535))
    busy := [] } }
  ((List.range 134).filter fun u => (of u).atLeast (Cfg.DP_SAT_HIGH_PCT s)
      && (unitNeighbours u).all fun v => (of v).atMost (Cfg.DP_SAT_IDLE_PCT s)).foldl (fun s u =>
    let (lv, n) := unitLevel u
    raise Ev.DP_SATURATION [.u8 (Config.openFn 26 [lv] % 256), .u16 n, .u16 (satOf s u).1, .u16 (satOf s u).2,
      .fracs ((unitNeighbours u).map fun v => (satOf s v).1)] (count E.DP_SAT_EPISODES 1 s)) s

/-- What the frame's monitors, drive reports and heartbeats show (R322, R324, R358, R360, R438). -/
def frameChecks (r : FrameReadings) (s : State) : State :=
  let s := { s with op := { s.op with monitors := r.monitors.foldl (fun m x => SMap.set m x.1 x.2) s.op.monitors } }
  let s := r.cells.foldl (fun s x => cellReport x.1 x.2.1 x.2.2 s) s
  let s := if dpLive s then chuteLoss ((List.range 512).foldl (fun s p => if portFormat s p = 0 then s else lossPort p s) s) else s
  let s := if s.hl.power = .off then s else withPins evidenceFrame s
  elsStart (searchRetry s)

/-- Everything bound to a frame's boundary: the totals of the frame that has ended; then what changes the configuration; then the
checks of the frame. -/
def frameWork (r : FrameReadings) (s : State) : State :=
  let s := frameFlush { s with frame := frameOf s }
  let s := satCheck r.strata s
  let s := stageFaults r.stageReads (joinCheck (portWrites s))
  let s := epochSplit (resumeFrame (ttFrame s))
  let s := trimGate (actFreeFinal (frameChecks r s))
  { entryReports (periodicLatch s) with frame := frameOf s }

/-- FRAME_BOUNDARY (R7): once for each frame, at its first boundary. -/
def execFrameBoundary (r : FrameReadings) (s : State) : Out :=
  run (fun s => if s.clk.tick % 1024 = 0 && s.frame != frameOf s then frameWork r s else s) s

/-! ### Gap slot -/

/-- A LANE_MOVE as it leaves: a proposal names the tick 64 ahead (R327). -/
def moveStamp (b : Bytes) (s : State) : Bytes := if beAt b 0 1 = 1 then splice b 8 (beBytes 8 (s.clk.tick + 64)) else b

/-- Send the LANE_MOVEs that wait for a port. -/
def movesOut (p : Nat) (s : State) : State :=
  let mine := s.op.outbox.filter fun x => x.1 == p
  let s := { s with op := { s.op with outbox := s.op.outbox.filter fun x => x.1 != p } }
  mine.foldl (fun s x =>
    let s := if beAt x.2 0 1 = 1 then
        setMoves (s.op.moves.map fun m => if m.port = p && m.id = beAt x.2 4 4 && m.mine && m.state = .proposed then { m with S := s.clk.tick + 64 } else m) s
      else s
    sendLocal p Op.LANE_MOVE (moveStamp x.2 s) s) s

/-- Whether a port has had its first notice of the withdraw or the join in progress (R459, R461). -/
def noticeTold (s : State) (p : Nat) : Bool := match s.rp.withdraw with
  | some w => w.told.contains p
  | none => s.rp.joinTold.contains p

def noticeNote (p : Nat) (s : State) : State :=
  { s with rp := { s.rp with
    withdraw := s.rp.withdraw.map fun w => { w with told := addNew p w.told }
    joinTold := if s.rp.withdraw.isNone then addNew p s.rp.joinTold else s.rp.joinTold } }

/-- The WITHDRAW or RETURN notice: in the first gap slot, then in tick 256 of each frame. -/
def noticeOut (p : Nat) (s : State) : State :=
  match noticeNow s with
  | none => s
  | some b =>
    if noticeTold s p && s.clk.tick % 1024 != 256 then s
    else sendLocal p Op.WITHDRAW b (noticeNote p s)

/-- Link-local packets of a port's gap slot, in the order CREDIT, LINK_PARAMS, HEARTBEAT, notice, REPORT, LANE_MOVE. -/
def gapLocal (p : Nat) (s : State) : State :=
  let s := sendLocal p Op.CREDIT (creditBody s p) s
  let s := if s.clk.tick % 1024 = 0 || limitsNew s p then sendParams p s else s
  let n := max (Cfg.HL_HB_INTERVAL_TICKS s) 1
  let s := if s.clk.tick % n = p % n then heartbeatSend p s else s
  let s := if portUp s p then noticeOut p s else s
  let s := if s.clk.tick % 1024 = 512 && portUp s p then sendLocal p Op.LANE_MOVE (reportBody s p) s else s
  movesOut p s

/-- GAP_SLOT_START (R121): the link-local packets, then time messages on lanes that are free (R79). -/
def execGapSlotStart (p : Port) (s : State) : Out :=
  runAt (24 * 40960) (fun s =>
    let s := atPs (24 * 40960) s
    if portFormat s p != 1 || (lowLane s p).isNone || s.hl.power == .off || darkOut s s.clk.tick p then s
    else
      let s := gapLocal p s
      (List.range 5).foldl (fun s w => openStart p w (fun x => x.expire.isSome) s) s) s

end Sys2Proof.Machine
end

