-- ==== Sys2Proof/Machine/Arrival.lean ====
section
/-! DEFINITION. What the lanes deliver: packets through the ingress steps (R143, R144), their ends (R128), and cells (R129 to R134). -/
namespace Sys2Proof.Machine
open Sys2Proof

/-! ### Which lane a port's traffic comes from (R314) -/

/-- Whether a primary lane's markers show role 1. A lane in service that has shown none is taken to, unless the reserve lane
shows that it carries it. -/
def primaryOn (s : State) (p l : Nat) : Bool := match shownRole s p l with
  | some (r, _) => r == 1
  | none => laneSt s p 1 l == .inService && shownRole s p 4 != some (2, l)

/-- What an arrival on a lane is. -/
inductive Taking where
  | ignored
  /-- Traffic of the port. -/
  | own
  /-- The reserve lane's copy of a lane's traffic in a duplicate tick. -/
  | copy (lane : Nat)
deriving DecidableEq, Repr

def takingOf (s : State) (p l : Nat) : Taking :=
  if l < 4 then (if primaryOn s p l then .own else .ignored)
  else match shownRole s p 4 with
    | some (2, k) => if k > 3 then .ignored else if primaryOn s p k then .copy k else .own
    | some (3, _) => .own
    | _ => .ignored

/-- Whether the reserve lane duplicates a lane in this tick. -/
def duplicated (s : State) (p l : Nat) : Bool := l < 4 && primaryOn s p l && shownRole s p 4 == some (2, l)

/-! ### Checks (R128) -/

/-- The row of R128 by which the first step of R143 drops a packet. -/
def headFault (k : Packet) : Option Nat :=
  if pkFormat k = 6 then (if pkCrcOk k then none else if pkStomped k then some 3 else some 1)
  else if pkHdrOk k then none else some 0

/-- Whether the part knows a data packet's length, or that it is wrong, before it forwards its first byte (R144). -/
def wholeSoon (k : Packet) : Bool := pkWire k < 256 || 40 + pkLen k < 256

/-- The row by which steps 2 and 3 drop it. -/
def formFault (k : Packet) : Option Nat :=
  let ctl := pkFormat k == 6
  if (pkFormat k != 5 && !ctl) || opKind (pkOp k) != (if ctl then 1 else 2) || !opOnVc (pkOp k) (pkVc k)
      || (pkVc k == 0 && pkFlow k == 0) then some 4
  else if ctl then (if pkWire k = 64 then none else some 6)
  else if pkLen k > 4096 || (pkVc k == 0 && pkLen k > 984) || (wholeSoon k && pkWire k != 40 + pkLen k) then some 5
  else if pkHop k = 0 then some 7
  else none

/-- The row by which its end condemns a data packet. -/
def tailFault (k : Packet) : Option Nat :=
  if pkControl k then none
  else if !pkCrcOk k then (if pkStomped k then some 3 else some 1)
  else if pkWire k = 40 + pkLen k then none else some 5

/-- Whether a packet is judged whole before anything is done with it: control packets, packets shorter than 256 B, and in Rest
every packet, since the moth forwards none. -/
def judgedWhole (s : State) (k : Packet) : Bool := pkControl k || wholeSoon k || s.hl.power == .rest

/-- The row by which an arriving packet is dropped. -/
def arrivalFault (s : State) (k : Packet) : Option Nat :=
  headFault k <|> formFault k <|> (if judgedWhole s k then tailFault k else none)

/-- Count a packet that fails R128, also against a lane out of lock (R328). -/
def damaged (row p l : Nat) (k : Packet) (s : State) : State :=
  let s := laneNote (laneKey p 1 l) (r128 row p k s)
  if l < 4 && laneSt s p 1 l == .fault then tally E.OP_FAULT_RX_DROPS (benchOf p) 139 1 {} s else s

/-- Count a packet received (R512). -/
def occReceived (p : Nat) (k : Packet) (s : State) : State :=
  let a := attrOf p k
  let s := occCycles 0 160 (benchOf p) (ceilDiv (pkWire k) 384) (pkVc k == 0) s
  occPort p 0 1 a (occPort p 1 (pkWire k) a (occ (benchOf p) (4 + pkVc k) (pkWire k) a (occ (benchOf p) (pkVc k) 1 a s)))

/-- Count a packet whose header can be read, and what it uses of the port's credit, in all and since the latest gap slot of its
lane (R120, R122). -/
def received (p l : Nat) (k : Packet) (s : State) : State :=
  let vc := pkVc k
  let s := occReceived p k s
  if vc = 0 || opLinkLocal (pkOp k) then s
  else
    let n := creditUnits s p k
    setLink p (fun x =>
      { x.setVc vc { x.vc vc with received := ((x.vc vc).received + n) % 2 ^ 32 } with
        since := SMap.set x.since (l * 4 + vc) (SMap.getD x.since (l * 4 + vc) 0 + n) }) s

/-- One more packet that passes R128 (R438). -/
def passed (p : Nat) (s : State) : State := setNb p (fun n => { n with pkts := n.pkts + 1 }) s

/-! ### What the part takes for itself -/

/-- Hand a whole packet to the service that owns it: it waits for its own command where the operation table has one. An event
message keeps the stamp of its arrival (R73). -/
def service (p : Port) (k : Packet) (stamp : Int) (s : State) : State :=
  let op := pkOp k
  if op = Op.CMD then
    let src : Source := .mc (BitVec.ofNat 24 (pkSrc k)) p
    let c := parseCmd src (pkPayload k)
    if 1 ≤ c.1 && c.1 ≤ 7 then toInbox p k s else if transportUp s src then dxTake c.1 c.2 s else s
  else if op = Op.PTP then
    if (ptpOf s k).isSome && ptpType k ∈ [0, 2, 3, 8, 9, 10, 11] then toInbox p k (noteStamp p k stamp s) else s
  else if op = Op.LAUNCH then (if beAt (pkBody k) 0 1 ∈ [1, 3] then toInbox p k s else s)
  else if op = Op.MEM_LOAD_RSP || op = Op.MEM_ATOMIC_RSP then strayResponse p s
  else if opRequest op || op = Op.MEM_ACK || op = Op.MEM_NACK || op = Op.RED_CONTRIB || op = Op.BARRIER then toInbox p k s
  else s

/-- The part takes a whole packet that it does not forward. -/
def takeWhole (p : Port) (l id : Nat) (k : Packet) (stamp : Int) (s : State) : State :=
  service p k stamp (freeCredit p l (pkVc k) k (capTaken id s))

/-- Whether the part itself also acts on a packet that it forwards (R97, R240). -/
def localCopy (s : State) (k : Packet) : Bool :=
  pkM k && pkOp k == Op.MEM_MCAST_STORE && (tabList s E.FM_MCAST_LOCAL 4).any fun g => beNat g == pkDest k

/-- A packet whose end has not come. -/
def cutAdd (p l id : Nat) (k : Packet) (stamp : Int) (taken : Bool) (s : State) : State :=
  let c : CutPkt := { port := p, lane := l, id := id, pkt := k, taken := taken, begun := [], at' := now s, stamp := stamp }
  { s with dp := { s.dp with cut := s.dp.cut ++ [c] } }

/-! ### Steps 4 to 6 (R143, R440, R453) -/

/-- Whether a port's neighbour is FENCED. -/
def portFenced (s : State) (p : Nat) : Bool := (SMap.get? s.hl.neighbours p).any fun n => n.state == .fenced

/-- What becomes of a packet that has passed step 3. -/
inductive Fate where
  /-- A fence drops it; counted where its source is fenced. -/
  | fenced (counted : Bool)
  | link
  /-- The part forwards nothing and does not take it (R456). -/
  | stale
  | own
  | sched
  | route
deriving DecidableEq, Repr

/-- Whether a packet is for the part itself. -/
def isOwn (s : State) (k : Packet) : Bool := posFa s != 0 && pkDest k == posFa s && !pkM k

/-- Packets that a part takes while it forwards nothing (R453); in Rest no LAUNCH (R428). -/
def staleTakes (s : State) (k : Packet) : Bool :=
  s.rp.sync != .unassigned && pkVc k == Vc.MC
    && ((isOwn s k && (pkOp k == Op.CMD || pkOp k == Op.PTP)) || (pkOp k == Op.LAUNCH && (isOwn s k || pkM k) && s.hl.power != .rest))

def fateOf (s : State) (p : Nat) (k : Packet) : Fate :=
  let op := pkOp k
  let reports := op == Op.LINK_PARAMS || op == Op.HEARTBEAT
  if fenced s (pkSrc k) && !reports && !(isOwn s k && opRequest op && !portFenced s p) then .fenced true
  else if portFenced s p && !reports then .fenced false
  else if opLinkLocal op then .link
  else if !carries s then (if staleTakes s k then .own else .stale)
  else if isOwn s k || op == Op.RED_CONTRIB || op == Op.BARRIER then .own
  else if pkVc k = 0 then .sched
  else .route

/-! ### Scheduled packets (steps 7 and 8) -/

/-- A port that takes no copies. -/
def portGone (s : State) (p : Nat) : Bool := portState s p == .down || portState s p == .disabled

/-- Copies of a multicast packet just queued that no port can take (R156, R158). -/
def scLose (id : Nat) (ports : List Nat) (s : State) : State :=
  match s.dp.sc.find? fun x => x.id == id with
  | none => s
  | some x =>
    let s := mcastLoss id x.flow x.seq ports s
    { s with dp := { s.dp with sc := s.dp.sc.map fun y => if y.id = id then { y with left := y.left.filter fun q => !ports.contains q } else y } }

/-- Look up the binding, check gate and job tag, and enqueue: whether the packet is queued. -/
def scIngress (p l id : Nat) (k : Packet) (s : State) : State × Bool :=
  let a := attrOf p k
  let b := benchOf p
  let drop := fun (code : Nat) (s : State) => (packetDone id (capDrop id code s), false)
  match readWords (p / 128) (flowWords s (pkFlow k)) (countProbes b 2 a s) with
  | (s, true) => drop Ev.TB_ECC (tallyPort E.TB_ECC_DROPS 111 p k s)
  | (s, false) => match s.tt.active, bindingOf s (pkFlow k) with
    | some i, some bd =>
      let ports := egressPorts i bd
      let gone := ports.filter (portGone s)
      if gateOf s bd != .openn then drop Ev.SC_UNBOUND (breach 0 b a none s)
      else if bd.job != pkJob k then drop Ev.SC_PARTITION (breach 1 b a none s)
      else if gone.length = ports.length then drop 0 (tallyPort E.DP_NO_EGRESS_DROPS 39 p k s)
      else
        let s := scEnqueue i bd id p l k s
        let ok := s.dp.sc.any fun x => x.id == id
        (if bd.multi then scLose id gone s else s, ok)
    | _, _ => drop Ev.SC_UNBOUND (breach 0 b a none s)

/-! ### Other packets (steps 9 and 10) -/

/-- A packet as it is queued for an egress port. -/
def openPkt (s : State) (p l id egress : Nat) (k : Packet) (arrived : Nat) (stamp : Int) (safe : Option Hop) (parent : Option Nat) : OpenPkt :=
  { id := id, pkt := k, port := p, lane := l, egress := egress, vc := pkVc k, arrived := arrived, stamp := stamp, headAt := none,
    safe := safe, escaped := false, expire := if isTime s k then some (s.clk.tick + 1) else none, blocked := none, pooled := 0,
    parent := parent }

/-- One copy for each port of a group that can take one (R155, R263). -/
def spread (p l id : Nat) (k : Packet) (arrived : Nat) (stamp : Int) (ports : List Nat) (s : State) : State :=
  let odd := ports.filter fun q => !portGone s q && portCell s q
  let live := ports.filter fun q => !portGone s q && !portCell s q
  let s := mcastLoss id (groupKey k) (pkSeq k) (ports.filter fun q => !live.contains q) (odd.foldl (fun s q => noCell q s) s)
  if live.isEmpty then freeCredit p l (pkVc k) k (packetDone id s)
  else live.foldl (fun s q =>
    let n := s.dp.nextId
    openEnqueue (openPkt s p l n q k arrived stamp none (some id)) { s with dp := { s.dp with nextId := n + 1 } }) s

/-- Learn the source, look up the route, apply the policer, enqueue: whether the packet goes on. -/
def openIngress (p l id : Nat) (k : Packet) (arrived : Nat) (stamp : Int) (s : State) : State × Bool :=
  let vc := pkVc k
  let drop := fun (code : Nat) (s : State) => (freeCredit p l vc k (packetDone id (capDrop id code s)), false)
  match chooseSet p k (learnProbe p arrived k s) with
  | (s, none) => drop Ev.TB_EPOCH_DROP s
  | (s, some rs) =>
    if pkM k then
      match routeGroup p k rs s with
      | (s, .error code) => drop code s
      | (s, .ok ports) =>
        match police p vc arrived k s with
        | (s, none) => drop Ev.OT_POLICER_DROP s
        | (s, some k) => (spread p l id k arrived stamp ports s, true)
    else
      match routeLookup p k vc rs s with
      | (s, .error code) => drop code s
      | (s, .ok (q, safe)) =>
        match police p vc arrived k s with
        | (s, none) => drop Ev.OT_POLICER_DROP s
        | (s, some k) => (openEnqueue (openPkt s p l id q k arrived stamp safe none) s, true)

/-! ### The ingress steps (R143) -/

/-- What follows forwarding: the local copy when the packet is whole, and the wait for its end. -/
def forwarded (p : Port) (l id : Nat) (k : Packet) (stamp : Int) (whole : Bool) (x : State × Bool) : State :=
  if !x.2 then x.1
  else
    let mine := localCopy x.1 k
    if !whole then cutAdd p l id k stamp mine x.1
    else if mine then toInbox p k x.1 else x.1

/-- Steps 4 to 10 for a packet that has passed step 3; `arrived` is its ingress time stamp in ps of fabric time, `stamp` the
corrected one. -/
def ingress (p : Port) (l : Nat) (k : Packet) (arrived : Nat) (stamp : Int) (whole : Bool) (s : State) : State :=
  let id := s.dp.nextId
  let s := capIngress p l id k stamp { s with dp := { s.dp with nextId := id + 1 } }
  let drop := fun (s : State) => freeCredit p l (pkVc k) k (packetDone id s)
  let hear := fun (s : State) => if pkControl k && !portCell s p then hearEpoch p k s else s
  match fateOf s p k with
  | .fenced c => drop (if c then count E.HL_FENCE_DROPS 1 s else s)
  | .link => toInbox p k (capTaken id s)
  | .stale => drop (count E.RP_STALE_DROPS 1 (hear s))
  | .own => let s := hear s; if whole then takeWhole p l id k stamp s else cutAdd p l id k stamp true s
  | .sched => forwarded p l id k stamp whole (scIngress p l id k (hear s))
  | .route =>
    let s := hear s
    let s := if pkOp k = Op.LAUNCH then service p k stamp s else s
    forwarded p l id k stamp whole (openIngress p l id k arrived stamp s)

/-- A packet on an ingress that the chute map blanks or chutes (R58, R354). -/
def darkDrop (p vc : Nat) (a : OccAttr) (s : State) : State :=
  if vc = 0 then breach 6 (benchOf p) a none s
  else accum Ev.CH_INGRESS_DROPS p [.u16 p] [1] none (count E.CH_INGRESS_DROPS 1 s)

/-- A packet that the port takes from its lane. -/
def arrive (p : Port) (l : Nat) (k : Packet) (s : State) : State :=
  if darkIn s p then darkDrop p (pkVc k) (attrOf p k) s
  else match headFault k with
    | some row => damaged row p l k s
    | none =>
      let s := received p l k s
      match arrivalFault s k with
      | some row => freeCredit p l (pkVc k) k (damaged row p l k s)
      | none =>
        let whole := judgedWhole s k
        ingress p l k (now s) (stampIn s p) whole (if whole then passed p s else s)

/-! ### Duplicate ticks (R314, R327) -/

/-- A lane's packet has failed: the reserve lane's copy of the lane-slot stands in for it, now or when it comes. -/
def rescue (p : Port) (l slot : Nat) (s : State) : State :=
  let key := p.val * 5 + l
  match s.op.copies.find? fun x => x.1 == key && x.2.1 == slot with
  | some x => arrive p 4 x.2.2 (tally E.OP_DUP_RESCUES (benchOf p) 137 1 {} { s with op := { s.op with copies := s.op.copies.erase x } })
  | none => { s with op := { s.op with failed := s.op.failed ++ [(key, slot)] } }

/-- The reserve lane's copy of a lane-slot. -/
def copyIn (p : Port) (l slot : Nat) (k : Packet) (s : State) : State :=
  let key := p.val * 5 + l
  if s.op.failed.contains (key, slot) then
    arrive p 4 k (tally E.OP_DUP_RESCUES (benchOf p) 137 1 {} { s with op := { s.op with failed := s.op.failed.erase (key, slot) } })
  else { s with op := { s.op with copies := s.op.copies ++ [(key, slot, k)] } }

/-- A packet of a duplicated lane passes: its copy is of no use. -/
def copyDrop (p : Port) (l slot : Nat) (k : Packet) (s : State) : State :=
  { s with op := { s.op with copies := s.op.copies.erase (p.val * 5 + l, slot, k) } }

/-! ### Ends of packets (R128, R138, R144) -/

/-- Everything of a packet that has not begun to leave is dropped. -/
def dropQueued (id : Nat) (k : Packet) (s : State) : State :=
  let s := copiesLost id k ((s.dp.drawn.filter fun d => d.id == id).map (·.port)) s
  let s := { s with dp := { s.dp with drawn := s.dp.drawn.filter fun d => d.id != id } }
  let s := scDrop (fun x => x.id == id) Ev.PKT_ERRORS (fun _ s => s) s
  (s.dp.openq.filter fun x => x.id == id || x.parent == some id).foldl (fun s x => openDrop Ev.PKT_ERRORS x s) s

/-- Copies that have begun to leave are stomped. -/
def stompCopies (c : CutPkt) (s : State) : State :=
  copiesLost c.id c.pkt (c.begun.map (·.1)) (c.begun.foldl (fun s x => emit (.stomp x.1 c.id) s) s)

/-- Rows of R128 for a packet found damaged at its end: what was received, and each copy stomped. A CRC failure counts as a drop
where nothing of it has been forwarded, or where the part takes it (R144). -/
def tailRows (row : Nat) (c : CutPkt) (s : State) : State :=
  let s := if row = 1 && !c.begun.isEmpty && !c.taken then s else damaged row c.port c.lane c.pkt s
  if row = 5 then s else c.begun.foldl (fun s _ => r128 2 c.port c.pkt s) s

/-- Whether a packet found damaged at its end is held by the part alone. -/
def heldAlone (c : CutPkt) : Bool := c.taken && !(pkM c.pkt && pkOp c.pkt == Op.MEM_MCAST_STORE)

/-- The end of a packet: the part acts on one that it takes, and drops or stomps one that is damaged. -/
def tailJudge (p : Port) (c : CutPkt) (s : State) : State :=
  let s := { s with dp := { s.dp with cut := s.dp.cut.erase c } }
  match tailFault c.pkt with
  | none =>
    let s := passed c.port s
    let left := s.dp.sc.any (fun x => x.id == c.id) || s.dp.drawn.any (fun d => d.id == c.id)
      || s.dp.openq.any fun x => x.id == c.id || x.parent == some c.id
    let s := if left then s else mcastReport c.id s
    if heldAlone c then takeWhole p c.lane c.id c.pkt c.stamp s else if c.taken then toInbox c.port c.pkt s else s
  | some row =>
    let s := tailRows row c s
    let s := packetDone c.id (dropQueued c.id c.pkt (stompCopies c s))
    let s := if heldAlone c then freeCredit c.port c.lane (pkVc c.pkt) c.pkt s else s
    if duplicated s c.port c.lane then rescue p c.lane (slotOf c.at').2 s else s

/-- Packets of a lane whose end has come. -/
def tails (p : Port) (l : Nat) (s : State) : State :=
  (s.dp.cut.filter fun c => c.port == p.val && c.lane == l).foldl (fun s c => tailJudge p c s) s

/-! ### Packet commands -/

/-- A packet of a native port. -/
def packetIn (p : Port) (l : Nat) (k : Packet) (s : State) : State :=
  if portFormat s p != 1 || !laneWatched s p l then s
  else
    let s := tails p l s
    let slot := (slotOf (now s)).2
    match takingOf s p l with
    | .ignored => s
    | .copy j => copyIn p j slot k s
    | .own =>
      let s' := arrive p l k s
      if !duplicated s p l then s'
      else if (arrivalFault s k).isSome then rescue p l slot s' else copyDrop p l slot k s'

/-- PACKET_ARRIVAL (R143). -/
def execPacketArrival (p : Port) (l : Lane) (k : Packet) (at_ : At) (s : State) : Out := runAt at_ (packetIn p l k) s

/-- PACKET_TAIL (R128). -/
def execPacketTail (p : Port) (l : Lane) (at_ : At) (s : State) : Out := runAt at_ (tails p l) s

/-! ### Cells (R129 to R134) -/

/-- Fields of the head that opens a packet's cells (R130). -/
def asmBits (a : CellAsm) (lo w : Nat) : Nat := bits (beNat a.head) lo w
/-- VC; 4 where the head's code is reserved. -/
def asmVc (a : CellAsm) : Nat := asmBits a 78 2 + 1
def asmClass (a : CellAsm) : Nat := asmBits a 72 6

/-- Add to a lane's counts of a VC: cells received, and cells freed. -/
def cellUnits (p l vc got freed : Nat) (s : State) : State :=
  if vc = 0 || vc > 3 then s
  else setLink p (fun x => x.setCell l fun c => c.setVc vc
    { c.vc vc with received := ((c.vc vc).received + got) % 2 ^ 32, freed := ((c.vc vc).freed + freed) % 2 ^ 32 }) s

def setAsm (p l : Nat) (a : Option CellAsm) (s : State) : State := setLink p (fun x => x.setCell l fun c => { c with asm := a }) s

def setBroken (p l : Nat) (v : Bool) (s : State) : State := setLink p (fun x => x.setCell l fun c => { c with broken := v }) s

/-- A packet that has lost a cell is dropped, counted once (R133). -/
def asmLost (p l : Nat) (s : State) : State :=
  match ((linkOf s p).cell l).asm with
  | none => s
  | some a => setBroken p l true (cellUnits p l (asmVc a) 0 (cellsOf a.data.length) (setAsm p l none (count E.PKT_CELL_LOST 1 s)))

/-- A cell that continues a packet of which nothing is held: its first cell is lost, or it has been dropped. -/
def cellStray (p l : Nat) (last : Bool) (s : State) : State :=
  let s := if ((linkOf s p).cell l).broken then s else count E.PKT_CELL_LOST 1 s
  setBroken p l (!last) s

/-- The row of R128 by which a packet from cells is dropped. -/
def asmFault (a : CellAsm) : Option Nat :=
  match opOfClass (asmClass a) with
  | none => some 4
  | some op =>
    if asmVc a > 3 || !opOnVc op (asmVc a) then some 4
    else if asmBits a 60 12 > 2048 || a.data.length != asmBits a 60 12 then some 5 else none

/-- The native packet that the part builds (R132). -/
def asmPacket (s : State) (a : CellAsm) : Packet :=
  let op := (opOfClass (asmClass a)).getD 0
  let stamp := ofSigned 64 a.stamp / 65536 % 2 ^ 32
  let vc := asmVc a % 4
  if opKind op = 1 then
    mkControl vc (eBit s) (asmBits a 104 24) op (asmBits a 80 24) 0 false 0 (asmBits a 44 16) 0 0 a.data stamp
  else
    mkData { vc := vc, e := eBit s, dest := asmBits a 104 24, op := op, src := asmBits a 80 24, job := asmBits a 44 16,
             hop := Cfg.PKT_CELL_HOP_LIMIT s, operand := if opMemory op then asmBits a 0 40 else 0 } a.data stamp

/-- The last cell of a packet. -/
def asmDone (p : Port) (l : Nat) (a : CellAsm) (s : State) : State :=
  let k := asmPacket s a
  let s := setAsm p l none s
  match asmFault a with
  | some row => cellUnits p l (asmVc a) 0 (cellsOf a.data.length) (damaged row p l k s)
  | none => ingress p l k a.at' a.stamp true (passed p (occReceived p k s))

/-- A cell of a packet. -/
def asmAdd (p : Port) (l : Nat) (last : Bool) (a : CellAsm) (s : State) : State :=
  let s := cellUnits p l (asmVc a) 1 0 s
  if last then asmDone p l a s else setAsm p l (some a) s

/-- A credit cell (R133): the partner's counts of this lane, in the order of R121. -/
def creditIn (p l : Nat) (body : Bytes) (s : State) : State :=
  let c := (linkOf s p).cell l
  let set := fun (vc : Nat) (x : Credit) (s : State) => setLink p (fun k => k.setCell l fun c => c.setVc vc x) s
  let s := [1, 2, 3].foldl (fun s vc =>
    let (a, b) := creditFields body vc
    let x := ((linkOf s p).cell l).vc vc
    if c.based then
      let (y, lost, re) := creditJudge x a b
      creditReport p vc lost re (set vc y s)
    else set vc (creditBase x a b) s) s
  portTouch p (setLink p (fun k => k.setCell l fun c => { c with based := true, creditAt := s.clk.tick }) s)

/-- A cell that passes its check, its count noted. -/
def cellTake (p : Port) (l : Nat) (c : Bytes) (s : State) : State :=
  let last := cellPos c == 1 || cellPos c == 3
  let d := cellData c
  if cellPos c ≥ 2 then
    let a : CellAsm := { head := padTo 16 d, data := d.drop 16, at' := now s, stamp := stampIn s p }
    let s := setBroken p l false (asmLost p l s)
    if asmClass a = 0x3F then (if darkIn s p then s else creditIn p l (padTo 24 a.data) s)
    else if darkIn s p then
      setBroken p l (!last) (darkDrop p (asmVc a) { q := some (p % 4), vc := some (asmVc a), job := some (asmBits a 44 16) } s)
    else asmAdd p l last a s
  else match ((linkOf s p).cell l).asm with
    | none => cellStray p l last s
    | some a => asmAdd p l last { a with data := a.data ++ d } s

/-- A cell of a cell-mode port. A damaged one is as good as missing. -/
def cellIn (p : Port) (l : Nat) (c : Bytes) (s : State) : State :=
  if portFormat s p != 2 || !dpLive s || !benchServes s (benchOf p) || l > 3 || !cellOk c then s
  else
    let skip := match ((linkOf s p).cell l).rxCount with | some n => n != cellCount c | none => false
    let s := if skip then asmLost p l s else s
    cellTake p l c (setLink p (fun k => k.setCell l fun x => { x with rxCount := some ((cellCount c + 1) % 256) }) s)

/-- CELL_RECEIVED (R132). -/
def execCellReceived (p : Port) (l : Lane) (cell : Bytes) (at_ : At) (s : State) : Out := runAt at_ (cellIn p l cell) s

/-- Whether a cell is a credit cell. -/
def cellIsCredit (c : Bytes) : Bool := cellPos c == 3 && bits (beNat (padTo 16 (cellData c))) 72 6 == 0x3F

/-- CELL_CREDIT_RECEIVED (R133). -/
def execCellCreditReceived (p : Port) (l : Lane) (cell : Bytes) (at_ : At) (s : State) : Out :=
  runAt at_ (fun s => if cellIsCredit cell then cellIn p l cell s else s) s

/-! ### Multicast stores (R217, R240) -/

/-- MEM_MCAST_STORE (R240): the local copy of a store to a group, or a store addressed to the part. -/
def execMemMcastStore (p : Port) (k : Packet) (s : State) : Out :=
  run (fun s =>
    if pkOp k != Op.MEM_MCAST_STORE || !dpLive s then s
    else if pkM k then mcastLocal p k (fromInbox p k s) else memRow Op.MEM_MCAST_STORE p k s) s

end Sys2Proof.Machine
end

