-- ==== Sys2Proof/Machine/Pcie.lean ====
section
/-! DEFINITION. The PCIe queue interface: doorbells, register writes and interrupt holdoff (R404 to R407), and a management
controller that serves again (R441). -/
namespace Sys2Proof.Machine
open Sys2Proof

/-- A host's access to BAR0, which shows that the link has trained; it reaches nothing while the function is held in reset or
the bed dies do not serve it (R404, R561). -/
def barAccess (h : HostPort) (f : State → State) (s : State) : State :=
  if (pcOf s h).perst || !pcieServed s then s else f (setPc h (fun f => { f with linkUp := true }) s)

/-- Act on the slots that wait at the head of a host's submission queue. -/
def slotsGo (h : HostPort) (s : State) : State := slotsJudge h (fetchedOf s h).length s

/-- Slots between the head and a new tail that the part has not read. -/
def slotsNew (s : State) (h : HostPort) (tail : Nat) : Nat :=
  let f := pcOf s h
  (tail + 2 ^ f.sqLog2 - f.sqHead % 2 ^ f.sqLog2) % 2 ^ f.sqLog2 - (fetchedOf s h).length

/-- The part reads the new slots; one that is not there lies outside host memory. -/
def slotsRead (h : HostPort) (n : Nat) (slots : List Bytes) : List (Nat × Nat × Cmd) :=
  let got := (slots.take n).map fun b => (h.val, slotCmd h b)
  if slots.length < n then got ++ [(h.val, badSlot)] else got

/-- SQ_TAIL_DOORBELL (R406). -/
def execSqTailDoorbell (h : HostPort) (tail : BitVec 32) (slots : List Bytes) (s : State) : Out :=
  run (barAccess h fun s =>
    let f := pcOf s h
    let t := tail.toNat % 2 ^ f.sqLog2
    let new := if bit f.ctrl 0 then slotsRead h (slotsNew s h t) slots else []
    let s := setPc h (fun f => { f with sqTail := t }) s
    slotsGo h { s with dx := { s.dx with fetched := s.dx.fetched ++ new } }) s

/-- Responses that waited go into the slots that the host has released. -/
def cqDrain (h : Nat) : Nat → State → State
  | 0, s => s
  | k + 1, s =>
    let f := pcOf s h
    match f.waiting with
    | [] => s
    | r :: l => if cqFull f then s else cqDrain h k (cqWrite h r (setPc h (fun f => { f with waiting := l }) s))

/-- CQ_HEAD_WRITE (R406): commands that waited for room are taken again from the queue. -/
def execCqHeadWrite (h : HostPort) (head : BitVec 32) (s : State) : Out :=
  run (barAccess h fun s =>
    let s := setPc h (fun f => { f with cqHead := head.toNat % 2 ^ f.cqLog2 }) s
    slotsGo h (cqDrain h (pcOf s h).waiting.length s)) s

/-- EQ_HEAD_WRITE (R406). -/
def execEqHeadWrite (h : HostPort) (head : BitVec 32) (s : State) : Out :=
  run (barAccess h (setPc h fun f => { f with eqHead := head.toNat % 2 ^ f.eqLog2 })) s

/-- `QUEUE_CTRL`: enabling a queue clears its error bit of `REG_STATUS`, and disabling the command queues drops the responses
that wait for them. -/
def queueCtrl (v : Nat) (f : PcieFn) : PcieFn :=
  { f with
    ctrl := v % 4
    queueError := f.queueError && !(bit v 0 && !bit f.ctrl 0)
    eqOverflow := f.eqOverflow && !(bit v 1 && !bit f.ctrl 1)
    waiting := if bit v 0 then f.waiting else [] }

/-- QUEUE_CTRL_WRITE (R405). -/
def execQueueCtrlWrite (h : HostPort) (v : BitVec 32) (s : State) : Out :=
  run (barAccess h fun s => slotsGo h (setPc h (queueCtrl v.toNat) s)) s

/-- A base address, 4 KiB aligned, after a write of one half of it or of the whole. -/
def baseWritten (old off size v : Nat) : Nat :=
  let n := if size = 8 then v % 2 ^ 64
    else if off % 8 = 0 then old / 2 ^ 32 * 2 ^ 32 + v % 2 ^ 32
    else v % 2 ^ 32 * 2 ^ 32 + old % 2 ^ 32
  n / 4096 * 4096

/-- A register within its range, or as it was. -/
def within (lo hi v old : Nat) : Nat := if lo ≤ v && v ≤ hi then v else old

/-- A BAR0 write to a register that has no row of its own. Writes to other offsets, of other widths, out of range, or to a base or
size register of an enabled queue are ignored (R405). -/
def barWrite (off v size : Nat) (f : PcieFn) : PcieFn :=
  let cmdOff := !bit f.ctrl 0
  let evOff := !bit f.ctrl 1
  let w := v % 2 ^ 32
  let base := fun (b : Nat) => (size == 8 && off == b) || (size == 4 && (off == b || off == b + 4))
  if cmdOff && base 0x0008 then { f with sqBase := baseWritten f.sqBase off size v }
  else if cmdOff && base 0x0020 then { f with cqBase := baseWritten f.cqBase off size v }
  else if evOff && base 0x0040 then { f with eqBase := baseWritten f.eqBase off size v }
  else if size = 4 && cmdOff && off == 0x0010 then { f with sqLog2 := within 4 10 w f.sqLog2 }
  else if size = 4 && cmdOff && off == 0x0028 then { f with cqLog2 := within 4 10 w f.cqLog2 }
  else if size = 4 && evOff && off == 0x0048 then { f with eqLog2 := within 6 16 w f.eqLog2 }
  else if size = 4 && off = 0x0064 then { f with holdoff := within 0 100000 w f.holdoff }
  else if (size = 4 || size = 8) && 0x8000 ≤ off && off + size ≤ 0x8080 then { f with msix := splice f.msix (off - 0x8000) (leBytes size v) }
  else f

/-- Signals that a mask has left pending go out once it is clear, unless their holdoff runs. -/
def vectorsGo (h : Nat) (s : State) : State :=
  (List.range 8).foldl (fun s v =>
    let f := pcOf s h
    match SMap.get? f.vectors v with
    | some (e, true) => if now s < e || msixMasked f v then s else signal h v s
    | _ => s) s

/-- BAR_REGISTER_WRITE (R405). -/
def execBarRegisterWrite (h : HostPort) (off : BitVec 20) (v : BitVec 64) (size : Nat) (s : State) : Out :=
  run (barAccess h fun s => vectorsGo h (setPc h (barWrite off.toNat v.toNat size) s)) s

/-- MSIX_HOLDOFF_EXPIRY (R407): one signal if any is pending. -/
def execMsixHoldoffExpiry (h : HostPort) (vec : Nat) (s : State) : Out :=
  let x := SMap.get? (pcOf s h).vectors vec
  runDue (x.map (·.1)) (fun s =>
    let s' := setPc h (fun f => { f with vectors := SMap.erase f.vectors vec }) s
    if x.any (·.2) then signal h vec s' else s') s

/-- CONTROLLER_RESTART_DONE (R441): held events go out, then the commands held are taken in order. -/
def execControllerRestartDone (die : Nat) (s : State) : Out :=
  run (fun s =>
    let d := controllerOf s die
    if !d.restarting then s
    else
      let s := controllerBack die (setController die (fun d => { d with heldCmds := [] }) s)
      let s := d.heldCmds.foldl (fun s x => dxTake x.1 x.2 s) s
      if die = hostDie 0 then slotsGo 0 s else if die = hostDie 1 then slotsGo 1 s else s) s

end Sys2Proof.Machine
end

