-- ==== Sys2Proof/Machine/Dispatch.lean ====
section
/-! DEFINITION. The effect of every command, arm by arm. -/
namespace Sys2Proof.Machine
open Sys2Proof

/-- The effect of a command on everything but the queue. -/
def exec (i : Instr) (s : State) : Host.Outcome State Fault Refusal :=
  match i with
  | .tickBoundary r => Sys2Proof.Machine.execTickBoundary r s
  | .frameBoundary r => Sys2Proof.Machine.execFrameBoundary r s
  | .laneSlotStart p l sl => Sys2Proof.Machine.execLaneSlotStart p l sl s
  | .gapSlotStart p => Sys2Proof.Machine.execGapSlotStart p s
  | .ttChecksDone => Sys2Proof.Machine.execTtChecksDone s
  | .ttCrossRecheck => Sys2Proof.Machine.execTtCrossRecheck s
  | .ttNextDiscard c => Sys2Proof.Machine.execTtNextDiscard c s
  | .ttVariantSelect c => Sys2Proof.Machine.execTtVariantSelect c s
  | .ttVariantNext c => Sys2Proof.Machine.execTtVariantNext c s
  | .variantTakesEffect => Sys2Proof.Machine.execVariantTakesEffect s
  | .leaseStart n => Sys2Proof.Machine.execLeaseStart n s
  | .leaseEnd n => Sys2Proof.Machine.execLeaseEnd n s
  | .scDraw p l sl => Sys2Proof.Machine.execScDraw p l sl s
  | .scDeadlineDrop => Sys2Proof.Machine.execScDeadlineDrop s
  | .recipeResultEntry p l sl => Sys2Proof.Machine.execRecipeResultEntry p l sl s
  | .jobOpen n => Sys2Proof.Machine.execJobOpen n s
  | .jobClose n => Sys2Proof.Machine.execJobClose n s
  | .counterLatch n => Sys2Proof.Machine.execCounterLatch n s
  | .userEvent n => Sys2Proof.Machine.execUserEvent n s
  | .dictWrite n => Sys2Proof.Machine.execDictWrite n s
  | .actionExpire n => Sys2Proof.Machine.execActionExpire n s
  | .ftActionAdd c => Sys2Proof.Machine.execFtActionAdd c s
  | .ftActionArm c => Sys2Proof.Machine.execFtActionArm c s
  | .ftActionCancel c => Sys2Proof.Machine.execFtActionCancel c s
  | .launchArm p k => Sys2Proof.Machine.execLaunchArm p k s
  | .launchCancel p k => Sys2Proof.Machine.execLaunchCancel p k s
  | .ptpSync p k at_ => Sys2Proof.Machine.execPtpSync p k at_ s
  | .ptpFollowUp p k at_ => Sys2Proof.Machine.execPtpFollowUp p k at_ s
  | .ptpDelayResp p k at_ => Sys2Proof.Machine.execPtpDelayResp p k at_ s
  | .ptpAnnounce p k at_ => Sys2Proof.Machine.execPtpAnnounce p k at_ s
  | .ptpPdelayReq p k at_ => Sys2Proof.Machine.execPtpPdelayReq p k at_ s
  | .ptpPdelayResp p k at_ => Sys2Proof.Machine.execPtpPdelayResp p k at_ s
  | .pdelayMeasure p => Sys2Proof.Machine.execPdelayMeasure p s
  | .ptpEventForward p l at_ => Sys2Proof.Machine.execPtpEventForward p l at_ s
  | .servoSyncTimeout d => Sys2Proof.Machine.execServoSyncTimeout d s
  | .ftServoRestart c => Sys2Proof.Machine.execFtServoRestart c s
  | .ppsPulse d at_ frac => Sys2Proof.Machine.execPpsPulse d at_ frac s
  | .ppsMissing d => Sys2Proof.Machine.execPpsMissing d s
  | .ppsOutPulse => Sys2Proof.Machine.execPpsOutPulse s
  | .domainLossHold d => Sys2Proof.Machine.execDomainLossHold d s
  | .domainReturnHold d => Sys2Proof.Machine.execDomainReturnHold d s
  | .ftDomainSelect c => Sys2Proof.Machine.execFtDomainSelect c s
  | .slewDone => Sys2Proof.Machine.execSlewDone s
  | .timeMsgExpire n => Sys2Proof.Machine.execTimeMsgExpire n s
  | .packetArrival p l k at_ => Sys2Proof.Machine.execPacketArrival p l k at_ s
  | .packetTail p l at_ => Sys2Proof.Machine.execPacketTail p l at_ s
  | .slotMarker p l m at_ => Sys2Proof.Machine.execSlotMarker p l m at_ s
  | .creditReceived p k => Sys2Proof.Machine.execCreditReceived p k s
  | .linkParamsReceived p k => Sys2Proof.Machine.execLinkParamsReceived p k s
  | .cellReceived p l cell at_ => Sys2Proof.Machine.execCellReceived p l cell at_ s
  | .cellCreditReceived p l cell at_ => Sys2Proof.Machine.execCellCreditReceived p l cell at_ s
  | .escapeMove n => Sys2Proof.Machine.execEscapeMove n s
  | .creditStall p vc => Sys2Proof.Machine.execCreditStall p vc s
  | .egressStart p l at_ => Sys2Proof.Machine.execEgressStart p l at_ s
  | .shaperWheelExpiry n => Sys2Proof.Machine.execShaperWheelExpiry n s
  | .headDrop n => Sys2Proof.Machine.execHeadDrop n s
  | .learnApply => Sys2Proof.Machine.execLearnApply s
  | .refillComplete id => Sys2Proof.Machine.execRefillComplete id s
  | .portDown p why => Sys2Proof.Machine.execPortDown p why s
  | .flapHoldExpiry p => Sys2Proof.Machine.execFlapHoldExpiry p s
  | .portUp p => Sys2Proof.Machine.execPortUp p s
  | .reseqIdleExpiry flow => Sys2Proof.Machine.execReseqIdleExpiry flow s
  | .strataReadError id => Sys2Proof.Machine.execStrataReadError id s
  | .redContrib p k => Sys2Proof.Machine.execRedContrib p k s
  | .barrier p k => Sys2Proof.Machine.execBarrier p k s
  | .partialArrival n => Sys2Proof.Machine.execPartialArrival n s
  | .resultArrival n => Sys2Proof.Machine.execResultArrival n s
  | .chunkTimeout coll chunk => Sys2Proof.Machine.execChunkTimeout coll chunk s
  | .resultDwellExpiry n => Sys2Proof.Machine.execResultDwellExpiry n s
  | .crMissingLogClear c => Sys2Proof.Machine.execCrMissingLogClear c s
  | .memLoad p k => Sys2Proof.Machine.execMemLoad p k s
  | .memStore p k => Sys2Proof.Machine.execMemStore p k s
  | .memStoreFlag p k => Sys2Proof.Machine.execMemStoreFlag p k s
  | .memAtomic p k => Sys2Proof.Machine.execMemAtomic p k s
  | .memReduceStore p k => Sys2Proof.Machine.execMemReduceStore p k s
  | .memMcastStore p k => Sys2Proof.Machine.execMemMcastStore p k s
  | .memApply n readErrors => Sys2Proof.Machine.execMemApply n readErrors s
  | .memOutcome n => Sys2Proof.Machine.execMemOutcome n s
  | .gapTimerExpiry src => Sys2Proof.Machine.execGapTimerExpiry src s
  | .sourceYoungExpiry src => Sys2Proof.Machine.execSourceYoungExpiry src s
  | .mirrorResponse p k => Sys2Proof.Machine.execMirrorResponse p k s
  | .mirrorAckTimeout n => Sys2Proof.Machine.execMirrorAckTimeout n s
  | .mirrorResyncDone => Sys2Proof.Machine.execMirrorResyncDone s
  | .regionCreate c => Sys2Proof.Machine.execRegionCreate c s
  | .regionRetire c => Sys2Proof.Machine.execRegionRetire c s
  | .regionRekey c => Sys2Proof.Machine.execRegionRekey c s
  | .regionReinitialise c => Sys2Proof.Machine.execRegionReinitialise c s
  | .regionZeroDone region => Sys2Proof.Machine.execRegionZeroDone region s
  | .fmCheckpointStep c => Sys2Proof.Machine.execFmCheckpointStep c s
  | .checkpointSnapshot => Sys2Proof.Machine.execCheckpointSnapshot s
  | .checkpointCopyDone => Sys2Proof.Machine.execCheckpointCopyDone s
  | .fmCheckpointRestore c => Sys2Proof.Machine.execFmCheckpointRestore c s
  | .checkpointRestore => Sys2Proof.Machine.execCheckpointRestore s
  | .restoreCopyDone => Sys2Proof.Machine.execRestoreCopyDone s
  | .fenceEffect n => Sys2Proof.Machine.execFenceEffect n s
  | .readmissionEffect n => Sys2Proof.Machine.execReadmissionEffect n s
  | .tbLpmWrite c => Sys2Proof.Machine.execTbLpmWrite c s
  | .tbExactWrite c => Sys2Proof.Machine.execTbExactWrite c s
  | .tbNexthopWrite c => Sys2Proof.Machine.execTbNexthopWrite c s
  | .tbGroupWrite c => Sys2Proof.Machine.execTbGroupWrite c s
  | .tbSeedNext c => Sys2Proof.Machine.execTbSeedNext c s
  | .tbWriteApplyDone => Sys2Proof.Machine.execTbWriteApplyDone s
  | .graceEnd => Sys2Proof.Machine.execGraceEnd s
  | .shadowCopyDone => Sys2Proof.Machine.execShadowCopyDone s
  | .tbSubstitute c => Sys2Proof.Machine.execTbSubstitute c s
  | .ageScan fa => Sys2Proof.Machine.execAgeScan fa s
  | .scrubVisit die table key err => Sys2Proof.Machine.execScrubVisit die table key err s
  | .eccReloadDone n => Sys2Proof.Machine.execEccReloadDone n s
  | .elsPoll r => Sys2Proof.Machine.execElsPoll r s
  | .elsResponse pos frame => Sys2Proof.Machine.execElsResponse pos frame s
  | .elsAccessTimeout pos n => Sys2Proof.Machine.execElsAccessTimeout pos n s
  | .elsModuleFitted pos identity => Sys2Proof.Machine.execElsModuleFitted pos identity s
  | .ringSearchDone ring found => Sys2Proof.Machine.execRingSearchDone ring found s
  | .laneTrained p l ingress => Sys2Proof.Machine.execLaneTrained p l ingress s
  | .reportReceived p k => Sys2Proof.Machine.execReportReceived p k s
  | .laneMovePropose p k => Sys2Proof.Machine.execLaneMovePropose p k s
  | .laneMoveAccept p k => Sys2Proof.Machine.execLaneMoveAccept p k s
  | .laneMoveRefuse p k => Sys2Proof.Machine.execLaneMoveRefuse p k s
  | .laneMoveFault p k => Sys2Proof.Machine.execLaneMoveFault p k s
  | .moveDuplicateTick n => Sys2Proof.Machine.execMoveDuplicateTick n s
  | .moveSwitch n => Sys2Proof.Machine.execMoveSwitch n s
  | .moveAbandon n => Sys2Proof.Machine.execMoveAbandon n s
  | .partnerSilent p l => Sys2Proof.Machine.execPartnerSilent p l s
  | .laneReturnHold p l => Sys2Proof.Machine.execLaneReturnHold p l s
  | .laneCommandMove c => Sys2Proof.Machine.execLaneCommandMove c s
  | .laneCommandReturn c => Sys2Proof.Machine.execLaneCommandReturn c s
  | .opElsReplacePrepare c => Sys2Proof.Machine.execOpElsReplacePrepare c s
  | .elsReadyToRemove pos => Sys2Proof.Machine.execElsReadyToRemove pos s
  | .calibrationDone p l r => Sys2Proof.Machine.execCalibrationDone p l r s
  | .chuteDrive w => Sys2Proof.Machine.execChuteDrive w s
  | .chuteSettleCheck w reports => Sys2Proof.Machine.execChuteSettleCheck w reports s
  | .chuteLoopSet c => Sys2Proof.Machine.execChuteLoopSet c s
  | .chuteLoopClear c => Sys2Proof.Machine.execChuteLoopClear c s
  | .read c => Sys2Proof.Machine.execRead c s
  | .write c => Sys2Proof.Machine.execWrite c s
  | .readBlockOpen c => Sys2Proof.Machine.execReadBlockOpen c s
  | .readBlockSegment c => Sys2Proof.Machine.execReadBlockSegment c s
  | .readBlockClose c => Sys2Proof.Machine.execReadBlockClose c s
  | .writeBlockBegin c => Sys2Proof.Machine.execWriteBlockBegin c s
  | .writeBlockSegment c => Sys2Proof.Machine.execWriteBlockSegment c s
  | .writeBlockCommit c => Sys2Proof.Machine.execWriteBlockCommit c s
  | .writeBlockAbort c => Sys2Proof.Machine.execWriteBlockAbort c s
  | .blockVerifyDone entry => Sys2Proof.Machine.execBlockVerifyDone entry s
  | .subscribeEvents c => Sys2Proof.Machine.execSubscribeEvents c s
  | .subscribeEntry c => Sys2Proof.Machine.execSubscribeEntry c s
  | .subscribeEnd c => Sys2Proof.Machine.execSubscribeEnd c s
  | .openSession c => Sys2Proof.Machine.execOpenSession c s
  | .closeSession c => Sys2Proof.Machine.execCloseSession c s
  | .renew c => Sys2Proof.Machine.execRenew c s
  | .claim c => Sys2Proof.Machine.execClaim c s
  | .release c => Sys2Proof.Machine.execRelease c s
  | .handover c => Sys2Proof.Machine.execHandover c s
  | .signedWrite c => Sys2Proof.Machine.execSignedWrite c s
  | .sessionLeaseExpiry n => Sys2Proof.Machine.execSessionLeaseExpiry n s
  | .blockIdleExpiry n => Sys2Proof.Machine.execBlockIdleExpiry n s
  | .pendingWriteEffect n => Sys2Proof.Machine.execPendingWriteEffect n s
  | .behaviourLevelSet c => Sys2Proof.Machine.execBehaviourLevelSet c s
  | .portConfig c => Sys2Proof.Machine.execPortConfig c s
  | .sqTailDoorbell h tail slots => Sys2Proof.Machine.execSqTailDoorbell h tail slots s
  | .cqHeadWrite h head => Sys2Proof.Machine.execCqHeadWrite h head s
  | .eqHeadWrite h head => Sys2Proof.Machine.execEqHeadWrite h head s
  | .queueCtrlWrite h v => Sys2Proof.Machine.execQueueCtrlWrite h v s
  | .barRegisterWrite h off v size => Sys2Proof.Machine.execBarRegisterWrite h off v size s
  | .msixHoldoffExpiry h vec => Sys2Proof.Machine.execMsixHoldoffExpiry h vec s
  | .functionLevelReset h => Sys2Proof.Machine.execFunctionLevelReset h s
  | .perstAssert h => Sys2Proof.Machine.execPerstAssert h s
  | .psRequestActive c => Sys2Proof.Machine.execPsRequestActive c s
  | .psRequestTrim c => Sys2Proof.Machine.execPsRequestTrim c s
  | .psRequestRest c => Sys2Proof.Machine.execPsRequestRest c s
  | .restEntry => Sys2Proof.Machine.execRestEntry s
  | .wakeComplete => Sys2Proof.Machine.execWakeComplete s
  | .trimBenchWake b => Sys2Proof.Machine.execTrimBenchWake b s
  | .ruleEvaluate rule input v => Sys2Proof.Machine.execRuleEvaluate rule input v s
  | .discreteInputChange d level at_ => Sys2Proof.Machine.execDiscreteInputChange d level at_ s
  | .diStuckExpiry d => Sys2Proof.Machine.execDiStuckExpiry d s
  | .hlDiUnmask c => Sys2Proof.Machine.execHlDiUnmask c s
  | .hlFaultClear c => Sys2Proof.Machine.execHlFaultClear c s
  | .hlAttnClear c => Sys2Proof.Machine.execHlAttnClear c s
  | .heartbeatReceived p k => Sys2Proof.Machine.execHeartbeatReceived p k s
  | .neighbourSuspect p => Sys2Proof.Machine.execNeighbourSuspect p s
  | .hlCertSubmit c => Sys2Proof.Machine.execHlCertSubmit c s
  | .wdtChallenge die answered => Sys2Proof.Machine.execWdtChallenge die answered s
  | .controllerRestartDone die => Sys2Proof.Machine.execControllerRestartDone die s
  | .mothWatchdogExpiry => Sys2Proof.Machine.execMothWatchdogExpiry s
  | .coldPowerUp => Sys2Proof.Machine.execColdPowerUp s
  | .powerUpPhaseDone r => Sys2Proof.Machine.execPowerUpPhaseDone r s
  | .testStepStart kind units => Sys2Proof.Machine.execTestStepStart kind units s
  | .pwrOkFall => Sys2Proof.Machine.execPwrOkFall s
  | .rstNAssert => Sys2Proof.Machine.execRstNAssert s
  | .inputPowerLoss => Sys2Proof.Machine.execInputPowerLoss s
  | .efuseOpen cause => Sys2Proof.Machine.execEfuseOpen cause s
  | .rpPositionFa c => Sys2Proof.Machine.execRpPositionFa c s
  | .rpWithdraw c => Sys2Proof.Machine.execRpWithdraw c s
  | .withdrawFrame => Sys2Proof.Machine.execWithdrawFrame s
  | .withdrawReceived p k => Sys2Proof.Machine.execWithdrawReceived p k s
  | .joinFrame => Sys2Proof.Machine.execJoinFrame s
  | .rpResetWarm c => Sys2Proof.Machine.execRpResetWarm c s
  | .rpResetCold c => Sys2Proof.Machine.execRpResetCold c s
  | .warmResetRelease => Sys2Proof.Machine.execWarmResetRelease s
  | .rpBenchReset c => Sys2Proof.Machine.execRpBenchReset c s
  | .benchTestDone b pass => Sys2Proof.Machine.execBenchTestDone b pass s
  | .benchFault b => Sys2Proof.Machine.execBenchFault b s
  | .positionRecordBuilt => Sys2Proof.Machine.execPositionRecordBuilt s
  | .importApplyDone => Sys2Proof.Machine.execImportApplyDone s
  | .rpStreamAccept c => Sys2Proof.Machine.execRpStreamAccept c s
  | .rpStreamStart c => Sys2Proof.Machine.execRpStreamStart c s
  | .streamSend => Sys2Proof.Machine.execStreamSend s
  | .streamTimeout => Sys2Proof.Machine.execStreamTimeout s
  | .rpStreamAbort c => Sys2Proof.Machine.execRpStreamAbort c s
  | .fwImageCheckDone slot => Sys2Proof.Machine.execFwImageCheckDone slot s
  | .seFwActivate c => Sys2Proof.Machine.execSeFwActivate c s
  | .seRollbackCommit c => Sys2Proof.Machine.execSeRollbackCommit c s
  | .seOwnerEnrol c => Sys2Proof.Machine.execSeOwnerEnrol c s
  | .seOwnerRevoke c => Sys2Proof.Machine.execSeOwnerRevoke c s
  | .seManagerKeys c => Sys2Proof.Machine.execSeManagerKeys c s
  | .seQuorum c => Sys2Proof.Machine.execSeQuorum c s
  | .seAttestRequest c => Sys2Proof.Machine.execSeAttestRequest c s
  | .tmClearFixed c => Sys2Proof.Machine.execTmClearFixed c s
  | .tmClearProg c => Sys2Proof.Machine.execTmClearProg c s
  | .tmLatchNow c => Sys2Proof.Machine.execTmLatchNow c s
  | .dumpComplete => Sys2Proof.Machine.execDumpComplete s
  | .tmCaptureRestart c => Sys2Proof.Machine.execTmCaptureRestart c s
  | .strataBankTestStart stack bank => Sys2Proof.Machine.execStrataBankTestStart stack bank s
  | .biStrataTestNow c => Sys2Proof.Machine.execBiStrataTestNow c s
  | .strataBankStepDone n ok => Sys2Proof.Machine.execStrataBankStepDone n ok s
  | .perstDeassert h => Sys2Proof.Machine.execPerstDeassert h s
  | .pcieLinkDown h => Sys2Proof.Machine.execPcieLinkDown h s
  | .mothRestartDone => Sys2Proof.Machine.execMothRestartDone s
  | .restEntryComplete => Sys2Proof.Machine.execRestEntryComplete s
  | .testPortInstruction ir => Sys2Proof.Machine.execTestPortInstruction ir s

end Sys2Proof.Machine
end

