-- ==== Sys2Proof/WellFormed.lean ====
section
/-! DEFINITION. Which commands can reach the part: operands that fit the fields, wires and units of the spec. -/
namespace Sys2Proof

/-- A packet as a lane can carry it: from the shortest to the longest wire length (R111, R112). -/
def Packet.fits (k : Packet) : Bool := 40 ≤ k.bytes.length && k.bytes.length ≤ 8232

/-- A cell is 64 bytes (R129). -/
def cellBytes (c : Bytes) : Bool := c.length == 64

/-- A command is taken within a tick. -/
def Cmd.fits (c : Cmd) : Bool := c.takenAt < 1024000

/-- Whether a table has a word of a number (R254). -/
def WordPlace.ok (w : WordPlace) : TableKind → Bool
  | .flowIndex => w.key < 1048576
  | .flowData => w.key < 262144
  | .exact => w.key < 327680
  | .lpm => w.key < 327680
  | .nextHop => w.key < 4096
  | .filter => w.key < 4096
  | .group => w.key < 16384

/-- Whether a command's operands fit. -/
def Instr.wellFormed (i : Instr) : Bool :=
  match i with
  | .tickBoundary _ => true
  | .frameBoundary _ => true
  | .laneSlotStart _ _ _ => true
  | .gapSlotStart _ => true
  | .ttChecksDone => true
  | .ttCrossRecheck => true
  | .ttNextDiscard c => c.fits
  | .ttVariantSelect c => c.fits
  | .ttVariantNext c => c.fits
  | .variantTakesEffect => true
  | .leaseStart _ => true
  | .leaseEnd _ => true
  | .scDraw _ _ _ => true
  | .scDeadlineDrop => true
  | .recipeResultEntry _ _ _ => true
  | .jobOpen _ => true
  | .jobClose _ => true
  | .counterLatch _ => true
  | .userEvent _ => true
  | .dictWrite _ => true
  | .actionExpire _ => true
  | .ftActionAdd c => c.fits
  | .ftActionArm c => c.fits
  | .ftActionCancel c => c.fits
  | .launchArm _ k => k.fits
  | .launchCancel _ k => k.fits
  | .ptpSync _ k _ => k.fits
  | .ptpFollowUp _ k _ => k.fits
  | .ptpDelayResp _ k _ => k.fits
  | .ptpAnnounce _ k _ => k.fits
  | .ptpPdelayReq _ k _ => k.fits
  | .ptpPdelayResp _ k _ => k.fits
  | .pdelayMeasure _ => true
  | .ptpEventForward _ _ _ => true
  | .servoSyncTimeout _ => true
  | .ftServoRestart c => c.fits
  | .ppsPulse _ _ frac => frac < 2 ^ 16
  | .ppsMissing _ => true
  | .ppsOutPulse => true
  | .domainLossHold _ => true
  | .domainReturnHold _ => true
  | .ftDomainSelect c => c.fits
  | .slewDone => true
  | .timeMsgExpire _ => true
  | .packetArrival _ _ k _ => k.fits
  | .packetTail _ _ _ => true
  | .slotMarker _ _ _ _ => true
  | .creditReceived _ k => k.fits
  | .linkParamsReceived _ k => k.fits
  | .cellReceived _ _ cell _ => cellBytes cell
  | .cellCreditReceived _ _ cell _ => cellBytes cell
  | .escapeMove _ => true
  | .creditStall _ vc => 1 ≤ vc && vc ≤ 3
  | .egressStart _ _ _ => true
  | .shaperWheelExpiry _ => true
  | .headDrop _ => true
  | .learnApply => true
  | .refillComplete _ => true
  | .portDown _ _ => true
  | .flapHoldExpiry _ => true
  | .portUp _ => true
  | .reseqIdleExpiry flow => flow < 2 ^ 20
  | .strataReadError _ => true
  | .redContrib _ k => k.fits
  | .barrier _ k => k.fits
  | .partialArrival _ => true
  | .resultArrival _ => true
  | .chunkTimeout coll chunk => coll < 2 ^ 24 && chunk < 2 ^ 24
  | .resultDwellExpiry _ => true
  | .crMissingLogClear c => c.fits
  | .memLoad _ k => k.fits
  | .memStore _ k => k.fits
  | .memStoreFlag _ k => k.fits
  | .memAtomic _ k => k.fits
  | .memReduceStore _ k => k.fits
  | .memMcastStore _ k => k.fits
  | .memApply _ _ => true
  | .memOutcome _ => true
  | .gapTimerExpiry _ => true
  | .sourceYoungExpiry _ => true
  | .mirrorResponse _ k => k.fits
  | .mirrorAckTimeout _ => true
  | .mirrorResyncDone => true
  | .regionCreate c => c.fits
  | .regionRetire c => c.fits
  | .regionRekey c => c.fits
  | .regionReinitialise c => c.fits
  | .regionZeroDone region => region < 4096
  | .fmCheckpointStep c => c.fits
  | .checkpointSnapshot => true
  | .checkpointCopyDone => true
  | .fmCheckpointRestore c => c.fits
  | .checkpointRestore => true
  | .restoreCopyDone => true
  | .fenceEffect _ => true
  | .readmissionEffect _ => true
  | .tbLpmWrite c => c.fits
  | .tbExactWrite c => c.fits
  | .tbNexthopWrite c => c.fits
  | .tbGroupWrite c => c.fits
  | .tbSeedNext c => c.fits
  | .tbWriteApplyDone => true
  | .graceEnd => true
  | .shadowCopyDone => true
  | .tbSubstitute c => c.fits
  | .ageScan _ => true
  | .scrubVisit _ table place _ => place.ok table
  | .eccReloadDone _ => true
  | .elsPoll _ => true
  | .elsResponse pos _ => pos < 80
  | .elsAccessTimeout pos _ => pos < 80
  | .elsModuleFitted pos _ => pos < 80
  | .ringSearchDone ring _ => ring < 5120
  | .laneTrained _ _ _ => true
  | .reportReceived _ k => k.fits
  | .laneMovePropose _ k => k.fits
  | .laneMoveAccept _ k => k.fits
  | .laneMoveRefuse _ k => k.fits
  | .laneMoveFault _ k => k.fits
  | .moveDuplicateTick _ => true
  | .moveSwitch _ => true
  | .moveAbandon _ => true
  | .partnerSilent _ _ => true
  | .laneReturnHold _ _ => true
  | .laneCommandMove c => c.fits
  | .laneCommandReturn c => c.fits
  | .opElsReplacePrepare c => c.fits
  | .elsReadyToRemove pos => pos < 80
  | .calibrationDone _ _ _ => true
  | .chuteDrive _ => true
  | .chuteSettleCheck _ reports => reports.all fun x => x.1 < 208 && x.2 < (if x.1 < 144 then 2 else 3)
  | .chuteLoopSet c => c.fits
  | .chuteLoopClear c => c.fits
  | .read c => c.fits
  | .write c => c.fits
  | .readBlockOpen c => c.fits
  | .readBlockSegment c => c.fits
  | .readBlockClose c => c.fits
  | .writeBlockBegin c => c.fits
  | .writeBlockSegment c => c.fits
  | .writeBlockCommit c => c.fits
  | .writeBlockAbort c => c.fits
  | .blockVerifyDone entry => entry < 2 ^ 24
  | .subscribeEvents c => c.fits
  | .subscribeEntry c => c.fits
  | .subscribeEnd c => c.fits
  | .openSession c => c.fits
  | .closeSession c => c.fits
  | .renew c => c.fits
  | .claim c => c.fits
  | .release c => c.fits
  | .handover c => c.fits
  | .signedWrite c => c.fits
  | .sessionLeaseExpiry _ => true
  | .blockIdleExpiry _ => true
  | .pendingWriteEffect _ => true
  | .behaviourLevelSet c => c.fits
  | .portConfig c => c.fits
  | .sqTailDoorbell _ _ slots => slots.all fun x => x.length == 4096
  | .cqHeadWrite _ _ => true
  | .eqHeadWrite _ _ => true
  | .queueCtrlWrite _ _ => true
  | .barRegisterWrite _ _ _ size => size == 1 || size == 2 || size == 4 || size == 8
  | .msixHoldoffExpiry _ vec => vec < 8
  | .functionLevelReset _ => true
  | .perstAssert _ => true
  | .psRequestActive c => c.fits
  | .psRequestTrim c => c.fits
  | .psRequestRest c => c.fits
  | .restEntry => true
  | .wakeComplete => true
  | .trimBenchWake _ => true
  | .ruleEvaluate _ _ _ => true
  | .discreteInputChange d _ _ => d < 7
  | .diStuckExpiry d => d < 7
  | .hlDiUnmask c => c.fits
  | .hlFaultClear c => c.fits
  | .hlAttnClear c => c.fits
  | .heartbeatReceived _ k => k.fits
  | .neighbourSuspect _ => true
  | .hlCertSubmit c => c.fits
  | .wdtChallenge _ _ => true
  | .controllerRestartDone _ => true
  | .mothWatchdogExpiry => true
  | .coldPowerUp => true
  | .powerUpPhaseDone _ => true
  | .testStepStart kind _ => 1 ≤ kind && kind ≤ 5
  | .pwrOkFall => true
  | .rstNAssert => true
  | .inputPowerLoss => true
  | .efuseOpen cause => cause < 3
  | .rpPositionFa c => c.fits
  | .rpWithdraw c => c.fits
  | .withdrawFrame => true
  | .withdrawReceived _ k => k.fits
  | .joinFrame => true
  | .rpResetWarm c => c.fits
  | .rpResetCold c => c.fits
  | .warmResetRelease => true
  | .rpBenchReset c => c.fits
  | .benchTestDone _ _ => true
  | .benchFault _ => true
  | .positionRecordBuilt => true
  | .importApplyDone => true
  | .rpStreamAccept c => c.fits
  | .rpStreamStart c => c.fits
  | .streamSend => true
  | .streamTimeout => true
  | .rpStreamAbort c => c.fits
  | .fwImageCheckDone slot => slot < 2
  | .seFwActivate c => c.fits
  | .seRollbackCommit c => c.fits
  | .seOwnerEnrol c => c.fits
  | .seOwnerRevoke c => c.fits
  | .seManagerKeys c => c.fits
  | .seQuorum c => c.fits
  | .seAttestRequest c => c.fits
  | .tmClearFixed c => c.fits
  | .tmClearProg c => c.fits
  | .tmLatchNow c => c.fits
  | .dumpComplete => true
  | .tmCaptureRestart c => c.fits
  | .strataBankTestStart stack bank => stack < 4 && bank < 136
  | .biStrataTestNow c => c.fits
  | .strataBankStepDone _ _ => true
  | .perstDeassert _ => true
  | .pcieLinkDown _ => true
  | .mothRestartDone => true
  | .restEntryComplete => true
  | .testPortInstruction _ => true

end Sys2Proof
end

