-- ==== Sys2Proof/Safety.lean ====
section
/-! DEFINITION. What a safe step and a well-timed state are, in the terms that claims use. -/
namespace Sys2Proof.Machine
open Sys2Proof

/-- A step that neither faults nor is refused. -/
def Completes (o : Host.Outcome State Fault Refusal) : Prop := ∃ t, o = .next t

/-- The command runs in `s` and answers a next state of which `P` holds. -/
def Answers (i : Instr) (s : State) (P : State → Prop) : Prop := ∃ t, exec i s = .next t ∧ P t

/-- A packet waits in the open queues for a port on a VC. -/
def Waits (s : State) (p vc : Nat) (k : Packet) : Prop := ∃ x ∈ s.dp.openq, x.egress = p ∧ x.vc = vc ∧ x.pkt = k

/-- The state of a timed-action entry; none while it is FREE. -/
def actStateOf (s : State) (n : Nat) : Option ActSt := (SMap.get? s.ft.acts n).map (·.state)

/-- An event of a code and items is the newest of the event ring. -/
def NewestEvent (s : State) (code : Nat) (items : List Item) : Prop :=
  ∃ e, s.ev.ring.head? = some e ∧ e.code = code ∧ e.tick = s.clk.tick ∧ e.items = items

/-- The clock stands inside its tick. -/
def Timed (s : State) : Prop := s.clk.ps < tickPs

/-! ### Commands of the dictionary (R388) -/

/-- What taking a command does before it is judged: its slot or packet is gone, and it is counted. -/
def dxHeard (op : Nat) (c : Cmd) (s : State) : State :=
  count E.DX_COMMANDS 1 (match c.src with
    | .t1s _ => s
    | .mc fa p => match inboxCmd op c fa p s with
      | some x => fromInbox x.1 x.2 s
      | none => s
    | .pcie h =>
      if s.dx.fetched.contains (h.val, op, { c with takenAt := 0 }) then slotTaken h (h.val, op, { c with takenAt := 0 }) s else s)

/-- The state in which a command is judged: its session's lease has restarted and its subscriptions follow it (R395, R454). -/
def dxReady (op : Nat) (c : Cmd) (s : State) : State :=
  subsFollow c (if c.session = 0 then dxHeard op c s else sessionTouch (cmdSession c) (dxHeard op c s))

/-- A command that its transport takes at once and that passes every check of R388 before its own effect. -/
structure Accepted (op : Nat) (c : Cmd) (s : State) : Prop where
  up : transportUp s c.src = true
  room : ∀ h, c.src = .pcie h → cqFull (pcOf s h) = false ∧ (controllerOf s (hostDie h)).restarting = false
  turn : ((sessionOf (dxHeard op c s) (cmdSession c)).filter fun x => samePrincipal x c.src && verifying (dxHeard op c s) x.num) = none
  live : ∀ x ∈ (dxHeard op c s).dx.sessions, now s < x.leaseEnd
  whole : c.check.toNat = cmdCheck (op % 256) c
  header : headerBad op c = false
  source : sourceRefused c (dxHeard op c s) = false
  session : sessionOk op c (dxHeard op c s) = true
  fresh : cached c (dxReady op c s) = none
  checks : checkSteps op c (dxReady op c s) = none
  sig : op = Dx.SIGNED_WRITE → (sigJudge op c (dxReady op c s)).2 = true

/-- The state that a command's own effect starts from. -/
def dxBefore (op : Nat) (c : Cmd) (s : State) : State :=
  if op = Dx.SIGNED_WRITE then (sigJudge op c (dxReady op c s)).1 else dxReady op c s

/-- What follows a command's effect: the answer, the end of a session that closed, and slots that no row stands for. -/
def dxFinish (op : Nat) (c : Cmd) (a : Answer) (s : State) : State :=
  let s := respond op c a s
  let s := if op = Dx.ACTION && cmdAction c == Act.CLOSE && a.status == St.DONE then sessionEnd (cmdSession c) 2 s else s
  match c.src with
  | .pcie h => slotsJudge h (fetchedOf s h).length s
  | _ => s

/-- The row takes command `c`, whose effect goes from a state to another with an answer; `P` holds of the three, and the row
answers the state in which the answer has been given. -/
def Serves (i : Instr) (op : Nat) (c : Cmd) (s : State) (P : State → State → Answer → Prop) : Prop :=
  ∃ u a, exec i s = .next (settle (atPs c.takenAt s) (dxFinish op c a u)) ∧ P (dxBefore op c (start (atPs c.takenAt s))) u a

/-- Wherever the command is accepted and `H` holds where its effect starts, the row serves it so that `P` holds. -/
def Does (i : Instr) (op : Nat) (c : Cmd) (s : State) (H : State → Prop) (P : State → State → Answer → Prop) : Prop :=
  Accepted op c (start (atPs c.takenAt s)) → H (dxBefore op c (start (atPs c.takenAt s))) → Serves i op c s P

/-- The value that a command carries for its entry, most significant byte first. -/
def dxValue (op : Nat) (c : Cmd) : Bytes := cmdCanon op c (((entryNamed op c).bind findEntry).getD noEntry)

/-! ### What a command leaves as it is

Every command may report: count in read-only counters, raise events into the ring, the host queues and the subscriptions, and
send. The parts below are the rest of the state. -/

inductive Part where
  | tick | settings | sessions | waiting | slots | inbox | hosts | timetable | time | links | queues | crusher | memory | tables
  | shapers | optics | chutes | health | repair | security | captures | bringup | electrical
deriving DecidableEq, Repr

/-- A part is the same in two states. Settings are all entries but read-only ones; sessions include subscriptions without the
events that wait for them; hosts are the registers of the host ports without what an event moves. -/
def Part.same : Part → State → State → Prop
  | .tick, s, t => t.clk.tick = s.clk.tick ∧ t.frame = s.frame
  | .settings, s, t => ∀ e ∈ catalog, e.acc ≠ 1 →
      (∀ d, getNum t e.id d = getNum s e.id d) ∧ SMap.get? t.dict.tabs e.id = SMap.get? s.dict.tabs e.id
  | .sessions, s, t => t.dx.sessions = s.dx.sessions ∧ t.dx.owners = s.dx.owners ∧ t.dx.xfers = s.dx.xfers ∧ t.dx.snaps = s.dx.snaps
      ∧ (t.dx.subs.map fun x => { x with queue := [] }) = s.dx.subs.map fun x => { x with queue := [] }
  | .waiting, s, t => t.dx.pending = s.dx.pending
  | .slots, s, t => t.dx.fetched = s.dx.fetched
  | .inbox, s, t => t.dx.inbox = s.dx.inbox
  | .hosts, s, t => ∀ h, { pcOf t h with eqTail := 0, eqOverflow := false, vectors := [] }
      = { pcOf s h with eqTail := 0, eqOverflow := false, vectors := [] }
  | .timetable, s, t => t.tt = s.tt
  | .time, s, t => t.ft = s.ft
  | .links, s, t => t.links = s.links
  | .queues, s, t => t.dp = s.dp
  | .crusher, s, t => t.cr = s.cr
  | .memory, s, t => t.fm = s.fm
  | .tables, s, t => t.tb = s.tb
  | .shapers, s, t => t.ot = s.ot
  | .optics, s, t => t.op = s.op
  | .chutes, s, t => t.ch = s.ch
  | .health, s, t => { t.hl with controllers := [] } = { s.hl with controllers := [] }
      ∧ ∀ d, { controllerOf t d with heldEvents := [] } = { controllerOf s d with heldEvents := [] }
  | .repair, s, t => t.rp = s.rp
  | .security, s, t => t.se = s.se
  | .captures, s, t => { t.tm with fixed := [], prog := [], mothRing := [] } = { s.tm with fixed := [], prog := [], mothRing := [] }
  | .bringup, s, t => t.bi = s.bi
  | .electrical, s, t => t.el = s.el

/-- Nothing but reports and the parts listed differs between two states. -/
def Only (l : List Part) (s t : State) : Prop := ∀ g, g ∉ l → g.same s t

/-- Whenever the command answers a next state, only reports and the parts listed have changed. -/
def Changes (i : Instr) (l : List Part) : Prop := ∀ s t, exec i s = .next t → Only l s t

/-- The part an access acts on in a command's own effect: only reports and the parts listed change from where the effect
starts to where it ends. -/
def Alters (i : Instr) (op : Nat) (c : Cmd) (s : State) (l : List Part) : Prop :=
  Does i op c s (fun _ => True) fun v u _ => Only l v u

/-! ### What every step keeps -/

/-- All addressed memory is in canonical form: that of regions, of checkpoints and of the mirror window. -/
def memoryWf (s : State) : Bool :=
  (s.fm.regions.all fun x => cellsWf x.2.data) && ((s.fm.complete.toList ++ s.fm.copying.toList).all fun c => c.regions.all fun r => cellsWf r.data)
    && (s.fm.restores.all fun x => x.regions.all fun r => cellsWf r.data)
    && cellsWf s.fm.win.data && (s.fm.winCk.toList ++ s.fm.winCopying.toList).all fun w => cellsWf w.data

/-- Sessions have numbers of their own from 1 to 65,535, there are at most 64, and every owned area has an open session. -/
def SessionsSound (s : State) : Prop :=
  (s.dx.sessions.map (·.num)).Nodup ∧ (∀ x ∈ s.dx.sessions, 1 ≤ x.num ∧ x.num ≤ 65535) ∧ s.dx.sessions.length ≤ 64
    ∧ ∀ a, ownerOf s a ≠ 0 → (sessionOf s (ownerOf s a)).isSome = true

end Sys2Proof.Machine
end

