-- ==== Sys2Proof/Certificates/Slice0/Obligations.lean ====
section
/-! DEFINITION. Statements about the model, for the provers. -/
section
open Sys2Proof Sys2Proof.Machine

/-- A step takes the command at the front of the queue, and runs it with the queue's rest. The queue is the model's interface. -/
def Obligations.StepRunsFront : Prop :=
  ∀ (c : Instr) (rest : List Instr) (s : State), s.pending = c :: rest → step s = exec c { s with pending := rest }

/-- On an empty queue a step changes nothing: the model's choice (log 2). -/
def Obligations.IdleStep : Prop :=
  ∀ s : State, s.pending = [] → step s = .next s

/-- R224, R381, R415, R453, R532. That an entry without a stated value reads its listing's default is R381; the power-up sequence has not begun. -/
def Obligations.ResetValues : Prop :=
  (∀ e d, getNum State.reset e d = d) ∧ (∀ e, SMap.get? State.reset.dict.tabs e = none)
  ∧ State.reset.dx.sessions = [] ∧ State.reset.dx.pending = [] ∧ State.reset.fm.regions = [] ∧ State.reset.tt.active = none
  ∧ State.reset.tt.next = .empty ∧ State.reset.ft.gen = .free ∧ State.reset.rp.sync = .unassigned ∧ State.reset.bi.state = 0
  ∧ (∀ p : Port, portState State.reset p = .training) ∧ (∀ a, ownerOf State.reset a = 0)

/-- What the invariants speak of holds at reset. -/
def Obligations.ResetSound : Prop :=
  Timed State.reset ∧ memoryWf State.reset = true ∧ SessionsSound State.reset

/-- R1, R9, R25: every failure is an answer, an event, a counter or a state; no command stops the model, and none touches the queue. -/
def Obligations.NothingStops : Prop :=
  (∀ (i : Instr) (s : State), ∃ t, exec i s = .next t ∧ t.pending = s.pending)
  ∧ ∀ s : State, Completes (step s)

/-- R68, R70: the model's instant always lies inside its tick. -/
def Obligations.StepKeepsTime : Prop :=
  ∀ s t : State, Timed s → step s = .next t → Timed t

/-- R222, R224, R234, R238: no byte of zero is listed and addresses rise, in regions, checkpoints and the mirror window. -/
def Obligations.MemoryStaysCanonical : Prop :=
  ∀ s t : State, memoryWf s = true → step s = .next t → memoryWf t = true

/-- R395 to R397, R411: session numbers stay unique, at most 64 sessions are open, and no area belongs to a session that is not open. -/
def Obligations.SessionsStaySound : Prop :=
  ∀ s t : State, SessionsSound s → step s = .next t → SessionsSound t

/-- R7, R121. The tick generator's two boundaries, and the CREDIT that opens a port's gap slot. The frame whose work ran last is a
field of the model's own. -/
def Obligations.Boundaries : Prop :=
  (∀ (r : TickReadings) (s : State), Answers (.tickBoundary r) s fun t => t.clk.tick = s.clk.tick + 1 ∧ t.clk.ps = 0)
  ∧ (∀ (r : FrameReadings) (s : State), s.clk.tick % 1024 = 0 → s.frame ≠ s.clk.tick / 1024 →
    Answers (.frameBoundary r) s fun t => t.frame = s.clk.tick / 1024 ∧ t.clk = s.clk)
  ∧ (∀ (p : Port) (w n : Nat) (s : State), portFormat s p = 1 → lowLane s p = some w → s.hl.power ≠ .off →
    darkOut s s.clk.tick p = false → localStart (atPs (24 * 40960) s) p w = some n →
    Answers (.gapSlotStart p) s fun t => .packet p w (mkControl Vc.MC (eBit s) 0xFFFFFF Op.CREDIT (posFa s) 0 false 0 0 p
      (activeEpoch s) (creditBody s p) (n / 1000 % 2 ^ 32)) ∈ t.out)

/-- R47, R50, R52, R54, R57, R466. What the timetable's own sequencers do. -/
def Obligations.TimetableRows : Prop :=
  (∀ s : State, s.tt.next = .checking → imageFails s s.tt.nextBytes s.tt.nextDigest = [] →
    Answers .ttChecksDone s fun t => t.tt.next = .ready ∧ t.tt.nextImage = some (parseImage s.tt.nextBytes s.tt.nextDigest) ∧ t.tt.log = [])
  ∧ (∀ s : State, s.tt.next = .checking → imageFails s s.tt.nextBytes s.tt.nextDigest ≠ [] →
    Answers .ttChecksDone s fun t => t.tt.next = .refused ∧ t.tt.log = (imageFails s s.tt.nextBytes s.tt.nextDigest).take 16)
  ∧ (∀ (i : Image) (s : State), s.tt.next = .ready → s.tt.nextImage = some i →
    Answers .ttCrossRecheck s fun t =>
      let fails := crossChecks (configAt (1024 * i.frame) s) i
      if fails = [] then t.tt = s.tt else t.tt.next = .refused ∧ t.tt.log = fails.take 16)
  ∧ (∀ (x v : Nat) (s : State), s.tt.selected = some (x, v) → x ≤ s.clk.tick → s.frame = frameOf s →
    joinWaits s = false →
    Answers .variantTakesEffect s fun t => t.tt.variant = (if variantHeld s.tt.active v then v else s.tt.variant)
      ∧ getNum t E.TT_VARIANT_SELECT 0 = v)
  ∧ (∀ (n : Nat) (x : LeaseState) (s : State), (s.tt.leases.drop n).head? = some x → leaseLive s = true → x.state = 0 →
    x.record.start ≤ frameOf s → (x.record.len = 0 ∨ frameOf s < x.record.start + x.record.len) →
    Answers (.leaseStart n) s fun t => ((t.tt.leases.drop n).head?.map (·.state)) = some 1
      ∧ (x.record.kind = 3 → (physSlot s x.record.unit).state = .spare →
        physBench t x.record.subject = x.record.unit ∧ (physSlot t x.record.unit).state = .serving))
  ∧ (∀ (n : Nat) (x : LeaseState) (s : State), (s.tt.leases.drop n).head? = some x → leaseLive s = true → x.state = 1 →
    x.record.len ≠ 0 → x.record.start + x.record.len ≤ frameOf s →
    Answers (.leaseEnd n) s fun t => ((t.tt.leases.drop n).head?.map (·.state)) = some 2)

/-- R59, R60, R81, R89, R92, R212, R382, R388, R576. That an entry goes into the lowest FREE place is the model's reading (log 15). -/
def Obligations.TimetableCommands : Prop :=
  let val := fun (id : Nat) (c : Cmd) => dxValue Dx.WRITE (onEntry id c)
  let armed := fun (id : Nat) (c : Cmd) (b : ActEntry) (v : State) => SMap.get? v.ft.acts (beNat (val id c)) = some b ∧ b.record.arm = true
  (∀ (c : Cmd) (s : State), Does (.ttNextDiscard c) Dx.WRITE (onEntry E.TT_NEXT_DISCARD c) s (fun _ => beNat (val E.TT_NEXT_DISCARD c) = 1)
    fun _ u a => a = answerDone ∧ u.tt.next = .empty ∧ u.tt.nextImage = none ∧ u.tt.nextBytes = [])
  ∧ (∀ (c : Cmd) (s : State), Does (.ttVariantSelect c) Dx.WRITE (onEntry E.TT_VARIANT_SELECT c) s
    (fun v => variantHeld v.tt.active (beNat (val E.TT_VARIANT_SELECT c)) = true ∧ v.dx.pending.length < 1024)
    fun v u a => a = answerDone ∧ u.dx.pending = v.dx.pending ++ [{ entry := E.TT_VARIANT_SELECT, session := cmdSession c, tick := some (cmdTick c), offset := cmdOff c, body := val E.TT_VARIANT_SELECT c }])
  ∧ (∀ (c : Cmd) (s : State), Does (.ttVariantNext c) Dx.WRITE (onEntry E.TT_VARIANT_NEXT c) s
    (fun v => variantHeld (nextHeld v) (beNat (val E.TT_VARIANT_NEXT c)) = true ∧ v.dx.pending.length < 1024)
    fun v u a => a = answerDone ∧ u.dx.pending = v.dx.pending ++ [{ entry := E.TT_VARIANT_NEXT, session := cmdSession c, tick := none, offset := cmdOff c, body := val E.TT_VARIANT_NEXT c }])
  ∧ (∀ (c : Cmd) (n : Nat) (s : State), Does (.ftActionAdd c) Dx.WRITE (onEntry E.FT_ACTION_ADD c) s
    (fun v => v.clk.tick + 16 ≤ (parseAction (val E.FT_ACTION_ADD c)).fire
      ∧ actionRuleOk v ((imageAt v (parseAction (val E.FT_ACTION_ADD c)).fire).map (·.1)) (parseAction (val E.FT_ACTION_ADD c)) = true
      ∧ fld (val E.FT_ACTION_ADD c) 0x0C 1 31 = 0 ∧ actFreeSlot v = some n)
    fun v u a => a = answerDone ∧ SMap.get? u.ft.acts n = some { record := parseAction (val E.FT_ACTION_ADD c), state := .pending, command := true, epoch := activeEpoch v, launch := 0, armFa := 0, ofNext := false })
  ∧ (∀ (c : Cmd) (b : ActEntry) (s : State), Does (.ftActionArm c) Dx.WRITE (onEntry E.FT_ACTION_ARM c) s
    (fun v => armed E.FT_ACTION_ARM c b v ∧ b.state = .pending ∧ v.clk.tick + 256 ≤ b.record.fire)
    fun _ u a => a = answerDone ∧ actStateOf u (beNat (val E.FT_ACTION_ARM c)) = some .armed)
  ∧ (∀ (c : Cmd) (b : ActEntry) (s : State), Does (.ftActionCancel c) Dx.WRITE (onEntry E.FT_ACTION_CANCEL c) s
    (fun v => armed E.FT_ACTION_CANCEL c b v ∧ (b.state = .pending ∨ b.state = .armed) ∧ v.clk.tick + 64 ≤ b.record.fire)
    fun _ u a => a = answerDone ∧ actStateOf u (beNat (val E.FT_ACTION_CANCEL c)) = some .cancelled)
  ∧ (∀ (c : Cmd) (s : State), Does (.ftServoRestart c) Dx.WRITE (onEntry E.FT_SERVO_RESTART c) s (fun _ => True)
    fun v u a => a = answerDone ∧ ∀ d : Domain, bit (beNat (val E.FT_SERVO_RESTART c)) d = true → (servoOf v d).state ≠ .disabled →
      (servoOf u d).state = .acquiring)
  ∧ (∀ (c : Cmd) (s : State), Does (.ftDomainSelect c) Dx.WRITE (onEntry E.FT_DOMAIN_SELECT c) s
    (fun v => beNat (val E.FT_DOMAIN_SELECT c) = 2 ∨ beNat (val E.FT_DOMAIN_SELECT c) = 3 ∨ servoLocked v (beNat (val E.FT_DOMAIN_SELECT c)) = true)
    fun _ u a => a = answerDone ∧ Cfg.FT_DOMAIN_SELECT u = beNat (val E.FT_DOMAIN_SELECT c))
  ∧ (∀ (c : Cmd) (s : State), Does (.crMissingLogClear c) Dx.WRITE (onEntry E.CR_MISSING_LOG_CLEAR c) s
    (fun _ => beNat (val E.CR_MISSING_LOG_CLEAR c) = 1)
    fun _ u a => a = answerDone ∧ u.cr.log = [] ∧ u.cr.written = 0)

/-- R43, R90, R91, R93, R169, R382, R517. What each action code does when entry `n` fires. The latch is of a boundary without a
latch before it, with a buffer free (R517). The plain scalars of DICT_WRITE are those whose write does nothing but set them. -/
def Obligations.TimedActions : Prop :=
  (∀ (n : Nat) (a : ActEntry) (s : State), actTurn n 1 s = some a →
    Answers (.jobOpen n) s fun t => actStateOf t n = some .fired
      ∧ ∀ i, s.tt.active = some i → ∀ b ∈ i.binds, b.job = a.record.job → gateOf t b = .openn)
  ∧ (∀ (n : Nat) (a : ActEntry) (s : State), actTurn n 2 s = some a →
    Answers (.jobClose n) s fun t => actStateOf t n = some .fired
      ∧ ∀ i, s.tt.active = some i → ∀ b ∈ i.binds, b.job = a.record.job → gateOf t b = .closed ∧ ∀ x ∈ t.dp.sc, x.flow ≠ b.flow)
  ∧ (∀ (n : Nat) (a : ActEntry) (s : State), actTurn n 3 s = some a → s.tm.latched = [] → s.tm.buffers.length < 2 →
    Answers (.counterLatch n) s fun t => actStateOf t n = some .fired ∧ t.tm.dumpSeq = s.tm.dumpSeq + 1
      ∧ ∃ d, t.tm.buffers = s.tm.buffers ++ [{ seq := s.tm.dumpSeq + 1, bytes := d }] ∧ t.tm.latched = d)
  ∧ (∀ (n : Nat) (a : ActEntry) (s : State), actTurn n 4 s = some a →
    Answers (.userEvent n) s fun t => actStateOf t n = some .fired
      ∧ NewestEvent t Ev.TT_USER_ACTION [.u16 (a.record.operand >>> 112)])
  ∧ (∀ (n : Nat) (a : ActEntry) (e : Entry) (s : State), actTurn n 5 s = some a → findEntry (dictEntry a.record) = some e →
    e.id ∈ [E.PKT_CREDIT_LIMIT_OC0, E.PKT_CREDIT_LIMIT_OC1, E.PKT_CREDIT_LIMIT_MC, E.FT_PPS_OUT_MODE] →
    dictRefused a s = none → dictValue a.record < 256 ^ e.size → actionOver (actEnd n a .fired s) e.id = false →
    Answers (.dictWrite n) s fun t => actStateOf t n = some .fired ∧ getNum t e.id 0 = dictValue a.record)
  ∧ (∀ (n : Nat) (a : ActEntry) (s : State), SMap.get? s.ft.acts n = some a → a.record.fire ≤ s.clk.tick → s.hl.power ≠ .off →
    (a.state = .pending ∧ a.record.arm = true ∨ (a.state = .pending ∨ a.state = .armed) ∧ s.hl.power = .rest) →
    Answers (.actionExpire n) s fun t => actStateOf t n = some .expired)

/-- R95, R96. What a LAUNCH message of kind 1 (ARM) or 3 (CANCEL) does to the entries that require arming. An ARM that names
nothing but cancelled entries is answered and arms none, as the entry's own state says. -/
def Obligations.LaunchMessages : Prop :=
  let named := fun (k : Packet) (a : ActEntry) => a.record.fire = beAt (pkBody k) 8 8 ∧ a.record.job = beAt (pkBody k) 0x10 2
    ∧ a.record.code = beAt (pkBody k) 0x12 2 ∧ a.record.arm = true
  let taken := fun (kind : Nat) (k : Packet) (s : State) => dpLive s = true ∧ pkOp k = Op.LAUNCH ∧ beAt (pkBody k) 0 1 = kind
    ∧ pkCrcOk k = true ∧ (pkM k = true ∨ pkDest k = posFa s)
  let from' := fun (k : Packet) (s : State) =>
    let l := (tabList s E.FT_LAUNCH_SOURCES 4).map fun r => beNat r % 2 ^ 24
    l = [] ∨ pkSrc k ∈ l
  (∀ (p : Port) (k : Packet) (n : Nat) (a : ActEntry) (s : State), taken 1 k s → from' k s → SMap.get? s.ft.acts n = some a → named k a →
    a.state = .pending → s.clk.tick + 256 ≤ beAt (pkBody k) 8 8 →
    Answers (.launchArm p k) s fun t => actStateOf t n = some .armed)
  ∧ (∀ (p : Port) (k : Packet) (n : Nat) (a : ActEntry) (s : State), taken 3 k s → from' k s → SMap.get? s.ft.acts n = some a → named k a →
    a.state = .pending ∨ a.state = .armed → s.clk.tick + 64 ≤ beAt (pkBody k) 8 8 →
    Answers (.launchCancel p k) s fun t => actStateOf t n = some .cancelled)
  ∧ (∀ (p : Port) (k : Packet) (s : State), taken 1 k s → ¬ from' k s →
    Answers (.launchArm p k) s fun t => t.ft = s.ft ∧ getNum t E.FT_LAUNCH_REFUSED 0 = (getNum s E.FT_LAUNCH_REFUSED 0 + 1) % 2 ^ 64)

/-- R78, R80, R81. What a PTP message for the part does, once it is the one that the servo or the port waits for. `u` is the
state at the instant of arrival. A sample joins the last three while the generator is not FREE: the first lock, which may move
time itself, is not part of this statement; nor is the sample of the request-response mechanism, whose phase waits for the delay of
the last exchange. The Pdelay_Resp of a cell-mode port, which has no cell form (R132), and the one that the
moth sends in Rest are not part of it either. -/
def Obligations.TimeMessages : Prop :=
  (∀ (p : Port) (k : Packet) (a : At) (d : Nat) (s : State), ptpFrom s k 0 = some d → ptpClock k = ftGm s d → ptpTwoStep k = true →
    Answers (.ptpSync p k a) s fun t =>
      (servoOf t d).sync = some (ptpSeq k, takenStamp (atPs a s) p k + origin16 s - portAsym s p, ptpCorr k))
  ∧ (∀ (p : Port) (k : Packet) (a : At) (d : Nat) (s : State), ptpFrom s k 0 = some d → ptpClock k = ftGm s d → ptpTwoStep k = false →
    (servoOf s d).state ≠ .disabled → s.ft.gen ≠ .free →
    Answers (.ptpSync p k a) s fun t =>
      let t2 := takenStamp (atPs a s) p k + origin16 s - portAsym s p
      if ptpPeer s d then (servoOf t d).ring
        = (samplePhase d (t2 - (ptpStamp k + ptpCorr k) - (pdelayOf s p).mean) s :: (servoOf s d).ring).take 3
      else (servoOf t d).t12 = some (ptpStamp k + ptpCorr k, t2))
  ∧ (∀ (p : Port) (k : Packet) (a : At) (d seq : Nat) (t2 c : Int) (s : State), ptpFrom s k 8 = some d →
    (servoOf s d).sync = some (seq, t2, c) → ptpClock k = ftGm s d → ptpSeq k = seq → (servoOf s d).state ≠ .disabled → s.ft.gen ≠ .free →
    Answers (.ptpFollowUp p k a) s fun t =>
      if ptpPeer s d then (servoOf t d).ring
        = (samplePhase d (t2 - (ptpStamp k + ptpCorr k + c) - (pdelayOf s p).mean) s :: (servoOf s d).ring).take 3
      else (servoOf t d).t12 = some (ptpStamp k + ptpCorr k + c, t2))
  ∧ (∀ (p : Port) (k : Packet) (a : At) (d seq : Nat) (t1 t2 t3 : Int) (s : State), ptpFrom s k 9 = some d →
    (servoOf s d).req = some (seq, t3) → (servoOf s d).t12 = some (t1, t2) → ptpPeer s d = false → ptpSeq k = seq →
    ptpReqClock k = ownClock →
    Answers (.ptpDelayResp p k a) s fun t => (servoOf t d).delay = ((t2 - t1) + (ptpStamp k - ptpCorr k - t3)) / 2)
  ∧ (∀ (p : Port) (k : Packet) (a : At) (d : Nat) (s : State), ptpFrom s k 11 = some d → ptpClock k ≠ ftGm s d →
    (servoOf s d).state ≠ .disabled → Answers (.ptpAnnounce p k a) s fun t => (servoOf t d).state = .fault)
  ∧ (∀ (p : Port) (k : Packet) (a : At) (d : Nat) (t1 : Int) (s : State), ptpFrom s k 3 = some d → ptpPeer s d = true →
    (pdelayOf s p).sent = some t1 → ptpSeq k = (pdelayOf s p).seq → ptpReqClock k = ownClock →
    Answers (.ptpPdelayResp p k a) s fun t =>
      let z := takenStamp (atPs a s) p k + origin16 s - t1 - ptpCorr k
      if ptpTwoStep k then (pdelayOf t p).held = some (ptpSeq k, z + ptpStamp k) else (pdelayOf t p).mean = z / 2)
  ∧ (∀ (p : Port) (k : Packet) (d seq : Nat) (z : Int) (a : At) (s : State), ptpFrom s k 8 = none → ptpFrom s k 10 = some d →
    (pdelayOf s p).held = some (seq, z) → ptpSeq k = seq →
    Answers (.ptpFollowUp p k a) s fun t => (pdelayOf t p).mean = (z - ptpStamp k - ptpCorr k) / 2 ∧ (pdelayOf t p).held = none)
  ∧ (∀ (p : Port) (k : Packet) (a : At) (d : Nat) (s : State), ptpFrom s k 2 = some d → ptpPeer s d = true → s.hl.power ≠ .rest →
    portCell s p = false →
    Answers (.ptpPdelayReq p k a) s fun t => Waits t p Vc.MC (ptpPacket (atPs a s) (pkSrc k)
      (ptpMessage 3 (ftDomainNo s d) 0 (ptpCorr k - (takenStamp (atPs a s) p k + origin16 s)) (p + 1) (ptpSeq k)
        (beBytes 10 0 ++ beBytes 8 (ptpClock k) ++ beBytes 2 (ptpPortNo k)))))
  ∧ (∀ (p : Port) (d : Nat) (s : State), s.hl.power ≠ .off → peerDomain s = some d → egressLanes s p ≠ [] →
    due (pdelayOf s p).nextAt s = true →
    Answers (.pdelayMeasure p) s fun t => (pdelayOf t p).seq = ((pdelayOf s p).seq + 1) % 65536
      ∧ (pdelayOf t p).nextAt = max (pdelayOf s p).nextAt (now s) + pdelayPs s)

/-- R81, R84 to R87. What the timers of the time unit do, each at its instant. -/
def Obligations.ServoTimers : Prop :=
  (∀ (d : Domain) (s : State), servoLocked s d = true → due (((servoOf s d).sampleTick + ftNum s d 0x0B 1024) * tickPs) s = true →
    Answers (.servoSyncTimeout d) s fun t => (servoOf t d).state = .holdover)
  ∧ (∀ (d : Domain) (a : At) (frac : Nat) (ptp : Int) (s : State), s.hl.power ≠ .off → ftPps s d = true → ftEnabled s d = true →
    (servoOf s d).ptp = some ptp →
    Answers (.ppsPulse d a frac) s fun t =>
      let v := servoOf s d
      let sec := ns16 1000000000
      let at' := (now16 (atPs a s) : Int) + (frac % 66 : Nat) - toSigned 32 (ftNum s d 0x05 0) + origin16 s
      let off := (at' - ptp + sec / 2).emod sec - sec / 2
      if absInt off > ns16 100 then servoOf t d = v ∧ getNum t E.FT_PPS_REJECTS 0 = (getNum s E.FT_PPS_REJECTS 0 + 1) % 2 ^ 64
      else servoOf t d = { v with ppsAt := some (now (atPs a s)), ppsPhase := some (ptp + off), ppsLost := false })
  ∧ (∀ (d : Domain) (s : State), s.hl.power ≠ .off → ftPps s d = true → ftEnabled s d = true → (servoOf s d).ppsLost = false →
    due ((servoOf s d).ppsAt.getD 0 + 2 * 10 ^ 12) s = true →
    Answers (.ppsMissing d) s fun t => servoOf t d = { servoOf s d with ppsLost := true, ppsPhase := none })
  ∧ (∀ (n : Nat) (s : State), s.hl.power ≠ .off → ppsRise s = some n → s.hl.ppsOutEnd < n + ppsWidth → due n s = true →
    Answers .ppsOutPulse s fun t => t.out = [.pin 5 true] ∧ t.hl.ppsOutEnd = n + ppsWidth)
  ∧ (∀ (d : Domain) (n : Nat) (s : State), (preferred s).isSome = true → s.ft.gen ≠ .free → selectedDomain s = d.val →
    servoLocked s (1 - d.val) = true → (servoOf s d).lostSince = some n → due ((n + Cfg.FT_LOSS_HOLD_TICKS s) * tickPs) s = true →
    Answers (.domainLossHold d) s fun t => t.ft.switchTo = if (1 - d.val) = s.ft.active then none else some (1 - d.val))
  ∧ (∀ (d : Domain) (n : Nat) (s : State), preferred s = some d.val → s.ft.gen ≠ .free → selectedDomain s ≠ d.val →
    (servoOf s d).lockedSince = some n → due ((n + Cfg.FT_RETURN_HOLD_FRAMES s * 1024) * tickPs) s = true →
    Answers (.domainReturnHold d) s fun t => t.ft.switchTo = if d.val = s.ft.active then none else some d.val)
  ∧ (∀ s : State, s.ft.gen = .slewing → s.ft.slew = 0 →
    Answers .slewDone s fun t => t.ft.gen = if servoLocked s 0 || servoLocked s 1 then .following else .holdover)

/-- R128, R130, R132, R133, R143, R146, R217, R240, R259, R314. -/
def Obligations.ArrivalRows : Prop :=
  let sane := fun (p : Port) (k : Packet) (s : State) => ∀ w ∈ flowWords s (pkFlow k),
    (∀ x ∈ s.tb.bad, x.die.val = p.val / 128 → (x.table, x.place) ≠ w)
    ∧ ∀ x ∈ s.tb.upset, x.1.die.val = p.val / 128 → (x.1.table, x.1.place) = w → x.2 ≠ .unreadable
  let heard := fun (p : Port) (l : Lane) (s : State) => portFormat s p = 1 ∧ laneWatched s p l = true ∧ takingOf s p l = .own ∧ darkIn s p = false
    ∧ ∀ c ∈ s.dp.cut, c.port = p.val → c.lane ≠ l.val
  let sound := fun (p : Port) (l : Lane) (k : Packet) (s : State) => heard p l s ∧ headFault k = none ∧ arrivalFault s k = none
  let mine := fun (p : Port) (l : Lane) (c : CutPkt) (s : State) => (s.dp.cut.filter fun c => c.port == p.val && c.lane == l.val) = [c]
  let cell := fun (p : Port) (l : Lane) (c : Bytes) (s : State) => portFormat s p = 2 ∧ dpLive s = true ∧ benchServes s (benchOf p) = true ∧ l.val ≤ 3
    ∧ cellOk c = true ∧ darkIn s p = false ∧ ∀ n, ((linkOf s p).cell l).rxCount = some n → n = cellCount c
  let opened := fun (p : Port) (c : Bytes) (a : At) (s : State) => ({ head := padTo 16 (cellData c), data := (cellData c).drop 16, at' := now (atPs a s), stamp := stampIn (atPs a s) p } : CellAsm)
  (∀ (p : Port) (l : Lane) (k : Packet) (a : At) (s : State), sound p l k s → fateOf s p k = .link →
    Answers (.packetArrival p l k a) s fun t => t.dx.inbox = s.dx.inbox ++ [(p.val, k)] ∧ t.dp.sc = s.dp.sc ∧ t.dp.openq = s.dp.openq)
  ∧ (∀ (p : Port) (l : Lane) (k : Packet) (a : At) (s : State), sound p l k s → fateOf s p k = .own → opRequest (pkOp k) = true → judgedWhole s k = true →
    Answers (.packetArrival p l k a) s fun t => t.dx.inbox = s.dx.inbox ++ [(p.val, k)] ∧ t.dp.sc = s.dp.sc ∧ t.dp.openq = s.dp.openq)
  ∧ (∀ (p : Port) (l : Lane) (k : Packet) (a : At) (i : Image) (b : Binding) (q : Nat) (s : State), sound p l k s → fateOf s p k = .sched →
    s.tt.active = some i → bindingOf s (pkFlow k) = some b → gateOf s b = .openn → b.job = pkJob k → b.multi = false →
    q ∈ egressPorts i b → portGone s q = false → sane p k s →
    (s.dp.sc.filter fun x => benchOf x.port == benchOf p && x.flow == b.flow).length < b.bound →
    sumNat ((s.dp.sc.filter fun x => benchOf x.port == benchOf p).map fun x => pkBlocks x.pkt) + pkBlocks k ≤ i.voqKib * 4 →
    Answers (.packetArrival p l k a) s fun t => ∃ x, t.dp.sc = s.dp.sc ++ [x] ∧ x.pkt = k ∧ x.flow = b.flow ∧ x.deadline = s.clk.tick + b.dwell
      ∧ x.ready = now (atPs a s))
  ∧ (∀ (p : Port) (l : Lane) (k : Packet) (a : At) (s : State), heard p l s → duplicated s p l = false → headFault k = some 0 →
    Answers (.packetArrival p l k a) s fun t => getNum t E.PKT_HDR_DROPS 0 = (getNum s E.PKT_HDR_DROPS 0 + 1) % 2 ^ 64
      ∧ t.dx.inbox = s.dx.inbox ∧ t.dp.sc = s.dp.sc ∧ t.dp.openq = s.dp.openq)
  ∧ (∀ (p : Port) (l : Lane) (k : Packet) (a : At) (s : State), heard p l s → duplicated s p l = false → headFault k = none → arrivalFault s k = some 7 →
    Answers (.packetArrival p l k a) s fun t => getNum t E.PKT_HOP_DROPS 0 = (getNum s E.PKT_HOP_DROPS 0 + 1) % 2 ^ 64
      ∧ t.dx.inbox = s.dx.inbox ∧ t.dp.sc = s.dp.sc ∧ t.dp.openq = s.dp.openq)
  ∧ (∀ (p : Port) (l : Lane) (a : At) (c : CutPkt) (s : State), mine p l c s → tailFault c.pkt = none → c.taken = false →
    Answers (.packetTail p l a) s fun t => t.dp.cut = s.dp.cut.erase c ∧ t.dx.inbox = s.dx.inbox ∧ t.dp.sc = s.dp.sc ∧ t.dp.openq = s.dp.openq)
  ∧ (∀ (p : Port) (l : Lane) (a : At) (c : CutPkt) (s : State), mine p l c s → tailFault c.pkt = none → c.taken = true →
    opRequest (pkOp c.pkt) = true →
    Answers (.packetTail p l a) s fun t => t.dp.cut = s.dp.cut.erase c ∧ t.dx.inbox = s.dx.inbox ++ [(p.val, c.pkt)])
  ∧ (∀ (p : Port) (l : Lane) (a : At) (c : CutPkt) (row : Nat) (s : State), mine p l c s → tailFault c.pkt = some row → duplicated s p l = false →
    Answers (.packetTail p l a) s fun t => (∀ x ∈ c.begun, .stomp x.1 c.id ∈ t.out) ∧ (∀ x ∈ t.dp.sc, x.id ≠ c.id) ∧ (∀ x ∈ t.dp.drawn, x.id ≠ c.id)
      ∧ t.dx.inbox = s.dx.inbox)
  ∧ (∀ (p : Port) (l : Lane) (c : Bytes) (a : At) (s : State), cell p l c s → cellPos c = 2 → asmClass (opened p c a s) ≠ 0x3F →
    Answers (.cellReceived p l c a) s fun t =>
      let x := (linkOf t p).cell l
      x.asm = some (opened p c a s) ∧ x.rxCount = some ((cellCount c + 1) % 256)
      ∧ (asmVc (opened p c a s) ≤ 3 → (x.vc (asmVc (opened p c a s))).received = ((((linkOf s p).cell l).vc (asmVc (opened p c a s))).received + 1) % 2 ^ 32))
  ∧ (∀ (p : Port) (l : Lane) (c : Bytes) (a : At) (x : CellAsm) (s : State), cell p l c s → cellPos c = 0 → ((linkOf s p).cell l).asm = some x →
    Answers (.cellReceived p l c a) s fun t => ((linkOf t p).cell l).asm = some { x with data := x.data ++ cellData c })
  ∧ (∀ (p : Port) (l : Lane) (c : Bytes) (a : At) (x : CellAsm) (s : State), cell p l c s → cellPos c = 1 → ((linkOf s p).cell l).asm = some x →
    let y : CellAsm := { x with data := x.data ++ cellData c }
    asmFault y = none → fateOf s p (asmPacket s y) = .own → opRequest (pkOp (asmPacket s y)) = true →
    Answers (.cellReceived p l c a) s fun t => ((linkOf t p).cell l).asm = none ∧ t.dx.inbox = s.dx.inbox ++ [(p.val, asmPacket s y)])
  ∧ (∀ (p : Port) (l : Lane) (c : Bytes) (a : At) (s : State), cell p l c s → cellPos c = 3 → asmClass (opened p c a s) ≠ 0x3F →
    asmFault (opened p c a s) = none → fateOf s p (asmPacket s (opened p c a s)) = .own → opRequest (pkOp (asmPacket s (opened p c a s))) = true →
    Answers (.cellReceived p l c a) s fun t => ((linkOf t p).cell l).asm = none ∧ t.dx.inbox = s.dx.inbox ++ [(p.val, asmPacket s (opened p c a s))])
  ∧ (∀ (p : Port) (l : Lane) (c : Bytes) (a : At) (s : State), cell p l c s → cellIsCredit c = true → ((linkOf s p).cell l).asm = none →
    Answers (.cellCreditReceived p l c a) s fun t => ((linkOf t p).cell l).based = true ∧ ∀ vc, vc = 1 ∨ vc = 2 ∨ vc = 3 →
      let x := ((linkOf s p).cell l).vc vc
      let f := creditFields (padTo 24 (opened p c a s).data) vc
      ((linkOf t p).cell l).vc vc = if ((linkOf s p).cell l).based then (creditJudge x f.1 f.2).1 else creditBase x f.1 f.2)
  ∧ (∀ (p : Port) (k : Packet) (s : State), pkOp k = Op.MEM_MCAST_STORE → dpLive s = true → pkM k = true →
    (∃ g ∈ tabList s E.FM_MCAST_LOCAL 4, beNat g = pkDest k) →
    Answers (.memMcastStore p k) s fun t => t.fm.applies = s.fm.applies ++ [{ req := { pkt := k, port := p, cell := false }, sequenced := false, again := false }])
  ∧ (∀ (p : Port) (k : Packet) (s : State), pkOp k = Op.MEM_MCAST_STORE → dpLive s = true → pkM k = false → fenced s (pkSrc k) = false →
    portCell s p = true →
    Answers (.memMcastStore p k) s fun t => t.fm.applies = s.fm.applies ++ [{ req := { pkt := k, port := p, cell := true }, sequenced := false, again := false }])

/-- R115, R120, R121, R123, R136, R298, R353, R358. -/
def Obligations.LinkRows : Prop :=
  let valid := fun (p : Port) (k : Packet) (op : Nat) (s : State) => dpLive s = true ∧ portFormat s p = 1 ∧ pkOp k = op ∧ pkCrcOk k = true
  let heard := fun (p : Port) (k : Packet) (s u : State) => u = hearEpoch p k (fromInbox p k (start s)) ∧ darkIn u p = false
  let marked := fun (p : Port) (k : Packet) (s : State) => ∀ l ∈ ingressLanes s p, SMap.get? (linkOf s p).gapTicks l = some (beAt (pkBody k) 24 4 % 1024)
  (∀ (p : Port) (l : Lane) (m : BitVec 32) (a : At) (s : State), laneWatched s p l = true → portFormat s p = 1 → darkIn s p = false →
    markerOk (m.toNat % 2 ^ 32) = true →
    Answers (.slotMarker p l m a) s fun t => SMap.get? t.op.roles (p.val * 5 + l.val) = some (s.clk.tick, bits m.toNat 12 4, bits m.toNat 9 3)
      ∧ (∀ r, SMap.get? s.op.roles (p.val * 5 + l.val) = some r → r.1 + 1 = s.clk.tick →
          SMap.getD t.op.markers (p.val * 5 + l.val) 0 = SMap.getD s.op.markers (p.val * 5 + l.val) 0 + 1))
  ∧ (∀ (p : Port) (k : Packet) (s u : State), valid p k Op.CREDIT s → heard p k s u → ¬ marked p k u →
    Answers (.creditReceived p k) s fun t => (linkOf t p).credit = some (pkBody k) ∧ ∀ vc, (linkOf t p).vc vc = (linkOf s p).vc vc)
  ∧ (∀ (p : Port) (k : Packet) (s u : State), valid p k Op.CREDIT s → heard p k s u → marked p k u → (linkOf s p).based = false →
    Answers (.creditReceived p k) s fun t => (linkOf t p).credit = none ∧ (linkOf t p).based = true ∧ ∀ vc, vc = 1 ∨ vc = 2 ∨ vc = 3 →
      let x := (linkOf t p).vc vc
      let c := (linkOf s p).vc vc
      let f := creditFields (pkBody k) vc
      x.received = (f.1 + sinceGap (linkOf s p) vc) % 2 ^ 32 ∧ x.pFreed = f.2 ∧ x.shift = serialDist 32 c.sent f.2 ∧ x.sent = c.sent)
  ∧ (∀ (p : Port) (k : Packet) (s u : State), valid p k Op.CREDIT s → heard p k s u → marked p k u → (linkOf s p).based = true →
    Answers (.creditReceived p k) s fun t => (linkOf t p).credit = none ∧ ∀ vc, vc = 1 ∨ vc = 2 ∨ vc = 3 →
      let x := (linkOf t p).vc vc
      let c := (linkOf s p).vc vc
      let f := creditFields (pkBody k) vc
      let before := (c.shifted (2 ^ 32 - sinceGap (linkOf s p) vc % 2 ^ 32)).received
      x.received = (f.1 + sinceGap (linkOf s p) vc) % 2 ^ 32 ∧ x.pFreed = f.2
      ∧ x.freed = (if before32 f.1 before || before32 f.2 c.pFreed then c.freed else (c.freed + serialDist 32 f.1 before) % 2 ^ 32))
  ∧ (∀ (p : Port) (k : Packet) (s : State), valid p k Op.LINK_PARAMS s →
    Answers (.linkParamsReceived p k) s fun t => (linkOf t p).params = true ∧ (linkOf t p).partner = pkBody k
      ∧ ∀ vc, vc = 1 ∨ vc = 2 ∨ vc = 3 → ((linkOf t p).vc vc).limit = beAt (pkBody k) (4 * vc) 4)
  ∧ (∀ (n w : Nat) (x : Shaper) (s : State), SMap.get? s.ot.shapers n = some x → x.wheel = some w → due w s = true →
    Answers (.shaperWheelExpiry n) s fun t =>
      let now' := now (atPs (w - s.clk.tick * tickPs) s)
      (shaperOf t n).last = max now' x.last ∧ (shaperOf t n).tokens
        = min (((shaperCfg s n).depth * 65536 : Nat) : Int) (x.tokens + ((gained (now' - x.last) (shaperCfg s n).rate : Nat) : Int)))
  ∧ (∀ (w : Wing) (i : Image) (v : Nat) (s : State), dpLive s = true → imageAt s (s.clk.tick + 1) = some (i, v) →
    Answers (.chuteDrive w) s fun t =>
      let want := ((chutesAt i (periodTick i (s.clk.tick + 1))).filter fun c => c.1 == w.val).map (·.2)
      (∀ c ∈ (wingOf t w).chutes, c.clearTick = none → (c.i, c.j) ∈ want)
      ∧ ((s.clk.tick + 1) % 8 = 0 → ∀ c ∈ want, (wingOf s w).chutes.any (fun y => y.clearTick.isNone && y.i == c.1 && y.j == c.2) = false →
          ∃ y ∈ (wingOf t w).chutes, y.i = c.1 ∧ y.j = c.2 ∧ y.setTick = s.clk.tick + 1))
  ∧ (∀ (w : Wing) (l : List (Nat × Nat)) (n : Nat) (s : State), (wingOf s w).settleAt = some n → due n s = true →
    Answers (.chuteSettleCheck w l) s fun t => (wingOf t w).settleAt = none
      ∧ ∀ r ∈ l, r.1 < 208 → cellSetting (wingOf s w) r.1 ≠ r.2 → (SMap.get? (wingOf t w).faults r.1).isSome = true)

/-- R79, R115, R126, R149, R152, R153, R155, R164, R165, R304, R305. -/
def Obligations.QueueRows : Prop :=
  let lower := fun (p : Port) (l : Lane) (a : At) (only : OpenPkt → Bool) (s : State) =>
    (List.range l.val).foldl (fun s w => openStart p w only s) (start (atPs a s))
  let sends := fun (p : Port) (l : Lane) (a : At) (only : OpenPkt → Bool) (x : OpenPkt) (s : State) =>
    let v := lower p l a only s
    let u := startAfter p l v
    dpLive v = true ∧ portUp v p = true ∧ portCell v p = false ∧ (carriedLane v p l).isSome = true ∧ laneBusy u p l = false
    ∧ v.hl.gated.contains (benchOf p) = false ∧ shaperDue v = false
    ∧ (chooseOpen p l only (if throttleOf v (dieOf p) < 2 then [3, 2, 1] else [3, 2]) u).2 = some x
  let served := fun (p : Port) (l : Lane) (sl : Slot) (i : Image) (b : Binding) (n : Nat) (s : State) =>
    (entriesBefore (start s) i b n p l (drawTick s sl) sl).foldl (fun s e => serveEntry i b e.1 e.2.1 e.2.2.1 e.2.2.2 s) (start s)
  let turn := fun (p : Port) (l : Lane) (sl : Slot) (i : Image) (b : Binding) (n v : Nat) (s u : State) =>
    dpLive s = true ∧ (s.rp.sync = .current ∨ s.rp.sync = .withdrawing) ∧ entryIn s (drawTick s sl) p l sl = (1, n)
    ∧ imageAt s (drawTick s sl) = some (i, v) ∧ (i.binds.drop n).head? = some b ∧ u = served p l sl i b n s
    ∧ entryServed u p l (drawTick s sl) sl = false ∧ darkOut u (drawTick s sl) p = false ∧ portUp u p = true
    ∧ (servingLane u p l).isSome = true
  let first := fun (p : Port) (sl : Slot) (b : Binding) (t : Nat) (s : State) =>
    scFirst (((if gateOf s b == .openn then s.dp.sc.filter fun x => x.flow == b.flow && t < x.deadline && (!b.multi || x.left.contains p) else []).filter
      fun x => x.ready + pathLead x.port p ≤ slotStart t sl))
  (∀ (p : Port) (l : Lane) (sl : Slot) (r c : Nat) (s : State), laneDriven s p l = true → portFormat s p = 1 → darkOut s s.clk.tick p = false →
    markerRole s p l = some (r, c) →
    Answers (.laneSlotStart p l sl) s fun t => .marker p l (mkMarker sl s.clk.tick (eBit s) r c) ∈ t.out)
  ∧ (∀ (p : Port) (l : Lane) (sl : Slot) (d : Drawn) (s : State), dpLive s = true → portFormat s p = 1 → darkOut s s.clk.tick p = false →
    markerRole s p l = some (1, 0) → portUp s p = true →
    (s.dp.drawn.find? fun d => d.port == p.val && d.lane == l.val && d.tick == s.clk.tick && d.slot == sl.val) = some d →
    Answers (.laneSlotStart p l sl) s fun t => t.dp.drawn = s.dp.drawn.erase d ∧ ∃ k, .packet p l k ∈ t.out)
  ∧ (∀ (p : Port) (l : Lane) (sl : Slot) (i : Image) (b : Binding) (n v : Nat) (s u : State), turn p l sl i b n v s u →
    first p sl b (drawTick s sl) u = none →
    Answers (.scDraw p l sl) s fun t => (p.val * 5 + l.val, drawTick s sl * 25 + sl.val) ∈ t.dp.lent)
  ∧ (∀ (p : Port) (l : Lane) (sl : Slot) (i : Image) (b : Binding) (n v : Nat) (x : ScPkt) (s u : State), turn p l sl i b n v s u →
    first p sl b (drawTick s sl) u = some x →
    let o := SMap.getD u.dp.orders (orderKey b p) orderZero
    refillLate u x o = false → (o.next = none ∨ o.next = some x.seq) →
    Answers (.scDraw p l sl) s fun t => ∃ d ∈ t.dp.drawn, d.port = p.val ∧ d.lane = l.val ∧ d.tick = drawTick s sl ∧ d.slot = sl.val
      ∧ d.id = x.id ∧ d.pkt = x.pkt)
  ∧ (∀ (p : Port) (l : Lane) (a : At) (x : OpenPkt) (s : State), sends p l a (fun _ => true) x s →
    Answers (.egressStart p l a) s fun t => (∃ k, .packet p l k ∈ t.out) ∧ ∀ y ∈ t.dp.openq, y.id ≠ x.id)
  ∧ (∀ (p : Port) (l : Lane) (a : At) (x : OpenPkt) (s : State), sends p l a (fun y => isEvent s y.pkt) x s →
    Answers (.ptpEventForward p l a) s fun t => (∃ k, .packet p l k ∈ t.out) ∧ ∀ y ∈ t.dp.openq, y.id ≠ x.id)
  ∧ (∀ (n : Nat) (x : OpenPkt) (hop : Hop) (b q : Nat) (s : State), (s.dp.openq.drop n).head? = some x → x.safe = some hop → x.blocked = some b →
    x.vc = Vc.OC0 → due (b + Cfg.PKT_ESCAPE_NS s * 1000) s = true → (selectPort hop x.port x.pkt s).2 = some q →
    (portCell s q = true → cellFits (pkSetVc x.pkt Vc.OC1) = true) →
    Answers (.escapeMove n) s fun t => (∃ y ∈ t.dp.openq, y.id = x.id ∧ y.egress = q ∧ y.vc = Vc.OC1 ∧ y.escaped = true)
      ∧ getNum t E.PKT_ESCAPE_MOVES 0 = (getNum s E.PKT_ESCAPE_MOVES 0 + 1) % 2 ^ 64)
  ∧ (∀ (p : Port) (vc n : Nat) (s : State), vc = 1 ∨ vc = 2 ∨ vc = 3 → ((linkOf s p).vc vc).stallSince = some n →
    due (n + Cfg.PKT_CREDIT_STALL_US s * 1000000) s = true → darkIn s p = false → onceKey Ev.PKT_CREDIT_STALL (p.val * 4 + vc) s = false →
    s.hl.power ≠ .rest →
    Answers (.creditStall p vc) s fun t => NewestEvent t Ev.PKT_CREDIT_STALL [.u16 p, .u8 vc])
  ∧ (∀ (n h d : Nat) (x : OpenPkt) (s : State), (s.dp.openq.drop n).head? = some x → x.headAt = some h → headLimit s x.pkt = some d →
    due (h + d) s = true → (portState s x.egress = .held → now (atPs (h + d - s.clk.tick * tickPs) s) < (portOf s x.egress).holdEnd) →
    Answers (.headDrop n) s fun t => (∀ y ∈ t.dp.openq, y.id ≠ x.id) ∧ getNum t E.OT_HEAD_DROPS 0 = (getNum s E.OT_HEAD_DROPS 0 + 1) % 2 ^ 64)
  ∧ (∀ (n e : Nat) (x : OpenPkt) (s : State), (s.dp.openq.drop n).head? = some x → x.expire = some e → due ((e + 1) * tickPs) s = true →
    Answers (.timeMsgExpire n) s fun t => (∀ y ∈ t.dp.openq, y.id ≠ x.id) ∧ getNum t E.FT_MSG_DROPPED 0 = (getNum s E.FT_MSG_DROPPED 0 + 1) % 2 ^ 64)
  ∧ (∀ s : State, Answers .scDeadlineDrop s fun t => t.dp.sc = s.dp.sc.filter fun x => !(decide (x.deadline ≤ s.clk.tick) && !closeDue s x.job))
  ∧ (∀ (flow n : Nat) (o : Nat × Order) (s : State), (s.dp.orders.find? fun o => o.1 / 1024 == flow) = some o → o.2.emptySince = some n →
    due (n + Cfg.DP_RESEQ_IDLE_US s * 1000000) s = true →
    Answers (.reseqIdleExpiry flow) s fun t => t.dp.orders = s.dp.orders.filter fun o => o.1 / 1024 != flow)
  ∧ (∀ (id : Nat) (x : ScPkt) (s : State), (s.dp.sc.find? fun x => x.id == id) = some x →
    let ahead := s.dp.sc.filter fun y => y.flow == x.flow && benchOf y.port == benchOf x.port && y.id != x.id && scBefore y x
    (∀ y ∈ ahead, y.inStrata = false) →
    Answers (.refillComplete id) s fun t => t.dp.openq = s.dp.openq ∧ t.dp.sc.map (·.id) = s.dp.sc.map (·.id)
      ∧ ∃ y ∈ t.dp.sc, y.id = id ∧ y.pkt = x.pkt
        ∧ y.pooled = x.pooled + poolRefill s (benchOf x.port) (sumNat (ahead.map (·.pooled))) x.pooled (pkBlocks x.pkt))
  ∧ (∀ (id : Nat) (x : OpenPkt) (s : State), (s.dp.sc.find? fun x => x.id == id) = none → (s.dp.openq.find? fun x => x.id == id) = some x →
    let ahead := (s.dp.openq.takeWhile fun y => y.id != id).filter fun y => benchOf y.port == benchOf x.port && y.egress == x.egress && y.vc == x.vc
    (∀ y ∈ ahead, y.inStrata = false) → scRefillDue s (benchOf x.port) = false →
    Answers (.refillComplete id) s fun t => t.dp.sc = s.dp.sc ∧ t.dp.openq.map (·.id) = s.dp.openq.map (·.id)
      ∧ ∃ y ∈ t.dp.openq, y.id = id ∧ y.pkt = x.pkt
        ∧ y.pooled = x.pooled + poolRefill s (benchOf x.port) (sumNat (ahead.map (·.pooled))) x.pooled (pkBlocks x.pkt))
  ∧ (∀ (id : Nat) (s : State), (s.dp.openq.any fun x => x.id == id && x.inStrata) = true →
    Answers (.strataReadError id) s fun t => (∀ x ∈ t.dp.openq, x.id ≠ id) ∧ ∀ x ∈ t.dp.sc, ¬ (x.id = id ∧ x.inStrata = true))
  ∧ (∀ (p : Port) (why : DownCause) (s : State), portState s p = .inService →
    (why = .lanes ∧ darkOut s s.clk.tick p = false ∧ (List.range 4).any (fun l => (servingLane s p l).isSome) = false)
      ∨ (why = .markers ∧ darkIn s p = false ∧ (portFormat s p = 1 → markersSeen s p = false))
      ∨ (why = .training ∧ darkIn s p = false ∧ darkOut s s.clk.tick p = false) →
    Answers (.portDown p why) s fun t =>
      (portOf t p).state = if partnerLeft s p = true ∨ Cfg.DP_FLAP_HOLD_US s = 0 then .down else .held)
  ∧ (∀ (p : Port) (s : State), portState s p = .held → due (portOf s p).holdEnd s = true →
    Answers (.flapHoldExpiry p) s fun t => (portOf t p).state = .down ∧ ∀ x ∈ t.dp.openq, x.egress ≠ p.val)
  ∧ (∀ (p : Port) (s : State), portState s p ≠ .inService → portState s p ≠ .disabled → (portOf s p).trained = true →
    (portFormat s p = 2 ∨ darkIn s p = true ∨ markersSeen s p = true) →
    (∀ d, d < 2 → (List.range 4).any (fun l => laneSt s p d l == .inService || laneSt s p d l == .moved) = true) →
    ((SMap.get? s.hl.neighbours p).any fun n => n.state == .fenced) = false → benchServes s (benchOf p) = true →
    Answers (.portUp p) s fun t => (portOf t p).state = .inService)

/-- R312, R315 to R317, R320, R323, R327 to R330, R336, R337. -/
def Obligations.OpticRows : Prop :=
  let msg := fun (kind : Nat) (p : Port) (k : Packet) (s u : State) =>
    pkOp k = Op.LANE_MOVE ∧ bits (mvWord k) 24 8 = kind ∧ portFormat s p = 1 ∧ dpLive s = true ∧ u = hearEpoch p k (fromInbox p k (start s))
  let at' := fun (n : Nat) (m : Move) (st : MoveSt) (tick : Nat) (s : State) =>
    (s.op.moves.drop n).head? = some m ∧ m.state = st ∧ m.S ≠ 0 ∧ due (tick * tickPs) s = true
  (∀ (r : PollReadings) (s : State), s.hl.power ≠ .off → pollDue s = true → Answers (.elsPoll r) s fun t => ∀ e, e < 80 →
    let x := elsOf s e
    let y := elsOf t e
    (x.state = .absent → y = x)
    ∧ (x.state ≠ .absent → x.pending <+: y.pending ∧ x.pending.length + 25 ≤ y.pending.length)
    ∧ (x.state ≠ .absent → elsSteered x = true → ∀ k, 1 ≤ k → k ≤ 8 → ∀ v, ((r.feeds.find? fun f => f.1 == 8 * e + (k - 1)).map (·.2)) = some v →
        let b := SMap.getD x.bias k 0
        SMap.getD y.bias k 0 = if v < Cfg.OP_FEED_TARGET_DBM s - 20 ∧ b < 200 then min (b + Cfg.OP_ELS_BIAS_STEP_PCT s) 200
          else if v > Cfg.OP_FEED_TARGET_DBM s + 20 then min (b - Cfg.OP_ELS_BIAS_STEP_PCT s) 200 else b))
  ∧ (∀ (e : Nat) (f : Bytes) (a : ElsAccess) (s : State),
    ((elsOf s e).pending.find? fun a => a.seq == beAt f 2 2 && bits (beAt f 0 2) 12 4 == (if a.write then 0xA else 0x9)) = some a →
    Answers (.elsResponse e f) s fun t => (elsOf s e).pending.erase a <+: (elsOf t e).pending
      ∧ (a.item ≠ 0 → (elsOf t e).pending = (elsOf s e).pending.erase a
        ∧ ((elsOf s e).state = .notResponding → (elsOf t e).state = (elsOf s e).before))
      ∧ (bits (beAt f 0 2) 8 4 = 0 → a.write = false → a.item = 1 → (elsOf t e).temp = toSigned 8 (beAt (f.drop 8) 0 1)))
  ∧ (∀ (e n : Nat) (a : ElsAccess) (s : State), ((elsOf s e).pending.drop n).head? = some a → due a.dueAt s = true →
    Answers (.elsAccessTimeout e n) s fun t =>
      (a.tries < 3 → .els e a.frame ∈ t.out ∧ (((elsOf t e).pending.drop n).head?.map (·.tries)) = some (a.tries + 1))
      ∧ (3 ≤ a.tries → (elsOf t e).pending = listErase (elsOf s e).pending n ∧ ((elsOf s e).state ≠ .absent → (elsOf t e).state = .notResponding)
          ∧ getNum t E.OP_ELS_TIMEOUTS 0 = (getNum s E.OP_ELS_TIMEOUTS 0 + 1) % 2 ^ 64))
  ∧ (∀ (e : Nat) (b : Bytes) (s : State), e < 80 → Answers (.elsModuleFitted e b) s fun t =>
      (elsOf t e).state = (if beAt b 0 4 = waveGhz (e % 5) then .starting else .lost) ∧ [0xFF, 1, 2, 3, 4, 5, 6, 7, 8] <+: (elsOf t e).pending.map (·.output))
  ∧ (∀ (n : Nat) (found : Option Int) (s : State), n < 5120 → (ringOf s n).state = .searching → (ringOf s n).retry = false →
    (∀ h, found = some h → inSearch s n h = false) →
    Answers (.ringSearchDone n found) s fun t => ringOf t n = { ringOf s n with retry := true })
  ∧ (∀ (n : Nat) (h : Int) (s : State), n < 5120 → (ringOf s n).state = .searching → (ringOf s n).retry = false → inSearch s n h = true →
    Answers (.ringSearchDone n (some h)) s fun t => (ringOf t n).state = .acquiring
      ∧ (ringOf t n).heater = ratClamp 0 24 ((h : Rat) / 1000 / ratOf32 (efficiencyOf s n)))
  ∧ (∀ (p : Port) (l : Lane) (i : Bool) (s : State), l.val ≠ 4 → laneSt s p (b2n i) l = .training → (ringOf s (ringNo p (b2n i) l)).state = .locked →
    (i = false ∨ portCell s p = true ∨ 16 ≤ SMap.getD s.op.markers (p.val * 5 + l.val) 0) → dpLive s = true →
    Answers (.laneTrained p l i) s fun t => laneSt t p (b2n i) l = .inService)
  ∧ (∀ (p : Port) (k : Packet) (s u : State), msg 5 p k s u →
    Answers (.reportReceived p k) s fun t => SMap.get? t.op.reports p.val = some { frame := frameOf s, m2 := (List.range 5).map fun l => toSigned 8 (beAt (pkBody k) (0x10 + l) 1) * 25, m3 := (List.range 5).map fun l => toSigned 8 (beAt (pkBody k) (0x15 + l) 1) * 25, lock := beAt (pkBody k) 0x1A 1 })
  ∧ (∀ (p : Port) (k : Packet) (s u : State), msg 1 p k s u → mvSrc k < 4 → mvDst k = 4 → s.clk.tick + 60 ≤ mvTick k →
    laneSt u p (mvDir k) (mvSrc k) = .inService → reserveFree u p (mvDir k) = true →
    (∀ m ∈ u.op.moves, m.port = p.val → m.dir = mvDir k → m.src = mvSrc k → m.state ≠ .proposed) →
    Answers (.laneMovePropose p k) s fun t => t.op.moves = u.op.moves ++ [{ id := mvId k, port := p, src := mvSrc k, dst := 4, dir := mvDir k, reason := mvReason k, state := .accepted, S := mvTick k, mine := false }]
      ∧ t.op.outbox = u.op.outbox ++ [(p.val, moveBody 2 (mvSrc k) 4 (mvDir k) (mvReason k) 0 (mvId k) (mvTick k))])
  ∧ (∀ (p : Port) (k : Packet) (s u : State), msg 1 p k s u → mvSrc k < 4 → mvDst k = 4 → mvTick k < s.clk.tick + 60 →
    (∀ m ∈ u.op.moves, m.port = p.val → m.dir = mvDir k → m.src = mvSrc k → m.state ≠ .proposed) →
    Answers (.laneMovePropose p k) s fun t => t.op.moves = u.op.moves
      ∧ t.op.outbox = u.op.outbox ++ [(p.val, moveBody 3 (mvSrc k) 4 (mvDir k) (mvReason k) 2 (mvId k) (mvTick k))])
  ∧ (∀ (p : Port) (k : Packet) (m : Move) (s u : State), msg 2 p k s u → moveFind u p (mvId k) = some m → m.mine = true → m.state = .proposed →
    s.clk.tick + 2 ≤ m.S →
    Answers (.laneMoveAccept p k) s fun t => t.op.moves = u.op.moves.map fun x => if x = m then { m with state := .accepted } else x)
  ∧ (∀ (p : Port) (k : Packet) (m : Move) (s u : State), msg 3 p k s u → moveFind u p (mvId k) = some m → (m.state = .proposed ∨ m.state = .accepted) → m.src ≠ 4 →
    Answers (.laneMoveRefuse p k) s fun t => t.op.moves = u.op.moves.erase m
      ∧ getNum t E.OP_MOVES_REFUSED 0 = (getNum s E.OP_MOVES_REFUSED 0 + 1) % 2 ^ 64)
  ∧ (∀ (p : Port) (k : Packet) (s u : State), msg 4 p k s u → mvDir k = 0 → mvSrc k < 4 → laneSt u p 0 (mvSrc k) = .inService →
    Answers (.laneMoveFault p k) s fun t => laneSt t p 0 (mvSrc k) = .fault
      ∧ t.op.moves.getLast? = some { id := mvId k, port := p, src := mvSrc k, dst := 4, dir := 0, reason := 3, state := .accepted, S := s.clk.tick + 1, mine := false })
  ∧ (∀ (n : Nat) (m : Move) (s : State), at' n m .accepted (m.S - 1) s → moveFault m = false → darkIn s m.port = false →
    Answers (.moveDuplicateTick n) s fun t =>
      (m.dst = 4 → reserveHeld s m.port m.dir = .idle → reserveHeld t m.port m.dir = .carrying m.src)
      ∧ (m.dst = 4 → m.src ≠ 4 → reserveHeld s m.port m.dir ≠ .idle → t.op.moves = s.op.moves.erase m)
      ∧ (m.dst ≠ 4 → laneSt t m.port m.dir m.dst = .inService))
  ∧ (∀ (n : Nat) (m : Move) (s : State), at' n m .accepted m.S s → moveFault m = false → darkIn s m.port = false →
    Answers (.moveSwitch n) s fun t =>
      (m.dst = 4 → (reserveHeld s m.port m.dir = .idle ∨ reserveHeld s m.port m.dir = .carrying m.src) →
        laneSt t m.port m.dir m.src = .moved ∧ reserveHeld t m.port m.dir = .carrying m.src ∧ { m with state := .inForce } ∈ t.op.moves)
      ∧ (m.dst ≠ 4 → laneSt t m.port m.dir m.dst = .inService ∧ ∀ x ∈ t.op.moves, x.port = m.port → x.dir = m.dir → x.src ≠ m.dst))
  ∧ (∀ (n : Nat) (m : Move) (s : State), at' n m .accepted m.S s → moveFault m = false → darkIn s m.port = true → m.src ≠ 4 →
    Answers (.moveSwitch n) s fun t => t.op.moves = s.op.moves.erase m)
  ∧ (∀ (n : Nat) (m : Move) (s : State), at' n m .proposed (m.S - 1) s → m.src ≠ 4 → Answers (.moveAbandon n) s fun t =>
      t.op.moves = s.op.moves.erase m ∧ getNum t E.OP_MOVES_ABANDONED 0 = (getNum s E.OP_MOVES_ABANDONED 0 + 1) % 2 ^ 64)
  ∧ (∀ (p : Port) (l : Lane) (n : Nat) (s : State), SMap.get? s.op.faultSent (laneKey p 1 l) = some n → due ((n + 4) * tickPs) s = true →
    darkIn s p = false → laneSt s p 1 l = .fault → shownRole s p 4 ≠ some (2, l.val) →
    Answers (.partnerSilent p l) s fun t => laneSt t p 1 l = .fault ∧ SMap.get? t.op.faultSent (laneKey p 1 l) = some s.clk.tick
      ∧ t.op.outbox = s.op.outbox ++ [(p.val, moveBody 4 l.val 4 1 3 0 s.op.nextMove (s.clk.tick + 1))])
  ∧ (∀ (p : Port) (l : Lane) (d n : Nat) (s : State), d < 2 → l.val ≠ 4 → dpLive s = true → (ringOf s (ringNo p d l)).lockedAt = some n →
    n + Cfg.OP_RETURN_HOLD_TICKS s ≤ s.clk.tick → laneSt s p d l = .fault →
    Answers (.laneReturnHold p l) s fun t => laneKey p d l ∈ t.op.back)
  ∧ (∀ (p : Port) (l : Lane) (d n : Nat) (m : Move) (s : State), d < 2 → l.val ≠ 4 → dpLive s = true → (ringOf s (ringNo p d l)).lockedAt = some n →
    n + Cfg.OP_RETURN_HOLD_TICKS s ≤ s.clk.tick → laneSt s p d l = .moved →
    (s.op.moves.find? fun m => m.port == p.val && m.dir == d && m.src == l.val && m.state == .inForce) = some m →
    m.S + Cfg.OP_RETURN_HOLD_TICKS s ≤ s.clk.tick → causeGone s m = true →
    Answers (.laneReturnHold p l) s fun t => ∃ x ∈ t.op.moves, x.port = p.val ∧ x.dir = d ∧ x.src = 4 ∧ x.dst = l.val ∧ x.state = .proposed)
  ∧ (∀ (e : Nat) (s : State), (elsOf s e).preparing = true →
    (∀ m ∈ s.op.moves, 32 * (e / 5) ≤ m.port → m.port < 32 * (e / 5) + 32 → m.dir = 0 → m.src = e % 5 → m.state ≠ .proposed ∧ m.state ≠ .accepted) →
    Answers (.elsReadyToRemove e) s fun t => (elsOf t e).state = .readyToRemove ∧ (elsOf t e).preparing = false
      ∧ (s.hl.power ≠ .rest → onceKey Ev.OP_ELS_READY e s = false → NewestEvent t Ev.OP_ELS_READY [.u8 e, .units (elsOf t e).stuck]))
  ∧ (∀ (p : Port) (l : Lane) (r : CalResult) (s : State), laneSt s p 0 l = .calibrating →
    Answers (.calibrationDone p l r) s fun t => (∀ d, d < 2 → (ringOf t (ringNo p d l)).state = .acquiring
        ∧ (r.pass = true → SMap.get? t.op.efficiency (ringNo p d l) = some r.efficiency))
      ∧ getNum t E.OP_CAL_DONE 0 = (getNum s E.OP_CAL_DONE 0 + 1) % 2 ^ 64
      ∧ (s.hl.power ≠ .rest → onceKey Ev.OP_CAL_DONE p s = false → NewestEvent t Ev.OP_CAL_DONE [.u16 p, .u8 l, .u8 (b2n r.pass)]))

/-- R183, R195 to R198, R209. The run-time rows of the crusher, each where its own checks are passed. -/
def Obligations.CrusherRows : Prop :=
  let accepted := fun (p : Port) (k : Packet) (r : Recipe) (s : State) =>
    let x := recOf s r
    let d := serialDist 24 (pkChunk k) x.base
    dpLive s = true ∧ x.gate = .openn ∧ pkJob k = r.job ∧ pkMember k < r.n ∧ blockBench r (pkMember k / 2 ^ r.shift) = benchOf p
    ∧ pkLen k = inBytes r ∧ d < 2 ^ 23 ∧ d < r.window ∧ x.closed.contains (pkChunk k) = false
    ∧ (∀ o, chunkOf x (pkChunk k) = some o → pkMember k ∉ o.members ∧ (o.complete = true ∨ s.clk.tick < o.deadline))
    ∧ accRoom s (benchOf p) r = true
  let joined := fun (p : Port) (k : Packet) (r : Recipe) (s t : State) =>
    SMap.get? (recOf t r).lastFrom p = some s.clk.tick ∧ ∀ o, chunkOf (recOf t r) (pkChunk k) = some o → pkMember k ∈ o.members
  (∀ (p : Port) (k : Packet) (slot : Nat) (r : Recipe) (s : State), pkOp k = Op.RED_CONTRIB → recipeOf s (pkColl k) = some (slot, r) →
    rBarrier r = false → accepted p k r s → Answers (.redContrib p k) s (joined p k r s))
  ∧ (∀ (p : Port) (k : Packet) (slot : Nat) (r : Recipe) (s : State), pkOp k = Op.BARRIER → recipeOf s (pkColl k) = some (slot, r) →
    rBarrier r = true → accepted p k r s → Answers (.barrier p k) s (joined p k r s))
  ∧ (∀ (n slot : Nat) (q : Partial) (r : Recipe) (o : Chunk) (s : State), (s.cr.partials.drop n).head? = some q →
    recipeOf s q.coll = some (slot, r) → chunkOf (recOf s r) q.chunk = some o → accRoom s (nodeBench r q.level q.index) r = true →
    Answers (.partialArrival n) s fun t =>
      let held := ((o.nodes.find? fun x => x.level == q.level && x.index == q.index).map (·.held)).getD []
      let step := nodeLoop r.op (fmtInt r.inFmt) r.n (nodeRange r q.level q.index).2 16 held q.opd 0
      (step.out = none → t.cr.partials = listErase s.cr.partials n
        ∧ ∃ o', chunkOf (recOf t r) q.chunk = some o' ∧ { level := q.level, index := q.index, held := step.held } ∈ o'.nodes)
      ∧ (∀ v, step.out = some v → q.level ≠ rTop r → t.cr.partials = listErase s.cr.partials n ++
        [{ coll := r.coll, chunk := q.chunk, level := q.level + 1, index := q.index / 4,
           opd := { lo := (nodeRange r q.level q.index).1, size := (nodeRange r q.level q.index).2, vals := (roundPartial r q.chunk v).1 } }])
      ∧ (∀ v, step.out = some v → q.level = rTop r → t.cr.partials = listErase s.cr.partials n ∧ s.cr.moves <+: t.cr.moves))
  ∧ (∀ (n : Nat) (m : ResultMove) (s : State), (s.cr.moves.drop n).head? = some m →
    Answers (.resultArrival n) s fun t => t.cr.moves = listErase s.cr.moves n
      ∧ if m.orphan = 1 ∨ m.orphan = 2 then t.cr.results = s.cr.results
        else ∀ p ∈ m.ports, { coll := m.coll, port := p, chunk := m.chunk, payload := m.payload, tick := s.clk.tick, at' := now s } ∈ t.cr.results)
  ∧ (∀ (coll chunk slot : Nat) (r : Recipe) (o : Chunk) (s : State), recipeOf s coll = some (slot, r) → chunkOf (recOf s r) chunk = some o →
    o.unfinished = true → due (o.deadline * tickPs) s = true →
    Answers (.chunkTimeout coll chunk) s fun t => chunkOf (recOf t r) chunk = none
      ∧ t.cr.log.head? = some (crRecord slot r chunk 1 s.clk.tick ((List.range r.n).filter fun m => !o.members.contains m)))
  ∧ (∀ (n slot : Nat) (x : ResultQ) (r : Recipe) (s : State), (s.cr.results.drop n).head? = some x → recipeOf s x.coll = some (slot, r) →
    due ((x.tick + r.dwell) * tickPs) s = true →
    Answers (.resultDwellExpiry n) s fun t => t.cr.results = listErase s.cr.results n
      ∧ getNum t E.CR_RESULT_DEADLINE_DROPS 0 = (getNum s E.CR_RESULT_DEADLINE_DROPS 0 + 1) % 2 ^ 64)
  ∧ (∀ (p : Port) (l : Lane) (sl : Slot) (opd w v : Nat) (i : Image) (r : Recipe) (x : ResultQ) (s : State), dpLive s = true →
    entryIn s s.clk.tick p l sl = (2, opd) → darkOut s s.clk.tick p = false → portUp s p = true → carries s = true →
    imageAt s s.clk.tick = some (i, v) → SMap.get? i.recipes opd = some r → servingLane s p l = some w → r.type ≠ 5 →
    (s.cr.results.find? fun y => y.coll == r.coll && y.port == p.val && y.at' + 34000 ≤ slotStart s.clk.tick sl) = some x →
    Answers (.recipeResultEntry p l sl) s fun t => t.cr.results = s.cr.results.erase x
      ∧ .packet p w (mkData { vc := Vc.SC, e := eBit s, dest := r.group, op := (if rBarrier r then Op.BARRIER else Op.RED_RESULT), src := posFa s, flow := r.flow, m := true, seq := x.chunk % 2 ^ 16, job := r.job, member := 0, hop := Cfg.PKT_ORIGIN_HOP_LIMIT s, operand := r.coll * 2 ^ 24 + x.chunk } x.payload (stampNow (atPs (sl.val * 40960) s))) ∈ t.out)

/-- R202, R218, R227 to R231. A flag whose position is the base is released at once. -/
def Obligations.MemoryRows : Prop :=
  let rq := fun (p : Port) (k : Packet) (c : Bool) => ({ pkt := k, port := p, cell := c } : MemReq)
  let fresh := fun (op : Nat) (p : Port) (k : Packet) (s : State) => pkOp k = op ∧ dpLive s = true ∧ fenced s (pkSrc k) = false
    ∧ portCell s p = false ∧ SMap.get? s.fm.sources (pkSrc k) = none ∧ s.fm.sources.length < 4096
  let begun := fun (p : Port) (k : Packet) (s t : State) => t.fm.applies = s.fm.applies ++ [{ req := rq p k false, sequenced := true, again := false }]
    ∧ (∃ x, SMap.get? t.fm.sources (pkSrc k) = some x ∧ x.base = pkSeq k ∧ SMap.get? x.window (pkSeq k) = some .progress ∧ x.held = [])
    ∧ getNum t E.FM_REQUESTS 0 = (getNum s E.FM_REQUESTS 0 + 1) % 2 ^ 64
  let known := fun (op : Nat) (p : Port) (k : Packet) (x : SourceSlot) (s : State) => pkOp k = op ∧ dpLive s = true ∧ fenced s (pkSrc k) = false
    ∧ portCell s p = false ∧ SMap.get? s.fm.sources (pkSrc k) = some x ∧ x.young = false ∧ (∀ e ∈ x.replay, e.seq ≠ pkSeq k)
    ∧ serialDist 16 (pkSeq k) x.base < 256 ∧ SMap.get? x.window (pkSeq k) = none
  let goes := fun (p : Port) (k : Packet) (s t : State) => t.fm.applies = s.fm.applies ++ [{ req := rq p k false, sequenced := true, again := false }]
  let cell := fun (op : Nat) (p : Port) (k : Packet) (s : State) => pkOp k = op ∧ dpLive s = true ∧ fenced s (pkSrc k) = false ∧ portCell s p = true
  let loose := fun (p : Port) (k : Packet) (s t : State) => t.fm.applies = s.fm.applies ++ [{ req := rq p k true, sequenced := false, again := false }]
  let next := fun (n : Nat) (a : MemApply) (op : Nat) (s : State) => dpLive s = true ∧ (s.fm.applies.drop n).head? = some a ∧ rqOp a.req = op
  let done := fun (a : MemApply) (n : Nat) (code old : Option Nat) (s t : State) => t.fm.applies = listErase s.fm.applies n
    ∧ (a.sequenced = true → t.fm.outcomes = s.fm.outcomes ++ [{ src := rqSrc a.req, seq := rqSeq a.req, op := rqOp a.req, code := code, old := old, how := appliedNow s a.req }])
  let holds := fun (m : Nat) (d : List Host.Cell) (t : State) => ∃ r, SMap.get? t.fm.regions m = some r ∧ r.data = d
  (∀ (p : Port) (k : Packet) (s : State), fresh Op.MEM_LOAD p k s → Answers (.memLoad p k) s (begun p k s))
  ∧ (∀ (p : Port) (k : Packet) (s : State), fresh Op.MEM_STORE p k s → Answers (.memStore p k) s (begun p k s))
  ∧ (∀ (p : Port) (k : Packet) (s : State), fresh Op.MEM_STORE_FLAG p k s → Answers (.memStoreFlag p k) s (begun p k s))
  ∧ (∀ (p : Port) (k : Packet) (s : State), fresh Op.MEM_ATOMIC p k s → Answers (.memAtomic p k) s (begun p k s))
  ∧ (∀ (p : Port) (k : Packet) (s : State), fresh Op.MEM_REDUCE_STORE p k s → Answers (.memReduceStore p k) s (begun p k s))
  ∧ (∀ (p : Port) (k : Packet) (x : SourceSlot) (s : State), known Op.MEM_LOAD p k x s → Answers (.memLoad p k) s (goes p k s))
  ∧ (∀ (p : Port) (k : Packet) (x : SourceSlot) (s : State), known Op.MEM_STORE p k x s → Answers (.memStore p k) s (goes p k s))
  ∧ (∀ (p : Port) (k : Packet) (x : SourceSlot) (s : State), known Op.MEM_ATOMIC p k x s → Answers (.memAtomic p k) s (goes p k s))
  ∧ (∀ (p : Port) (k : Packet) (x : SourceSlot) (s : State), known Op.MEM_REDUCE_STORE p k x s → Answers (.memReduceStore p k) s (goes p k s))
  ∧ (∀ (p : Port) (k : Packet) (s : State), cell Op.MEM_LOAD p k s → Answers (.memLoad p k) s (loose p k s))
  ∧ (∀ (p : Port) (k : Packet) (s : State), cell Op.MEM_STORE p k s → Answers (.memStore p k) s (loose p k s))
  ∧ (∀ (n m : Nat) (a : MemApply) (r : Region) (s : State), next n a Op.MEM_LOAD s → memCheck s a.req = .ok (.region m r) →
    Answers (.memApply n []) s fun t => t.fm.regions = s.fm.regions ∧ done a n none none s t)
  ∧ (∀ (n m op : Nat) (a : MemApply) (r : Region) (l : List Nat) (s : State), op = Op.MEM_STORE ∨ op = Op.MEM_STORE_FLAG → next n a op s →
    memCheck s a.req = .ok (.region m r) →
    Answers (.memApply n l) s fun t => holds m (cellsWrite r.data (rqOff a.req - r.base) (rqData a.req)) t ∧ done a n none none s t)
  ∧ (∀ (n m : Nat) (a : MemApply) (r : Region) (s : State), next n a Op.MEM_ATOMIC s → memCheck s a.req = .ok (.region m r) →
    Answers (.memApply n []) s fun t =>
      let w := rqWidth a.req
      let old := beNat (cellsRead r.data (rqOff a.req - r.base) w)
      let v := atomicNew (rqSub a.req) (8 * w) (rqUnsigned a.req) old (beAt (rqData a.req) 0 8 % 2 ^ (8 * w)) (beAt (rqData a.req) 8 8 % 2 ^ (8 * w))
      holds m (cellsWrite r.data (rqOff a.req - r.base) (beBytes w v)) t ∧ done a n none (some old) s t)
  ∧ (∀ (n m : Nat) (a : MemApply) (r : Region) (s : State), next n a Op.MEM_REDUCE_STORE s → memCheck s a.req = .ok (.region m r) →
    Answers (.memApply n []) s fun t =>
      let c := (reduceStore (rqFmt a.req) (rqSub a.req) (rqStoch a.req) (cellsRead r.data (rqOff a.req - r.base) (rqData a.req).length) (rqData a.req)).1
      holds m (cellsWrite r.data (rqOff a.req - r.base) c.bytes) t ∧ done a n none none s t)
  ∧ (∀ (n m l : Nat) (a : MemApply) (r : Region) (s : State), dpLive s = true → (s.fm.applies.drop n).head? = some a →
    rqReads a.req = true → rqRegion s a.req = some (m, r) → SMap.get? s.fm.regions m = some r →
    l ∈ linesOf (rqOff a.req - r.base) (rqSpan a.req) → memCheck s a.req = .ok (.region m r) →
    Answers (.memApply n [l]) s fun t => t.fm.applies = listErase s.fm.applies n
      ∧ holds m r.data t ∧ (∃ y, SMap.get? t.fm.regions m = some y ∧ l ∈ y.poison))
  ∧ (∀ (n c : Nat) (a : MemApply) (s : State), dpLive s = true → (s.fm.applies.drop n).head? = some a → memCheck s a.req = .error c →
    Answers (.memApply n []) s fun t => t.fm.regions = s.fm.regions ∧ done a n (some c) none s t)
  ∧ (∀ (n : Nat) (o : MemOutcome) (x : SourceSlot) (s : State), (s.fm.outcomes.drop n).head? = some o → SMap.get? s.fm.sources o.src = some x →
    x.base = o.seq → x.window = [(o.seq, .progress)] → x.waiting = [] → x.held = [] →
    Answers (.memOutcome n) s fun t => t.fm.outcomes = listErase s.fm.outcomes n
      ∧ ∃ y, SMap.get? t.fm.sources o.src = some y ∧ y.base = (o.seq + 1) % 2 ^ 16 ∧ y.window = []
        ∧ (o.code ≠ none → o.op ≠ Op.MEM_LOAD → y.fault = some o.seq))
  ∧ (∀ (fa : FA) (x : SourceSlot) (g : Nat) (s : State), SMap.get? s.fm.sources fa.toNat = some x → x.gapEnd = some g → due g s = true →
    dpLive s = true →
    Answers (.gapTimerExpiry fa) s fun t => getNum t E.FM_SEQ_DECLARED_LOST 0
      = (getNum s E.FM_SEQ_DECLARED_LOST 0 + (x.gaps.filter fun q => (gapsOf x).contains q).length) % 2 ^ 64)
  ∧ (∀ (fa : FA) (x : SourceSlot) (s : State), SMap.get? s.fm.sources fa.toNat = some x →
    due (x.allocated + Cfg.FM_GAP_HOLD_US s * 1000000) s = true →
    Answers (.sourceYoungExpiry fa) s fun t => SMap.get? t.fm.sources fa.toNat = some { x with young := false })

/-- R217, R236, R474. The answers that the mirror sender and the sender of a takeover stream wait for, and the stream's next write. -/
def Obligations.MirrorRows : Prop :=
  let mine := fun (k : Packet) (s : State) => pkSrc k = Cfg.FM_MIRROR_PARTNER s % 2 ^ 24 ∧ s.fm.mirror ≠ .off
    ∧ ∃ w ∈ s.fm.log, w.seq = some (pkSeq k)
  let hit := fun (k : Packet) (w : MirrorWrite) => w.seq == some (pkSeq k)
  (∀ (p : Port) (k : Packet) (s : State), pkOp k = Op.MEM_ACK → mine k s →
    Answers (.mirrorResponse p k) s fun t =>
      t.fm.log.map (fun w => (w.offset, w.body)) = (s.fm.log.filter fun w => !hit k w).map fun w => (w.offset, w.body))
  ∧ (∀ (p : Port) (k : Packet) (s : State), pkOp k = Op.MEM_NACK → bits (beAt (pkBody k) 0 4) 16 8 = 0x09 → mine k s →
    Answers (.mirrorResponse p k) s fun t => getNum t E.FM_MIRROR_RESENDS 0
      = (getNum s E.FM_MIRROR_RESENDS 0 + (s.fm.log.filter (hit k)).length) % 2 ^ 64)
  ∧ (∀ (p : Port) (k : Packet) (s : State), pkOp k = Op.MEM_ACK ∨ pkOp k = Op.MEM_NACK → ¬ mine k s → streamSending s = none →
    Answers (.mirrorResponse p k) s fun t => t.fm = s.fm
      ∧ getNum t E.FM_STRAY_RESPONSES 0 = (getNum s E.FM_STRAY_RESPONSES 0 + 1) % 2 ^ 64)
  ∧ (∀ (n : Nat) (w : MirrorWrite) (s : State), (s.fm.log.drop n).head? = some w → w.seq ≠ none → s.fm.mirror ≠ .off → dpLive s = true →
    due w.dueAt s = true →
    Answers (.mirrorAckTimeout n) s fun t => getNum t E.FM_MIRROR_RESENDS 0 = (getNum s E.FM_MIRROR_RESENDS 0 + 1) % 2 ^ 64
      ∧ t.fm.log = listSet s.fm.log n { w with dueAt := now (atPs (w.dueAt - s.clk.tick * tickPs) s) + Cfg.FM_MIRROR_ACK_US s * 1000000 })
  ∧ (∀ (n : Nat) (x : Stream) (w : MirrorWrite) (s : State), (s.fm.log.drop n).head? = none → streamSending s = some x →
    (x.todo.drop (n - s.fm.log.length)).head? = some w → w.seq ≠ none → dpLive s = true → due w.dueAt s = true →
    Answers (.mirrorAckTimeout n) s fun t => getNum t E.FM_MIRROR_RESENDS 0 = (getNum s E.FM_MIRROR_RESENDS 0 + 1) % 2 ^ 64
      ∧ t.fm.log = s.fm.log)
  ∧ (∀ s : State, s.fm.mirror = .syncing → s.fm.log.any (·.whole) = false → Answers .mirrorResyncDone s fun t => t.fm.mirror = .inSync)
  ∧ (∀ (x : Stream) (i : Nat) (w : MirrorWrite) (s : State), dpLive s = true → streamSending s = some x → due x.paceAt s = true →
    (x.todo.findIdx? fun w => w.seq.isNone) = some i → (x.todo.drop i).head? = some w →
    (x.todo.filterMap (·.seq)).any (fun o => serialDist 16 (streamSeq s x) o ≥ 256) = false →
    Answers .streamSend s fun t => ∃ y, t.rp.stream = some y ∧ y.bytes = x.bytes + w.body.length
      ∧ ((y.todo.drop i).head?.bind (·.seq)) = some (streamSeq s x))

/-- R224, R237 to R239, R252. Where a copy of the part's own and one of the mirror window both run, the part's own is done first:
the model's choice (log 35). -/
def Obligations.RegionRows : Prop :=
  (∀ (n : Nat) (r : Region) (s : State), SMap.get? s.fm.regions n = some r → r.state = .initialising →
    Answers (.regionZeroDone n) s fun t => SMap.get? t.fm.regions n = some { r with state := .active })
  ∧ (∀ (c : Checkpoint) (s : State), s.fm.copying = some c → s.hl.power ≠ .rest →
    Answers .checkpointCopyDone s fun t => t.fm.complete = some c ∧ t.fm.copying = none
      ∧ NewestEvent t Ev.FM_CHECKPOINT_DONE [.u64 c.step, .u64 (ckBytes c)])
  ∧ (∀ (w : MirrorWin) (s : State), s.fm.copying = none → s.fm.winCopying = some w → s.hl.power ≠ .rest →
    Answers .checkpointCopyDone s fun t => t.fm.winCk = some w ∧ t.fm.winCopying = none ∧ t.fm.complete = s.fm.complete
      ∧ NewestEvent t Ev.FM_CHECKPOINT_DONE [.u64 w.step, .u64 (winBytes w)])
  ∧ (∀ (x : Restore) (rest : List Restore) (s : State), s.fm.restores = x :: rest → s.hl.power ≠ .rest →
    Answers .restoreCopyDone s fun t => t.fm.restores = rest ∧ NewestEvent t Ev.FM_RESTORE_DONE [.u64 x.step]
      ∧ ∀ n k r, (x.regions.find? fun k => k.num == n) = some k → SMap.get? s.fm.regions n = some r → r.state = .restoring →
        SMap.get? t.fm.regions n = some { r with state := .active, data := k.data, poison := k.poison })

/-- R259, R260, R268 to R270, R274, R275, R278. -/
def Obligations.TableRows : Prop :=
  let queued := fun (r : LearnReq) (s : State) => learnNext s.tb.queue = some r ∧ SMap.get? s.tb.active.exact r.fa = none
  let held := fun (r : LearnReq) (l : Learned) (s : State) => queued r s ∧ SMap.get? s.tb.learned r.fa = some l
  let clean := fun (w : TableWord) (s : State) => ∀ u ∈ s.tb.upset, u.1 ≠ w
  (∀ (r : LearnReq) (s : State), queued r s → SMap.get? s.tb.learned r.fa = none → (bindLearned r.fa r.port s).isSome = true →
    Answers .learnApply s fun t => t.tb.queue = s.tb.queue.erase r ∧ SMap.get? t.tb.learned r.fa = some { port := r.port, stamp := nowQ s }
      ∧ getNum t E.TB_LEARNS 0 = (getNum s E.TB_LEARNS 0 + 1) % 2 ^ 64)
  ∧ (∀ (r : LearnReq) (s : State), queued r s → SMap.get? s.tb.learned r.fa = none → bindLearned r.fa r.port s = none →
    Answers .learnApply s fun t => t.tb.queue = s.tb.queue.erase r ∧ t.tb.learned = s.tb.learned
      ∧ getNum t E.TB_LEARN_FAILS 0 = (getNum s E.TB_LEARN_FAILS 0 + 1) % 2 ^ 64)
  ∧ (∀ (r : LearnReq) (l : Learned) (s : State), held r l s → l.port = r.port →
    Answers .learnApply s fun t => SMap.get? t.tb.learned r.fa = some { l with stamp := nowQ s })
  ∧ (∀ (r : LearnReq) (l : Learned) (s : State), held r l s → l.port ≠ r.port → ageOf s l < Cfg.TB_MOVE_HOLD s →
    Answers .learnApply s fun t => t.tb.learned = s.tb.learned
      ∧ getNum t E.TB_LEARN_CONFLICTS 0 = (getNum s E.TB_LEARN_CONFLICTS 0 + 1) % 2 ^ 64)
  ∧ (∀ (r : LearnReq) (l : Learned) (s : State), held r l s → l.port ≠ r.port → Cfg.TB_MOVE_HOLD s ≤ ageOf s l →
    Answers .learnApply s fun t => SMap.get? t.tb.learned r.fa = some { port := r.port, stamp := nowQ s }
      ∧ getNum t E.TB_LEARN_MOVES 0 = (getNum s E.TB_LEARN_MOVES 0 + 1) % 2 ^ 64)
  ∧ (∀ (fa : FA) (l : Learned) (s : State), SMap.get? s.tb.learned fa.toNat = some l → Cfg.TB_AGE_LIMIT s < ageOf s l →
    Answers (.ageScan fa) s fun t => SMap.get? t.tb.learned fa.toNat = none
      ∧ getNum t E.TB_AGED_OUT 0 = (getNum s E.TB_AGED_OUT 0 + 1) % 2 ^ 64)
  ∧ (∀ (die : Die) (table : TableKind) (place : WordPlace) (s : State), clean (wordAt die table place) s →
    Answers (.scrubVisit die table place .corrected) s fun t => t.tb = s.tb
      ∧ getNum t E.TB_ECC_CORRECTED 0 = (getNum s E.TB_ECC_CORRECTED 0 + 1) % 2 ^ 64)
  ∧ (∀ (die : Die) (table : TableKind) (place : WordPlace) (s : State), clean (wordAt die table place) s →
    Answers (.scrubVisit die table place .unreadable) s fun t =>
      (learnedIn (wordAt die table place) s = none → wordAt die table place ∈ t.tb.bad)
      ∧ (∀ fa, learnedIn (wordAt die table place) s = some fa → SMap.get? t.tb.learned fa = none)
      ∧ getNum t E.TB_ECC_UNCORRECTED 0 = (getNum s E.TB_ECC_UNCORRECTED 0 + 1) % 2 ^ 64)
  ∧ (∀ (n : Nat) (s : State), Answers (.eccReloadDone n) s fun t => t.tb.bad = listErase s.tb.bad n)
  ∧ (∀ (w : TbWrite) (rs : RouteSet) (lost : List Nat) (s : State), s.tb.applying = [w] →
    applyUnit s.tb.learned w s.tb.shadow = .ok (rs, lost) → s.hl.power ≠ .rest →
    Answers .tbWriteApplyDone s fun t => t.tb.shadow = rs ∧ t.tb.applying ++ t.tb.waiting = s.tb.waiting
      ∧ NewestEvent t Ev.TB_WRITE_DONE [.u32 (w.entry * 256), .u32 (unitRecords w)])
  ∧ (∀ (g : RouteSet) (s : State), s.tb.grace = some g → due (s.tb.graceEnd * 1024 * tickPs) s = true →
    Answers .graceEnd s fun t => t.tb.grace = none ∧ t.tb.copying = true)
  ∧ (∀ s : State, s.tb.copying = true → Answers .shadowCopyDone s fun t => t.tb.copying = false ∧ t.tb.shadow = shadowOf s.tb.active)

/-- R224, R238, R239, R265, R266, R273, R277, R388, R580. A route write's whole transfer is one command (log 60). -/
def Obligations.FabricCommands : Prop :=
  let rc := fun (cmd : Nat) (c : Cmd) => withByte Dx.WRITE 32 2 (fun b => cmd * 16 + b % 16) (onEntry E.FM_REGION_DEFINE c)
  let rec' := fun (cmd : Nat) (c : Cmd) => dxValue Dx.WRITE (rc cmd c)
  let num := fun (cmd : Nat) (c : Cmd) => beAt (rec' cmd c) 0 4 % 4096
  let gen := fun (cmd : Nat) (c : Cmd) => beAt (rec' cmd c) 4 4 >>> 20
  let ready := fun (cmd : Nat) (c : Cmd) (v : State) => c.body.length = 32 ∧ defineOk v cmd (num cmd c) (rec' cmd c) = true
    ∧ ∀ t, (pastOf v (num cmd c)).lastCmd = some t → t + 1024 ≤ v.clk.tick
  let routes := fun (id : Nat) (c : Cmd) (v u : State) (a : Answer) => a = answerDone
    ∧ u.tb.applying ++ u.tb.waiting = v.tb.applying ++ v.tb.waiting ++ [{ entry := id, body := c.body, seed := false }]
    ∧ getNum u E.DX_BLOCK_BYTES 0 = (getNum v E.DX_BLOCK_BYTES 0 + c.body.length) % 2 ^ 64
  let fits := fun (id : Nat) (c : Cmd) (v : State) => ∃ r, applyUnit v.tb.learned { entry := id, body := c.body, seed := false } (futureShadow v) = .ok r
  (∀ (c : Cmd) (s : State), Does (.regionCreate c) Dx.WRITE (rc 1 c) s (fun v => ready 1 c v ∧ SMap.get? v.fm.regions (num 1 c) = none)
    fun _ u a => a = answerDone ∧ ∃ x, SMap.get? u.fm.regions (num 1 c) = some x ∧ x.state = .initialising ∧ x.gen = gen 1 c
      ∧ x.base = beAt (rec' 1 c) 8 8 ∧ x.size = beAt (rec' 1 c) 16 8 ∧ x.key = beAt (rec' 1 c) 24 8 ∧ x.data = [])
  ∧ (∀ (c : Cmd) (x : Region) (s : State), Does (.regionRetire c) Dx.WRITE (rc 2 c) s
    (fun v => ready 2 c v ∧ SMap.get? v.fm.regions (num 2 c) = some x ∧ (x.state = .active ∨ x.state = .lost))
    fun v u a => a = answerDone ∧ SMap.get? u.fm.regions (num 2 c) = none
      ∧ (x.gen, v.clk.tick) ∈ (pastOf u (num 2 c)).quarantine)
  ∧ (∀ (c : Cmd) (x : Region) (s : State), Does (.regionRekey c) Dx.WRITE (rc 3 c) s
    (fun v => ready 3 c v ∧ SMap.get? v.fm.regions (num 3 c) = some x ∧ x.state = .active)
    fun _ u a => a = answerDone ∧ SMap.get? u.fm.regions (num 3 c) = some { x with gen := gen 3 c, key := beAt (rec' 3 c) 24 8 })
  ∧ (∀ (c : Cmd) (x : Region) (s : State), Does (.regionReinitialise c) Dx.WRITE (rc 4 c) s
    (fun v => ready 4 c v ∧ SMap.get? v.fm.regions (num 4 c) = some x ∧ (x.state = .active ∨ x.state = .lost))
    fun _ u a => a = answerDone ∧ ∃ y, SMap.get? u.fm.regions (num 4 c) = some y ∧ y.state = .initialising ∧ y.gen = gen 4 c
      ∧ y.base = x.base ∧ y.size = x.size ∧ y.data = [] ∧ y.poison = [])
  ∧ (∀ (c : Cmd) (s : State), Does (.fmCheckpointStep c) Dx.WRITE (onEntry E.FM_CHECKPOINT_STEP c) s (fun v => v.dx.pending.length < 1024)
    fun v u a => a = answerDone ∧ u.dx.pending = v.dx.pending ++ [{ entry := E.FM_CHECKPOINT_STEP, session := cmdSession c, tick := some (cmdTick c), offset := cmdOff c, body := dxValue Dx.WRITE (onEntry E.FM_CHECKPOINT_STEP c) }])
  ∧ (∀ (c : Cmd) (s : State), Does (.fmCheckpointRestore c) Dx.WRITE (onEntry E.FM_CHECKPOINT_RESTORE c) s
    (fun v => v.dx.pending.length < 1024 ∧ (v.fm.complete.any fun k => k.step == beNat (dxValue Dx.WRITE (onEntry E.FM_CHECKPOINT_RESTORE c))) = true)
    fun v u a => a = answerDone ∧ u.dx.pending = v.dx.pending ++ [{ entry := E.FM_CHECKPOINT_RESTORE, session := cmdSession c, tick := some (cmdTick c), offset := cmdOff c, body := dxValue Dx.WRITE (onEntry E.FM_CHECKPOINT_RESTORE c) }])
  ∧ (∀ (c : Cmd) (s : State), Does (.tbLpmWrite c) Dx.WHOLE (withPhase 3 (onEntry E.TB_LPM_WRITE c)) s (fits E.TB_LPM_WRITE c) (routes E.TB_LPM_WRITE c))
  ∧ (∀ (c : Cmd) (s : State), Does (.tbExactWrite c) Dx.WHOLE (withPhase 3 (onEntry E.TB_EXACT_WRITE c)) s (fits E.TB_EXACT_WRITE c) (routes E.TB_EXACT_WRITE c))
  ∧ (∀ (c : Cmd) (s : State), Does (.tbNexthopWrite c) Dx.WHOLE (withPhase 3 (onEntry E.TB_NEXTHOP_WRITE c)) s (fits E.TB_NEXTHOP_WRITE c) (routes E.TB_NEXTHOP_WRITE c))
  ∧ (∀ (c : Cmd) (s : State), Does (.tbGroupWrite c) Dx.WHOLE (withPhase 3 (onEntry E.TB_GROUP_WRITE c)) s (fits E.TB_GROUP_WRITE c) (routes E.TB_GROUP_WRITE c))
  ∧ (∀ (c : Cmd) (w : TbWrite) (r : RouteSet × List Nat) (s : State), Does (.tbSeedNext c) Dx.WRITE (onEntry E.TB_SEED_NEXT c) s
    (fun v => w = { entry := E.TB_SEED_NEXT, body := splice (seedBytes (futureShadow v)) (cmdOff c) (dxValue Dx.WRITE (onEntry E.TB_SEED_NEXT c)), seed := true }
      ∧ applyUnit v.tb.learned w (futureShadow v) = .ok r)
    fun v u a => a = answerDone ∧ u.tb.applying ++ u.tb.waiting = v.tb.applying ++ v.tb.waiting ++ [w])
  ∧ (∀ (c : Cmd) (s : State), Does (.tbSubstitute c) Dx.WRITE (onEntry E.TB_SUBSTITUTE c) s
    (fun v => substReason c.body v = 0 ∧ (bindLearned (beAt c.body 1 3) (beAt c.body 4 4) v).isSome = true)
    fun v u a => a = answerDone ∧ getNum u E.TB_SUBST_COUNTER 0 = beAt c.body 8 4
      ∧ SMap.get? u.tb.learned (beAt c.body 1 3) = some { port := beAt c.body 4 4, stamp := nowQ v })

/-- R135, R327, R336, R361, R388, R427 to R429, R432, R433, R439, R516, R517, R522, R542. -/
def Obligations.DeviceCommands : Prop :=
  let lane := fun (act : Nat) (c : Cmd) => withByte Dx.WRITE 8 2 (fun b => b / 16 * 16 + act) (onEntry E.OP_LANE_COMMAND c)
  let laneVal := fun (act : Nat) (c : Cmd) => beNat (dxValue Dx.WRITE (lane act c))
  let loop := fun (act : Nat) (c : Cmd) => withByte Dx.WRITE 8 0 (fun b => act * 16 + b % 16) (onEntry E.CH_LOOP_COMMAND c)
  let loopVal := fun (act : Nat) (c : Cmd) => beNat (dxValue Dx.WRITE (loop act c))
  let power := fun (n : Nat) (c : Cmd) => withByte Dx.WRITE 1 0 (fun _ => n) (onEntry E.PS_REQUEST c)
  let clear := fun (n : Nat) (c : Cmd) => withByte Dx.WRITE 1 0 (fun b => b ||| n) (onEntry E.TM_CLEAR c)
  let room := fun (v : State) => v.dx.pending.length < 1024
  let waits := fun (c : Cmd) (v u : State) (a : Answer) => a = answerDone ∧ u.dx.pending = v.dx.pending ++ [{ entry := c.entry.toNat, session := cmdSession c, tick := some (cmdTick c), offset := cmdOff c, body := dxValue Dx.WRITE c }]
  let woken := fun (u : State) (a : Answer) => a = answerDone ∧ u.hl.power = .waking ∧ u.hl.wakeCause = 2
  let val := fun (id : Nat) (c : Cmd) => beNat (dxValue Dx.WRITE (onEntry id c))
  (∀ (c : Cmd) (s : State), Does (.laneCommandMove c) Dx.WRITE (lane 1 c) s
    (fun v => c.body.length = 8 ∧ dpLive v = true ∧ bits (laneVal 1 c) 45 3 < 4 ∧ portFormat v (bits (laneVal 1 c) 48 16) = 1 ∧ darkIn v (bits (laneVal 1 c) 48 16) = false
      ∧ laneSt v (bits (laneVal 1 c) 48 16) (bits (laneVal 1 c) 44 1) (bits (laneVal 1 c) 45 3) = .inService
      ∧ reserveFree v (bits (laneVal 1 c) 48 16) (bits (laneVal 1 c) 44 1) = true
      ∧ ∀ m ∈ v.op.moves, m.port = bits (laneVal 1 c) 48 16 → m.dir = bits (laneVal 1 c) 44 1 →
          m.src ≠ bits (laneVal 1 c) 45 3 ∧ m.dst ≠ bits (laneVal 1 c) 45 3)
    fun v u a => a = answerDone ∧ u.op.moves = v.op.moves ++ [{ id := v.op.nextMove, port := bits (laneVal 1 c) 48 16, src := bits (laneVal 1 c) 45 3, dst := 4, dir := bits (laneVal 1 c) 44 1, reason := 6, state := .proposed, S := 0, mine := true }])
  ∧ (∀ (c : Cmd) (s : State), Does (.laneCommandReturn c) Dx.WRITE (lane 2 c) s
    (fun v => c.body.length = 8 ∧ laneSt v (bits (laneVal 2 c) 48 16) (bits (laneVal 2 c) 44 1) (bits (laneVal 2 c) 45 3) = .moved
      ∧ (v.op.moves.any fun m => m.port == bits (laneVal 2 c) 48 16 && m.dir == bits (laneVal 2 c) 44 1
          && m.src == bits (laneVal 2 c) 45 3 && m.state == .inForce) = true)
    fun v u a => a = answerDone ∧ ({ id := v.op.nextMove, port := bits (laneVal 2 c) 48 16, src := 4, dst := bits (laneVal 2 c) 45 3, dir := bits (laneVal 2 c) 44 1, reason := 6, state := .proposed, S := 0, mine := true } : Move) ∈ u.op.moves)
  ∧ (∀ (c : Cmd) (s : State), Does (.opElsReplacePrepare c) Dx.WRITE (onEntry E.OP_ELS_REPLACE_PREPARE c) s (fun _ => True)
    fun _ u a => a = answerDone ∧ (elsOf u (val E.OP_ELS_REPLACE_PREPARE c)).preparing = true)
  ∧ (∀ (c : Cmd) (s : State), Does (.chuteLoopSet c) Dx.WRITE (loop 1 c) s (fun v => c.body.length = 8 ∧ (loopDone (loopVal 1 c) v).isSome = true)
    fun _ u a => a = answerDone ∧ ∃ l ∈ (wingOf u (bits (loopVal 1 c) 56 4)).loops, l.a = bits (loopVal 1 c) 51 5 ∧ l.b = bits (loopVal 1 c) 46 5)
  ∧ (∀ (c : Cmd) (s : State), Does (.chuteLoopClear c) Dx.WRITE (loop 2 c) s (fun v => c.body.length = 8 ∧ (loopDone (loopVal 2 c) v).isSome = true)
    fun _ u a => a = answerDone ∧ ∀ l ∈ (wingOf u (bits (loopVal 2 c) 56 4)).loops, ¬ (l.a = bits (loopVal 2 c) 51 5 ∧ l.b = bits (loopVal 2 c) 46 5))
  ∧ (∀ (c : Cmd) (s : State), Does (.portConfig c) Dx.WRITE (onEntry E.PORT_CONFIG c) s
    (fun v => room v ∧ ((writeRecs ((findEntry E.PORT_CONFIG).getD noEntry) (cmdOff c) (dxValue Dx.WRITE (onEntry E.PORT_CONFIG c))).find? fun x => recordRefused v E.PORT_CONFIG x.1 x.2) = none)
    (waits (onEntry E.PORT_CONFIG c)))
  ∧ (∀ (c : Cmd) (s : State), Does (.psRequestActive c) Dx.WRITE (power 0 c) s (fun v => c.body.length = 1 ∧ v.hl.power ≠ .rest ∧ room v) (waits (power 0 c)))
  ∧ (∀ (c : Cmd) (s : State), Does (.psRequestTrim c) Dx.WRITE (power 1 c) s (fun v => c.body.length = 1 ∧ v.hl.power ≠ .rest ∧ room v) (waits (power 1 c)))
  ∧ (∀ (c : Cmd) (s : State), Does (.psRequestActive c) Dx.WRITE (power 0 c) s (fun v => c.body.length = 1 ∧ v.hl.power = .rest ∧ v.hl.entering = false)
    fun _ u a => woken u a ∧ Cfg.PS_REQUEST u = 0)
  ∧ (∀ (c : Cmd) (s : State), Does (.psRequestTrim c) Dx.WRITE (power 1 c) s (fun v => c.body.length = 1 ∧ v.hl.power = .rest ∧ v.hl.entering = false)
    fun _ u a => woken u a ∧ Cfg.PS_REQUEST u = 1)
  ∧ (∀ (c : Cmd) (s : State), Does (.psRequestRest c) Dx.WRITE (power 2 c) s (fun v => c.body.length = 1 ∧ restRefusal v = none ∧ room v)
    fun v u a => waits (power 2 c) v u a ∧ u.hl.restTick = some (cmdTick c))
  ∧ (∀ (c : Cmd) (s : State), Does (.hlDiUnmask c) Dx.WRITE (onEntry E.HL_DI_UNMASK c) s (fun _ => True)
    fun _ u a => a = answerDone ∧ ∀ d, d < 7 → bit (val E.HL_DI_UNMASK c) d = true → (diOf u d).masked = false)
  ∧ (∀ (c : Cmd) (s : State), Does (.hlFaultClear c) Dx.WRITE (onEntry E.HL_FAULT_CLEAR c) s (fun _ => True)
    fun v u a => a = answerDone
      ∧ u.hl.faultCause = clearBits v.hl.faultCause (val E.HL_FAULT_CLEAR c) ||| (faultNow v &&& val E.HL_FAULT_CLEAR c))
  ∧ (∀ (c : Cmd) (s : State), Does (.hlAttnClear c) Dx.WRITE (onEntry E.HL_ATTN_CLEAR c) s (fun _ => True)
    fun v u a => a = answerDone ∧ u.hl.attnCause = clearBits v.hl.attnCause (val E.HL_ATTN_CLEAR c) ||| (attnNow v &&& val E.HL_ATTN_CLEAR c))
  ∧ (∀ (c : Cmd) (s : State), Does (.hlCertSubmit c) Dx.WRITE (onEntry E.HL_CERT_SUBMIT c) s
    (fun v => certForm c.body = true ∧ v.se.quorum ≤ (certCount v c.body).1 ∧ getNum v E.HL_CERT_COUNTER 0 < beAt c.body 8 4
      ∧ beAt c.body 5 3 ≠ posFa v ∧ beAt c.body 16 8 ≤ v.clk.tick + 2 ^ 20 ∧ (beAt c.body 4 1 = 1 → v.hl.fences.length < 1024))
    fun v u a =>
      let t := beAt c.body 16 8
      let x : Cert := { expel := beAt c.body 4 1 == 1, fa := beAt c.body 5 3, num := beAt c.body 8 4, tick := if t ≤ v.clk.tick then v.clk.tick + 1 else t }
      a = answerDone ∧ getNum u E.HL_CERT_COUNTER 0 = beAt c.body 8 4 ∧ u.hl.certs = v.hl.certs ++ [x]
      ∧ u.hl.fences = if x.expel then v.hl.fences ++ [x] else v.hl.fences)
  ∧ (∀ (c : Cmd) (s : State), Does (.tmClearFixed c) Dx.WRITE (clear 1 c) s (fun v => c.body.length = 1 ∧ room v) (waits (clear 1 c)))
  ∧ (∀ (c : Cmd) (s : State), Does (.tmClearProg c) Dx.WRITE (clear 2 c) s (fun v => c.body.length = 1 ∧ room v) (waits (clear 2 c)))
  ∧ (∀ (c : Cmd) (s : State), Does (.tmLatchNow c) Dx.WRITE (onEntry E.TM_LATCH_NOW c) s room (waits (onEntry E.TM_LATCH_NOW c)))
  ∧ (∀ (c : Cmd) (s : State), Does (.tmCaptureRestart c) Dx.WRITE (onEntry E.TM_CAPTURE_RESTART c) s (fun _ => val E.TM_CAPTURE_RESTART c = 1)
    fun _ u a => a = answerDone ∧ u.tm.captures = [] ∧ u.tm.captureLen = 0 ∧ u.tm.full = false)
  ∧ (∀ (c : Cmd) (s : State), Does (.biStrataTestNow c) Dx.WRITE (onEntry E.BI_STRATA_TEST_NOW c) s
    (fun v => bankTestable v (val E.BI_STRATA_TEST_NOW c / 256) (val E.BI_STRATA_TEST_NOW c % 256) = true
      ∧ bankBusy (val E.BI_STRATA_TEST_NOW c / 256) v = false)
    fun _ u a => a = answerDone
      ∧ (bankOf u (bankKey (val E.BI_STRATA_TEST_NOW c / 256) (val E.BI_STRATA_TEST_NOW c % 256))).state = .underTest)

/-- R9, R382, R392, R393, R395, R397, R404 to R407. Slots at the head that are whole and of an op code of R386 wait for their own rows. -/
def Obligations.HostQueues : Prop :=
  let served := fun (h : HostPort) (s : State) => (pcOf s h).perst = false ∧ pcieServed s = true
  let whole := fun (l : List (Nat × Nat × Cmd)) => ∀ x ∈ l, 1 ≤ x.2.1 ∧ x.2.1 ≤ 7 ∧ x.2.2.bodyLen.toNat ≤ 4048
  let same := fun (w x : PendWrite) => x.entry == w.entry && x.tick == w.tick
  let alone := fun (w : PendWrite) (s : State) => writeDue s w = true ∧ s.dx.pending.filter (same w) = [w] ∧ actionOver s w.entry = false
    ∧ (s.dx.pending.any fun x => x.entry == w.entry && x.tick.any fun t => w.tick.any (t < ·)) = false
  (∀ (h : HostPort) (tail : BitVec 32) (slots : List Bytes) (s : State), served h s →
    let t := tail.toNat % 2 ^ (pcOf s h).sqLog2
    let new := if bit (pcOf s h).ctrl 0 then slotsRead h (slotsNew s h t) slots else []
    whole (fetchedOf s h ++ new) →
    Answers (.sqTailDoorbell h tail slots) s fun u => (pcOf u h).sqTail = t ∧ u.dx.fetched = s.dx.fetched ++ new)
  ∧ (∀ (h : HostPort) (head : BitVec 32) (s : State), served h s → whole (fetchedOf s h) → (pcOf s h).waiting = [] →
    Answers (.cqHeadWrite h head) s fun t => (pcOf t h).cqHead = head.toNat % 2 ^ (pcOf s h).cqLog2 ∧ t.dx = s.dx)
  ∧ (∀ (h : HostPort) (head : BitVec 32) (r : Resp) (l : List Resp) (s : State), served h s → whole (fetchedOf s h) →
    (pcOf s h).waiting = r :: l → ((pcOf s h).cqTail + 1) % 2 ^ (pcOf s h).cqLog2 ≠ head.toNat % 2 ^ (pcOf s h).cqLog2 →
    Answers (.cqHeadWrite h head) s fun t => .resp r ∈ t.out)
  ∧ (∀ (h : HostPort) (head : BitVec 32) (s : State), served h s →
    Answers (.eqHeadWrite h head) s fun t => (pcOf t h).eqHead = head.toNat % 2 ^ (pcOf s h).eqLog2 ∧ t.dx = s.dx)
  ∧ (∀ (h : HostPort) (v : BitVec 32) (s : State), served h s → whole (fetchedOf s h) →
    Answers (.queueCtrlWrite h v) s fun t => (pcOf t h).ctrl = v.toNat % 4
      ∧ (bit v.toNat 0 = true → bit (pcOf s h).ctrl 0 = false → (pcOf t h).queueError = false))
  ∧ (∀ (h : HostPort) (off : BitVec 20) (v : BitVec 64) (size : Nat) (s : State), served h s →
    Answers (.barRegisterWrite h off v size) s fun t =>
      { pcOf t h with vectors := (pcOf s h).vectors } = barWrite off.toNat v.toNat size { pcOf s h with linkUp := true })
  ∧ (∀ (h : HostPort) (vec d : Nat) (b : Bool) (s : State), SMap.get? (pcOf s h).vectors vec = some (d, b) → due d s = true →
    Answers (.msixHoldoffExpiry h vec) s fun t =>
      if b && !msixMasked (pcOf s h) vec then .msix h vec ∈ t.out
      else (SMap.get? (pcOf t h).vectors vec).any (·.2) = b ∧ t.out = [])
  ∧ (∀ (n : Nat) (x : Session) (s : State), sessionOf s n = some x → due x.leaseEnd s = true →
    Answers (.sessionLeaseExpiry n) s fun t => (∀ y ∈ t.dx.sessions, y.num ≠ n) ∧ (∀ y ∈ t.dx.xfers, y.session ≠ n)
      ∧ (∀ y ∈ t.dx.snaps, y.session ≠ n) ∧ (∀ y ∈ t.dx.subs, y.session ≠ n) ∧ ∀ b, ownerOf s b = n → ownerOf t b = 0)
  ∧ (∀ (n : Nat) (x : Xfer) (s : State), (s.dx.xfers.drop n).head? = some x → x.state = .openn → due x.idleEnd s = true →
    Answers (.blockIdleExpiry n) s fun t => ∀ y ∈ t.dx.xfers, y.entry ≠ x.entry)
  ∧ (∀ (n : Nat) (x : Snap) (s : State), (s.dx.snaps.drop n).head? = some x → due x.idleEnd s = true →
    Answers (.blockIdleExpiry (s.dx.xfers.length + n)) s fun t => t.dx.snaps = listErase s.dx.snaps n)
  ∧ (∀ (n : Nat) (w : PendWrite) (e : Entry) (s : State), (s.dx.pending.drop n).head? = some w → alone w s → findEntry w.entry = some e →
    e.id ∈ [E.PKT_CREDIT_LIMIT_OC0, E.PKT_CREDIT_LIMIT_OC1, E.PKT_CREDIT_LIMIT_MC, E.FT_PPS_OUT_MODE] →
    Answers (.pendingWriteEffect n) s fun t => getNum t e.id 0 = beNat w.body ∧ t.dx.pending = s.dx.pending.filter fun x => !same w x)
  ∧ (∀ (w : PendWrite) (s : State), pendingOf s E.FM_CHECKPOINT_STEP = some w → pendingOf s E.FM_CHECKPOINT_RESTORE = none →
    alone w s → s.fm.copying = none →
    Answers .checkpointSnapshot s fun t => t.dx.pending = s.dx.pending.filter (fun x => !same w x) ∧ Cfg.FM_CHECKPOINT_STEP t = beNat w.body
      ∧ (t.fm.copying.map (·.step)) = some (beNat w.body))
  ∧ (∀ (w : PendWrite) (k : Checkpoint) (s : State), pendingOf s E.FM_CHECKPOINT_RESTORE = some w → s.fm.complete = some k →
    Answers .checkpointRestore s fun t => t.dx.pending = s.dx.pending.erase w ∧ t.fm.copying = none
      ∧ t.fm.restores = s.fm.restores ++ [{ step := k.step, regions := k.regions.filter (restorable s) }]
      ∧ (∀ g ∈ k.regions, restorable s g = true → ∃ r, SMap.get? t.fm.regions g.num = some r ∧ r.state = .restoring))

/-- R388, R395 to R397, R579. `v` is the state in which the command takes effect and `u` the one that the answer is given in;
the end of a session that closed is part of `dxFinish`. -/
def Obligations.SessionRows : Prop :=
  let areas := fun (c : Cmd) => maskAreas (cmdNum c 0 4)
  let plain := fun (c : Cmd) => bit (cmdNum c 0 4) 17 = false ∧ bit (cmdNum c 0 4) 18 = false
  (∀ (c : Cmd) (s : State), Does (.openSession c) Dx.ACTION (withAction Act.OPEN c) s
    (fun v => v.dx.sessions.length < 64 ∧ (v.dx.sessions.filter fun x => samePrincipal x c.src).length < 8)
    fun v u a => ∃ n, 1 ≤ n ∧ n ≤ 65535 ∧ (∀ x ∈ v.dx.sessions, x.num ≠ n)
      ∧ a = { status := St.DONE, detail := Cfg.DX_LEASE_MS v, session := some n }
      ∧ u.dx.sessions = v.dx.sessions ++ [{ num := n, kind := srcKind c.src, fa := srcFa c.src, src := c.src, leaseEnd := leaseEndNow v, commands := 0, openTick := v.clk.tick, replay := [], waiting := [] }])
  ∧ (∀ (c : Cmd) (s : State), Does (.closeSession c) Dx.ACTION (withAction Act.CLOSE c) s (fun _ => True)
    fun v u a => u = v ∧ a = answerDone)
  ∧ (∀ (c : Cmd) (s : State), Does (.renew c) Dx.ACTION (withAction Act.RENEW c) s (fun _ => True)
    fun v u a => u = v ∧ a = answerDone ∧ ∀ x, sessionOf u (cmdSession c) = some x → x.leaseEnd = leaseEndNow u)
  ∧ (∀ (c : Cmd) (s : State), Does (.claim c) Dx.ACTION (withAction Act.CLAIM c) s
    (fun v => plain c ∧ ∀ b ∈ areas c, (ownerOf v b = 0 ∨ ownerOf v b = cmdSession c) ∧ mayClaim (srcKind c.src) b v = true)
    fun v u a => a = answerDone ∧ ∀ b, ownerOf u b = if b ∈ areas c then cmdSession c else ownerOf v b)
  ∧ (∀ (c : Cmd) (s : State), Does (.release c) Dx.ACTION (withAction Act.RELEASE c) s (fun _ => plain c)
    fun v u a => a = answerDone ∧ ∀ b, ownerOf u b = if b ∈ areas c ∧ ownerOf v b = cmdSession c then 0 else ownerOf v b)
  ∧ (∀ (c : Cmd) (x : Session) (s : State), Does (.handover c) Dx.ACTION (withAction Act.HANDOVER c) s
    (fun v => plain c ∧ sessionOf v (cmdNum c 4 2) = some x ∧ ∀ b ∈ areas c, mayClaim x.kind b v = true ∧ ownerOf v b = cmdSession c)
    fun v u a => a = answerDone ∧ ∀ b, ownerOf u b = if b ∈ areas c then cmdNum c 4 2 else ownerOf v b)
  ∧ (∀ (c : Cmd) (b : Nat) (s : State), Does (.claim c) Dx.ACTION (withAction Act.CLAIM c) s
    (fun v => plain c ∧ (areas c).find? (fun b => !((ownerOf v b == 0 || ownerOf v b == cmdSession c) && mayClaim (srcKind c.src) b v)) = some b)
    fun v u a => u = v ∧ a = answerOf (notOwner b v))

/-- R383, R388, R393, R401. A snapshot that is opened again by the same session or principal replaces the one before. -/
def Obligations.ReadRows : Prop :=
  let ent := fun (c : Cmd) => (findEntry c.entry.toNat).getD noEntry
  let others := fun (c : Cmd) (v : State) => v.dx.snaps.filter fun x => !snapIs c x
  let room := fun (v : State) => v.dx.subs.length < 64
  (∀ (c : Cmd) (s : State), Does (.read c) Dx.READ c s (fun _ => True)
    fun v u a => u = v ∧ a.status = St.DONE
      ∧ a.body = ((readValue c (ent c) v).drop (cmdOff c)).take (readLen c (readValue c (ent c) v).length))
  ∧ (∀ (c : Cmd) (s : State), Does (.readBlockOpen c) Dx.READ_BLOCK (withPhase 1 c) s
    (fun v => (others c v).length < 8
      ∧ sumNat ((others c v).map (·.data.length)) + (orderBytes (cmdLe c) (ent c) (entryValue v (cmdSession c) (ent c))).length ≤ 2 ^ 30)
    fun v u a =>
      let d := orderBytes (cmdLe c) (ent c) (entryValue v (cmdSession c) (ent c))
      a.status = St.DONE ∧ a.body = numBytes (cmdLe c) 8 d.length ++ sha d
      ∧ u.dx.snaps = others c v ++ [{ entry := (ent c).id, session := cmdSession c, src := c.src, data := d, served := 0, idleEnd := idleEndNow v, activity := v.clk.tick }])
  ∧ (∀ (c : Cmd) (x : Snap) (s : State), Does (.readBlockSegment c) Dx.READ_BLOCK (withPhase 2 c) s (fun v => ownSnap c v = some x)
    fun v u a => a.status = St.DONE ∧ a.body = (x.data.drop (cmdOff c)).take (cmdLow c)
      ∧ u.dx.snaps.length = v.dx.snaps.length ∧ u.dx.xfers = v.dx.xfers)
  ∧ (∀ (c : Cmd) (s : State), Does (.readBlockClose c) Dx.READ_BLOCK (withPhase 3 c) s (fun _ => True)
    fun v u a => a = answerDone ∧ u.dx.snaps = others c v)
  ∧ (∀ (c : Cmd) (s : State), Does (.subscribeEvents c) Dx.SUBSCRIBE (withPhase 1 c) s room
    fun v u a => ∃ n, 1 ≤ n ∧ n ≤ 65535 ∧ (∀ x ∈ v.dx.subs, x.num ≠ n) ∧ a = { status := St.DONE, detail := n }
      ∧ u.dx.subs = v.dx.subs ++ [{ num := n, session := cmdSession c, kind := 1, arg := cmdNum c 0 4, interval := 0, dest := c.src, sent := 0, queue := [] }])
  ∧ (∀ (c : Cmd) (s : State), Does (.subscribeEntry c) Dx.SUBSCRIBE (withPhase 2 c) s room
    fun v u a => ∃ n, 1 ≤ n ∧ n ≤ 65535 ∧ (∀ x ∈ v.dx.subs, x.num ≠ n) ∧ a = { status := St.DONE, detail := n }
      ∧ u.dx.subs = v.dx.subs ++ [{ num := n, session := cmdSession c, kind := 2, arg := cmdNum c 0 4, interval := cmdNum c 4 4, dest := c.src, sent := 0, queue := [] }])
  ∧ (∀ (c : Cmd) (b : Sub) (s : State), Does (.subscribeEnd c) Dx.SUBSCRIBE (withPhase 3 c) s
    (fun v => b ∈ v.dx.subs ∧ b.num = cmdNum c 0 4 ∧ b.session = cmdSession c)
    fun v u a => a = answerDone ∧ u.dx.subs = v.dx.subs.filter fun x => x.num != cmdNum c 0 4)

/-- R382, R388, R392, R488, R496, R578. -/
def Obligations.WriteRows : Prop :=
  let ent := fun (c : Cmd) => (findEntry c.entry.toNat).getD noEntry
  let free := fun (op : Nat) (c : Cmd) (v : State) => commandEntry (ent c).id = false
    ∧ ownerRefuses v (ent c) (cmdOff c) (if (ent c).eff = 2 then cmdTick c else v.clk.tick) (dxValue op c) = none
  let atOnce := fun (op : Nat) (c : Cmd) (v : State) => (ent c).eff = 1 ∨ wakesNow v (ent c).id (dxValue op c) = true
  let wait := fun (op : Nat) (c : Cmd) => ({ entry := (ent c).id, session := cmdSession c, tick := if (ent c).eff = 2 then some (cmdTick c) else none, offset := cmdOff c, body := dxValue op c } : PendWrite)
  (∀ (c : Cmd) (s : State), Does (.write c) Dx.WRITE c s (fun v => free Dx.WRITE c v ∧ atOnce Dx.WRITE c v)
    fun v u a => a = answerDone ∧ u = valueEffect (ent c) (cmdOff c) (dxValue Dx.WRITE c) v)
  ∧ (∀ (c : Cmd) (s : State), Does (.write c) Dx.WRITE c s
    (fun v => free Dx.WRITE c v ∧ ¬ atOnce Dx.WRITE c v ∧ v.dx.pending.length < 1024)
    fun v u a => a = answerDone ∧ u.dx.pending = v.dx.pending ++ [wait Dx.WRITE c])
  ∧ (∀ (c : Cmd) (s : State), Does (.signedWrite c) Dx.SIGNED_WRITE c s (fun v => free Dx.SIGNED_WRITE c v ∧ atOnce Dx.SIGNED_WRITE c v)
    fun v u a => v.se.counter = sigCounter c ∧ a = answerDone ∧ u = valueEffect (ent c) (cmdOff c) (dxValue Dx.SIGNED_WRITE c) v)
  ∧ (∀ (c : Cmd) (s : State), Does (.writeBlockBegin c) Dx.WRITE_BLOCK (withPhase 1 c) s
    (fun v => beginRefused c (ent c) v = false ∧ (∀ x, xferOf v (ent c).id = some x → x.session = cmdSession c)
      ∧ (xferOf v (ent c).id = none → v.dx.xfers.length < 8))
    fun v u a => a = answerDone ∧ ({ entry := (ent c).id, session := cmdSession c, state := .openn, length := cmdNum c 0 8, digest := slice c.body 8 48, lines := [], idleEnd := idleEndNow v, activity := v.clk.tick, commit := none } : Xfer) ∈ u.dx.xfers)
  ∧ (∀ (c : Cmd) (x : Xfer) (s : State), Does (.writeBlockSegment c) Dx.WRITE_BLOCK (withPhase 2 c) s (fun v => ownXfer c v = some x)
    fun v u a => a = answerDone ∧ u.dx.xfers = v.dx.xfers.map fun y => if y.entry = x.entry then
        { y with lines := putLines (cmdOff c) c.body y.lines, idleEnd := idleEndNow v, activity := v.clk.tick } else y)
  ∧ (∀ (c : Cmd) (x : Xfer) (s : State), Does (.writeBlockCommit c) Dx.WRITE_BLOCK (withPhase 3 c) s
    (fun v => ownXfer c v = some x ∧ x.length ≤ firstMissing x)
    fun v u a => a.sent = false ∧ u.dx.xfers = v.dx.xfers.map fun y => if y.entry = x.entry then
        { y with state := .verifying, commit := some (withPhase 3 c), activity := v.clk.tick } else y)
  ∧ (∀ (c : Cmd) (x : Xfer) (s : State), Does (.writeBlockCommit c) Dx.WRITE_BLOCK (withPhase 3 c) s
    (fun v => ownXfer c v = some x ∧ firstMissing x < x.length)
    fun v u a => u = v ∧ a = { status := St.INCOMPLETE, detail := firstMissing x })
  ∧ (∀ (c : Cmd) (x : Xfer) (s : State), Does (.writeBlockAbort c) Dx.WRITE_BLOCK (withPhase 4 c) s (fun v => ownXfer c v = some x)
    fun _ u a => a = answerDone ∧ ∀ y ∈ u.dx.xfers, y.entry ≠ x.entry)
  ∧ (∀ (entry : Nat) (x : Xfer) (c : Cmd) (s : State), xferOf s entry = some x → x.commit = some c →
    (∀ y, sessionOf s x.session = some y → y.waiting = []) →
    Answers (.blockVerifyDone entry) s fun t => (∀ y ∈ t.dx.xfers, y.entry ≠ entry)
      ∧ (entry = E.TT_NEXT_IMAGE → sha (xferValue x) = x.digest → t.tt.next = .checking ∧ t.tt.nextBytes = xferValue x))

/-- R421, R422, R427, R431, R432, R436, R437, R440, R441, R443. An input of the discrete inputs is asserted low. -/
def Obligations.MothRows : Prop :=
  let inputOf := fun (s : State) (n i : Nat) => SMap.getD (ruleState s n).inputs i ruleInputZero
  let valid := fun (p : Port) (k : Packet) (s : State) => pkOp k = Op.HEARTBEAT ∧ pkCrcOk k = true ∧ (linkOf s p).params = true
    ∧ beAt (pkBody k) 16 4 % 2 ^ 24 = partnerFa s p
  let fresh := fun (p : Port) (k : Packet) (s : State) => (nbOf s p).counted = false ∨ serialAfter 32 (beAt (pkBody k) 4 4) (nbOf s p).counter = true
  (∀ (d : Nat) (level : Bool) (a : At) (s : State), d < 7 → (diOf s d).raw = level →
    Answers (.discreteInputChange d level a) s fun t => (diOf t d).raw = !level ∧ (diOf t d).rawAt = now (atPs a s))
  ∧ (∀ (d n : Nat) (s : State), 2 ≤ d → d < 5 → diAsserted s d = true → (diOf s d).stuck = false → (diOf s d).since = some n →
    due (n + beAt (diCfg s d) 6 2 * 1000000000) s = true → s.hl.power ≠ .rest →
    Answers (.diStuckExpiry d) s fun t => (diOf t d).stuck = true ∧ NewestEvent t Ev.HL_DI_STUCK [.u8 d])
  ∧ (∀ (n : Fin 256) (i : Nat) (v : Int) (s : State), (ruleOf s n).on = true → i < (ruleOf s n).count → s.hl.power ≠ .off →
    s.hl.mothRestarting = false ∨ n.val < 3 →
    ((inputOf s n i).evalAt.any fun t => s.clk.tick < t + (ruleOf s n).period) = false →
    Answers (.ruleEvaluate n i v) s fun t =>
      let r := ruleOf s n
      let x := filterStep r (inputOf s n i) (inputValue s (r.first + i) v)
      let f := x.f.getD 0
      let up := if setHit n r f then min (x.setRun + 1) r.hold else 0
      let down := if clearHit n r f then min (x.clearRun + 1) r.hold else 0
      let y := inputOf t n i
      y.vals = x.vals ∧ y.f = x.f ∧ y.setRun = up ∧ y.clearRun = down ∧ y.asserted = (if x.asserted then decide (down < r.hold) else decide (r.hold ≤ up)))
  ∧ (∀ (b : PhysBench) (l : Nat) (s : State), (s.hl.gated.find? fun l => physBench s l == b.val) = some l →
    benchQueued s l = true ∨ benchAsked s l = true →
    Answers (.trimBenchWake b) s fun t => t.hl.gated = s.hl.gated.filter (· != l)
      ∧ getNum t E.PS_TRIM_WAKES 0 = (getNum s E.PS_TRIM_WAKES 0 + 1) % 2 ^ 64)
  ∧ (∀ (p : Port) (k : Packet) (s : State), valid p k s → fresh p k s →
    Answers (.heartbeatReceived p k) s fun t =>
      let n := nbOf s p
      (nbOf t p).age = 0 ∧ (nbOf t p).counter = beAt (pkBody k) 4 4 ∧ (nbOf t p).power = beAt (pkBody k) 1 1
      ∧ (nbOf t p).state = (if n.state = .unknown ∨ (n.state = .suspect ∧ Cfg.HL_HB_CLEAR_COUNT s ≤ n.good + 1) then .alive else n.state)
      ∧ getNum t E.HL_HB_RECEIVED 0 = (getNum s E.HL_HB_RECEIVED 0 + 1) % 2 ^ 64)
  ∧ (∀ (p : Port) (k : Packet) (s : State), valid p k s → ¬ fresh p k s →
    Answers (.heartbeatReceived p k) s fun t => nbOf t p = { nbOf s p with good := 0 }
      ∧ getNum t E.HL_HB_STALE 0 = (getNum s E.HL_HB_STALE 0 + 1) % 2 ^ 64)
  ∧ (∀ (p : Port) (s : State), (nbOf s p).state = .alive → ageLimit s < (nbOf s p).age → partnerLeft s p = false →
    Answers (.neighbourSuspect p) s fun t => (nbOf t p).state = .suspect
      ∧ getNum t E.HL_SUSPECTS 0 = (getNum s E.HL_SUSPECTS 0 + 1) % 2 ^ 64)
  ∧ (∀ (n : Nat) (c : Cert) (s : State), certNth s n true = some c →
    (s.hl.certs.any fun x => !x.expel && x.fa == c.fa && x.tick == c.tick && x.num > c.num) = false → s.hl.power ≠ .rest →
    Answers (.fenceEffect n) s fun t => (∀ p ∈ portsOf s c.fa, (nbOf t p).state = .fenced)
      ∧ NewestEvent t Ev.HL_FENCE [.u32 c.fa, .u8 1, .units (portsOf s c.fa)])
  ∧ (∀ (n : Nat) (c : Cert) (s : State), certNth s n false = some c →
    ((s.hl.fences ++ s.hl.certs).any fun x => x.expel && x.fa == c.fa && x.tick == c.tick && x.num > c.num) = false →
    (∀ x ∈ s.hl.fences, x.expel = true) →
    Answers (.readmissionEffect n) s fun t => (∀ x ∈ t.hl.fences, x.fa = c.fa → c.tick < x.tick)
      ∧ ∀ p, (nbOf s p).state = .fenced → partnerFa s p = c.fa → (nbOf t p).state = .unknown)
  ∧ (∀ (d : Die) (ans : Bool) (s : State), (controllerOf s d).restarting = false → s.hl.mothRestarting = false → s.hl.power ≠ .off →
    due (controllerOf s d).nextAt s = true → (controllerOf s d).challenge = none ∨ ans = true →
    Answers (.wdtChallenge d ans) s fun t => ∃ v, v < 2 ^ 32 ∧ .challenge d v ∈ t.out ∧ (controllerOf t d).challenge = some v
      ∧ (controllerOf t d).nextAt = now (atPs ((controllerOf s d).nextAt - s.clk.tick * tickPs) s) + Cfg.HL_WDT_US s * 1000000)
  ∧ (∀ (d : Die) (s : State), (controllerOf s d).restarting = false → s.hl.mothRestarting = false → s.hl.power ≠ .off →
    due (controllerOf s d).nextAt s = true → (controllerOf s d).challenge ≠ none →
    Answers (.wdtChallenge d false) s fun t => (controllerOf t d).restarting = true ∧ (controllerOf t d).challenge = none)
  ∧ (∀ (die : Die) (s : State), (controllerOf s die).restarting = true →
    Answers (.controllerRestartDone die) s fun t => (controllerOf t die).restarting = false)
  ∧ (∀ s : State, s.hl.mothRestarting = false → s.hl.power ≠ .off →
    Answers .mothWatchdogExpiry s fun t => t.hl.mothRestarting = true ∧ t.hl.rules = s.hl.rules.filter (fun x => x.1 < 3)
      ∧ getNum t E.HL_MOTH_RESTARTS 0 = (getNum s E.HL_MOTH_RESTARTS 0 + 1) % 2 ^ 64)
  ∧ (∀ s : State, Answers .mothRestartDone s fun t => t.hl = { s.hl with mothRestarting := false })

/-- R428, R429, R446, R462, R531, R532, R549, R556, R569. Each row from a state in which its occasion has come. -/
def Obligations.PowerResets : Prop :=
  (∀ s : State, restDue s = true →
    Answers .restEntry s fun t => t.hl.power = .rest ∧ t.hl.entering = true ∧ t.hl.restTick = none ∧ t.tt.active = none ∧ t.tt.next = .empty)
  ∧ (∀ s : State, s.hl.power = .rest → s.hl.entering = true →
    Answers .restEntryComplete s fun t => t.hl.entering = false
      ∧ match s.hl.wakeAfter with
        | none => t.hl.power = .rest
        | some c => t.hl.power = .waking ∧ t.hl.wakeCause = c ∧ t.hl.wakeStart = now s)
  ∧ (∀ s : State, s.hl.power = .waking →
    Answers .wakeComplete s fun t => t.hl.power = (if Cfg.PS_REQUEST s = 1 then .trim else .active)
      ∧ t.hl.wakes = ((s.hl.wakeStart / tickPs, s.hl.wakeCause, (now s - s.hl.wakeStart) / 1000000) :: s.hl.wakes).take 8
      ∧ t.dp.ports = [] ∧ t.tm.mothRing = [])
  ∧ (∀ s : State, s.bi.state = 1 → s.rp.resetClass = 2 →
    Answers .warmResetRelease s fun t => t.bi.state = 2 ∧ t.bi.phase = 6 ∧ t.bi.duration = (now s - s.rp.resetStart) / 1000000 / 1000)
  ∧ (∀ s : State, s.el.fuseOpen = false → s.hl.tripped = false → s.bi.state = 0 ∨ s.hl.power = .off →
    Answers .coldPowerUp s fun t => t.bi.state = 1 ∧ t.bi.phase = 0 ∧ t.el.pwrOk = true ∧ t.el.rstN = true ∧ t.el.input = true
      ∧ t.rp.resetStart = now s ∧ (s.hl.power = .off → t.hl.power = .active))
  ∧ (∀ s : State, s.el.pwrOk = true →
    Answers .pwrOkFall s fun t => t.el.pwrOk = false ∧ t.hl.power = .off ∧ t.hl.offCause = 1 ∧ t.bi.state = 0 ∧ t.dict.nums = []
      ∧ t.dict.tabs = [])
  ∧ (∀ s : State, s.el.rstN = true → s.hl.power ≠ .off ∨ s.hl.tripped = true →
    Answers .rstNAssert s fun t => t.el.rstN = false ∧ t.hl.power = .active ∧ t.bi.state = 0 ∧ t.rp.resets = [(s.clk.tick, 3, 3, 0)]
      ∧ .pin 0 true ∈ t.out ∧ .pin 1 true ∈ t.out ∧ .pin 2 true ∈ t.out)
  ∧ (∀ s : State, Answers .inputPowerLoss s fun t => t.el.input = false ∧ t.hl.power = .off ∧ t.hl.offCause = 0 ∧ t.ev.ring = [])
  ∧ (∀ (c : Nat) (s : State), s.el.input = true →
    Answers (.efuseOpen c) s fun t => t.el.fuseOpen = true ∧ t.hl.power = .off ∧ t.hl.offCause = 0 ∧ t.ev.ring = [])

/-- R404, R532, R534, R535, R539, R542, R543, R547, R561, R563, R573. The numbering of the test port's instructions is the
model's (log 42). -/
def Obligations.PowerUpTests : Prop :=
  (∀ (kind : Nat) (units : List Nat) (s : State), units ≠ [] → s.bi.state = 1 →
    Answers (.testStepStart kind units) s fun t => t.bi.peak = max s.bi.peak (inputW s)
      ∧ t.bi.running = if stepFits kind (stepUnits kind s ++ units) = true
            ∧ inputW s + stepIncrement kind * units.length ≤ Cfg.BI_POWER_LIMIT_W s
          then s.bi.running ++ [(kind, units)] else s.bi.running)
  ∧ (∀ (r : PhaseResult) (s : State), s.bi.state = 1 → s.hl.power ≠ .off → s.rp.resetClass ≠ 2 → r.failed = [] → s.bi.phase ≠ 1 → s.bi.phase ≠ 5 →
    Answers (.powerUpPhaseDone r) s fun t => t.bi.state = 1 ∧ t.bi.phase = s.bi.phase + 1 ∧ t.bi.peak = max s.bi.peak r.peak)
  ∧ (∀ (r : PhaseResult) (s : State), s.bi.state = 1 → s.hl.power ≠ .off → s.rp.resetClass ≠ 2 → r.failed = [] → s.bi.phase = 5 →
    Answers (.powerUpPhaseDone r) s fun t => t.bi.state = 2 ∧ t.bi.phase = 6 ∧ t.bi.duration = r.ms)
  ∧ (∀ (r : PhaseResult) (f : Nat × Nat × Nat × Nat) (s : State), s.bi.state = 1 → s.hl.power ≠ .off → f ∈ r.failed → f.1 ∈ [1, 2, 3, 4, 6, 7] →
    Answers (.powerUpPhaseDone r) s fun t => t.bi.state = 3)
  ∧ (∀ (stack bank : Nat) (s : State), bankTestable s stack bank = true →
    (s.bi.tests.any fun t => t.stack == stack && t.bank == bank && t.step == 0) = true
      ∨ (Cfg.BI_RT_ENABLE s = 1 ∧ frameOf s % Cfg.BI_STRATA_INTERVAL_FRAMES s = 0 ∧ bank = bankNext s stack) →
    Answers (.strataBankTestStart stack bank) s fun t => (bankOf t (bankKey stack bank)).state = .underTest
      ∧ ∃ x ∈ t.bi.tests, x.stack = stack ∧ x.bank = bank ∧ x.step ≠ 0)
  ∧ (∀ (n : Nat) (ok : Bool) (x : BankTest) (s : State), (s.bi.tests.drop n).head? = some x → x.step = 1 →
    Answers (.strataBankStepDone n ok) s fun t => t.bi.tests = listSet s.bi.tests n { x with step := 2 })
  ∧ (∀ (n : Nat) (ok : Bool) (x : BankTest) (s : State), (s.bi.tests.drop n).head? = some x → x.step = 2 → x.spare = false →
    Answers (.strataBankStepDone n ok) s fun t => t.bi.tests = listSet s.bi.tests n { x with step := 3, failed := !ok })
  ∧ (∀ (n : Nat) (ok : Bool) (x : BankTest) (s : State), (s.bi.tests.drop n).head? = some x → x.step = 3 → x.failed = false →
    Answers (.strataBankStepDone n ok) s fun t => t.bi.tests = listErase s.bi.tests n
      ∧ (bankOf t (bankKey x.stack x.bank)).state = .inService
      ∧ getNum t E.BI_RT_BANK_TESTS 0 = (getNum s E.BI_RT_BANK_TESTS 0 + 1) % 2 ^ 64)
  ∧ (∀ (n b : Nat) (ok : Bool) (x : BankTest) (s : State), (s.bi.tests.drop n).head? = some x → x.step = 3 → x.failed = true →
    x.spare = false → (bankOf s (bankKey x.stack x.bank)).state ≠ .spare → spareBank s x.stack = some b →
    Answers (.strataBankStepDone n ok) s fun t => (bankOf t (bankKey x.stack x.bank)).state = .mappedOut
      ∧ bankOf t (bankKey x.stack b) = { state := .inService, replaces := x.bank })
  ∧ (∀ (h : HostPort) (s : State), Answers (.functionLevelReset h) s fun t => (pcOf t h).ctrl = 0 ∧ (pcOf t h).vectors = []
      ∧ (∀ x ∈ t.dx.sessions, x.kind ≠ 1 + h.val) ∧ ∀ x ∈ t.dx.fetched, x.1 ≠ h.val)
  ∧ (∀ (h : HostPort) (s : State), Answers (.perstAssert h) s fun t => (pcOf t h).perst = true ∧ (pcOf t h).linkUp = false
      ∧ (pcOf t h).ctrl = 0 ∧ ∀ x ∈ t.dx.sessions, x.kind ≠ 1 + h.val)
  ∧ (∀ (h : HostPort) (s : State), Answers (.perstDeassert h) s fun t => (pcOf t h).perst = false ∧ (pcOf t h).linkUp = pcieServed s)
  ∧ (∀ (h : HostPort) (s : State), Answers (.pcieLinkDown h) s fun t => (pcOf t h).linkUp = false ∧ t.dx = s.dx)
  ∧ (∀ (ir : Nat) (s : State), Answers (.testPortInstruction ir) s fun t =>
      t.hl.testIr = if ir = 1 ∨ ir = 2 ∨ ((ir = 3 ∨ ir = 4) ∧ s.el.rstN = false) then ir else 0)

/-- R458, R461, R465, R467, R471, R472, R476, R480, R492, R518. -/
def Obligations.RepairRows : Prop :=
  let atW := fun (w : Withdraw) (reason : Nat) (s : State) => s.rp.withdraw = some w ∧ w.frame ≤ frameOf s ∧ s.frame = frameOf s
    ∧ s.rp.sync = .withdrawing ∧ w.reason = reason
  (∀ (w : Withdraw) (s : State), atW w 1 s →
    Answers .withdrawFrame s fun t => t.dp.openq = [] ∧ t.dp.sc = [] ∧ t.tt.active = none ∧ t.tt.next = .empty ∧ t.rp.withdraw = none
      ∧ t.rp.sync = if posFa s = 0 then .unassigned else .stale)
  ∧ (∀ (w : Withdraw) (s : State), atW w 2 s → restDue s = true → Answers .withdrawFrame s fun t => t.hl.power = .rest)
  ∧ (∀ (w : Withdraw) (s : State), atW w 3 s → s.bi.state = 2 → s.hl.tripped = false →
    Answers .withdrawFrame s fun t => t.bi.state = 1 ∧ t.rp.resetClass = 2)
  ∧ (∀ (w : Withdraw) (s : State), atW w 4 s → Answers .withdrawFrame s fun t => t.bi.state = 0 ∧ t.rp.resetClass = 3)
  ∧ (∀ (p : Port) (k : Packet) (s : State), pkOp k = Op.WITHDRAW → pkCrcOk k = true →
    Answers (.withdrawReceived p k) s fun t => SMap.get? t.rp.partnerNotes p = some (pkBody k))
  ∧ (∀ (img : Image) (s : State), s.rp.sync = .joining → s.frame = frameOf s → s.rp.join ≤ frameOf s → dpLive s = true →
    s.tt.nextImage = some img → (fabricEpoch s).isSome = true → s.ft.gen ≠ .free →
    Answers .joinFrame s fun t => t.tt.active = some img ∧ t.rp.sync = .current ∧ t.rp.join = 0
      ∧ NewestEvent t Ev.RP_JOINED [.u32 img.epoch, .idx (frameOf s)])
  ∧ (∀ (b : PhysBench) (s : State), (physSlot s b).state = .testing → throttleOf s (b.val / 34) ≠ 2 →
    Answers (.benchTestDone b true) s fun t => physSlot t b = { state := .spare, result := 1, frame := frameOf s, leaseEnd := 0 }
      ∧ getNum t E.BI_RT_BENCH_TESTS 0 = (getNum s E.BI_RT_BENCH_TESTS 0 + 1) % 2 ^ 64)
  ∧ (∀ (b : PhysBench) (s : State), (physSlot s b).state = .testing → throttleOf s (b.val / 34) ≠ 2 →
    Answers (.benchTestDone b false) s fun t => (physSlot t b).state = .retired ∧ ((physSlot t b).result = 2 ∨ (physSlot t b).result = 3)
      ∧ getNum t E.BI_RT_BENCH_FAILS 0 = (getNum s E.BI_RT_BENCH_FAILS 0 + 1) % 2 ^ 64)
  ∧ (∀ (b : PhysBench) (s : State), (physSlot s b).state = .serving →
    Answers (.benchFault b) s fun t => (physSlot t b).state = .failed ∧ (physSlot t b).frame = frameOf s)
  ∧ (∀ (x : Stream) (s : State), streamReceiving s = some x → due x.dueAt s = true → Answers .streamTimeout s fun t => streamRunning t = false)
  ∧ (∀ (slot : Nat) (s : State), s.se.checking = true → slot = fwTarget s →
    Answers (.fwImageCheckDone slot) s fun t => t.se.checking = false
      ∧ (fwSlot t slot).image = (fwSlot s slot).image ∧ (fwSlot t slot).state = if fwReason s (fwSlot s slot).image = 0 then 1 else 2)
  ∧ (∀ (f : Nat) (s : State), s.rp.building = some f → s.rp.sync = .current →
    Answers .positionRecordBuilt s fun t => t.rp.building = none ∧ t.rp.record = positionRecord f s)
  ∧ (∀ (b : Bytes) (s : State), s.rp.importing = some b → importReason s b = 0 →
    Answers .importApplyDone s fun t => t.rp.importState = 2 ∧ t.rp.importing = none ∧ t.rp.held = beAt b 0x0C 4 ∧ t.tt.active = none)
  ∧ (∀ (b : Bytes) (s : State), s.rp.importing = some b → importReason s b ≠ 0 → s.hl.power ≠ .rest →
    Answers .importApplyDone s fun t => t.rp.importState = 3 ∧ t.rp.importing = none ∧ NewestEvent t Ev.RP_IMPORT [.u8 (importReason s b)])
  ∧ (∀ (d : Dump) (r : List Dump) (s : State), s.tm.buffers = d :: r → s.hl.power ≠ .off → Cfg.TM_DUMP_DEST s = 0 →
    Answers .dumpComplete s fun t => t.tm.buffers = r ∧ t.tm.written = d.seq
      ∧ SMap.get? t.tm.ring (d.seq % dumpRingCap s) = some d.bytes ∧ getNum t E.TM_DUMP_WRITTEN 0 = d.seq)

/-- R4, R388, R453, R461, R462, R473, R474, R476, R493, R494, R498 to R500, R505. -/
def Obligations.RepairCommands : Prop :=
  let val := fun (id : Nat) (c : Cmd) => dxValue Dx.WRITE (onEntry id c)
  let sig := fun (id : Nat) (c : Cmd) => dxValue Dx.SIGNED_WRITE (onEntry id c)
  let reset := fun (cls : Nat) (c : Cmd) => withByte Dx.SIGNED_WRITE 16 0 (fun _ => cls) (onEntry E.RP_RESET c)
  let later := fun (cls : Nat) (c : Cmd) => bit (beAt (dxValue Dx.SIGNED_WRITE (reset cls c)) 0 4) 23
  (∀ (c : Cmd) (s : State), Does (.rpPositionFa c) Dx.WRITE (onEntry E.RP_POSITION_FA c) s (fun v => positionRefused v = false)
    fun _ u a => a = answerDone ∧ Cfg.RP_POSITION_FA u = beNat (val E.RP_POSITION_FA c)
      ∧ u.rp.sync = if posFa u = 0 then .unassigned else .stale)
  ∧ (∀ (c : Cmd) (s : State), Does (.rpWithdraw c) Dx.WRITE (onEntry E.RP_WITHDRAW c) s
    (fun v => frameOf v + 2 ≤ beAt c.body 0 8 ∧ v.rp.sync = .current ∧ withdrawLoss (beAt c.body 8 2) v ≠ 0)
    fun v u a => a = answerDone ∧ u.rp.sync = .withdrawing
      ∧ u.rp.withdraw = some { frame := beAt c.body 0 8, lossSet := withdrawLoss (beAt c.body 8 2) v, reason := 1, told := [] })
  ∧ (∀ (c : Cmd) (s : State), Does (.rpResetWarm c) Dx.SIGNED_WRITE (reset 2 c) s
    (fun v => c.body.length = 128 ∧ later 2 c = false ∧ v.bi.state = 2 ∧ v.hl.tripped = false)
    fun _ u a => a.sent = false ∧ u.bi.state = 1 ∧ u.rp.resetClass = 2 ∧ u.dx.sessions = [])
  ∧ (∀ (c : Cmd) (s : State), Does (.rpResetWarm c) Dx.SIGNED_WRITE (reset 2 c) s
    (fun v => c.body.length = 128 ∧ later 2 c = true ∧ frameOf v + 2 ≤ beAt c.body 8 8 ∧ v.rp.sync = .current ∧ Cfg.RP_LOSS_SET v ≠ 0)
    fun v u a => a = answerDone ∧ u.rp.sync = .withdrawing ∧ u.rp.withdraw = some { frame := beAt c.body 8 8, lossSet := Cfg.RP_LOSS_SET v, reason := 3, told := [] })
  ∧ (∀ (c : Cmd) (s : State), Does (.rpResetCold c) Dx.SIGNED_WRITE (reset 3 c) s (fun _ => c.body.length = 128 ∧ later 3 c = false)
    fun v u a => a.sent = false ∧ u.rp.resetClass = 3 ∧ u.bi.state = 0 ∧ u.rp.resets = [(v.clk.tick, 3, 1, 0)])
  ∧ (∀ (c : Cmd) (s : State), Does (.rpBenchReset c) Dx.WRITE (onEntry E.RP_BENCH_RESET c) s
    (fun v => benchResetRefused (beNat (val E.RP_BENCH_RESET c)) v = false) fun v u a => a = answerDone ∧ u = v)
  ∧ (∀ (c : Cmd) (s : State), Does (.rpStreamAccept c) Dx.WRITE (onEntry E.RP_STREAM_ACCEPT c) s (fun v => streamRunning v = false)
    fun v u a => a = answerDone ∧ u.rp.stream = some (streamOf c.body 2 v))
  ∧ (∀ (c : Cmd) (w : MirrorWin) (n : Nat) (s : State), Does (.rpStreamStart c) Dx.WRITE (onEntry E.RP_STREAM_START c) s
    (fun v => streamStartRefused c.body v = false ∧ streamSource c.body v = some (w, n))
    fun v u a => a = answerDone ∧ u.rp.stream = some { streamOf c.body 1 v with step := n, todo := streamItems v { streamOf c.body 1 v with step := n } w n })
  ∧ (∀ (c : Cmd) (s : State), Does (.rpStreamAbort c) Dx.WRITE (onEntry E.RP_STREAM_ABORT c) s
    (fun v => beNat (val E.RP_STREAM_ABORT c) = 1 ∧ streamRunning v = true) fun _ u a => a = answerDone ∧ streamRunning u = false)
  ∧ (∀ (c : Cmd) (s : State), Does (.seFwActivate c) Dx.SIGNED_WRITE (onEntry E.SE_FW_ACTIVATE c) s
    (fun v => fwActivateRefused (beNat (sig E.SE_FW_ACTIVATE c)) v = false)
    fun _ u a => a = answerDone ∧ u.se.activate = beNat (sig E.SE_FW_ACTIVATE c))
  ∧ (∀ (c : Cmd) (s : State), Does (.seRollbackCommit c) Dx.SIGNED_WRITE (onEntry E.SE_ROLLBACK_COMMIT c) s
    (fun v => rollbackRefused (beNat (sig E.SE_ROLLBACK_COMMIT c)) v = false)
    fun _ u a => a = answerDone ∧ u.se.fused = beNat (sig E.SE_ROLLBACK_COMMIT c)
      ∧ ∀ x ∈ u.se.slots, x.2.state = 1 → beNat (sig E.SE_ROLLBACK_COMMIT c) ≤ fwVersion x.2.image)
  ∧ (∀ (c : Cmd) (s : State), Does (.seOwnerEnrol c) Dx.SIGNED_WRITE (onEntry E.SE_OWNER_ENROL c) s
    (fun v => enrolRefused (sig E.SE_OWNER_ENROL c) v = false)
    fun _ u a => a = answerDone ∧ (ownerKey u (beAt (sig E.SE_OWNER_ENROL c) 0 1)).state = 1
      ∧ (ownerKey u (beAt (sig E.SE_OWNER_ENROL c) 0 1)).key = slice (sig E.SE_OWNER_ENROL c) 8 97)
  ∧ (∀ (c : Cmd) (s : State), Does (.seOwnerRevoke c) Dx.SIGNED_WRITE (onEntry E.SE_OWNER_REVOKE c) s
    (fun v => revokeRefused (beNat (sig E.SE_OWNER_REVOKE c)) (sigIndex c) v = false)
    fun _ u a => a = answerDone ∧ (ownerKey u (beNat (sig E.SE_OWNER_REVOKE c))).state = 2)
  ∧ (∀ (c : Cmd) (s : State), Does (.seManagerKeys c) Dx.SIGNED_WRITE (onEntry E.SE_MANAGER_KEYS c) s (fun _ => True)
    fun v u a => a = answerDone ∧ u.se.managers = splice v.se.managers (cmdOff c) (sig E.SE_MANAGER_KEYS c))
  ∧ (∀ (c : Cmd) (s : State), Does (.seQuorum c) Dx.SIGNED_WRITE (onEntry E.SE_QUORUM c) s
    (fun v => quorumRefused (beNat (sig E.SE_QUORUM c)) v = false) fun _ u a => a = answerDone ∧ u.se.quorum = beNat (sig E.SE_QUORUM c))
  ∧ (∀ (c : Cmd) (s : State), Does (.seAttestRequest c) Dx.WRITE (onEntry E.SE_ATTEST_REQUEST c) s (fun _ => True)
    fun v u a => a = answerDone ∧ u.se.reports = (cmdSession c, attestReport c.body v) :: v.se.reports.filter fun x => x.1 != cmdSession c)
  ∧ (∀ (c : Cmd) (s : State), Does (.behaviourLevelSet c) Dx.SIGNED_WRITE (onEntry E.BEHAVIOUR_LEVEL_SET c) s
    (fun v => v.dx.pending.length < 1024 ∧ 0x400 ≤ beNat (sig E.BEHAVIOUR_LEVEL_SET c)
      ∧ beNat (sig E.BEHAVIOUR_LEVEL_SET c) ≤ getNum v E.BEHAVIOUR_LEVEL_MAX 0x400)
    fun v u a => a = answerDone ∧ u.dx.pending = v.dx.pending ++ [{ entry := E.BEHAVIOUR_LEVEL_SET, session := cmdSession c, tick := none, offset := cmdOff c, body := sig E.BEHAVIOUR_LEVEL_SET c }])

/-- R43, R60, R81, R84, R89, R92, R467, R517. -/
def Obligations.TimeFrames : Prop :=
  (∀ a, Changes (.userEvent a) [.time])
  ∧ (∀ a, Changes (.actionExpire a) [.time])
  ∧ (∀ a, Changes (.servoSyncTimeout a) [.time])
  ∧ (∀ a b c, Changes (.ppsPulse a b c) [.time])
  ∧ (∀ a, Changes (.ppsMissing a) [.time])
  ∧ (∀ a, Changes (.domainLossHold a) [.time])
  ∧ (∀ a, Changes (.domainReturnHold a) [.time])
  ∧ (Changes .slewDone [.time])
  ∧ (∀ a b c, Changes (.ptpDelayResp a b c) [.time, .inbox])
  ∧ (∀ a b c, Changes (.ptpAnnounce a b c) [.time, .inbox])
  ∧ (∀ a b c, Changes (.ptpPdelayResp a b c) [.time, .inbox])
  ∧ (∀ a, Changes (.counterLatch a) [.time, .captures])
  ∧ (∀ a, Changes (.jobOpen a) [.time, .crusher, .timetable])
  ∧ (∀ a, Changes (.jobClose a) [.time, .crusher, .timetable, .queues, .health, .captures])
  ∧ (∀ a, Changes (.pdelayMeasure a) [.time, .links, .queues, .captures])
  ∧ (∀ a b, Changes (.launchArm a b) [.time, .inbox, .links, .queues, .captures, .tables])
  ∧ (∀ a b, Changes (.launchCancel a b) [.time, .inbox, .links, .queues, .captures, .tables])
  ∧ (∀ a b c, Changes (.ptpPdelayReq a b c) [.time, .inbox, .links, .queues, .captures])
  ∧ (Changes .ppsOutPulse [.health])
  ∧ (Changes .ttChecksDone [.time, .timetable, .repair])
  ∧ (Changes .ttCrossRecheck [.time, .timetable, .settings])
  ∧ (Changes .variantTakesEffect [.timetable, .waiting, .settings])
  ∧ (∀ a, Changes (.leaseStart a) [.crusher, .health, .links, .optics, .queues, .repair, .timetable])
  ∧ (∀ a, Changes (.leaseEnd a) [.optics, .repair, .timetable])

/-- R108, R115, R126, R150, R153, R160, R164, R289. -/
def Obligations.QueueFrames : Prop :=
  (∀ a b, Changes (.creditStall a b) [])
  ∧ (∀ a b c, Changes (.scDraw a b c) [.queues])
  ∧ (∀ a, Changes (.refillComplete a) [.queues])
  ∧ (∀ a, Changes (.reseqIdleExpiry a) [.queues])
  ∧ (∀ a, Changes (.shaperWheelExpiry a) [.shapers])
  ∧ (Changes .scDeadlineDrop [.queues, .captures])
  ∧ (∀ a b c d, Changes (.slotMarker a b c d) [.links, .optics, .queues])
  ∧ (∀ a, Changes (.portUp a) [.links, .queues])
  ∧ (∀ a, Changes (.timeMsgExpire a) [.captures, .links, .queues])
  ∧ (∀ a, Changes (.escapeMove a) [.captures, .links, .queues])
  ∧ (∀ a, Changes (.headDrop a) [.captures, .links, .queues])
  ∧ (∀ a, Changes (.flapHoldExpiry a) [.captures, .links, .queues])
  ∧ (∀ a, Changes (.strataReadError a) [.captures, .links, .queues])
  ∧ (∀ a b c, Changes (.laneSlotStart a b c) [.captures, .optics, .queues])
  ∧ (∀ a b, Changes (.portDown a b) [.captures, .links, .optics, .queues])
  ∧ (∀ a, Changes (.benchFault a) [.captures, .links, .queues, .repair, .optics])
  ∧ (∀ a b c, Changes (.egressStart a b c) [.captures, .links, .queues, .shapers, .time])
  ∧ (∀ a b c, Changes (.ptpEventForward a b c) [.captures, .links, .queues, .shapers, .time])
  ∧ (∀ a, Changes (.trimBenchWake a) [.health, .links, .queues])
  ∧ (∀ a, Changes (.gapSlotStart a) [.captures, .health, .links, .optics, .queues, .repair, .shapers, .time])
  ∧ (∀ a b, Changes (.creditReceived a b) [.crusher, .inbox, .links, .queues, .repair, .tables, .time, .timetable, .waiting, .optics])
  ∧ (∀ a b, Changes (.linkParamsReceived a b) [.crusher, .inbox, .links, .queues, .repair, .tables, .time, .timetable, .waiting, .optics])
  ∧ (∀ a, Changes (.tickBoundary a) [.tick, .captures, .chutes, .health, .hosts, .links, .optics, .queues, .sessions, .time, .bringup, .security, .tables])

/-- R188, R196, R227, R231, R270, R274, R280, R283. -/
def Obligations.FabricFrames : Prop :=
  (∀ a, Changes (.partialArrival a) [.crusher, .queues])
  ∧ (∀ a, Changes (.resultArrival a) [.crusher])
  ∧ (∀ a, Changes (.resultDwellExpiry a) [.crusher])
  ∧ (∀ a b, Changes (.redContrib a b) [.crusher, .inbox, .queues])
  ∧ (∀ a b, Changes (.barrier a b) [.crusher, .inbox, .queues])
  ∧ (∀ a b, Changes (.chunkTimeout a b) [.crusher, .health])
  ∧ (∀ a b c, Changes (.recipeResultEntry a b c) [.captures, .crusher, .links, .memory, .optics, .queues, .tables])
  ∧ (∀ a, Changes (.sourceYoungExpiry a) [.memory])
  ∧ (Changes .mirrorResyncDone [.memory])
  ∧ (∀ a, Changes (.regionZeroDone a) [.memory])
  ∧ (Changes .checkpointCopyDone [.memory])
  ∧ (∀ a b, Changes (.memLoad a b) [.captures, .inbox, .links, .memory, .queues, .time, .tables])
  ∧ (∀ a b, Changes (.memStore a b) [.captures, .inbox, .links, .memory, .queues, .time, .tables])
  ∧ (∀ a b, Changes (.memStoreFlag a b) [.captures, .inbox, .links, .memory, .queues, .time, .tables])
  ∧ (∀ a b, Changes (.memAtomic a b) [.captures, .inbox, .links, .memory, .queues, .time, .tables])
  ∧ (∀ a b, Changes (.memReduceStore a b) [.captures, .inbox, .links, .memory, .queues, .time, .tables])
  ∧ (∀ a b, Changes (.memMcastStore a b) [.captures, .inbox, .links, .memory, .queues, .time, .tables])
  ∧ (∀ a b, Changes (.memApply a b) [.captures, .links, .memory, .queues, .repair, .settings, .time, .tables])
  ∧ (∀ a, Changes (.memOutcome a) [.captures, .links, .memory, .queues, .time, .tables])
  ∧ (∀ a, Changes (.gapTimerExpiry a) [.captures, .links, .memory, .queues, .time, .tables])
  ∧ (Changes .restoreCopyDone [.captures, .links, .memory, .queues, .tables])
  ∧ (∀ a, Changes (.mirrorAckTimeout a) [.captures, .links, .memory, .queues, .repair, .tables])
  ∧ (Changes .streamSend [.captures, .links, .memory, .queues, .repair, .tables])
  ∧ (∀ a b, Changes (.mirrorResponse a b) [.captures, .inbox, .links, .memory, .queues, .repair, .tables])
  ∧ (Changes .streamTimeout [.memory, .repair, .settings])
  ∧ (Changes .learnApply [.tables])
  ∧ (Changes .tbWriteApplyDone [.tables])
  ∧ (Changes .graceEnd [.tables])
  ∧ (Changes .shadowCopyDone [.tables])
  ∧ (∀ a, Changes (.ageScan a) [.tables])
  ∧ (∀ a b c d, Changes (.scrubVisit a b c d) [.tables])
  ∧ (∀ a, Changes (.eccReloadDone a) [.tables])

/-- R317, R320, R327, R358, R405, R432, R436, R493, R519, R534. -/
def Obligations.DeviceFrames : Prop :=
  (∀ a, Changes (.elsPoll a) [.optics])
  ∧ (∀ a b, Changes (.elsAccessTimeout a b) [.optics])
  ∧ (∀ a b, Changes (.elsModuleFitted a b) [.optics])
  ∧ (∀ a b, Changes (.ringSearchDone a b) [.optics])
  ∧ (∀ a, Changes (.moveDuplicateTick a) [.optics])
  ∧ (∀ a, Changes (.moveSwitch a) [.optics])
  ∧ (∀ a, Changes (.moveAbandon a) [.optics])
  ∧ (∀ a b, Changes (.partnerSilent a b) [.optics])
  ∧ (∀ a b, Changes (.laneReturnHold a b) [.optics])
  ∧ (∀ a, Changes (.elsReadyToRemove a) [.optics])
  ∧ (∀ a b c, Changes (.calibrationDone a b c) [.optics, .bringup])
  ∧ (∀ a b, Changes (.elsResponse a b) [.health, .optics])
  ∧ (∀ a b, Changes (.reportReceived a b) [.crusher, .inbox, .optics, .queues, .repair, .tables, .time, .timetable, .waiting])
  ∧ (∀ a b, Changes (.laneMovePropose a b) [.crusher, .inbox, .optics, .queues, .repair, .tables, .time, .timetable, .waiting])
  ∧ (∀ a b, Changes (.laneMoveAccept a b) [.crusher, .inbox, .optics, .queues, .repair, .tables, .time, .timetable, .waiting])
  ∧ (∀ a b, Changes (.laneMoveRefuse a b) [.crusher, .inbox, .optics, .queues, .repair, .tables, .time, .timetable, .waiting])
  ∧ (∀ a b, Changes (.laneMoveFault a b) [.crusher, .inbox, .optics, .queues, .repair, .tables, .time, .timetable, .waiting])
  ∧ (∀ a, Changes (.chuteDrive a) [.chutes])
  ∧ (∀ a b, Changes (.chuteSettleCheck a b) [.chutes])
  ∧ (∀ a b c, Changes (.discreteInputChange a b c) [.health])
  ∧ (∀ a, Changes (.diStuckExpiry a) [.health])
  ∧ (∀ a, Changes (.neighbourSuspect a) [.health])
  ∧ (∀ a, Changes (.readmissionEffect a) [.health])
  ∧ (Changes .mothWatchdogExpiry [.health])
  ∧ (Changes .mothRestartDone [.health])
  ∧ (Changes .restEntryComplete [.health])
  ∧ (∀ a, Changes (.testPortInstruction a) [.health])
  ∧ (∀ a b c, Changes (.ruleEvaluate a b c) [.captures, .health, .optics, .queues, .sessions])
  ∧ (∀ a, Changes (.fenceEffect a) [.captures, .health, .links, .memory, .queues, .repair, .settings, .time, .optics, .tables])
  ∧ (∀ a b, Changes (.heartbeatReceived a b) [.crusher, .health, .inbox, .queues, .repair, .tables, .time, .timetable, .waiting, .optics])
  ∧ (∀ a b, Changes (.withdrawReceived a b) [.crusher, .inbox, .memory, .queues, .repair, .settings, .tables, .time, .timetable, .waiting, .optics])
  ∧ (Changes .wakeComplete [.captures, .health, .links, .optics, .queues, .repair])
  ∧ (∀ a b, Changes (.eqHeadWrite a b) [.hosts])
  ∧ (∀ a b c d, Changes (.barRegisterWrite a b c d) [.hosts])
  ∧ (∀ a b, Changes (.msixHoldoffExpiry a b) [.hosts])
  ∧ (∀ a, Changes (.perstDeassert a) [.hosts])
  ∧ (∀ a, Changes (.pcieLinkDown a) [.hosts])
  ∧ (∀ a, Changes (.functionLevelReset a) [.hosts, .security, .sessions, .slots, .time, .timetable])
  ∧ (∀ a, Changes (.perstAssert a) [.hosts, .security, .sessions, .slots, .time, .timetable])
  ∧ (∀ a, Changes (.sessionLeaseExpiry a) [.security, .sessions, .time, .timetable])
  ∧ (∀ a, Changes (.blockIdleExpiry a) [.sessions, .time, .timetable])
  ∧ (∀ a b, Changes (.testStepStart a b) [.bringup])
  ∧ (∀ a b, Changes (.strataBankTestStart a b) [.bringup])
  ∧ (∀ a b, Changes (.strataBankStepDone a b) [.bringup, .captures, .links, .memory, .queues, .tables])
  ∧ (∀ a, Changes (.powerUpPhaseDone a) [.bringup, .captures, .chutes, .health, .hosts, .links, .optics, .queues, .repair, .security])
  ∧ (Changes .warmResetRelease [.bringup, .memory, .repair, .captures, .links, .optics, .queues])
  ∧ (∀ a b, Changes (.benchTestDone a b) [.repair])
  ∧ (Changes .positionRecordBuilt [.repair])
  ∧ (∀ a, Changes (.fwImageCheckDone a) [.security])
  ∧ (Changes .dumpComplete [.captures])

/-- R80, R143, R382, R404, R414, R457, R462, R472. Slots hold op codes of one byte. -/
def Obligations.WideFrames : Prop :=
  (∀ a b c d, Changes (.packetArrival a b c d) [.captures, .crusher, .health, .hosts, .inbox, .links, .optics, .queues, .repair, .security, .sessions, .shapers, .tables, .time, .timetable, .waiting])
  ∧ (∀ a b c, Changes (.packetTail a b c) [.captures, .crusher, .health, .hosts, .inbox, .links, .optics, .queues, .repair, .security, .sessions, .shapers, .tables, .time, .timetable, .waiting])
  ∧ (∀ a b c d, Changes (.cellReceived a b c d) [.captures, .crusher, .health, .hosts, .inbox, .links, .optics, .queues, .repair, .security, .sessions, .shapers, .tables, .time, .timetable, .waiting])
  ∧ (∀ a b c d, Changes (.cellCreditReceived a b c d) [.captures, .crusher, .health, .hosts, .inbox, .links, .optics, .queues, .repair, .security, .sessions, .shapers, .tables, .time, .timetable, .waiting])
  ∧ (∀ a b c, Changes (.laneTrained a b c) [.captures, .links, .optics, .queues, .time])
  ∧ (∀ a b c, Changes (.ptpSync a b c) [.captures, .chutes, .health, .hosts, .inbox, .links, .memory, .optics, .queues, .repair, .sessions, .shapers, .tick, .time, .tables])
  ∧ (∀ a b c, Changes (.ptpFollowUp a b c) [.captures, .chutes, .health, .hosts, .inbox, .links, .memory, .optics, .queues, .repair, .sessions, .shapers, .tick, .time, .tables])
  ∧ (Changes .joinFrame [.captures, .crusher, .health, .memory, .optics, .queues, .repair, .settings, .tables, .time, .timetable, .waiting])
  ∧ (Changes .checkpointSnapshot [.captures, .health, .links, .memory, .optics, .queues, .repair, .security, .settings, .shapers, .tables, .time, .waiting])
  ∧ (Changes .checkpointRestore [.captures, .health, .links, .memory, .optics, .queues, .repair, .security, .settings, .shapers, .tables, .time, .waiting])
  ∧ (∀ a, Changes (.pendingWriteEffect a) [.captures, .health, .links, .memory, .optics, .queues, .repair, .security, .settings, .shapers, .tables, .time, .waiting])
  ∧ (∀ a, Changes (.dictWrite a) [.captures, .health, .links, .memory, .optics, .queues, .repair, .security, .settings, .shapers, .tables, .time, .waiting, .timetable])
  ∧ (Changes .importApplyDone [.captures, .crusher, .health, .links, .memory, .optics, .queues, .repair, .security, .settings, .shapers, .tables, .time, .timetable, .waiting])
  ∧ (Changes .restEntry [.bringup, .captures, .chutes, .crusher, .health, .links, .memory, .optics, .queues, .repair, .sessions, .settings, .time, .timetable, .waiting])
  ∧ (∀ a, Changes (.frameBoundary a) [.captures, .chutes, .crusher, .health, .hosts, .links, .memory, .optics, .queues, .repair, .security, .sessions, .settings, .shapers, .tables, .tick, .time, .timetable, .waiting])
  ∧ (∀ a b, Changes (.wdtChallenge a b) [.bringup, .captures, .chutes, .crusher, .health, .hosts, .inbox, .links, .memory, .optics, .queues, .repair, .security, .sessions, .settings, .shapers, .slots, .tables, .time, .timetable, .waiting])
  ∧ (Changes .withdrawFrame [.bringup, .captures, .chutes, .crusher, .health, .hosts, .inbox, .links, .memory, .optics, .queues, .repair, .security, .sessions, .settings, .shapers, .slots, .tables, .time, .timetable, .waiting])
  ∧ (∀ (h : HostPort) (a : BitVec 32) (l : List Bytes) (s t : State), (∀ x ∈ s.dx.fetched, x.2.1 < 256) → exec (.sqTailDoorbell h a l) s = .next t → Only [.captures, .hosts, .links, .queues, .security, .sessions, .slots, .time, .timetable, .tables] s t)
  ∧ (∀ (h : HostPort) (a : BitVec 32) (s t : State), (∀ x ∈ s.dx.fetched, x.2.1 < 256) → exec (.cqHeadWrite h a) s = .next t → Only [.captures, .hosts, .links, .queues, .security, .sessions, .slots, .time, .timetable, .tables] s t)
  ∧ (∀ (h : HostPort) (a : BitVec 32) (s t : State), (∀ x ∈ s.dx.fetched, x.2.1 < 256) → exec (.queueCtrlWrite h a) s = .next t → Only [.captures, .hosts, .links, .queues, .security, .sessions, .slots, .time, .timetable, .tables] s t)

/-- R382, R383, R388, R392, R393, R395, R397, R401, R402. Slots hold op codes of one byte. -/
def Obligations.CommandFrames : Prop :=
  (∀ (op : Nat) (c : Cmd) (s : State), Only [.sessions, .slots, .inbox, .hosts, .security] s (dxBefore op c s))
  ∧ (∀ (op : Nat) (c : Cmd) (a : Answer) (s : State), (∀ x ∈ s.dx.fetched, x.2.1 < 256) →
    Only [.captures, .hosts, .links, .queues, .security, .sessions, .slots, .time, .timetable, .tables] s (dxFinish op c a s))
  ∧ (∀ (c : Cmd) (s : State), Alters (.read c) Dx.READ c s [])
  ∧ (∀ (c : Cmd) (s : State), Alters (.readBlockOpen c) Dx.READ_BLOCK (withPhase 1 c) s [.sessions])
  ∧ (∀ (c : Cmd) (s : State), Alters (.readBlockSegment c) Dx.READ_BLOCK (withPhase 2 c) s [.sessions])
  ∧ (∀ (c : Cmd) (s : State), Alters (.readBlockClose c) Dx.READ_BLOCK (withPhase 3 c) s [.sessions])
  ∧ (∀ (c : Cmd) (s : State), Alters (.writeBlockBegin c) Dx.WRITE_BLOCK (withPhase 1 c) s [.sessions, .security, .time, .timetable])
  ∧ (∀ (c : Cmd) (s : State), Alters (.writeBlockSegment c) Dx.WRITE_BLOCK (withPhase 2 c) s [.sessions, .timetable])
  ∧ (∀ (c : Cmd) (s : State), Alters (.writeBlockCommit c) Dx.WRITE_BLOCK (withPhase 3 c) s [.sessions])
  ∧ (∀ (c : Cmd) (s : State), Alters (.writeBlockAbort c) Dx.WRITE_BLOCK (withPhase 4 c) s [.sessions, .time, .timetable])
  ∧ (∀ (c : Cmd) (s : State), Alters (.subscribeEvents c) Dx.SUBSCRIBE (withPhase 1 c) s [.sessions])
  ∧ (∀ (c : Cmd) (s : State), Alters (.subscribeEntry c) Dx.SUBSCRIBE (withPhase 2 c) s [.sessions])
  ∧ (∀ (c : Cmd) (s : State), Alters (.subscribeEnd c) Dx.SUBSCRIBE (withPhase 3 c) s [.sessions])
  ∧ (∀ (c : Cmd) (s : State), Alters (.openSession c) Dx.ACTION (withAction Act.OPEN c) s [.sessions])
  ∧ (∀ (c : Cmd) (s : State), Alters (.closeSession c) Dx.ACTION (withAction Act.CLOSE c) s [.sessions])
  ∧ (∀ (c : Cmd) (s : State), Alters (.renew c) Dx.ACTION (withAction Act.RENEW c) s [.sessions])
  ∧ (∀ (c : Cmd) (s : State), Alters (.claim c) Dx.ACTION (withAction Act.CLAIM c) s [.sessions])
  ∧ (∀ (c : Cmd) (s : State), Alters (.release c) Dx.ACTION (withAction Act.RELEASE c) s [.sessions])
  ∧ (∀ (c : Cmd) (s : State), Alters (.handover c) Dx.ACTION (withAction Act.HANDOVER c) s [.sessions])
  ∧ (∀ (c : Cmd) (s : State), Alters (.ttNextDiscard c) Dx.WRITE (onEntry E.TT_NEXT_DISCARD c) s [.time, .timetable])
  ∧ (∀ (c : Cmd) (s : State), Alters (.ttVariantSelect c) Dx.WRITE (onEntry E.TT_VARIANT_SELECT c) s [.waiting, .timetable])
  ∧ (∀ (c : Cmd) (s : State), Alters (.ttVariantNext c) Dx.WRITE (onEntry E.TT_VARIANT_NEXT c) s [.waiting])
  ∧ (∀ (c : Cmd) (s : State), Alters (.ftActionAdd c) Dx.WRITE (onEntry E.FT_ACTION_ADD c) s [.time])
  ∧ (∀ (c : Cmd) (s : State), Alters (.ftActionArm c) Dx.WRITE (onEntry E.FT_ACTION_ARM c) s [.time])
  ∧ (∀ (c : Cmd) (s : State), Alters (.ftActionCancel c) Dx.WRITE (onEntry E.FT_ACTION_CANCEL c) s [.time])
  ∧ (∀ (c : Cmd) (s : State), Alters (.ftServoRestart c) Dx.WRITE (onEntry E.FT_SERVO_RESTART c) s [.time])
  ∧ (∀ (c : Cmd) (s : State), Alters (.ftDomainSelect c) Dx.WRITE (onEntry E.FT_DOMAIN_SELECT c) s [.settings, .time])
  ∧ (∀ (c : Cmd) (s : State), Alters (.crMissingLogClear c) Dx.WRITE (onEntry E.CR_MISSING_LOG_CLEAR c) s [.crusher])
  ∧ (∀ (c : Cmd) (s : State), Alters (.regionCreate c) Dx.WRITE (withByte Dx.WRITE 32 2 (fun b => 1 * 16 + b % 16) (onEntry E.FM_REGION_DEFINE c)) s [.captures, .links, .memory, .queues, .tables])
  ∧ (∀ (c : Cmd) (s : State), Alters (.regionRetire c) Dx.WRITE (withByte Dx.WRITE 32 2 (fun b => 2 * 16 + b % 16) (onEntry E.FM_REGION_DEFINE c)) s [.captures, .links, .memory, .queues, .tables])
  ∧ (∀ (c : Cmd) (s : State), Alters (.regionRekey c) Dx.WRITE (withByte Dx.WRITE 32 2 (fun b => 3 * 16 + b % 16) (onEntry E.FM_REGION_DEFINE c)) s [.captures, .links, .memory, .queues, .tables])
  ∧ (∀ (c : Cmd) (s : State), Alters (.regionReinitialise c) Dx.WRITE (withByte Dx.WRITE 32 2 (fun b => 4 * 16 + b % 16) (onEntry E.FM_REGION_DEFINE c)) s [.captures, .links, .memory, .queues, .tables])
  ∧ (∀ (c : Cmd) (s : State), Alters (.fmCheckpointStep c) Dx.WRITE (onEntry E.FM_CHECKPOINT_STEP c) s [.waiting])
  ∧ (∀ (c : Cmd) (s : State), Alters (.fmCheckpointRestore c) Dx.WRITE (onEntry E.FM_CHECKPOINT_RESTORE c) s [.waiting])
  ∧ (∀ (c : Cmd) (s : State), Alters (.tbLpmWrite c) Dx.WHOLE (withPhase 3 (onEntry E.TB_LPM_WRITE c)) s [.sessions, .tables])
  ∧ (∀ (c : Cmd) (s : State), Alters (.tbExactWrite c) Dx.WHOLE (withPhase 3 (onEntry E.TB_EXACT_WRITE c)) s [.sessions, .tables])
  ∧ (∀ (c : Cmd) (s : State), Alters (.tbNexthopWrite c) Dx.WHOLE (withPhase 3 (onEntry E.TB_NEXTHOP_WRITE c)) s [.sessions, .tables])
  ∧ (∀ (c : Cmd) (s : State), Alters (.tbGroupWrite c) Dx.WHOLE (withPhase 3 (onEntry E.TB_GROUP_WRITE c)) s [.sessions, .tables])
  ∧ (∀ (c : Cmd) (s : State), Alters (.tbSeedNext c) Dx.WRITE (onEntry E.TB_SEED_NEXT c) s [.tables])
  ∧ (∀ (c : Cmd) (s : State), Alters (.tbSubstitute c) Dx.WRITE (onEntry E.TB_SUBSTITUTE c) s [.tables])
  ∧ (∀ (c : Cmd) (s : State), Alters (.laneCommandMove c) Dx.WRITE (withByte Dx.WRITE 8 2 (fun b => b / 16 * 16 + 1) (onEntry E.OP_LANE_COMMAND c)) s [.optics])
  ∧ (∀ (c : Cmd) (s : State), Alters (.laneCommandReturn c) Dx.WRITE (withByte Dx.WRITE 8 2 (fun b => b / 16 * 16 + 2) (onEntry E.OP_LANE_COMMAND c)) s [.optics])
  ∧ (∀ (c : Cmd) (s : State), Alters (.opElsReplacePrepare c) Dx.WRITE (onEntry E.OP_ELS_REPLACE_PREPARE c) s [.optics])
  ∧ (∀ (c : Cmd) (s : State), Alters (.chuteLoopSet c) Dx.WRITE (withByte Dx.WRITE 8 0 (fun b => 1 * 16 + b % 16) (onEntry E.CH_LOOP_COMMAND c)) s [.chutes])
  ∧ (∀ (c : Cmd) (s : State), Alters (.chuteLoopClear c) Dx.WRITE (withByte Dx.WRITE 8 0 (fun b => 2 * 16 + b % 16) (onEntry E.CH_LOOP_COMMAND c)) s [.chutes])
  ∧ (∀ (c : Cmd) (s : State), Alters (.portConfig c) Dx.WRITE (onEntry E.PORT_CONFIG c) s [.waiting])
  ∧ (∀ (c : Cmd) (s : State), Alters (.psRequestActive c) Dx.WRITE (withByte Dx.WRITE 1 0 (fun _ => 0) (onEntry E.PS_REQUEST c)) s [.health, .repair, .settings, .time, .timetable, .waiting])
  ∧ (∀ (c : Cmd) (s : State), Alters (.psRequestTrim c) Dx.WRITE (withByte Dx.WRITE 1 0 (fun _ => 1) (onEntry E.PS_REQUEST c)) s [.health, .repair, .settings, .time, .timetable, .waiting])
  ∧ (∀ (c : Cmd) (s : State), Alters (.psRequestRest c) Dx.WRITE (withByte Dx.WRITE 1 0 (fun _ => 2) (onEntry E.PS_REQUEST c)) s [.health, .repair, .settings, .time, .timetable, .waiting])
  ∧ (∀ (c : Cmd) (s : State), Alters (.hlDiUnmask c) Dx.WRITE (onEntry E.HL_DI_UNMASK c) s [.health])
  ∧ (∀ (c : Cmd) (s : State), Alters (.hlFaultClear c) Dx.WRITE (onEntry E.HL_FAULT_CLEAR c) s [.health])
  ∧ (∀ (c : Cmd) (s : State), Alters (.hlAttnClear c) Dx.WRITE (onEntry E.HL_ATTN_CLEAR c) s [.health])
  ∧ (∀ (c : Cmd) (s : State), Alters (.hlCertSubmit c) Dx.WRITE (onEntry E.HL_CERT_SUBMIT c) s [.health])
  ∧ (∀ (c : Cmd) (s : State), Alters (.rpPositionFa c) Dx.WRITE (onEntry E.RP_POSITION_FA c) s [.repair, .settings])
  ∧ (∀ (c : Cmd) (s : State), Alters (.rpWithdraw c) Dx.WRITE (onEntry E.RP_WITHDRAW c) s [.repair])
  ∧ (∀ (c : Cmd) (s : State), Alters (.rpBenchReset c) Dx.WRITE (onEntry E.RP_BENCH_RESET c) s [])
  ∧ (∀ (c : Cmd) (s : State), Alters (.rpStreamAccept c) Dx.WRITE (onEntry E.RP_STREAM_ACCEPT c) s [.repair])
  ∧ (∀ (c : Cmd) (s : State), Alters (.rpStreamStart c) Dx.WRITE (onEntry E.RP_STREAM_START c) s [.repair])
  ∧ (∀ (c : Cmd) (s : State), Alters (.rpStreamAbort c) Dx.WRITE (onEntry E.RP_STREAM_ABORT c) s [.memory, .repair, .settings])
  ∧ (∀ (c : Cmd) (s : State), Alters (.seFwActivate c) Dx.SIGNED_WRITE (onEntry E.SE_FW_ACTIVATE c) s [.security])
  ∧ (∀ (c : Cmd) (s : State), Alters (.seRollbackCommit c) Dx.SIGNED_WRITE (onEntry E.SE_ROLLBACK_COMMIT c) s [.security])
  ∧ (∀ (c : Cmd) (s : State), Alters (.seOwnerEnrol c) Dx.SIGNED_WRITE (onEntry E.SE_OWNER_ENROL c) s [.security])
  ∧ (∀ (c : Cmd) (s : State), Alters (.seOwnerRevoke c) Dx.SIGNED_WRITE (onEntry E.SE_OWNER_REVOKE c) s [.security])
  ∧ (∀ (c : Cmd) (s : State), Alters (.seManagerKeys c) Dx.SIGNED_WRITE (onEntry E.SE_MANAGER_KEYS c) s [.security])
  ∧ (∀ (c : Cmd) (s : State), Alters (.seQuorum c) Dx.SIGNED_WRITE (onEntry E.SE_QUORUM c) s [.security])
  ∧ (∀ (c : Cmd) (s : State), Alters (.seAttestRequest c) Dx.WRITE (onEntry E.SE_ATTEST_REQUEST c) s [.security])
  ∧ (∀ (c : Cmd) (s : State), Alters (.behaviourLevelSet c) Dx.SIGNED_WRITE (onEntry E.BEHAVIOUR_LEVEL_SET c) s [.waiting])
  ∧ (∀ (c : Cmd) (s : State), Alters (.tmLatchNow c) Dx.WRITE (onEntry E.TM_LATCH_NOW c) s [.waiting])
  ∧ (∀ (c : Cmd) (s : State), Alters (.tmCaptureRestart c) Dx.WRITE (onEntry E.TM_CAPTURE_RESTART c) s [.captures])
  ∧ (∀ (c : Cmd) (s : State), Alters (.tmClearFixed c) Dx.WRITE (withByte Dx.WRITE 1 0 (fun b => b ||| 1) (onEntry E.TM_CLEAR c)) s [.waiting])
  ∧ (∀ (c : Cmd) (s : State), Alters (.tmClearProg c) Dx.WRITE (withByte Dx.WRITE 1 0 (fun b => b ||| 2) (onEntry E.TM_CLEAR c)) s [.waiting])
  ∧ (∀ (c : Cmd) (s : State), Alters (.biStrataTestNow c) Dx.WRITE (onEntry E.BI_STRATA_TEST_NOW c) s [.bringup])

/-- R218, R227: only the bytes that the request names change. The window of the mirror lies above 0xFE00000000. -/
def Obligations.MemoryBytes : Prop :=
  ∀ (n : Nat) (l : List Nat) (a : MemApply) (s t : State), (s.fm.applies.drop n).head? = some a → exec (.memApply n l) s = .next t → SMap.sorted s.fm.regions = true →
    rqOff a.req < 0xFE00000000 → (a.req.cell = true → rqOp a.req ≠ Op.MEM_REDUCE_STORE) →
    let len := if rqOp a.req = Op.MEM_LOAD then 0 else if rqOp a.req = Op.MEM_ATOMIC then rqWidth a.req else (rqData a.req).length
    ∀ (m : Nat) (r : Region), SMap.get? s.fm.regions m = some r → ∃ x, SMap.get? t.fm.regions m = some x
      ∧ x.state = r.state ∧ x.gen = r.gen ∧ x.base = r.base ∧ x.size = r.size ∧ x.key = r.key
      ∧ ∀ b, r.base ≤ b → (b < rqOff a.req ∨ rqOff a.req + len ≤ b) → cellAt x.data (b - r.base) = cellAt r.data (b - r.base)

/-- R222, R224: what a byte reads as, and that every write keeps the form. -/
def Obligations.MemoryForm : Prop :=
  (∀ (m : List Host.Cell) (a : Nat) (d : Bytes), cellsWf m = true → cellsWf (cellsWrite m a d) = true)
  ∧ (∀ (m : List Host.Cell) (a n : Nat), cellsWf m = true → cellsWf (cellsZero m a n) = true)
  ∧ (∀ (m : List Host.Cell) (a : Nat) (d : Bytes), cellsRead (cellsWrite m a d) a d.length = d)
  ∧ (∀ (m : List Host.Cell) (a b : Nat) (d : Bytes), b < a ∨ a + d.length ≤ b → cellAt (cellsWrite m a d) b = cellAt m b)
  ∧ (∀ (m : List Host.Cell) (a n b : Nat), cellAt (cellsZero m a n) b = if a ≤ b ∧ b < a + n then 0 else cellAt m b)
  ∧ (∀ m w : List Host.Cell, cellsWf m = true → cellsWf w = true → (∀ a, cellAt m a = cellAt w a) → m = w)

/-- R218. The first operand of COMPARE_SWAP is the compare value. -/
def Obligations.AtomicRule : Prop :=
  ∀ (n m : Nat) (a : MemApply) (r : Region) (s : State), (s.fm.applies.drop n).head? = some a → rqOp a.req = Op.MEM_ATOMIC →
    a.req.cell = false → memCheck s a.req = .ok (.region m r) → dpLive s = true →
    Answers (.memApply n []) s fun t =>
      let w := rqWidth a.req
      let x := rqOff a.req - r.base
      let old := beNat (cellsRead r.data x w)
      let p := beAt (rqData a.req) 0 8 % 2 ^ (8 * w)
      let q := beAt (rqData a.req) 8 8 % 2 ^ (8 * w)
      let less := fun i j => if bit (rqWord a.req) 23 then i < j else toSigned (8 * w) i < toSigned (8 * w) j
      (w = 4 ∨ w = 8) ∧ rqOff a.req % w = 0 ∧ rqSub a.req ≤ 4
      ∧ (∃ u, t = settle s (toHome a none (some old) { region := m, gen := r.gen, tick := s.clk.tick } (atomicRsp a.req old 0 u)))
      ∧ ∃ y, SMap.get? t.fm.regions m = some y ∧ beNat (cellsRead y.data x w) =
          (if rqSub a.req = 0 then (old + p) % 2 ^ (8 * w)
           else if rqSub a.req = 1 then (if old = p then q else old)
           else if rqSub a.req = 2 then p
           else if rqSub a.req = 3 then (if less p old then p else old)
           else (if less old p then p else old))

/-- R496. The counter is taken before the write is judged further. -/
def Obligations.SignatureRule : Prop :=
  ∀ (full : Bool) (c : Cmd) (s : State), owned s = true → s.hl.power ≠ .rest →
    let good := ownerGood s (sigIndex c)
    let signed := verify (ownerKey s (sigIndex c)).key (signedBytes Dx.SIGNED_WRITE c) (sigBytes c)
    (good = true → signed = true → s.se.counter < sigCounter c →
      ∃ u a, dxEffect full Dx.SIGNED_WRITE c { s with se := { s.se with counter := sigCounter c } } = (u, a)
        ∧ dxAct full Dx.SIGNED_WRITE c s = respond Dx.SIGNED_WRITE c a u)
    ∧ (¬ (good = true ∧ signed = true ∧ s.se.counter < sigCounter c) →
      ∃ u, dxAct full Dx.SIGNED_WRITE c s = respond Dx.SIGNED_WRITE c { status := St.SIGNATURE } u
        ∧ getNum u E.SE_SIG_REFUSED 0 = (getNum s E.SE_SIG_REFUSED 0 + 1) % 2 ^ 64 ∧ u.se = s.se
        ∧ (onceKey Ev.SE_SIG_REFUSED 0 s = true → u.ev.ring = s.ev.ring)
        ∧ (onceKey Ev.SE_SIG_REFUSED 0 s = false → onceKey Ev.SE_SIG_REFUSED 0 u = true
            ∧ NewestEvent u Ev.SE_SIG_REFUSED [.u16 c.session.toNat, .u32 (c.entry.toNat * 256), .u8 (if good = false then 1 else if signed = false then 2 else 3)]))

/-- R4. The entry's value and the writes that wait for it are as before. -/
def Obligations.BehaviourLevelRule : Prop :=
  ∀ (c : Cmd) (s : State), Does (.behaviourLevelSet c) Dx.SIGNED_WRITE (onEntry E.BEHAVIOUR_LEVEL_SET c) s
    (fun v =>
      let n := beNat (dxValue Dx.SIGNED_WRITE (onEntry E.BEHAVIOUR_LEVEL_SET c))
      n < 0x400 ∨ getNum v E.BEHAVIOUR_LEVEL_MAX 0x400 < n)
    fun v u a => a.status = St.REFUSED ∧ u.dict = v.dict ∧ u.dx.pending = v.dx.pending

/-- R188. -/
def Obligations.NodeBenches : Prop :=
  ∀ (r : Recipe) (l j : Nat), 1 ≤ l →
    (4 ^ l * j + l < rBlocks r → nodeBench r l j = blockBench r (4 ^ l * j + l))
    ∧ (rBlocks r ≤ 4 ^ l * j + l → nodeBench r l j = blockBench r (4 ^ l * j))

/-- R397. The answer to a CLOSE_SESSION stands in `dxFinish`. The table of owners lists an area once. -/
def Obligations.SessionEnds : Prop :=
  ∀ (n k : Nat) (x : Session) (s : State), sessionOf s n = some x → SMap.sorted s.dx.owners = true → n ≠ 0 → s.hl.power ≠ .rest →
    let t := sessionEnd n k s
    sessionOf t n = none ∧ (∀ a, ownerOf t a = if ownerOf s a = n then 0 else ownerOf s a)
    ∧ (∀ y ∈ t.dx.xfers, y.session ≠ n) ∧ (∀ y ∈ t.dx.snaps, y.session ≠ n) ∧ (∀ y ∈ t.dx.subs, y.session ≠ n)
    ∧ (∀ y ∈ s.dx.sessions, y.num ≠ n → y ∈ t.dx.sessions) ∧ t.dx.pending = s.dx.pending
    ∧ NewestEvent t Ev.DX_SESSION [.u16 n, .u8 x.kind, .u32 x.fa, .u8 k]

/-- R120, R122, R137: a base makes the link look empty, and afterwards what is sent and freed moves what is outstanding. -/
def Obligations.CreditBase : Prop :=
  (∀ (c : Credit) (a b : Nat), b < 2 ^ 32 → (creditBase c a b).outstanding = 0)
  ∧ (∀ (c : Credit) (a b n : Nat), b < 2 ^ 32 → n < 2 ^ 31 → ({ creditBase c a b with sent := (c.sent + n) % 2 ^ 32 } : Credit).outstanding = n)
  ∧ (∀ (c : Credit) (k : Nat), (k : Int) ≤ c.outstanding + 2 ^ 31 →
      ({ c with pFreed := (c.pFreed + k) % 2 ^ 32 } : Credit).outstanding = c.outstanding - k)
  ∧ (∀ (c : Credit) (a b lost : Nat), c.received < 2 ^ 32 → c.pFreed < 2 ^ 32 → lost < 2 ^ 31 → a = (c.received + lost) % 2 ^ 32 →
      (b = c.pFreed ∨ serialAfter 32 b c.pFreed = true) →
      creditJudge c a b = ({ c with received := a, pFreed := b, freed := (c.freed + lost) % 2 ^ 32 }, lost, false))
  ∧ (∀ (c : Credit) (a b : Nat), a < 2 ^ 32 → c.received < 2 ^ 32 → serialAfter 32 c.received a = true → creditJudge c a b = (creditBase c a b, 0, true))

/-- R98: values half the range apart are not comparable. -/
def Obligations.SerialOrder : Prop :=
  ∀ w a b : Nat, 1 ≤ w → a < 2 ^ w → b < 2 ^ w →
    (serialAfter w a b = true → serialAfter w b a = false)
    ∧ (a ≠ b → serialDist w a b ≠ 2 ^ (w - 1) → serialAfter w a b = true ∨ serialAfter w b a = true)
    ∧ (serialDist w a b = 2 ^ (w - 1) → serialAfter w a b = false ∧ serialAfter w b a = false)
    ∧ (∀ n, 0 < n → n < 2 ^ (w - 1) → serialAfter w ((a + n) % 2 ^ w) a = true) ∧ serialAfter w a a = false

/-- R99: the launch instant agrees with the stamp in its low 32 bits and lies within half the stamp's range of the present; no other does. -/
def Obligations.LaunchUnwrap : Prop :=
  ∀ (ns stamp : Nat), stamp < 2 ^ 32 →
    let d : Nat := (stamp + 2 ^ 32 - ns % 2 ^ 32) % 2 ^ 32
    unwrapLaunch ns stamp = (ns : Int) + (if 2 ^ 31 ≤ d then (d : Int) - 2 ^ 32 else (d : Int))
    ∧ unwrapLaunch ns stamp % 2 ^ 32 = stamp
    ∧ ∀ x : Int, x % 2 ^ 32 = stamp → -(2 ^ 31) ≤ x - ns → x - ns < 2 ^ 31 → unwrapLaunch ns stamp = x

/-- R111, R112, R114, R116, R130: what the part writes into a packet is what its fields read. -/
def Obligations.PacketForm : Prop :=
  (∀ (h : DataHdr) (d : Bytes) (st : Nat), h.vc < 4 → h.e < 2 → h.dest < 2 ^ 24 → h.op < 2 ^ 8 → h.src < 2 ^ 24 → h.flow < 2 ^ 20 →
    h.seq < 2 ^ 16 → h.job < 2 ^ 16 → h.member < 2 ^ 16 → h.hop < 2 ^ 8 → h.operand < 2 ^ 64 → d.length < 2 ^ 13 → st < 2 ^ 32 →
    let k := mkData h d st
    pkFormat k = 5 ∧ pkVc k = h.vc ∧ pkE k = h.e ∧ pkDest k = h.dest ∧ pkOp k = h.op ∧ pkSrc k = h.src ∧ pkFlow k = h.flow ∧ pkM k = h.m
      ∧ pkSeq k = h.seq ∧ pkJob k = h.job ∧ pkLen k = d.length ∧ pkMember k = h.member ∧ pkHop k = h.hop ∧ beAt k.bytes 0x18 8 = h.operand
      ∧ pkPayload k = d ∧ pkStamp k = st ∧ pkWire k = 40 + d.length ∧ pkHdrOk k = true ∧ pkCrcOk k = true)
  ∧ (∀ (vc e dest op src flow seq job port epoch st : Nat) (m : Bool) (b : Bytes), vc < 4 → e < 2 → dest < 2 ^ 24 → op < 2 ^ 8 → src < 2 ^ 24 →
    flow < 2 ^ 20 → seq < 2 ^ 16 → job < 2 ^ 16 → port < 2 ^ 16 → epoch < 2 ^ 32 → st < 2 ^ 32 → b.length = 32 →
    let k := mkControl vc e dest op src flow m seq job port epoch b st
    pkFormat k = 6 ∧ pkVc k = vc ∧ pkE k = e ∧ pkDest k = dest ∧ pkOp k = op ∧ pkSrc k = src ∧ pkFlow k = flow ∧ pkM k = m ∧ pkSeq k = seq
      ∧ pkJob k = job ∧ pkSendPort k = port ∧ pkEpoch k = epoch ∧ pkBody k = b ∧ pkStamp k = st ∧ pkWire k = 64 ∧ pkCrcOk k = true)

/-- R113: a rewrite in flight moves both stored checks by the difference it makes, so that damage stays detectable and a stomp stays a stomp. -/
def Obligations.RewriteKeepsChecks : Prop :=
  ∀ (k : Packet) (off len v : Nat), 40 ≤ k.bytes.length → off + len ≤ k.bytes.length - 4 → (off + len ≤ 0x12 ∨ 0x14 ≤ off) →
    let x := pkSet k off len v
    x.bytes.length = k.bytes.length ∧ (pkControl k = false → pkHdrOk x = pkHdrOk k) ∧ pkCrcOk x = pkCrcOk k ∧ pkStomped x = pkStomped k
    ∧ slice x.bytes off len = beBytes len v
    ∧ ∀ i, i < k.bytes.length - 4 → (i < off ∨ off + len ≤ i) → (pkControl k = true ∨ i < 0x12 ∨ 0x14 ≤ i) → x.bytes[i]? = k.bytes[i]?

/-- R129, R130: the cells of a packet. -/
def Obligations.CellForm : Prop :=
  ∀ (k : Packet) (n i : Nat) (c : Bytes), (mkCells k n)[i]? = some c →
    let whole := cellHead k ++ cellPayload k
    cellOk c = true ∧ cellCount c = (n + i) % 256 ∧ cellData c = (whole.drop (56 * i)).take 56
    ∧ cellPos c = (if i = 0 then (if whole.length ≤ 56 then 3 else 2) else if whole.length ≤ 56 * (i + 1) then 1 else 0)
    ∧ (mkCells k n).length = ceilDiv whole.length 56

/-- R388, R391: the first check that fails gives the answer. Steps 5 to 13 stand in `checkSteps`. -/
def Obligations.CheckOrder : Prop :=
  ∀ (full : Bool) (op : Nat) (c : Cmd) (s : State), (∀ x ∈ s.dx.sessions, now s < x.leaseEnd) →
    let ready := subsFollow c (if c.session = 0 then s else sessionTouch (cmdSession c) s)
    let answers := fun (st : Nat) => ∃ u, dxJudge full op c s = respond op c { status := st } u
    (c.check.toNat ≠ cmdCheck (op % 256) c → answers St.CHECK_FAILED)
    ∧ (c.check.toNat = cmdCheck (op % 256) c → headerBad op c = true → answers St.BAD_COMMAND)
    ∧ (c.check.toNat = cmdCheck (op % 256) c → headerBad op c = false → sourceRefused c s = true → answers St.SOURCE_REFUSED)
    ∧ (c.check.toNat = cmdCheck (op % 256) c → headerBad op c = false → sourceRefused c s = false → sessionOk op c s = false →
        answers St.NO_SESSION)
    ∧ (c.check.toNat = cmdCheck (op % 256) c → headerBad op c = false → sourceRefused c s = false → sessionOk op c s = true →
        (∀ r, cached c ready = some r → ∃ u, dxJudge full op c s = deliver { r with dest := c.src, replayed := true } u)
        ∧ (∀ v, cached c ready = none → checkSteps op c ready = some v → ∃ u, dxJudge full op c s = respond op c (answerOf v) u)
        ∧ (cached c ready = none → checkSteps op c ready = none → dxJudge full op c s = dxAct full op c ready))
    ∧ (∀ v, checkSteps op c s = some v → available op c s = false → v.1 = St.NOT_AVAILABLE)
    ∧ (∀ i v, checkSteps op c s = some v → available op c s = true → entryNamed op c = some i → findEntry i = none → v.1 = St.NO_ENTRY)
    ∧ (∀ i e v, checkSteps op c s = some v → available op c s = true → entryNamed op c = some i → findEntry i = some e →
        accessOk op c e = false → v.1 = St.ACCESS)

end
end

