-- ==== Sys2Proof/Laws/State.lean ====
section
/-! SUPPORT. What each simple update of the state leaves alone: one lemma per update and group, true by `rfl`. -/
namespace Sys2Proof.Machine
open Sys2Proof

@[simp] theorem start_clk (s : State) : (start s).clk = s.clk := rfl
@[simp] theorem start_ev (s : State) : (start s).ev = s.ev := rfl
@[simp] theorem start_dict (s : State) : (start s).dict = s.dict := rfl
@[simp] theorem start_dx (s : State) : (start s).dx = s.dx := rfl
@[simp] theorem start_pc (s : State) : (start s).pc = s.pc := rfl
@[simp] theorem start_tt (s : State) : (start s).tt = s.tt := rfl
@[simp] theorem start_ft (s : State) : (start s).ft = s.ft := rfl
@[simp] theorem start_links (s : State) : (start s).links = s.links := rfl
@[simp] theorem start_dp (s : State) : (start s).dp = s.dp := rfl
@[simp] theorem start_cr (s : State) : (start s).cr = s.cr := rfl
@[simp] theorem start_fm (s : State) : (start s).fm = s.fm := rfl
@[simp] theorem start_tb (s : State) : (start s).tb = s.tb := rfl
@[simp] theorem start_ot (s : State) : (start s).ot = s.ot := rfl
@[simp] theorem start_op (s : State) : (start s).op = s.op := rfl
@[simp] theorem start_ch (s : State) : (start s).ch = s.ch := rfl
@[simp] theorem start_hl (s : State) : (start s).hl = s.hl := rfl
@[simp] theorem start_rp (s : State) : (start s).rp = s.rp := rfl
@[simp] theorem start_se (s : State) : (start s).se = s.se := rfl
@[simp] theorem start_tm (s : State) : (start s).tm = s.tm := rfl
@[simp] theorem start_bi (s : State) : (start s).bi = s.bi := rfl
@[simp] theorem start_el (s : State) : (start s).el = s.el := rfl
@[simp] theorem start_frame (s : State) : (start s).frame = s.frame := rfl
@[simp] theorem start_free (s : State) : (start s).free = s.free := rfl
@[simp] theorem start_pending (s : State) : (start s).pending = s.pending := rfl

@[simp] theorem emit_clk (o : Output) (s : State) : (emit o s).clk = s.clk := rfl
@[simp] theorem emit_ev (o : Output) (s : State) : (emit o s).ev = s.ev := rfl
@[simp] theorem emit_dict (o : Output) (s : State) : (emit o s).dict = s.dict := rfl
@[simp] theorem emit_dx (o : Output) (s : State) : (emit o s).dx = s.dx := rfl
@[simp] theorem emit_pc (o : Output) (s : State) : (emit o s).pc = s.pc := rfl
@[simp] theorem emit_tt (o : Output) (s : State) : (emit o s).tt = s.tt := rfl
@[simp] theorem emit_ft (o : Output) (s : State) : (emit o s).ft = s.ft := rfl
@[simp] theorem emit_links (o : Output) (s : State) : (emit o s).links = s.links := rfl
@[simp] theorem emit_dp (o : Output) (s : State) : (emit o s).dp = s.dp := rfl
@[simp] theorem emit_cr (o : Output) (s : State) : (emit o s).cr = s.cr := rfl
@[simp] theorem emit_fm (o : Output) (s : State) : (emit o s).fm = s.fm := rfl
@[simp] theorem emit_tb (o : Output) (s : State) : (emit o s).tb = s.tb := rfl
@[simp] theorem emit_ot (o : Output) (s : State) : (emit o s).ot = s.ot := rfl
@[simp] theorem emit_op (o : Output) (s : State) : (emit o s).op = s.op := rfl
@[simp] theorem emit_ch (o : Output) (s : State) : (emit o s).ch = s.ch := rfl
@[simp] theorem emit_hl (o : Output) (s : State) : (emit o s).hl = s.hl := rfl
@[simp] theorem emit_rp (o : Output) (s : State) : (emit o s).rp = s.rp := rfl
@[simp] theorem emit_se (o : Output) (s : State) : (emit o s).se = s.se := rfl
@[simp] theorem emit_tm (o : Output) (s : State) : (emit o s).tm = s.tm := rfl
@[simp] theorem emit_bi (o : Output) (s : State) : (emit o s).bi = s.bi := rfl
@[simp] theorem emit_el (o : Output) (s : State) : (emit o s).el = s.el := rfl
@[simp] theorem emit_frame (o : Output) (s : State) : (emit o s).frame = s.frame := rfl
@[simp] theorem emit_free (o : Output) (s : State) : (emit o s).free = s.free := rfl
@[simp] theorem emit_pending (o : Output) (s : State) : (emit o s).pending = s.pending := rfl

@[simp] theorem setNum_clk (e v : Nat) (s : State) : (setNum e v s).clk = s.clk := rfl
@[simp] theorem setNum_ev (e v : Nat) (s : State) : (setNum e v s).ev = s.ev := rfl
@[simp] theorem setNum_dx (e v : Nat) (s : State) : (setNum e v s).dx = s.dx := rfl
@[simp] theorem setNum_pc (e v : Nat) (s : State) : (setNum e v s).pc = s.pc := rfl
@[simp] theorem setNum_tt (e v : Nat) (s : State) : (setNum e v s).tt = s.tt := rfl
@[simp] theorem setNum_ft (e v : Nat) (s : State) : (setNum e v s).ft = s.ft := rfl
@[simp] theorem setNum_links (e v : Nat) (s : State) : (setNum e v s).links = s.links := rfl
@[simp] theorem setNum_dp (e v : Nat) (s : State) : (setNum e v s).dp = s.dp := rfl
@[simp] theorem setNum_cr (e v : Nat) (s : State) : (setNum e v s).cr = s.cr := rfl
@[simp] theorem setNum_fm (e v : Nat) (s : State) : (setNum e v s).fm = s.fm := rfl
@[simp] theorem setNum_tb (e v : Nat) (s : State) : (setNum e v s).tb = s.tb := rfl
@[simp] theorem setNum_ot (e v : Nat) (s : State) : (setNum e v s).ot = s.ot := rfl
@[simp] theorem setNum_op (e v : Nat) (s : State) : (setNum e v s).op = s.op := rfl
@[simp] theorem setNum_ch (e v : Nat) (s : State) : (setNum e v s).ch = s.ch := rfl
@[simp] theorem setNum_hl (e v : Nat) (s : State) : (setNum e v s).hl = s.hl := rfl
@[simp] theorem setNum_rp (e v : Nat) (s : State) : (setNum e v s).rp = s.rp := rfl
@[simp] theorem setNum_se (e v : Nat) (s : State) : (setNum e v s).se = s.se := rfl
@[simp] theorem setNum_tm (e v : Nat) (s : State) : (setNum e v s).tm = s.tm := rfl
@[simp] theorem setNum_bi (e v : Nat) (s : State) : (setNum e v s).bi = s.bi := rfl
@[simp] theorem setNum_el (e v : Nat) (s : State) : (setNum e v s).el = s.el := rfl
@[simp] theorem setNum_frame (e v : Nat) (s : State) : (setNum e v s).frame = s.frame := rfl
@[simp] theorem setNum_out (e v : Nat) (s : State) : (setNum e v s).out = s.out := rfl
@[simp] theorem setNum_free (e v : Nat) (s : State) : (setNum e v s).free = s.free := rfl
@[simp] theorem setNum_pending (e v : Nat) (s : State) : (setNum e v s).pending = s.pending := rfl

@[simp] theorem setTab_clk (e : Nat) (v : Bytes) (s : State) : (setTab e v s).clk = s.clk := rfl
@[simp] theorem setTab_ev (e : Nat) (v : Bytes) (s : State) : (setTab e v s).ev = s.ev := rfl
@[simp] theorem setTab_dx (e : Nat) (v : Bytes) (s : State) : (setTab e v s).dx = s.dx := rfl
@[simp] theorem setTab_pc (e : Nat) (v : Bytes) (s : State) : (setTab e v s).pc = s.pc := rfl
@[simp] theorem setTab_tt (e : Nat) (v : Bytes) (s : State) : (setTab e v s).tt = s.tt := rfl
@[simp] theorem setTab_ft (e : Nat) (v : Bytes) (s : State) : (setTab e v s).ft = s.ft := rfl
@[simp] theorem setTab_links (e : Nat) (v : Bytes) (s : State) : (setTab e v s).links = s.links := rfl
@[simp] theorem setTab_dp (e : Nat) (v : Bytes) (s : State) : (setTab e v s).dp = s.dp := rfl
@[simp] theorem setTab_cr (e : Nat) (v : Bytes) (s : State) : (setTab e v s).cr = s.cr := rfl
@[simp] theorem setTab_fm (e : Nat) (v : Bytes) (s : State) : (setTab e v s).fm = s.fm := rfl
@[simp] theorem setTab_tb (e : Nat) (v : Bytes) (s : State) : (setTab e v s).tb = s.tb := rfl
@[simp] theorem setTab_ot (e : Nat) (v : Bytes) (s : State) : (setTab e v s).ot = s.ot := rfl
@[simp] theorem setTab_op (e : Nat) (v : Bytes) (s : State) : (setTab e v s).op = s.op := rfl
@[simp] theorem setTab_ch (e : Nat) (v : Bytes) (s : State) : (setTab e v s).ch = s.ch := rfl
@[simp] theorem setTab_hl (e : Nat) (v : Bytes) (s : State) : (setTab e v s).hl = s.hl := rfl
@[simp] theorem setTab_rp (e : Nat) (v : Bytes) (s : State) : (setTab e v s).rp = s.rp := rfl
@[simp] theorem setTab_se (e : Nat) (v : Bytes) (s : State) : (setTab e v s).se = s.se := rfl
@[simp] theorem setTab_tm (e : Nat) (v : Bytes) (s : State) : (setTab e v s).tm = s.tm := rfl
@[simp] theorem setTab_bi (e : Nat) (v : Bytes) (s : State) : (setTab e v s).bi = s.bi := rfl
@[simp] theorem setTab_el (e : Nat) (v : Bytes) (s : State) : (setTab e v s).el = s.el := rfl
@[simp] theorem setTab_frame (e : Nat) (v : Bytes) (s : State) : (setTab e v s).frame = s.frame := rfl
@[simp] theorem setTab_out (e : Nat) (v : Bytes) (s : State) : (setTab e v s).out = s.out := rfl
@[simp] theorem setTab_free (e : Nat) (v : Bytes) (s : State) : (setTab e v s).free = s.free := rfl
@[simp] theorem setTab_pending (e : Nat) (v : Bytes) (s : State) : (setTab e v s).pending = s.pending := rfl

@[simp] theorem count_clk (e n : Nat) (s : State) : (count e n s).clk = s.clk := rfl
@[simp] theorem count_ev (e n : Nat) (s : State) : (count e n s).ev = s.ev := rfl
@[simp] theorem count_dx (e n : Nat) (s : State) : (count e n s).dx = s.dx := rfl
@[simp] theorem count_pc (e n : Nat) (s : State) : (count e n s).pc = s.pc := rfl
@[simp] theorem count_tt (e n : Nat) (s : State) : (count e n s).tt = s.tt := rfl
@[simp] theorem count_ft (e n : Nat) (s : State) : (count e n s).ft = s.ft := rfl
@[simp] theorem count_links (e n : Nat) (s : State) : (count e n s).links = s.links := rfl
@[simp] theorem count_dp (e n : Nat) (s : State) : (count e n s).dp = s.dp := rfl
@[simp] theorem count_cr (e n : Nat) (s : State) : (count e n s).cr = s.cr := rfl
@[simp] theorem count_fm (e n : Nat) (s : State) : (count e n s).fm = s.fm := rfl
@[simp] theorem count_tb (e n : Nat) (s : State) : (count e n s).tb = s.tb := rfl
@[simp] theorem count_ot (e n : Nat) (s : State) : (count e n s).ot = s.ot := rfl
@[simp] theorem count_op (e n : Nat) (s : State) : (count e n s).op = s.op := rfl
@[simp] theorem count_ch (e n : Nat) (s : State) : (count e n s).ch = s.ch := rfl
@[simp] theorem count_hl (e n : Nat) (s : State) : (count e n s).hl = s.hl := rfl
@[simp] theorem count_rp (e n : Nat) (s : State) : (count e n s).rp = s.rp := rfl
@[simp] theorem count_se (e n : Nat) (s : State) : (count e n s).se = s.se := rfl
@[simp] theorem count_tm (e n : Nat) (s : State) : (count e n s).tm = s.tm := rfl
@[simp] theorem count_bi (e n : Nat) (s : State) : (count e n s).bi = s.bi := rfl
@[simp] theorem count_el (e n : Nat) (s : State) : (count e n s).el = s.el := rfl
@[simp] theorem count_frame (e n : Nat) (s : State) : (count e n s).frame = s.frame := rfl
@[simp] theorem count_out (e n : Nat) (s : State) : (count e n s).out = s.out := rfl
@[simp] theorem count_free (e n : Nat) (s : State) : (count e n s).free = s.free := rfl
@[simp] theorem count_pending (e n : Nat) (s : State) : (count e n s).pending = s.pending := rfl

@[simp] theorem atPs_ev (a : Nat) (s : State) : (atPs a s).ev = s.ev := rfl
@[simp] theorem atPs_dict (a : Nat) (s : State) : (atPs a s).dict = s.dict := rfl
@[simp] theorem atPs_dx (a : Nat) (s : State) : (atPs a s).dx = s.dx := rfl
@[simp] theorem atPs_pc (a : Nat) (s : State) : (atPs a s).pc = s.pc := rfl
@[simp] theorem atPs_tt (a : Nat) (s : State) : (atPs a s).tt = s.tt := rfl
@[simp] theorem atPs_ft (a : Nat) (s : State) : (atPs a s).ft = s.ft := rfl
@[simp] theorem atPs_links (a : Nat) (s : State) : (atPs a s).links = s.links := rfl
@[simp] theorem atPs_dp (a : Nat) (s : State) : (atPs a s).dp = s.dp := rfl
@[simp] theorem atPs_cr (a : Nat) (s : State) : (atPs a s).cr = s.cr := rfl
@[simp] theorem atPs_fm (a : Nat) (s : State) : (atPs a s).fm = s.fm := rfl
@[simp] theorem atPs_tb (a : Nat) (s : State) : (atPs a s).tb = s.tb := rfl
@[simp] theorem atPs_ot (a : Nat) (s : State) : (atPs a s).ot = s.ot := rfl
@[simp] theorem atPs_op (a : Nat) (s : State) : (atPs a s).op = s.op := rfl
@[simp] theorem atPs_ch (a : Nat) (s : State) : (atPs a s).ch = s.ch := rfl
@[simp] theorem atPs_hl (a : Nat) (s : State) : (atPs a s).hl = s.hl := rfl
@[simp] theorem atPs_rp (a : Nat) (s : State) : (atPs a s).rp = s.rp := rfl
@[simp] theorem atPs_se (a : Nat) (s : State) : (atPs a s).se = s.se := rfl
@[simp] theorem atPs_tm (a : Nat) (s : State) : (atPs a s).tm = s.tm := rfl
@[simp] theorem atPs_bi (a : Nat) (s : State) : (atPs a s).bi = s.bi := rfl
@[simp] theorem atPs_el (a : Nat) (s : State) : (atPs a s).el = s.el := rfl
@[simp] theorem atPs_frame (a : Nat) (s : State) : (atPs a s).frame = s.frame := rfl
@[simp] theorem atPs_out (a : Nat) (s : State) : (atPs a s).out = s.out := rfl
@[simp] theorem atPs_free (a : Nat) (s : State) : (atPs a s).free = s.free := rfl
@[simp] theorem atPs_pending (a : Nat) (s : State) : (atPs a s).pending = s.pending := rfl

@[simp] theorem setPort_clk (p : Nat) (v : PortDp) (s : State) : (setPort p v s).clk = s.clk := rfl
@[simp] theorem setPort_ev (p : Nat) (v : PortDp) (s : State) : (setPort p v s).ev = s.ev := rfl
@[simp] theorem setPort_dict (p : Nat) (v : PortDp) (s : State) : (setPort p v s).dict = s.dict := rfl
@[simp] theorem setPort_dx (p : Nat) (v : PortDp) (s : State) : (setPort p v s).dx = s.dx := rfl
@[simp] theorem setPort_pc (p : Nat) (v : PortDp) (s : State) : (setPort p v s).pc = s.pc := rfl
@[simp] theorem setPort_tt (p : Nat) (v : PortDp) (s : State) : (setPort p v s).tt = s.tt := rfl
@[simp] theorem setPort_ft (p : Nat) (v : PortDp) (s : State) : (setPort p v s).ft = s.ft := rfl
@[simp] theorem setPort_links (p : Nat) (v : PortDp) (s : State) : (setPort p v s).links = s.links := rfl
@[simp] theorem setPort_cr (p : Nat) (v : PortDp) (s : State) : (setPort p v s).cr = s.cr := rfl
@[simp] theorem setPort_fm (p : Nat) (v : PortDp) (s : State) : (setPort p v s).fm = s.fm := rfl
@[simp] theorem setPort_tb (p : Nat) (v : PortDp) (s : State) : (setPort p v s).tb = s.tb := rfl
@[simp] theorem setPort_ot (p : Nat) (v : PortDp) (s : State) : (setPort p v s).ot = s.ot := rfl
@[simp] theorem setPort_op (p : Nat) (v : PortDp) (s : State) : (setPort p v s).op = s.op := rfl
@[simp] theorem setPort_ch (p : Nat) (v : PortDp) (s : State) : (setPort p v s).ch = s.ch := rfl
@[simp] theorem setPort_hl (p : Nat) (v : PortDp) (s : State) : (setPort p v s).hl = s.hl := rfl
@[simp] theorem setPort_rp (p : Nat) (v : PortDp) (s : State) : (setPort p v s).rp = s.rp := rfl
@[simp] theorem setPort_se (p : Nat) (v : PortDp) (s : State) : (setPort p v s).se = s.se := rfl
@[simp] theorem setPort_tm (p : Nat) (v : PortDp) (s : State) : (setPort p v s).tm = s.tm := rfl
@[simp] theorem setPort_bi (p : Nat) (v : PortDp) (s : State) : (setPort p v s).bi = s.bi := rfl
@[simp] theorem setPort_el (p : Nat) (v : PortDp) (s : State) : (setPort p v s).el = s.el := rfl
@[simp] theorem setPort_frame (p : Nat) (v : PortDp) (s : State) : (setPort p v s).frame = s.frame := rfl
@[simp] theorem setPort_out (p : Nat) (v : PortDp) (s : State) : (setPort p v s).out = s.out := rfl
@[simp] theorem setPort_free (p : Nat) (v : PortDp) (s : State) : (setPort p v s).free = s.free := rfl
@[simp] theorem setPort_pending (p : Nat) (v : PortDp) (s : State) : (setPort p v s).pending = s.pending := rfl

@[simp] theorem setPhys_clk (x : Nat) (v : PhysSlot) (s : State) : (setPhys x v s).clk = s.clk := rfl
@[simp] theorem setPhys_ev (x : Nat) (v : PhysSlot) (s : State) : (setPhys x v s).ev = s.ev := rfl
@[simp] theorem setPhys_dict (x : Nat) (v : PhysSlot) (s : State) : (setPhys x v s).dict = s.dict := rfl
@[simp] theorem setPhys_dx (x : Nat) (v : PhysSlot) (s : State) : (setPhys x v s).dx = s.dx := rfl
@[simp] theorem setPhys_pc (x : Nat) (v : PhysSlot) (s : State) : (setPhys x v s).pc = s.pc := rfl
@[simp] theorem setPhys_tt (x : Nat) (v : PhysSlot) (s : State) : (setPhys x v s).tt = s.tt := rfl
@[simp] theorem setPhys_ft (x : Nat) (v : PhysSlot) (s : State) : (setPhys x v s).ft = s.ft := rfl
@[simp] theorem setPhys_links (x : Nat) (v : PhysSlot) (s : State) : (setPhys x v s).links = s.links := rfl
@[simp] theorem setPhys_dp (x : Nat) (v : PhysSlot) (s : State) : (setPhys x v s).dp = s.dp := rfl
@[simp] theorem setPhys_cr (x : Nat) (v : PhysSlot) (s : State) : (setPhys x v s).cr = s.cr := rfl
@[simp] theorem setPhys_fm (x : Nat) (v : PhysSlot) (s : State) : (setPhys x v s).fm = s.fm := rfl
@[simp] theorem setPhys_tb (x : Nat) (v : PhysSlot) (s : State) : (setPhys x v s).tb = s.tb := rfl
@[simp] theorem setPhys_ot (x : Nat) (v : PhysSlot) (s : State) : (setPhys x v s).ot = s.ot := rfl
@[simp] theorem setPhys_op (x : Nat) (v : PhysSlot) (s : State) : (setPhys x v s).op = s.op := rfl
@[simp] theorem setPhys_ch (x : Nat) (v : PhysSlot) (s : State) : (setPhys x v s).ch = s.ch := rfl
@[simp] theorem setPhys_hl (x : Nat) (v : PhysSlot) (s : State) : (setPhys x v s).hl = s.hl := rfl
@[simp] theorem setPhys_se (x : Nat) (v : PhysSlot) (s : State) : (setPhys x v s).se = s.se := rfl
@[simp] theorem setPhys_tm (x : Nat) (v : PhysSlot) (s : State) : (setPhys x v s).tm = s.tm := rfl
@[simp] theorem setPhys_bi (x : Nat) (v : PhysSlot) (s : State) : (setPhys x v s).bi = s.bi := rfl
@[simp] theorem setPhys_el (x : Nat) (v : PhysSlot) (s : State) : (setPhys x v s).el = s.el := rfl
@[simp] theorem setPhys_frame (x : Nat) (v : PhysSlot) (s : State) : (setPhys x v s).frame = s.frame := rfl
@[simp] theorem setPhys_out (x : Nat) (v : PhysSlot) (s : State) : (setPhys x v s).out = s.out := rfl
@[simp] theorem setPhys_free (x : Nat) (v : PhysSlot) (s : State) : (setPhys x v s).free = s.free := rfl
@[simp] theorem setPhys_pending (x : Nat) (v : PhysSlot) (s : State) : (setPhys x v s).pending = s.pending := rfl

@[simp] theorem setLink_clk (p : Nat) (f : Link → Link) (s : State) : (setLink p f s).clk = s.clk := rfl
@[simp] theorem setLink_ev (p : Nat) (f : Link → Link) (s : State) : (setLink p f s).ev = s.ev := rfl
@[simp] theorem setLink_dict (p : Nat) (f : Link → Link) (s : State) : (setLink p f s).dict = s.dict := rfl
@[simp] theorem setLink_dx (p : Nat) (f : Link → Link) (s : State) : (setLink p f s).dx = s.dx := rfl
@[simp] theorem setLink_pc (p : Nat) (f : Link → Link) (s : State) : (setLink p f s).pc = s.pc := rfl
@[simp] theorem setLink_tt (p : Nat) (f : Link → Link) (s : State) : (setLink p f s).tt = s.tt := rfl
@[simp] theorem setLink_ft (p : Nat) (f : Link → Link) (s : State) : (setLink p f s).ft = s.ft := rfl
@[simp] theorem setLink_dp (p : Nat) (f : Link → Link) (s : State) : (setLink p f s).dp = s.dp := rfl
@[simp] theorem setLink_cr (p : Nat) (f : Link → Link) (s : State) : (setLink p f s).cr = s.cr := rfl
@[simp] theorem setLink_fm (p : Nat) (f : Link → Link) (s : State) : (setLink p f s).fm = s.fm := rfl
@[simp] theorem setLink_tb (p : Nat) (f : Link → Link) (s : State) : (setLink p f s).tb = s.tb := rfl
@[simp] theorem setLink_ot (p : Nat) (f : Link → Link) (s : State) : (setLink p f s).ot = s.ot := rfl
@[simp] theorem setLink_op (p : Nat) (f : Link → Link) (s : State) : (setLink p f s).op = s.op := rfl
@[simp] theorem setLink_ch (p : Nat) (f : Link → Link) (s : State) : (setLink p f s).ch = s.ch := rfl
@[simp] theorem setLink_hl (p : Nat) (f : Link → Link) (s : State) : (setLink p f s).hl = s.hl := rfl
@[simp] theorem setLink_rp (p : Nat) (f : Link → Link) (s : State) : (setLink p f s).rp = s.rp := rfl
@[simp] theorem setLink_se (p : Nat) (f : Link → Link) (s : State) : (setLink p f s).se = s.se := rfl
@[simp] theorem setLink_tm (p : Nat) (f : Link → Link) (s : State) : (setLink p f s).tm = s.tm := rfl
@[simp] theorem setLink_bi (p : Nat) (f : Link → Link) (s : State) : (setLink p f s).bi = s.bi := rfl
@[simp] theorem setLink_el (p : Nat) (f : Link → Link) (s : State) : (setLink p f s).el = s.el := rfl
@[simp] theorem setLink_frame (p : Nat) (f : Link → Link) (s : State) : (setLink p f s).frame = s.frame := rfl
@[simp] theorem setLink_out (p : Nat) (f : Link → Link) (s : State) : (setLink p f s).out = s.out := rfl
@[simp] theorem setLink_free (p : Nat) (f : Link → Link) (s : State) : (setLink p f s).free = s.free := rfl
@[simp] theorem setLink_pending (p : Nat) (f : Link → Link) (s : State) : (setLink p f s).pending = s.pending := rfl

@[simp] theorem setPc_clk (h : Nat) (f : PcieFn → PcieFn) (s : State) : (setPc h f s).clk = s.clk := rfl
@[simp] theorem setPc_ev (h : Nat) (f : PcieFn → PcieFn) (s : State) : (setPc h f s).ev = s.ev := rfl
@[simp] theorem setPc_dict (h : Nat) (f : PcieFn → PcieFn) (s : State) : (setPc h f s).dict = s.dict := rfl
@[simp] theorem setPc_dx (h : Nat) (f : PcieFn → PcieFn) (s : State) : (setPc h f s).dx = s.dx := rfl
@[simp] theorem setPc_tt (h : Nat) (f : PcieFn → PcieFn) (s : State) : (setPc h f s).tt = s.tt := rfl
@[simp] theorem setPc_ft (h : Nat) (f : PcieFn → PcieFn) (s : State) : (setPc h f s).ft = s.ft := rfl
@[simp] theorem setPc_links (h : Nat) (f : PcieFn → PcieFn) (s : State) : (setPc h f s).links = s.links := rfl
@[simp] theorem setPc_dp (h : Nat) (f : PcieFn → PcieFn) (s : State) : (setPc h f s).dp = s.dp := rfl
@[simp] theorem setPc_cr (h : Nat) (f : PcieFn → PcieFn) (s : State) : (setPc h f s).cr = s.cr := rfl
@[simp] theorem setPc_fm (h : Nat) (f : PcieFn → PcieFn) (s : State) : (setPc h f s).fm = s.fm := rfl
@[simp] theorem setPc_tb (h : Nat) (f : PcieFn → PcieFn) (s : State) : (setPc h f s).tb = s.tb := rfl
@[simp] theorem setPc_ot (h : Nat) (f : PcieFn → PcieFn) (s : State) : (setPc h f s).ot = s.ot := rfl
@[simp] theorem setPc_op (h : Nat) (f : PcieFn → PcieFn) (s : State) : (setPc h f s).op = s.op := rfl
@[simp] theorem setPc_ch (h : Nat) (f : PcieFn → PcieFn) (s : State) : (setPc h f s).ch = s.ch := rfl
@[simp] theorem setPc_hl (h : Nat) (f : PcieFn → PcieFn) (s : State) : (setPc h f s).hl = s.hl := rfl
@[simp] theorem setPc_rp (h : Nat) (f : PcieFn → PcieFn) (s : State) : (setPc h f s).rp = s.rp := rfl
@[simp] theorem setPc_se (h : Nat) (f : PcieFn → PcieFn) (s : State) : (setPc h f s).se = s.se := rfl
@[simp] theorem setPc_tm (h : Nat) (f : PcieFn → PcieFn) (s : State) : (setPc h f s).tm = s.tm := rfl
@[simp] theorem setPc_bi (h : Nat) (f : PcieFn → PcieFn) (s : State) : (setPc h f s).bi = s.bi := rfl
@[simp] theorem setPc_el (h : Nat) (f : PcieFn → PcieFn) (s : State) : (setPc h f s).el = s.el := rfl
@[simp] theorem setPc_frame (h : Nat) (f : PcieFn → PcieFn) (s : State) : (setPc h f s).frame = s.frame := rfl
@[simp] theorem setPc_out (h : Nat) (f : PcieFn → PcieFn) (s : State) : (setPc h f s).out = s.out := rfl
@[simp] theorem setPc_free (h : Nat) (f : PcieFn → PcieFn) (s : State) : (setPc h f s).free = s.free := rfl
@[simp] theorem setPc_pending (h : Nat) (f : PcieFn → PcieFn) (s : State) : (setPc h f s).pending = s.pending := rfl

@[simp] theorem setController_clk (d : Nat) (f : Controller → Controller) (s : State) : (setController d f s).clk = s.clk := rfl
@[simp] theorem setController_ev (d : Nat) (f : Controller → Controller) (s : State) : (setController d f s).ev = s.ev := rfl
@[simp] theorem setController_dict (d : Nat) (f : Controller → Controller) (s : State) : (setController d f s).dict = s.dict := rfl
@[simp] theorem setController_dx (d : Nat) (f : Controller → Controller) (s : State) : (setController d f s).dx = s.dx := rfl
@[simp] theorem setController_pc (d : Nat) (f : Controller → Controller) (s : State) : (setController d f s).pc = s.pc := rfl
@[simp] theorem setController_tt (d : Nat) (f : Controller → Controller) (s : State) : (setController d f s).tt = s.tt := rfl
@[simp] theorem setController_ft (d : Nat) (f : Controller → Controller) (s : State) : (setController d f s).ft = s.ft := rfl
@[simp] theorem setController_links (d : Nat) (f : Controller → Controller) (s : State) : (setController d f s).links = s.links := rfl
@[simp] theorem setController_dp (d : Nat) (f : Controller → Controller) (s : State) : (setController d f s).dp = s.dp := rfl
@[simp] theorem setController_cr (d : Nat) (f : Controller → Controller) (s : State) : (setController d f s).cr = s.cr := rfl
@[simp] theorem setController_fm (d : Nat) (f : Controller → Controller) (s : State) : (setController d f s).fm = s.fm := rfl
@[simp] theorem setController_tb (d : Nat) (f : Controller → Controller) (s : State) : (setController d f s).tb = s.tb := rfl
@[simp] theorem setController_ot (d : Nat) (f : Controller → Controller) (s : State) : (setController d f s).ot = s.ot := rfl
@[simp] theorem setController_op (d : Nat) (f : Controller → Controller) (s : State) : (setController d f s).op = s.op := rfl
@[simp] theorem setController_ch (d : Nat) (f : Controller → Controller) (s : State) : (setController d f s).ch = s.ch := rfl
@[simp] theorem setController_rp (d : Nat) (f : Controller → Controller) (s : State) : (setController d f s).rp = s.rp := rfl
@[simp] theorem setController_se (d : Nat) (f : Controller → Controller) (s : State) : (setController d f s).se = s.se := rfl
@[simp] theorem setController_tm (d : Nat) (f : Controller → Controller) (s : State) : (setController d f s).tm = s.tm := rfl
@[simp] theorem setController_bi (d : Nat) (f : Controller → Controller) (s : State) : (setController d f s).bi = s.bi := rfl
@[simp] theorem setController_el (d : Nat) (f : Controller → Controller) (s : State) : (setController d f s).el = s.el := rfl
@[simp] theorem setController_frame (d : Nat) (f : Controller → Controller) (s : State) : (setController d f s).frame = s.frame := rfl
@[simp] theorem setController_out (d : Nat) (f : Controller → Controller) (s : State) : (setController d f s).out = s.out := rfl
@[simp] theorem setController_free (d : Nat) (f : Controller → Controller) (s : State) : (setController d f s).free = s.free := rfl
@[simp] theorem setController_pending (d : Nat) (f : Controller → Controller) (s : State) : (setController d f s).pending = s.pending := rfl

@[simp] theorem fromInbox_clk (p : Nat) (k : Packet) (s : State) : (fromInbox p k s).clk = s.clk := rfl
@[simp] theorem fromInbox_ev (p : Nat) (k : Packet) (s : State) : (fromInbox p k s).ev = s.ev := rfl
@[simp] theorem fromInbox_dict (p : Nat) (k : Packet) (s : State) : (fromInbox p k s).dict = s.dict := rfl
@[simp] theorem fromInbox_pc (p : Nat) (k : Packet) (s : State) : (fromInbox p k s).pc = s.pc := rfl
@[simp] theorem fromInbox_tt (p : Nat) (k : Packet) (s : State) : (fromInbox p k s).tt = s.tt := rfl
@[simp] theorem fromInbox_ft (p : Nat) (k : Packet) (s : State) : (fromInbox p k s).ft = s.ft := rfl
@[simp] theorem fromInbox_links (p : Nat) (k : Packet) (s : State) : (fromInbox p k s).links = s.links := rfl
@[simp] theorem fromInbox_dp (p : Nat) (k : Packet) (s : State) : (fromInbox p k s).dp = s.dp := rfl
@[simp] theorem fromInbox_cr (p : Nat) (k : Packet) (s : State) : (fromInbox p k s).cr = s.cr := rfl
@[simp] theorem fromInbox_fm (p : Nat) (k : Packet) (s : State) : (fromInbox p k s).fm = s.fm := rfl
@[simp] theorem fromInbox_tb (p : Nat) (k : Packet) (s : State) : (fromInbox p k s).tb = s.tb := rfl
@[simp] theorem fromInbox_ot (p : Nat) (k : Packet) (s : State) : (fromInbox p k s).ot = s.ot := rfl
@[simp] theorem fromInbox_op (p : Nat) (k : Packet) (s : State) : (fromInbox p k s).op = s.op := rfl
@[simp] theorem fromInbox_ch (p : Nat) (k : Packet) (s : State) : (fromInbox p k s).ch = s.ch := rfl
@[simp] theorem fromInbox_hl (p : Nat) (k : Packet) (s : State) : (fromInbox p k s).hl = s.hl := rfl
@[simp] theorem fromInbox_rp (p : Nat) (k : Packet) (s : State) : (fromInbox p k s).rp = s.rp := rfl
@[simp] theorem fromInbox_se (p : Nat) (k : Packet) (s : State) : (fromInbox p k s).se = s.se := rfl
@[simp] theorem fromInbox_tm (p : Nat) (k : Packet) (s : State) : (fromInbox p k s).tm = s.tm := rfl
@[simp] theorem fromInbox_bi (p : Nat) (k : Packet) (s : State) : (fromInbox p k s).bi = s.bi := rfl
@[simp] theorem fromInbox_el (p : Nat) (k : Packet) (s : State) : (fromInbox p k s).el = s.el := rfl
@[simp] theorem fromInbox_frame (p : Nat) (k : Packet) (s : State) : (fromInbox p k s).frame = s.frame := rfl
@[simp] theorem fromInbox_out (p : Nat) (k : Packet) (s : State) : (fromInbox p k s).out = s.out := rfl
@[simp] theorem fromInbox_free (p : Nat) (k : Packet) (s : State) : (fromInbox p k s).free = s.free := rfl
@[simp] theorem fromInbox_pending (p : Nat) (k : Packet) (s : State) : (fromInbox p k s).pending = s.pending := rfl

@[simp] theorem toInbox_clk (p : Nat) (k : Packet) (s : State) : (toInbox p k s).clk = s.clk := rfl
@[simp] theorem toInbox_ev (p : Nat) (k : Packet) (s : State) : (toInbox p k s).ev = s.ev := rfl
@[simp] theorem toInbox_dict (p : Nat) (k : Packet) (s : State) : (toInbox p k s).dict = s.dict := rfl
@[simp] theorem toInbox_pc (p : Nat) (k : Packet) (s : State) : (toInbox p k s).pc = s.pc := rfl
@[simp] theorem toInbox_tt (p : Nat) (k : Packet) (s : State) : (toInbox p k s).tt = s.tt := rfl
@[simp] theorem toInbox_ft (p : Nat) (k : Packet) (s : State) : (toInbox p k s).ft = s.ft := rfl
@[simp] theorem toInbox_links (p : Nat) (k : Packet) (s : State) : (toInbox p k s).links = s.links := rfl
@[simp] theorem toInbox_dp (p : Nat) (k : Packet) (s : State) : (toInbox p k s).dp = s.dp := rfl
@[simp] theorem toInbox_cr (p : Nat) (k : Packet) (s : State) : (toInbox p k s).cr = s.cr := rfl
@[simp] theorem toInbox_fm (p : Nat) (k : Packet) (s : State) : (toInbox p k s).fm = s.fm := rfl
@[simp] theorem toInbox_tb (p : Nat) (k : Packet) (s : State) : (toInbox p k s).tb = s.tb := rfl
@[simp] theorem toInbox_ot (p : Nat) (k : Packet) (s : State) : (toInbox p k s).ot = s.ot := rfl
@[simp] theorem toInbox_op (p : Nat) (k : Packet) (s : State) : (toInbox p k s).op = s.op := rfl
@[simp] theorem toInbox_ch (p : Nat) (k : Packet) (s : State) : (toInbox p k s).ch = s.ch := rfl
@[simp] theorem toInbox_hl (p : Nat) (k : Packet) (s : State) : (toInbox p k s).hl = s.hl := rfl
@[simp] theorem toInbox_rp (p : Nat) (k : Packet) (s : State) : (toInbox p k s).rp = s.rp := rfl
@[simp] theorem toInbox_se (p : Nat) (k : Packet) (s : State) : (toInbox p k s).se = s.se := rfl
@[simp] theorem toInbox_tm (p : Nat) (k : Packet) (s : State) : (toInbox p k s).tm = s.tm := rfl
@[simp] theorem toInbox_bi (p : Nat) (k : Packet) (s : State) : (toInbox p k s).bi = s.bi := rfl
@[simp] theorem toInbox_el (p : Nat) (k : Packet) (s : State) : (toInbox p k s).el = s.el := rfl
@[simp] theorem toInbox_frame (p : Nat) (k : Packet) (s : State) : (toInbox p k s).frame = s.frame := rfl
@[simp] theorem toInbox_out (p : Nat) (k : Packet) (s : State) : (toInbox p k s).out = s.out := rfl
@[simp] theorem toInbox_free (p : Nat) (k : Packet) (s : State) : (toInbox p k s).free = s.free := rfl
@[simp] theorem toInbox_pending (p : Nat) (k : Packet) (s : State) : (toInbox p k s).pending = s.pending := rfl

@[simp] theorem setServo_clk (d : Nat) (f : Servo → Servo) (s : State) : (setServo d f s).clk = s.clk := by unfold setServo; split <;> rfl
@[simp] theorem setServo_ev (d : Nat) (f : Servo → Servo) (s : State) : (setServo d f s).ev = s.ev := by unfold setServo; split <;> rfl
@[simp] theorem setServo_dict (d : Nat) (f : Servo → Servo) (s : State) : (setServo d f s).dict = s.dict := by unfold setServo; split <;> rfl
@[simp] theorem setServo_dx (d : Nat) (f : Servo → Servo) (s : State) : (setServo d f s).dx = s.dx := by unfold setServo; split <;> rfl
@[simp] theorem setServo_pc (d : Nat) (f : Servo → Servo) (s : State) : (setServo d f s).pc = s.pc := by unfold setServo; split <;> rfl
@[simp] theorem setServo_tt (d : Nat) (f : Servo → Servo) (s : State) : (setServo d f s).tt = s.tt := by unfold setServo; split <;> rfl
@[simp] theorem setServo_links (d : Nat) (f : Servo → Servo) (s : State) : (setServo d f s).links = s.links := by unfold setServo; split <;> rfl
@[simp] theorem setServo_dp (d : Nat) (f : Servo → Servo) (s : State) : (setServo d f s).dp = s.dp := by unfold setServo; split <;> rfl
@[simp] theorem setServo_cr (d : Nat) (f : Servo → Servo) (s : State) : (setServo d f s).cr = s.cr := by unfold setServo; split <;> rfl
@[simp] theorem setServo_fm (d : Nat) (f : Servo → Servo) (s : State) : (setServo d f s).fm = s.fm := by unfold setServo; split <;> rfl
@[simp] theorem setServo_tb (d : Nat) (f : Servo → Servo) (s : State) : (setServo d f s).tb = s.tb := by unfold setServo; split <;> rfl
@[simp] theorem setServo_ot (d : Nat) (f : Servo → Servo) (s : State) : (setServo d f s).ot = s.ot := by unfold setServo; split <;> rfl
@[simp] theorem setServo_op (d : Nat) (f : Servo → Servo) (s : State) : (setServo d f s).op = s.op := by unfold setServo; split <;> rfl
@[simp] theorem setServo_ch (d : Nat) (f : Servo → Servo) (s : State) : (setServo d f s).ch = s.ch := by unfold setServo; split <;> rfl
@[simp] theorem setServo_hl (d : Nat) (f : Servo → Servo) (s : State) : (setServo d f s).hl = s.hl := by unfold setServo; split <;> rfl
@[simp] theorem setServo_rp (d : Nat) (f : Servo → Servo) (s : State) : (setServo d f s).rp = s.rp := by unfold setServo; split <;> rfl
@[simp] theorem setServo_se (d : Nat) (f : Servo → Servo) (s : State) : (setServo d f s).se = s.se := by unfold setServo; split <;> rfl
@[simp] theorem setServo_tm (d : Nat) (f : Servo → Servo) (s : State) : (setServo d f s).tm = s.tm := by unfold setServo; split <;> rfl
@[simp] theorem setServo_bi (d : Nat) (f : Servo → Servo) (s : State) : (setServo d f s).bi = s.bi := by unfold setServo; split <;> rfl
@[simp] theorem setServo_el (d : Nat) (f : Servo → Servo) (s : State) : (setServo d f s).el = s.el := by unfold setServo; split <;> rfl
@[simp] theorem setServo_frame (d : Nat) (f : Servo → Servo) (s : State) : (setServo d f s).frame = s.frame := by unfold setServo; split <;> rfl
@[simp] theorem setServo_out (d : Nat) (f : Servo → Servo) (s : State) : (setServo d f s).out = s.out := by unfold setServo; split <;> rfl
@[simp] theorem setServo_free (d : Nat) (f : Servo → Servo) (s : State) : (setServo d f s).free = s.free := by unfold setServo; split <;> rfl
@[simp] theorem setServo_pending (d : Nat) (f : Servo → Servo) (s : State) : (setServo d f s).pending = s.pending := by unfold setServo; split <;> rfl

@[simp] theorem setPdelay_clk (p : Nat) (f : Pdelay → Pdelay) (s : State) : (setPdelay p f s).clk = s.clk := rfl
@[simp] theorem setPdelay_ev (p : Nat) (f : Pdelay → Pdelay) (s : State) : (setPdelay p f s).ev = s.ev := rfl
@[simp] theorem setPdelay_dict (p : Nat) (f : Pdelay → Pdelay) (s : State) : (setPdelay p f s).dict = s.dict := rfl
@[simp] theorem setPdelay_dx (p : Nat) (f : Pdelay → Pdelay) (s : State) : (setPdelay p f s).dx = s.dx := rfl
@[simp] theorem setPdelay_pc (p : Nat) (f : Pdelay → Pdelay) (s : State) : (setPdelay p f s).pc = s.pc := rfl
@[simp] theorem setPdelay_tt (p : Nat) (f : Pdelay → Pdelay) (s : State) : (setPdelay p f s).tt = s.tt := rfl
@[simp] theorem setPdelay_links (p : Nat) (f : Pdelay → Pdelay) (s : State) : (setPdelay p f s).links = s.links := rfl
@[simp] theorem setPdelay_dp (p : Nat) (f : Pdelay → Pdelay) (s : State) : (setPdelay p f s).dp = s.dp := rfl
@[simp] theorem setPdelay_cr (p : Nat) (f : Pdelay → Pdelay) (s : State) : (setPdelay p f s).cr = s.cr := rfl
@[simp] theorem setPdelay_fm (p : Nat) (f : Pdelay → Pdelay) (s : State) : (setPdelay p f s).fm = s.fm := rfl
@[simp] theorem setPdelay_tb (p : Nat) (f : Pdelay → Pdelay) (s : State) : (setPdelay p f s).tb = s.tb := rfl
@[simp] theorem setPdelay_ot (p : Nat) (f : Pdelay → Pdelay) (s : State) : (setPdelay p f s).ot = s.ot := rfl
@[simp] theorem setPdelay_op (p : Nat) (f : Pdelay → Pdelay) (s : State) : (setPdelay p f s).op = s.op := rfl
@[simp] theorem setPdelay_ch (p : Nat) (f : Pdelay → Pdelay) (s : State) : (setPdelay p f s).ch = s.ch := rfl
@[simp] theorem setPdelay_hl (p : Nat) (f : Pdelay → Pdelay) (s : State) : (setPdelay p f s).hl = s.hl := rfl
@[simp] theorem setPdelay_rp (p : Nat) (f : Pdelay → Pdelay) (s : State) : (setPdelay p f s).rp = s.rp := rfl
@[simp] theorem setPdelay_se (p : Nat) (f : Pdelay → Pdelay) (s : State) : (setPdelay p f s).se = s.se := rfl
@[simp] theorem setPdelay_tm (p : Nat) (f : Pdelay → Pdelay) (s : State) : (setPdelay p f s).tm = s.tm := rfl
@[simp] theorem setPdelay_bi (p : Nat) (f : Pdelay → Pdelay) (s : State) : (setPdelay p f s).bi = s.bi := rfl
@[simp] theorem setPdelay_el (p : Nat) (f : Pdelay → Pdelay) (s : State) : (setPdelay p f s).el = s.el := rfl
@[simp] theorem setPdelay_frame (p : Nat) (f : Pdelay → Pdelay) (s : State) : (setPdelay p f s).frame = s.frame := rfl
@[simp] theorem setPdelay_out (p : Nat) (f : Pdelay → Pdelay) (s : State) : (setPdelay p f s).out = s.out := rfl
@[simp] theorem setPdelay_free (p : Nat) (f : Pdelay → Pdelay) (s : State) : (setPdelay p f s).free = s.free := rfl
@[simp] theorem setPdelay_pending (p : Nat) (f : Pdelay → Pdelay) (s : State) : (setPdelay p f s).pending = s.pending := rfl

@[simp] theorem setGen_clk (g : GenSt) (s : State) : (setGen g s).clk = s.clk := rfl
@[simp] theorem setGen_ev (g : GenSt) (s : State) : (setGen g s).ev = s.ev := rfl
@[simp] theorem setGen_dict (g : GenSt) (s : State) : (setGen g s).dict = s.dict := rfl
@[simp] theorem setGen_dx (g : GenSt) (s : State) : (setGen g s).dx = s.dx := rfl
@[simp] theorem setGen_pc (g : GenSt) (s : State) : (setGen g s).pc = s.pc := rfl
@[simp] theorem setGen_tt (g : GenSt) (s : State) : (setGen g s).tt = s.tt := rfl
@[simp] theorem setGen_links (g : GenSt) (s : State) : (setGen g s).links = s.links := rfl
@[simp] theorem setGen_dp (g : GenSt) (s : State) : (setGen g s).dp = s.dp := rfl
@[simp] theorem setGen_cr (g : GenSt) (s : State) : (setGen g s).cr = s.cr := rfl
@[simp] theorem setGen_fm (g : GenSt) (s : State) : (setGen g s).fm = s.fm := rfl
@[simp] theorem setGen_tb (g : GenSt) (s : State) : (setGen g s).tb = s.tb := rfl
@[simp] theorem setGen_ot (g : GenSt) (s : State) : (setGen g s).ot = s.ot := rfl
@[simp] theorem setGen_op (g : GenSt) (s : State) : (setGen g s).op = s.op := rfl
@[simp] theorem setGen_ch (g : GenSt) (s : State) : (setGen g s).ch = s.ch := rfl
@[simp] theorem setGen_hl (g : GenSt) (s : State) : (setGen g s).hl = s.hl := rfl
@[simp] theorem setGen_rp (g : GenSt) (s : State) : (setGen g s).rp = s.rp := rfl
@[simp] theorem setGen_se (g : GenSt) (s : State) : (setGen g s).se = s.se := rfl
@[simp] theorem setGen_tm (g : GenSt) (s : State) : (setGen g s).tm = s.tm := rfl
@[simp] theorem setGen_bi (g : GenSt) (s : State) : (setGen g s).bi = s.bi := rfl
@[simp] theorem setGen_el (g : GenSt) (s : State) : (setGen g s).el = s.el := rfl
@[simp] theorem setGen_frame (g : GenSt) (s : State) : (setGen g s).frame = s.frame := rfl
@[simp] theorem setGen_out (g : GenSt) (s : State) : (setGen g s).out = s.out := rfl
@[simp] theorem setGen_free (g : GenSt) (s : State) : (setGen g s).free = s.free := rfl
@[simp] theorem setGen_pending (g : GenSt) (s : State) : (setGen g s).pending = s.pending := rfl

@[simp] theorem setAct_clk (n : Nat) (a : ActEntry) (s : State) : (setAct n a s).clk = s.clk := rfl
@[simp] theorem setAct_ev (n : Nat) (a : ActEntry) (s : State) : (setAct n a s).ev = s.ev := rfl
@[simp] theorem setAct_dict (n : Nat) (a : ActEntry) (s : State) : (setAct n a s).dict = s.dict := rfl
@[simp] theorem setAct_dx (n : Nat) (a : ActEntry) (s : State) : (setAct n a s).dx = s.dx := rfl
@[simp] theorem setAct_pc (n : Nat) (a : ActEntry) (s : State) : (setAct n a s).pc = s.pc := rfl
@[simp] theorem setAct_tt (n : Nat) (a : ActEntry) (s : State) : (setAct n a s).tt = s.tt := rfl
@[simp] theorem setAct_links (n : Nat) (a : ActEntry) (s : State) : (setAct n a s).links = s.links := rfl
@[simp] theorem setAct_dp (n : Nat) (a : ActEntry) (s : State) : (setAct n a s).dp = s.dp := rfl
@[simp] theorem setAct_cr (n : Nat) (a : ActEntry) (s : State) : (setAct n a s).cr = s.cr := rfl
@[simp] theorem setAct_fm (n : Nat) (a : ActEntry) (s : State) : (setAct n a s).fm = s.fm := rfl
@[simp] theorem setAct_tb (n : Nat) (a : ActEntry) (s : State) : (setAct n a s).tb = s.tb := rfl
@[simp] theorem setAct_ot (n : Nat) (a : ActEntry) (s : State) : (setAct n a s).ot = s.ot := rfl
@[simp] theorem setAct_op (n : Nat) (a : ActEntry) (s : State) : (setAct n a s).op = s.op := rfl
@[simp] theorem setAct_ch (n : Nat) (a : ActEntry) (s : State) : (setAct n a s).ch = s.ch := rfl
@[simp] theorem setAct_hl (n : Nat) (a : ActEntry) (s : State) : (setAct n a s).hl = s.hl := rfl
@[simp] theorem setAct_rp (n : Nat) (a : ActEntry) (s : State) : (setAct n a s).rp = s.rp := rfl
@[simp] theorem setAct_se (n : Nat) (a : ActEntry) (s : State) : (setAct n a s).se = s.se := rfl
@[simp] theorem setAct_tm (n : Nat) (a : ActEntry) (s : State) : (setAct n a s).tm = s.tm := rfl
@[simp] theorem setAct_bi (n : Nat) (a : ActEntry) (s : State) : (setAct n a s).bi = s.bi := rfl
@[simp] theorem setAct_el (n : Nat) (a : ActEntry) (s : State) : (setAct n a s).el = s.el := rfl
@[simp] theorem setAct_frame (n : Nat) (a : ActEntry) (s : State) : (setAct n a s).frame = s.frame := rfl
@[simp] theorem setAct_out (n : Nat) (a : ActEntry) (s : State) : (setAct n a s).out = s.out := rfl
@[simp] theorem setAct_free (n : Nat) (a : ActEntry) (s : State) : (setAct n a s).free = s.free := rfl
@[simp] theorem setAct_pending (n : Nat) (a : ActEntry) (s : State) : (setAct n a s).pending = s.pending := rfl

@[simp] theorem setBank_clk (k : Nat) (b : Bank) (s : State) : (setBank k b s).clk = s.clk := rfl
@[simp] theorem setBank_ev (k : Nat) (b : Bank) (s : State) : (setBank k b s).ev = s.ev := rfl
@[simp] theorem setBank_dict (k : Nat) (b : Bank) (s : State) : (setBank k b s).dict = s.dict := rfl
@[simp] theorem setBank_dx (k : Nat) (b : Bank) (s : State) : (setBank k b s).dx = s.dx := rfl
@[simp] theorem setBank_pc (k : Nat) (b : Bank) (s : State) : (setBank k b s).pc = s.pc := rfl
@[simp] theorem setBank_tt (k : Nat) (b : Bank) (s : State) : (setBank k b s).tt = s.tt := rfl
@[simp] theorem setBank_ft (k : Nat) (b : Bank) (s : State) : (setBank k b s).ft = s.ft := rfl
@[simp] theorem setBank_links (k : Nat) (b : Bank) (s : State) : (setBank k b s).links = s.links := rfl
@[simp] theorem setBank_dp (k : Nat) (b : Bank) (s : State) : (setBank k b s).dp = s.dp := rfl
@[simp] theorem setBank_cr (k : Nat) (b : Bank) (s : State) : (setBank k b s).cr = s.cr := rfl
@[simp] theorem setBank_fm (k : Nat) (b : Bank) (s : State) : (setBank k b s).fm = s.fm := rfl
@[simp] theorem setBank_tb (k : Nat) (b : Bank) (s : State) : (setBank k b s).tb = s.tb := rfl
@[simp] theorem setBank_ot (k : Nat) (b : Bank) (s : State) : (setBank k b s).ot = s.ot := rfl
@[simp] theorem setBank_op (k : Nat) (b : Bank) (s : State) : (setBank k b s).op = s.op := rfl
@[simp] theorem setBank_ch (k : Nat) (b : Bank) (s : State) : (setBank k b s).ch = s.ch := rfl
@[simp] theorem setBank_hl (k : Nat) (b : Bank) (s : State) : (setBank k b s).hl = s.hl := rfl
@[simp] theorem setBank_rp (k : Nat) (b : Bank) (s : State) : (setBank k b s).rp = s.rp := rfl
@[simp] theorem setBank_se (k : Nat) (b : Bank) (s : State) : (setBank k b s).se = s.se := rfl
@[simp] theorem setBank_tm (k : Nat) (b : Bank) (s : State) : (setBank k b s).tm = s.tm := rfl
@[simp] theorem setBank_el (k : Nat) (b : Bank) (s : State) : (setBank k b s).el = s.el := rfl
@[simp] theorem setBank_frame (k : Nat) (b : Bank) (s : State) : (setBank k b s).frame = s.frame := rfl
@[simp] theorem setBank_out (k : Nat) (b : Bank) (s : State) : (setBank k b s).out = s.out := rfl
@[simp] theorem setBank_free (k : Nat) (b : Bank) (s : State) : (setBank k b s).free = s.free := rfl
@[simp] theorem setBank_pending (k : Nat) (b : Bank) (s : State) : (setBank k b s).pending = s.pending := rfl

@[simp] theorem setWing_clk (w : Nat) (x : WingMx) (s : State) : (setWing w x s).clk = s.clk := rfl
@[simp] theorem setWing_ev (w : Nat) (x : WingMx) (s : State) : (setWing w x s).ev = s.ev := rfl
@[simp] theorem setWing_dict (w : Nat) (x : WingMx) (s : State) : (setWing w x s).dict = s.dict := rfl
@[simp] theorem setWing_dx (w : Nat) (x : WingMx) (s : State) : (setWing w x s).dx = s.dx := rfl
@[simp] theorem setWing_pc (w : Nat) (x : WingMx) (s : State) : (setWing w x s).pc = s.pc := rfl
@[simp] theorem setWing_tt (w : Nat) (x : WingMx) (s : State) : (setWing w x s).tt = s.tt := rfl
@[simp] theorem setWing_ft (w : Nat) (x : WingMx) (s : State) : (setWing w x s).ft = s.ft := rfl
@[simp] theorem setWing_links (w : Nat) (x : WingMx) (s : State) : (setWing w x s).links = s.links := rfl
@[simp] theorem setWing_dp (w : Nat) (x : WingMx) (s : State) : (setWing w x s).dp = s.dp := rfl
@[simp] theorem setWing_cr (w : Nat) (x : WingMx) (s : State) : (setWing w x s).cr = s.cr := rfl
@[simp] theorem setWing_fm (w : Nat) (x : WingMx) (s : State) : (setWing w x s).fm = s.fm := rfl
@[simp] theorem setWing_tb (w : Nat) (x : WingMx) (s : State) : (setWing w x s).tb = s.tb := rfl
@[simp] theorem setWing_ot (w : Nat) (x : WingMx) (s : State) : (setWing w x s).ot = s.ot := rfl
@[simp] theorem setWing_op (w : Nat) (x : WingMx) (s : State) : (setWing w x s).op = s.op := rfl
@[simp] theorem setWing_hl (w : Nat) (x : WingMx) (s : State) : (setWing w x s).hl = s.hl := rfl
@[simp] theorem setWing_rp (w : Nat) (x : WingMx) (s : State) : (setWing w x s).rp = s.rp := rfl
@[simp] theorem setWing_se (w : Nat) (x : WingMx) (s : State) : (setWing w x s).se = s.se := rfl
@[simp] theorem setWing_tm (w : Nat) (x : WingMx) (s : State) : (setWing w x s).tm = s.tm := rfl
@[simp] theorem setWing_bi (w : Nat) (x : WingMx) (s : State) : (setWing w x s).bi = s.bi := rfl
@[simp] theorem setWing_el (w : Nat) (x : WingMx) (s : State) : (setWing w x s).el = s.el := rfl
@[simp] theorem setWing_frame (w : Nat) (x : WingMx) (s : State) : (setWing w x s).frame = s.frame := rfl
@[simp] theorem setWing_out (w : Nat) (x : WingMx) (s : State) : (setWing w x s).out = s.out := rfl
@[simp] theorem setWing_free (w : Nat) (x : WingMx) (s : State) : (setWing w x s).free = s.free := rfl
@[simp] theorem setWing_pending (w : Nat) (x : WingMx) (s : State) : (setWing w x s).pending = s.pending := rfl

@[simp] theorem setRec_clk (c : Nat) (x : RecState) (s : State) : (setRec c x s).clk = s.clk := rfl
@[simp] theorem setRec_ev (c : Nat) (x : RecState) (s : State) : (setRec c x s).ev = s.ev := rfl
@[simp] theorem setRec_dict (c : Nat) (x : RecState) (s : State) : (setRec c x s).dict = s.dict := rfl
@[simp] theorem setRec_dx (c : Nat) (x : RecState) (s : State) : (setRec c x s).dx = s.dx := rfl
@[simp] theorem setRec_pc (c : Nat) (x : RecState) (s : State) : (setRec c x s).pc = s.pc := rfl
@[simp] theorem setRec_tt (c : Nat) (x : RecState) (s : State) : (setRec c x s).tt = s.tt := rfl
@[simp] theorem setRec_ft (c : Nat) (x : RecState) (s : State) : (setRec c x s).ft = s.ft := rfl
@[simp] theorem setRec_links (c : Nat) (x : RecState) (s : State) : (setRec c x s).links = s.links := rfl
@[simp] theorem setRec_dp (c : Nat) (x : RecState) (s : State) : (setRec c x s).dp = s.dp := rfl
@[simp] theorem setRec_fm (c : Nat) (x : RecState) (s : State) : (setRec c x s).fm = s.fm := rfl
@[simp] theorem setRec_tb (c : Nat) (x : RecState) (s : State) : (setRec c x s).tb = s.tb := rfl
@[simp] theorem setRec_ot (c : Nat) (x : RecState) (s : State) : (setRec c x s).ot = s.ot := rfl
@[simp] theorem setRec_op (c : Nat) (x : RecState) (s : State) : (setRec c x s).op = s.op := rfl
@[simp] theorem setRec_ch (c : Nat) (x : RecState) (s : State) : (setRec c x s).ch = s.ch := rfl
@[simp] theorem setRec_hl (c : Nat) (x : RecState) (s : State) : (setRec c x s).hl = s.hl := rfl
@[simp] theorem setRec_rp (c : Nat) (x : RecState) (s : State) : (setRec c x s).rp = s.rp := rfl
@[simp] theorem setRec_se (c : Nat) (x : RecState) (s : State) : (setRec c x s).se = s.se := rfl
@[simp] theorem setRec_tm (c : Nat) (x : RecState) (s : State) : (setRec c x s).tm = s.tm := rfl
@[simp] theorem setRec_bi (c : Nat) (x : RecState) (s : State) : (setRec c x s).bi = s.bi := rfl
@[simp] theorem setRec_el (c : Nat) (x : RecState) (s : State) : (setRec c x s).el = s.el := rfl
@[simp] theorem setRec_frame (c : Nat) (x : RecState) (s : State) : (setRec c x s).frame = s.frame := rfl
@[simp] theorem setRec_out (c : Nat) (x : RecState) (s : State) : (setRec c x s).out = s.out := rfl
@[simp] theorem setRec_free (c : Nat) (x : RecState) (s : State) : (setRec c x s).free = s.free := rfl
@[simp] theorem setRec_pending (c : Nat) (x : RecState) (s : State) : (setRec c x s).pending = s.pending := rfl

@[simp] theorem setRegion_clk (n : Nat) (r : Region) (s : State) : (setRegion n r s).clk = s.clk := rfl
@[simp] theorem setRegion_ev (n : Nat) (r : Region) (s : State) : (setRegion n r s).ev = s.ev := rfl
@[simp] theorem setRegion_dict (n : Nat) (r : Region) (s : State) : (setRegion n r s).dict = s.dict := rfl
@[simp] theorem setRegion_dx (n : Nat) (r : Region) (s : State) : (setRegion n r s).dx = s.dx := rfl
@[simp] theorem setRegion_pc (n : Nat) (r : Region) (s : State) : (setRegion n r s).pc = s.pc := rfl
@[simp] theorem setRegion_tt (n : Nat) (r : Region) (s : State) : (setRegion n r s).tt = s.tt := rfl
@[simp] theorem setRegion_ft (n : Nat) (r : Region) (s : State) : (setRegion n r s).ft = s.ft := rfl
@[simp] theorem setRegion_links (n : Nat) (r : Region) (s : State) : (setRegion n r s).links = s.links := rfl
@[simp] theorem setRegion_dp (n : Nat) (r : Region) (s : State) : (setRegion n r s).dp = s.dp := rfl
@[simp] theorem setRegion_cr (n : Nat) (r : Region) (s : State) : (setRegion n r s).cr = s.cr := rfl
@[simp] theorem setRegion_tb (n : Nat) (r : Region) (s : State) : (setRegion n r s).tb = s.tb := rfl
@[simp] theorem setRegion_ot (n : Nat) (r : Region) (s : State) : (setRegion n r s).ot = s.ot := rfl
@[simp] theorem setRegion_op (n : Nat) (r : Region) (s : State) : (setRegion n r s).op = s.op := rfl
@[simp] theorem setRegion_ch (n : Nat) (r : Region) (s : State) : (setRegion n r s).ch = s.ch := rfl
@[simp] theorem setRegion_hl (n : Nat) (r : Region) (s : State) : (setRegion n r s).hl = s.hl := rfl
@[simp] theorem setRegion_rp (n : Nat) (r : Region) (s : State) : (setRegion n r s).rp = s.rp := rfl
@[simp] theorem setRegion_se (n : Nat) (r : Region) (s : State) : (setRegion n r s).se = s.se := rfl
@[simp] theorem setRegion_tm (n : Nat) (r : Region) (s : State) : (setRegion n r s).tm = s.tm := rfl
@[simp] theorem setRegion_bi (n : Nat) (r : Region) (s : State) : (setRegion n r s).bi = s.bi := rfl
@[simp] theorem setRegion_el (n : Nat) (r : Region) (s : State) : (setRegion n r s).el = s.el := rfl
@[simp] theorem setRegion_frame (n : Nat) (r : Region) (s : State) : (setRegion n r s).frame = s.frame := rfl
@[simp] theorem setRegion_out (n : Nat) (r : Region) (s : State) : (setRegion n r s).out = s.out := rfl
@[simp] theorem setRegion_free (n : Nat) (r : Region) (s : State) : (setRegion n r s).free = s.free := rfl
@[simp] theorem setRegion_pending (n : Nat) (r : Region) (s : State) : (setRegion n r s).pending = s.pending := rfl

@[simp] theorem setSlot_clk (fa : Nat) (x : SourceSlot) (s : State) : (setSlot fa x s).clk = s.clk := rfl
@[simp] theorem setSlot_ev (fa : Nat) (x : SourceSlot) (s : State) : (setSlot fa x s).ev = s.ev := rfl
@[simp] theorem setSlot_dict (fa : Nat) (x : SourceSlot) (s : State) : (setSlot fa x s).dict = s.dict := rfl
@[simp] theorem setSlot_dx (fa : Nat) (x : SourceSlot) (s : State) : (setSlot fa x s).dx = s.dx := rfl
@[simp] theorem setSlot_pc (fa : Nat) (x : SourceSlot) (s : State) : (setSlot fa x s).pc = s.pc := rfl
@[simp] theorem setSlot_tt (fa : Nat) (x : SourceSlot) (s : State) : (setSlot fa x s).tt = s.tt := rfl
@[simp] theorem setSlot_ft (fa : Nat) (x : SourceSlot) (s : State) : (setSlot fa x s).ft = s.ft := rfl
@[simp] theorem setSlot_links (fa : Nat) (x : SourceSlot) (s : State) : (setSlot fa x s).links = s.links := rfl
@[simp] theorem setSlot_dp (fa : Nat) (x : SourceSlot) (s : State) : (setSlot fa x s).dp = s.dp := rfl
@[simp] theorem setSlot_cr (fa : Nat) (x : SourceSlot) (s : State) : (setSlot fa x s).cr = s.cr := rfl
@[simp] theorem setSlot_tb (fa : Nat) (x : SourceSlot) (s : State) : (setSlot fa x s).tb = s.tb := rfl
@[simp] theorem setSlot_ot (fa : Nat) (x : SourceSlot) (s : State) : (setSlot fa x s).ot = s.ot := rfl
@[simp] theorem setSlot_op (fa : Nat) (x : SourceSlot) (s : State) : (setSlot fa x s).op = s.op := rfl
@[simp] theorem setSlot_ch (fa : Nat) (x : SourceSlot) (s : State) : (setSlot fa x s).ch = s.ch := rfl
@[simp] theorem setSlot_hl (fa : Nat) (x : SourceSlot) (s : State) : (setSlot fa x s).hl = s.hl := rfl
@[simp] theorem setSlot_rp (fa : Nat) (x : SourceSlot) (s : State) : (setSlot fa x s).rp = s.rp := rfl
@[simp] theorem setSlot_se (fa : Nat) (x : SourceSlot) (s : State) : (setSlot fa x s).se = s.se := rfl
@[simp] theorem setSlot_tm (fa : Nat) (x : SourceSlot) (s : State) : (setSlot fa x s).tm = s.tm := rfl
@[simp] theorem setSlot_bi (fa : Nat) (x : SourceSlot) (s : State) : (setSlot fa x s).bi = s.bi := rfl
@[simp] theorem setSlot_el (fa : Nat) (x : SourceSlot) (s : State) : (setSlot fa x s).el = s.el := rfl
@[simp] theorem setSlot_frame (fa : Nat) (x : SourceSlot) (s : State) : (setSlot fa x s).frame = s.frame := rfl
@[simp] theorem setSlot_out (fa : Nat) (x : SourceSlot) (s : State) : (setSlot fa x s).out = s.out := rfl
@[simp] theorem setSlot_free (fa : Nat) (x : SourceSlot) (s : State) : (setSlot fa x s).free = s.free := rfl
@[simp] theorem setSlot_pending (fa : Nat) (x : SourceSlot) (s : State) : (setSlot fa x s).pending = s.pending := rfl

@[simp] theorem setRing_clk (n : Nat) (x : Ring) (s : State) : (setRing n x s).clk = s.clk := rfl
@[simp] theorem setRing_ev (n : Nat) (x : Ring) (s : State) : (setRing n x s).ev = s.ev := rfl
@[simp] theorem setRing_dict (n : Nat) (x : Ring) (s : State) : (setRing n x s).dict = s.dict := rfl
@[simp] theorem setRing_dx (n : Nat) (x : Ring) (s : State) : (setRing n x s).dx = s.dx := rfl
@[simp] theorem setRing_pc (n : Nat) (x : Ring) (s : State) : (setRing n x s).pc = s.pc := rfl
@[simp] theorem setRing_tt (n : Nat) (x : Ring) (s : State) : (setRing n x s).tt = s.tt := rfl
@[simp] theorem setRing_ft (n : Nat) (x : Ring) (s : State) : (setRing n x s).ft = s.ft := rfl
@[simp] theorem setRing_links (n : Nat) (x : Ring) (s : State) : (setRing n x s).links = s.links := rfl
@[simp] theorem setRing_dp (n : Nat) (x : Ring) (s : State) : (setRing n x s).dp = s.dp := rfl
@[simp] theorem setRing_cr (n : Nat) (x : Ring) (s : State) : (setRing n x s).cr = s.cr := rfl
@[simp] theorem setRing_fm (n : Nat) (x : Ring) (s : State) : (setRing n x s).fm = s.fm := rfl
@[simp] theorem setRing_tb (n : Nat) (x : Ring) (s : State) : (setRing n x s).tb = s.tb := rfl
@[simp] theorem setRing_ot (n : Nat) (x : Ring) (s : State) : (setRing n x s).ot = s.ot := rfl
@[simp] theorem setRing_ch (n : Nat) (x : Ring) (s : State) : (setRing n x s).ch = s.ch := rfl
@[simp] theorem setRing_hl (n : Nat) (x : Ring) (s : State) : (setRing n x s).hl = s.hl := rfl
@[simp] theorem setRing_rp (n : Nat) (x : Ring) (s : State) : (setRing n x s).rp = s.rp := rfl
@[simp] theorem setRing_se (n : Nat) (x : Ring) (s : State) : (setRing n x s).se = s.se := rfl
@[simp] theorem setRing_tm (n : Nat) (x : Ring) (s : State) : (setRing n x s).tm = s.tm := rfl
@[simp] theorem setRing_bi (n : Nat) (x : Ring) (s : State) : (setRing n x s).bi = s.bi := rfl
@[simp] theorem setRing_el (n : Nat) (x : Ring) (s : State) : (setRing n x s).el = s.el := rfl
@[simp] theorem setRing_frame (n : Nat) (x : Ring) (s : State) : (setRing n x s).frame = s.frame := rfl
@[simp] theorem setRing_out (n : Nat) (x : Ring) (s : State) : (setRing n x s).out = s.out := rfl
@[simp] theorem setRing_free (n : Nat) (x : Ring) (s : State) : (setRing n x s).free = s.free := rfl
@[simp] theorem setRing_pending (n : Nat) (x : Ring) (s : State) : (setRing n x s).pending = s.pending := rfl

@[simp] theorem setLane_clk (p d l : Nat) (v : LaneSt) (s : State) : (setLane p d l v s).clk = s.clk := rfl
@[simp] theorem setLane_ev (p d l : Nat) (v : LaneSt) (s : State) : (setLane p d l v s).ev = s.ev := rfl
@[simp] theorem setLane_dict (p d l : Nat) (v : LaneSt) (s : State) : (setLane p d l v s).dict = s.dict := rfl
@[simp] theorem setLane_dx (p d l : Nat) (v : LaneSt) (s : State) : (setLane p d l v s).dx = s.dx := rfl
@[simp] theorem setLane_pc (p d l : Nat) (v : LaneSt) (s : State) : (setLane p d l v s).pc = s.pc := rfl
@[simp] theorem setLane_tt (p d l : Nat) (v : LaneSt) (s : State) : (setLane p d l v s).tt = s.tt := rfl
@[simp] theorem setLane_ft (p d l : Nat) (v : LaneSt) (s : State) : (setLane p d l v s).ft = s.ft := rfl
@[simp] theorem setLane_links (p d l : Nat) (v : LaneSt) (s : State) : (setLane p d l v s).links = s.links := rfl
@[simp] theorem setLane_dp (p d l : Nat) (v : LaneSt) (s : State) : (setLane p d l v s).dp = s.dp := rfl
@[simp] theorem setLane_cr (p d l : Nat) (v : LaneSt) (s : State) : (setLane p d l v s).cr = s.cr := rfl
@[simp] theorem setLane_fm (p d l : Nat) (v : LaneSt) (s : State) : (setLane p d l v s).fm = s.fm := rfl
@[simp] theorem setLane_tb (p d l : Nat) (v : LaneSt) (s : State) : (setLane p d l v s).tb = s.tb := rfl
@[simp] theorem setLane_ot (p d l : Nat) (v : LaneSt) (s : State) : (setLane p d l v s).ot = s.ot := rfl
@[simp] theorem setLane_ch (p d l : Nat) (v : LaneSt) (s : State) : (setLane p d l v s).ch = s.ch := rfl
@[simp] theorem setLane_hl (p d l : Nat) (v : LaneSt) (s : State) : (setLane p d l v s).hl = s.hl := rfl
@[simp] theorem setLane_rp (p d l : Nat) (v : LaneSt) (s : State) : (setLane p d l v s).rp = s.rp := rfl
@[simp] theorem setLane_se (p d l : Nat) (v : LaneSt) (s : State) : (setLane p d l v s).se = s.se := rfl
@[simp] theorem setLane_tm (p d l : Nat) (v : LaneSt) (s : State) : (setLane p d l v s).tm = s.tm := rfl
@[simp] theorem setLane_bi (p d l : Nat) (v : LaneSt) (s : State) : (setLane p d l v s).bi = s.bi := rfl
@[simp] theorem setLane_el (p d l : Nat) (v : LaneSt) (s : State) : (setLane p d l v s).el = s.el := rfl
@[simp] theorem setLane_frame (p d l : Nat) (v : LaneSt) (s : State) : (setLane p d l v s).frame = s.frame := rfl
@[simp] theorem setLane_out (p d l : Nat) (v : LaneSt) (s : State) : (setLane p d l v s).out = s.out := rfl
@[simp] theorem setLane_free (p d l : Nat) (v : LaneSt) (s : State) : (setLane p d l v s).free = s.free := rfl
@[simp] theorem setLane_pending (p d l : Nat) (v : LaneSt) (s : State) : (setLane p d l v s).pending = s.pending := rfl

@[simp] theorem setReserve_clk (p d : Nat) (v : Reserve) (s : State) : (setReserve p d v s).clk = s.clk := rfl
@[simp] theorem setReserve_ev (p d : Nat) (v : Reserve) (s : State) : (setReserve p d v s).ev = s.ev := rfl
@[simp] theorem setReserve_dict (p d : Nat) (v : Reserve) (s : State) : (setReserve p d v s).dict = s.dict := rfl
@[simp] theorem setReserve_dx (p d : Nat) (v : Reserve) (s : State) : (setReserve p d v s).dx = s.dx := rfl
@[simp] theorem setReserve_pc (p d : Nat) (v : Reserve) (s : State) : (setReserve p d v s).pc = s.pc := rfl
@[simp] theorem setReserve_tt (p d : Nat) (v : Reserve) (s : State) : (setReserve p d v s).tt = s.tt := rfl
@[simp] theorem setReserve_ft (p d : Nat) (v : Reserve) (s : State) : (setReserve p d v s).ft = s.ft := rfl
@[simp] theorem setReserve_links (p d : Nat) (v : Reserve) (s : State) : (setReserve p d v s).links = s.links := rfl
@[simp] theorem setReserve_dp (p d : Nat) (v : Reserve) (s : State) : (setReserve p d v s).dp = s.dp := rfl
@[simp] theorem setReserve_cr (p d : Nat) (v : Reserve) (s : State) : (setReserve p d v s).cr = s.cr := rfl
@[simp] theorem setReserve_fm (p d : Nat) (v : Reserve) (s : State) : (setReserve p d v s).fm = s.fm := rfl
@[simp] theorem setReserve_tb (p d : Nat) (v : Reserve) (s : State) : (setReserve p d v s).tb = s.tb := rfl
@[simp] theorem setReserve_ot (p d : Nat) (v : Reserve) (s : State) : (setReserve p d v s).ot = s.ot := rfl
@[simp] theorem setReserve_ch (p d : Nat) (v : Reserve) (s : State) : (setReserve p d v s).ch = s.ch := rfl
@[simp] theorem setReserve_hl (p d : Nat) (v : Reserve) (s : State) : (setReserve p d v s).hl = s.hl := rfl
@[simp] theorem setReserve_rp (p d : Nat) (v : Reserve) (s : State) : (setReserve p d v s).rp = s.rp := rfl
@[simp] theorem setReserve_se (p d : Nat) (v : Reserve) (s : State) : (setReserve p d v s).se = s.se := rfl
@[simp] theorem setReserve_tm (p d : Nat) (v : Reserve) (s : State) : (setReserve p d v s).tm = s.tm := rfl
@[simp] theorem setReserve_bi (p d : Nat) (v : Reserve) (s : State) : (setReserve p d v s).bi = s.bi := rfl
@[simp] theorem setReserve_el (p d : Nat) (v : Reserve) (s : State) : (setReserve p d v s).el = s.el := rfl
@[simp] theorem setReserve_frame (p d : Nat) (v : Reserve) (s : State) : (setReserve p d v s).frame = s.frame := rfl
@[simp] theorem setReserve_out (p d : Nat) (v : Reserve) (s : State) : (setReserve p d v s).out = s.out := rfl
@[simp] theorem setReserve_free (p d : Nat) (v : Reserve) (s : State) : (setReserve p d v s).free = s.free := rfl
@[simp] theorem setReserve_pending (p d : Nat) (v : Reserve) (s : State) : (setReserve p d v s).pending = s.pending := rfl

@[simp] theorem setEls_clk (e : Nat) (x : Els) (s : State) : (setEls e x s).clk = s.clk := rfl
@[simp] theorem setEls_ev (e : Nat) (x : Els) (s : State) : (setEls e x s).ev = s.ev := rfl
@[simp] theorem setEls_dict (e : Nat) (x : Els) (s : State) : (setEls e x s).dict = s.dict := rfl
@[simp] theorem setEls_dx (e : Nat) (x : Els) (s : State) : (setEls e x s).dx = s.dx := rfl
@[simp] theorem setEls_pc (e : Nat) (x : Els) (s : State) : (setEls e x s).pc = s.pc := rfl
@[simp] theorem setEls_tt (e : Nat) (x : Els) (s : State) : (setEls e x s).tt = s.tt := rfl
@[simp] theorem setEls_ft (e : Nat) (x : Els) (s : State) : (setEls e x s).ft = s.ft := rfl
@[simp] theorem setEls_links (e : Nat) (x : Els) (s : State) : (setEls e x s).links = s.links := rfl
@[simp] theorem setEls_dp (e : Nat) (x : Els) (s : State) : (setEls e x s).dp = s.dp := rfl
@[simp] theorem setEls_cr (e : Nat) (x : Els) (s : State) : (setEls e x s).cr = s.cr := rfl
@[simp] theorem setEls_fm (e : Nat) (x : Els) (s : State) : (setEls e x s).fm = s.fm := rfl
@[simp] theorem setEls_tb (e : Nat) (x : Els) (s : State) : (setEls e x s).tb = s.tb := rfl
@[simp] theorem setEls_ot (e : Nat) (x : Els) (s : State) : (setEls e x s).ot = s.ot := rfl
@[simp] theorem setEls_ch (e : Nat) (x : Els) (s : State) : (setEls e x s).ch = s.ch := rfl
@[simp] theorem setEls_hl (e : Nat) (x : Els) (s : State) : (setEls e x s).hl = s.hl := rfl
@[simp] theorem setEls_rp (e : Nat) (x : Els) (s : State) : (setEls e x s).rp = s.rp := rfl
@[simp] theorem setEls_se (e : Nat) (x : Els) (s : State) : (setEls e x s).se = s.se := rfl
@[simp] theorem setEls_tm (e : Nat) (x : Els) (s : State) : (setEls e x s).tm = s.tm := rfl
@[simp] theorem setEls_bi (e : Nat) (x : Els) (s : State) : (setEls e x s).bi = s.bi := rfl
@[simp] theorem setEls_el (e : Nat) (x : Els) (s : State) : (setEls e x s).el = s.el := rfl
@[simp] theorem setEls_frame (e : Nat) (x : Els) (s : State) : (setEls e x s).frame = s.frame := rfl
@[simp] theorem setEls_out (e : Nat) (x : Els) (s : State) : (setEls e x s).out = s.out := rfl
@[simp] theorem setEls_free (e : Nat) (x : Els) (s : State) : (setEls e x s).free = s.free := rfl
@[simp] theorem setEls_pending (e : Nat) (x : Els) (s : State) : (setEls e x s).pending = s.pending := rfl

@[simp] theorem setMoves_clk (l : List Move) (s : State) : (setMoves l s).clk = s.clk := rfl
@[simp] theorem setMoves_ev (l : List Move) (s : State) : (setMoves l s).ev = s.ev := rfl
@[simp] theorem setMoves_dict (l : List Move) (s : State) : (setMoves l s).dict = s.dict := rfl
@[simp] theorem setMoves_dx (l : List Move) (s : State) : (setMoves l s).dx = s.dx := rfl
@[simp] theorem setMoves_pc (l : List Move) (s : State) : (setMoves l s).pc = s.pc := rfl
@[simp] theorem setMoves_tt (l : List Move) (s : State) : (setMoves l s).tt = s.tt := rfl
@[simp] theorem setMoves_ft (l : List Move) (s : State) : (setMoves l s).ft = s.ft := rfl
@[simp] theorem setMoves_links (l : List Move) (s : State) : (setMoves l s).links = s.links := rfl
@[simp] theorem setMoves_dp (l : List Move) (s : State) : (setMoves l s).dp = s.dp := rfl
@[simp] theorem setMoves_cr (l : List Move) (s : State) : (setMoves l s).cr = s.cr := rfl
@[simp] theorem setMoves_fm (l : List Move) (s : State) : (setMoves l s).fm = s.fm := rfl
@[simp] theorem setMoves_tb (l : List Move) (s : State) : (setMoves l s).tb = s.tb := rfl
@[simp] theorem setMoves_ot (l : List Move) (s : State) : (setMoves l s).ot = s.ot := rfl
@[simp] theorem setMoves_ch (l : List Move) (s : State) : (setMoves l s).ch = s.ch := rfl
@[simp] theorem setMoves_hl (l : List Move) (s : State) : (setMoves l s).hl = s.hl := rfl
@[simp] theorem setMoves_rp (l : List Move) (s : State) : (setMoves l s).rp = s.rp := rfl
@[simp] theorem setMoves_se (l : List Move) (s : State) : (setMoves l s).se = s.se := rfl
@[simp] theorem setMoves_tm (l : List Move) (s : State) : (setMoves l s).tm = s.tm := rfl
@[simp] theorem setMoves_bi (l : List Move) (s : State) : (setMoves l s).bi = s.bi := rfl
@[simp] theorem setMoves_el (l : List Move) (s : State) : (setMoves l s).el = s.el := rfl
@[simp] theorem setMoves_frame (l : List Move) (s : State) : (setMoves l s).frame = s.frame := rfl
@[simp] theorem setMoves_out (l : List Move) (s : State) : (setMoves l s).out = s.out := rfl
@[simp] theorem setMoves_free (l : List Move) (s : State) : (setMoves l s).free = s.free := rfl
@[simp] theorem setMoves_pending (l : List Move) (s : State) : (setMoves l s).pending = s.pending := rfl

@[simp] theorem setXfer_clk (e : Nat) (f : Xfer → Xfer) (s : State) : (setXfer e f s).clk = s.clk := rfl
@[simp] theorem setXfer_ev (e : Nat) (f : Xfer → Xfer) (s : State) : (setXfer e f s).ev = s.ev := rfl
@[simp] theorem setXfer_dict (e : Nat) (f : Xfer → Xfer) (s : State) : (setXfer e f s).dict = s.dict := rfl
@[simp] theorem setXfer_pc (e : Nat) (f : Xfer → Xfer) (s : State) : (setXfer e f s).pc = s.pc := rfl
@[simp] theorem setXfer_tt (e : Nat) (f : Xfer → Xfer) (s : State) : (setXfer e f s).tt = s.tt := rfl
@[simp] theorem setXfer_ft (e : Nat) (f : Xfer → Xfer) (s : State) : (setXfer e f s).ft = s.ft := rfl
@[simp] theorem setXfer_links (e : Nat) (f : Xfer → Xfer) (s : State) : (setXfer e f s).links = s.links := rfl
@[simp] theorem setXfer_dp (e : Nat) (f : Xfer → Xfer) (s : State) : (setXfer e f s).dp = s.dp := rfl
@[simp] theorem setXfer_cr (e : Nat) (f : Xfer → Xfer) (s : State) : (setXfer e f s).cr = s.cr := rfl
@[simp] theorem setXfer_fm (e : Nat) (f : Xfer → Xfer) (s : State) : (setXfer e f s).fm = s.fm := rfl
@[simp] theorem setXfer_tb (e : Nat) (f : Xfer → Xfer) (s : State) : (setXfer e f s).tb = s.tb := rfl
@[simp] theorem setXfer_ot (e : Nat) (f : Xfer → Xfer) (s : State) : (setXfer e f s).ot = s.ot := rfl
@[simp] theorem setXfer_op (e : Nat) (f : Xfer → Xfer) (s : State) : (setXfer e f s).op = s.op := rfl
@[simp] theorem setXfer_ch (e : Nat) (f : Xfer → Xfer) (s : State) : (setXfer e f s).ch = s.ch := rfl
@[simp] theorem setXfer_hl (e : Nat) (f : Xfer → Xfer) (s : State) : (setXfer e f s).hl = s.hl := rfl
@[simp] theorem setXfer_rp (e : Nat) (f : Xfer → Xfer) (s : State) : (setXfer e f s).rp = s.rp := rfl
@[simp] theorem setXfer_se (e : Nat) (f : Xfer → Xfer) (s : State) : (setXfer e f s).se = s.se := rfl
@[simp] theorem setXfer_tm (e : Nat) (f : Xfer → Xfer) (s : State) : (setXfer e f s).tm = s.tm := rfl
@[simp] theorem setXfer_bi (e : Nat) (f : Xfer → Xfer) (s : State) : (setXfer e f s).bi = s.bi := rfl
@[simp] theorem setXfer_el (e : Nat) (f : Xfer → Xfer) (s : State) : (setXfer e f s).el = s.el := rfl
@[simp] theorem setXfer_frame (e : Nat) (f : Xfer → Xfer) (s : State) : (setXfer e f s).frame = s.frame := rfl
@[simp] theorem setXfer_out (e : Nat) (f : Xfer → Xfer) (s : State) : (setXfer e f s).out = s.out := rfl
@[simp] theorem setXfer_free (e : Nat) (f : Xfer → Xfer) (s : State) : (setXfer e f s).free = s.free := rfl
@[simp] theorem setXfer_pending (e : Nat) (f : Xfer → Xfer) (s : State) : (setXfer e f s).pending = s.pending := rfl

@[simp] theorem setSession_clk (n : Nat) (f : Session → Session) (s : State) : (setSession n f s).clk = s.clk := rfl
@[simp] theorem setSession_ev (n : Nat) (f : Session → Session) (s : State) : (setSession n f s).ev = s.ev := rfl
@[simp] theorem setSession_dict (n : Nat) (f : Session → Session) (s : State) : (setSession n f s).dict = s.dict := rfl
@[simp] theorem setSession_pc (n : Nat) (f : Session → Session) (s : State) : (setSession n f s).pc = s.pc := rfl
@[simp] theorem setSession_tt (n : Nat) (f : Session → Session) (s : State) : (setSession n f s).tt = s.tt := rfl
@[simp] theorem setSession_ft (n : Nat) (f : Session → Session) (s : State) : (setSession n f s).ft = s.ft := rfl
@[simp] theorem setSession_links (n : Nat) (f : Session → Session) (s : State) : (setSession n f s).links = s.links := rfl
@[simp] theorem setSession_dp (n : Nat) (f : Session → Session) (s : State) : (setSession n f s).dp = s.dp := rfl
@[simp] theorem setSession_cr (n : Nat) (f : Session → Session) (s : State) : (setSession n f s).cr = s.cr := rfl
@[simp] theorem setSession_fm (n : Nat) (f : Session → Session) (s : State) : (setSession n f s).fm = s.fm := rfl
@[simp] theorem setSession_tb (n : Nat) (f : Session → Session) (s : State) : (setSession n f s).tb = s.tb := rfl
@[simp] theorem setSession_ot (n : Nat) (f : Session → Session) (s : State) : (setSession n f s).ot = s.ot := rfl
@[simp] theorem setSession_op (n : Nat) (f : Session → Session) (s : State) : (setSession n f s).op = s.op := rfl
@[simp] theorem setSession_ch (n : Nat) (f : Session → Session) (s : State) : (setSession n f s).ch = s.ch := rfl
@[simp] theorem setSession_hl (n : Nat) (f : Session → Session) (s : State) : (setSession n f s).hl = s.hl := rfl
@[simp] theorem setSession_rp (n : Nat) (f : Session → Session) (s : State) : (setSession n f s).rp = s.rp := rfl
@[simp] theorem setSession_se (n : Nat) (f : Session → Session) (s : State) : (setSession n f s).se = s.se := rfl
@[simp] theorem setSession_tm (n : Nat) (f : Session → Session) (s : State) : (setSession n f s).tm = s.tm := rfl
@[simp] theorem setSession_bi (n : Nat) (f : Session → Session) (s : State) : (setSession n f s).bi = s.bi := rfl
@[simp] theorem setSession_el (n : Nat) (f : Session → Session) (s : State) : (setSession n f s).el = s.el := rfl
@[simp] theorem setSession_frame (n : Nat) (f : Session → Session) (s : State) : (setSession n f s).frame = s.frame := rfl
@[simp] theorem setSession_out (n : Nat) (f : Session → Session) (s : State) : (setSession n f s).out = s.out := rfl
@[simp] theorem setSession_free (n : Nat) (f : Session → Session) (s : State) : (setSession n f s).free = s.free := rfl
@[simp] theorem setSession_pending (n : Nat) (f : Session → Session) (s : State) : (setSession n f s).pending = s.pending := rfl

@[simp] theorem setLease_clk (n st : Nat) (s : State) : (setLease n st s).clk = s.clk := rfl
@[simp] theorem setLease_ev (n st : Nat) (s : State) : (setLease n st s).ev = s.ev := rfl
@[simp] theorem setLease_dict (n st : Nat) (s : State) : (setLease n st s).dict = s.dict := rfl
@[simp] theorem setLease_dx (n st : Nat) (s : State) : (setLease n st s).dx = s.dx := rfl
@[simp] theorem setLease_pc (n st : Nat) (s : State) : (setLease n st s).pc = s.pc := rfl
@[simp] theorem setLease_ft (n st : Nat) (s : State) : (setLease n st s).ft = s.ft := rfl
@[simp] theorem setLease_links (n st : Nat) (s : State) : (setLease n st s).links = s.links := rfl
@[simp] theorem setLease_dp (n st : Nat) (s : State) : (setLease n st s).dp = s.dp := rfl
@[simp] theorem setLease_cr (n st : Nat) (s : State) : (setLease n st s).cr = s.cr := rfl
@[simp] theorem setLease_fm (n st : Nat) (s : State) : (setLease n st s).fm = s.fm := rfl
@[simp] theorem setLease_tb (n st : Nat) (s : State) : (setLease n st s).tb = s.tb := rfl
@[simp] theorem setLease_ot (n st : Nat) (s : State) : (setLease n st s).ot = s.ot := rfl
@[simp] theorem setLease_op (n st : Nat) (s : State) : (setLease n st s).op = s.op := rfl
@[simp] theorem setLease_ch (n st : Nat) (s : State) : (setLease n st s).ch = s.ch := rfl
@[simp] theorem setLease_hl (n st : Nat) (s : State) : (setLease n st s).hl = s.hl := rfl
@[simp] theorem setLease_rp (n st : Nat) (s : State) : (setLease n st s).rp = s.rp := rfl
@[simp] theorem setLease_se (n st : Nat) (s : State) : (setLease n st s).se = s.se := rfl
@[simp] theorem setLease_tm (n st : Nat) (s : State) : (setLease n st s).tm = s.tm := rfl
@[simp] theorem setLease_bi (n st : Nat) (s : State) : (setLease n st s).bi = s.bi := rfl
@[simp] theorem setLease_el (n st : Nat) (s : State) : (setLease n st s).el = s.el := rfl
@[simp] theorem setLease_frame (n st : Nat) (s : State) : (setLease n st s).frame = s.frame := rfl
@[simp] theorem setLease_out (n st : Nat) (s : State) : (setLease n st s).out = s.out := rfl
@[simp] theorem setLease_free (n st : Nat) (s : State) : (setLease n st s).free = s.free := rfl
@[simp] theorem setLease_pending (n st : Nat) (s : State) : (setLease n st s).pending = s.pending := rfl

@[simp] theorem setShaper_clk (n : Nat) (v : Shaper) (s : State) : (setShaper n v s).clk = s.clk := rfl
@[simp] theorem setShaper_ev (n : Nat) (v : Shaper) (s : State) : (setShaper n v s).ev = s.ev := rfl
@[simp] theorem setShaper_dict (n : Nat) (v : Shaper) (s : State) : (setShaper n v s).dict = s.dict := rfl
@[simp] theorem setShaper_dx (n : Nat) (v : Shaper) (s : State) : (setShaper n v s).dx = s.dx := rfl
@[simp] theorem setShaper_pc (n : Nat) (v : Shaper) (s : State) : (setShaper n v s).pc = s.pc := rfl
@[simp] theorem setShaper_tt (n : Nat) (v : Shaper) (s : State) : (setShaper n v s).tt = s.tt := rfl
@[simp] theorem setShaper_ft (n : Nat) (v : Shaper) (s : State) : (setShaper n v s).ft = s.ft := rfl
@[simp] theorem setShaper_links (n : Nat) (v : Shaper) (s : State) : (setShaper n v s).links = s.links := rfl
@[simp] theorem setShaper_dp (n : Nat) (v : Shaper) (s : State) : (setShaper n v s).dp = s.dp := rfl
@[simp] theorem setShaper_cr (n : Nat) (v : Shaper) (s : State) : (setShaper n v s).cr = s.cr := rfl
@[simp] theorem setShaper_fm (n : Nat) (v : Shaper) (s : State) : (setShaper n v s).fm = s.fm := rfl
@[simp] theorem setShaper_tb (n : Nat) (v : Shaper) (s : State) : (setShaper n v s).tb = s.tb := rfl
@[simp] theorem setShaper_op (n : Nat) (v : Shaper) (s : State) : (setShaper n v s).op = s.op := rfl
@[simp] theorem setShaper_ch (n : Nat) (v : Shaper) (s : State) : (setShaper n v s).ch = s.ch := rfl
@[simp] theorem setShaper_hl (n : Nat) (v : Shaper) (s : State) : (setShaper n v s).hl = s.hl := rfl
@[simp] theorem setShaper_rp (n : Nat) (v : Shaper) (s : State) : (setShaper n v s).rp = s.rp := rfl
@[simp] theorem setShaper_se (n : Nat) (v : Shaper) (s : State) : (setShaper n v s).se = s.se := rfl
@[simp] theorem setShaper_tm (n : Nat) (v : Shaper) (s : State) : (setShaper n v s).tm = s.tm := rfl
@[simp] theorem setShaper_bi (n : Nat) (v : Shaper) (s : State) : (setShaper n v s).bi = s.bi := rfl
@[simp] theorem setShaper_el (n : Nat) (v : Shaper) (s : State) : (setShaper n v s).el = s.el := rfl
@[simp] theorem setShaper_frame (n : Nat) (v : Shaper) (s : State) : (setShaper n v s).frame = s.frame := rfl
@[simp] theorem setShaper_out (n : Nat) (v : Shaper) (s : State) : (setShaper n v s).out = s.out := rfl
@[simp] theorem setShaper_free (n : Nat) (v : Shaper) (s : State) : (setShaper n v s).free = s.free := rfl
@[simp] theorem setShaper_pending (n : Nat) (v : Shaper) (s : State) : (setShaper n v s).pending = s.pending := rfl

@[simp] theorem setRule_clk (n : Nat) (x : RuleState) (s : State) : (setRule n x s).clk = s.clk := rfl
@[simp] theorem setRule_ev (n : Nat) (x : RuleState) (s : State) : (setRule n x s).ev = s.ev := rfl
@[simp] theorem setRule_dict (n : Nat) (x : RuleState) (s : State) : (setRule n x s).dict = s.dict := rfl
@[simp] theorem setRule_dx (n : Nat) (x : RuleState) (s : State) : (setRule n x s).dx = s.dx := rfl
@[simp] theorem setRule_pc (n : Nat) (x : RuleState) (s : State) : (setRule n x s).pc = s.pc := rfl
@[simp] theorem setRule_tt (n : Nat) (x : RuleState) (s : State) : (setRule n x s).tt = s.tt := rfl
@[simp] theorem setRule_ft (n : Nat) (x : RuleState) (s : State) : (setRule n x s).ft = s.ft := rfl
@[simp] theorem setRule_links (n : Nat) (x : RuleState) (s : State) : (setRule n x s).links = s.links := rfl
@[simp] theorem setRule_dp (n : Nat) (x : RuleState) (s : State) : (setRule n x s).dp = s.dp := rfl
@[simp] theorem setRule_cr (n : Nat) (x : RuleState) (s : State) : (setRule n x s).cr = s.cr := rfl
@[simp] theorem setRule_fm (n : Nat) (x : RuleState) (s : State) : (setRule n x s).fm = s.fm := rfl
@[simp] theorem setRule_tb (n : Nat) (x : RuleState) (s : State) : (setRule n x s).tb = s.tb := rfl
@[simp] theorem setRule_ot (n : Nat) (x : RuleState) (s : State) : (setRule n x s).ot = s.ot := rfl
@[simp] theorem setRule_op (n : Nat) (x : RuleState) (s : State) : (setRule n x s).op = s.op := rfl
@[simp] theorem setRule_ch (n : Nat) (x : RuleState) (s : State) : (setRule n x s).ch = s.ch := rfl
@[simp] theorem setRule_rp (n : Nat) (x : RuleState) (s : State) : (setRule n x s).rp = s.rp := rfl
@[simp] theorem setRule_se (n : Nat) (x : RuleState) (s : State) : (setRule n x s).se = s.se := rfl
@[simp] theorem setRule_tm (n : Nat) (x : RuleState) (s : State) : (setRule n x s).tm = s.tm := rfl
@[simp] theorem setRule_bi (n : Nat) (x : RuleState) (s : State) : (setRule n x s).bi = s.bi := rfl
@[simp] theorem setRule_el (n : Nat) (x : RuleState) (s : State) : (setRule n x s).el = s.el := rfl
@[simp] theorem setRule_frame (n : Nat) (x : RuleState) (s : State) : (setRule n x s).frame = s.frame := rfl
@[simp] theorem setRule_out (n : Nat) (x : RuleState) (s : State) : (setRule n x s).out = s.out := rfl
@[simp] theorem setRule_free (n : Nat) (x : RuleState) (s : State) : (setRule n x s).free = s.free := rfl
@[simp] theorem setRule_pending (n : Nat) (x : RuleState) (s : State) : (setRule n x s).pending = s.pending := rfl

@[simp] theorem setDi_clk (d : Nat) (x : DiState) (s : State) : (setDi d x s).clk = s.clk := rfl
@[simp] theorem setDi_ev (d : Nat) (x : DiState) (s : State) : (setDi d x s).ev = s.ev := rfl
@[simp] theorem setDi_dict (d : Nat) (x : DiState) (s : State) : (setDi d x s).dict = s.dict := rfl
@[simp] theorem setDi_dx (d : Nat) (x : DiState) (s : State) : (setDi d x s).dx = s.dx := rfl
@[simp] theorem setDi_pc (d : Nat) (x : DiState) (s : State) : (setDi d x s).pc = s.pc := rfl
@[simp] theorem setDi_tt (d : Nat) (x : DiState) (s : State) : (setDi d x s).tt = s.tt := rfl
@[simp] theorem setDi_ft (d : Nat) (x : DiState) (s : State) : (setDi d x s).ft = s.ft := rfl
@[simp] theorem setDi_links (d : Nat) (x : DiState) (s : State) : (setDi d x s).links = s.links := rfl
@[simp] theorem setDi_dp (d : Nat) (x : DiState) (s : State) : (setDi d x s).dp = s.dp := rfl
@[simp] theorem setDi_cr (d : Nat) (x : DiState) (s : State) : (setDi d x s).cr = s.cr := rfl
@[simp] theorem setDi_fm (d : Nat) (x : DiState) (s : State) : (setDi d x s).fm = s.fm := rfl
@[simp] theorem setDi_tb (d : Nat) (x : DiState) (s : State) : (setDi d x s).tb = s.tb := rfl
@[simp] theorem setDi_ot (d : Nat) (x : DiState) (s : State) : (setDi d x s).ot = s.ot := rfl
@[simp] theorem setDi_op (d : Nat) (x : DiState) (s : State) : (setDi d x s).op = s.op := rfl
@[simp] theorem setDi_ch (d : Nat) (x : DiState) (s : State) : (setDi d x s).ch = s.ch := rfl
@[simp] theorem setDi_rp (d : Nat) (x : DiState) (s : State) : (setDi d x s).rp = s.rp := rfl
@[simp] theorem setDi_se (d : Nat) (x : DiState) (s : State) : (setDi d x s).se = s.se := rfl
@[simp] theorem setDi_tm (d : Nat) (x : DiState) (s : State) : (setDi d x s).tm = s.tm := rfl
@[simp] theorem setDi_bi (d : Nat) (x : DiState) (s : State) : (setDi d x s).bi = s.bi := rfl
@[simp] theorem setDi_el (d : Nat) (x : DiState) (s : State) : (setDi d x s).el = s.el := rfl
@[simp] theorem setDi_frame (d : Nat) (x : DiState) (s : State) : (setDi d x s).frame = s.frame := rfl
@[simp] theorem setDi_out (d : Nat) (x : DiState) (s : State) : (setDi d x s).out = s.out := rfl
@[simp] theorem setDi_free (d : Nat) (x : DiState) (s : State) : (setDi d x s).free = s.free := rfl
@[simp] theorem setDi_pending (d : Nat) (x : DiState) (s : State) : (setDi d x s).pending = s.pending := rfl

@[simp] theorem setFw_clk (n : Nat) (x : FwSlot) (s : State) : (setFw n x s).clk = s.clk := rfl
@[simp] theorem setFw_ev (n : Nat) (x : FwSlot) (s : State) : (setFw n x s).ev = s.ev := rfl
@[simp] theorem setFw_dict (n : Nat) (x : FwSlot) (s : State) : (setFw n x s).dict = s.dict := rfl
@[simp] theorem setFw_dx (n : Nat) (x : FwSlot) (s : State) : (setFw n x s).dx = s.dx := rfl
@[simp] theorem setFw_pc (n : Nat) (x : FwSlot) (s : State) : (setFw n x s).pc = s.pc := rfl
@[simp] theorem setFw_tt (n : Nat) (x : FwSlot) (s : State) : (setFw n x s).tt = s.tt := rfl
@[simp] theorem setFw_ft (n : Nat) (x : FwSlot) (s : State) : (setFw n x s).ft = s.ft := rfl
@[simp] theorem setFw_links (n : Nat) (x : FwSlot) (s : State) : (setFw n x s).links = s.links := rfl
@[simp] theorem setFw_dp (n : Nat) (x : FwSlot) (s : State) : (setFw n x s).dp = s.dp := rfl
@[simp] theorem setFw_cr (n : Nat) (x : FwSlot) (s : State) : (setFw n x s).cr = s.cr := rfl
@[simp] theorem setFw_fm (n : Nat) (x : FwSlot) (s : State) : (setFw n x s).fm = s.fm := rfl
@[simp] theorem setFw_tb (n : Nat) (x : FwSlot) (s : State) : (setFw n x s).tb = s.tb := rfl
@[simp] theorem setFw_ot (n : Nat) (x : FwSlot) (s : State) : (setFw n x s).ot = s.ot := rfl
@[simp] theorem setFw_op (n : Nat) (x : FwSlot) (s : State) : (setFw n x s).op = s.op := rfl
@[simp] theorem setFw_ch (n : Nat) (x : FwSlot) (s : State) : (setFw n x s).ch = s.ch := rfl
@[simp] theorem setFw_hl (n : Nat) (x : FwSlot) (s : State) : (setFw n x s).hl = s.hl := rfl
@[simp] theorem setFw_rp (n : Nat) (x : FwSlot) (s : State) : (setFw n x s).rp = s.rp := rfl
@[simp] theorem setFw_tm (n : Nat) (x : FwSlot) (s : State) : (setFw n x s).tm = s.tm := rfl
@[simp] theorem setFw_bi (n : Nat) (x : FwSlot) (s : State) : (setFw n x s).bi = s.bi := rfl
@[simp] theorem setFw_el (n : Nat) (x : FwSlot) (s : State) : (setFw n x s).el = s.el := rfl
@[simp] theorem setFw_frame (n : Nat) (x : FwSlot) (s : State) : (setFw n x s).frame = s.frame := rfl
@[simp] theorem setFw_out (n : Nat) (x : FwSlot) (s : State) : (setFw n x s).out = s.out := rfl
@[simp] theorem setFw_free (n : Nat) (x : FwSlot) (s : State) : (setFw n x s).free = s.free := rfl
@[simp] theorem setFw_pending (n : Nat) (x : FwSlot) (s : State) : (setFw n x s).pending = s.pending := rfl

@[simp] theorem settle_clk (s t : State) : (settle s t).clk = s.clk := rfl
@[simp] theorem settle_ev (s t : State) : (settle s t).ev = t.ev := rfl
@[simp] theorem settle_dict (s t : State) : (settle s t).dict = t.dict := rfl
@[simp] theorem settle_dx (s t : State) : (settle s t).dx = t.dx := rfl
@[simp] theorem settle_pc (s t : State) : (settle s t).pc = t.pc := rfl
@[simp] theorem settle_tt (s t : State) : (settle s t).tt = t.tt := rfl
@[simp] theorem settle_ft (s t : State) : (settle s t).ft = t.ft := rfl
@[simp] theorem settle_links (s t : State) : (settle s t).links = t.links := rfl
@[simp] theorem settle_dp (s t : State) : (settle s t).dp = t.dp := rfl
@[simp] theorem settle_cr (s t : State) : (settle s t).cr = t.cr := rfl
@[simp] theorem settle_fm (s t : State) : (settle s t).fm = t.fm := rfl
@[simp] theorem settle_tb (s t : State) : (settle s t).tb = t.tb := rfl
@[simp] theorem settle_ot (s t : State) : (settle s t).ot = t.ot := rfl
@[simp] theorem settle_op (s t : State) : (settle s t).op = t.op := rfl
@[simp] theorem settle_ch (s t : State) : (settle s t).ch = t.ch := rfl
@[simp] theorem settle_hl (s t : State) : (settle s t).hl = t.hl := rfl
@[simp] theorem settle_rp (s t : State) : (settle s t).rp = t.rp := rfl
@[simp] theorem settle_se (s t : State) : (settle s t).se = t.se := rfl
@[simp] theorem settle_tm (s t : State) : (settle s t).tm = t.tm := rfl
@[simp] theorem settle_bi (s t : State) : (settle s t).bi = t.bi := rfl
@[simp] theorem settle_el (s t : State) : (settle s t).el = t.el := rfl
@[simp] theorem settle_frame (s t : State) : (settle s t).frame = t.frame := rfl
@[simp] theorem settle_out (s t : State) : (settle s t).out = t.out := rfl
@[simp] theorem settle_free (s t : State) : (settle s t).free = t.free := rfl
@[simp] theorem settle_pending (s t : State) : (settle s t).pending = s.pending := rfl

end Sys2Proof.Machine
end

