-- ==== Sys2Proof/Laws/Reports.lean ====
section
/-! SUPPORT. Reporting (counters, events and what they queue) leaves everything but reports as it is (R399 to R401, R512, R577). -/
namespace Sys2Proof.Machine
open Sys2Proof

/-- A state without what reports are made of. -/
def quiet (s : State) : State :=
  { s with
    ev := evReset, tm := { s.tm with fixed := [], prog := [], mothRing := [] }, pc := [], out := [], free := 0, dict := State.reset.dict
    hl := { s.hl with controllers := [] }
    dx := { s.dx with subs := [] } }

/-- A fold of steps that keep what `g` shows keeps it. -/
theorem foldl_keeps {α β : Type} (g : State → β) (f : State → α → State) (h : ∀ s a, g (f s a) = g s) (l : List α) (s : State) :
    g (l.foldl f s) = g s := by
  induction l generalizing s with
  | nil => rfl
  | cons a l ih => rw [List.foldl_cons, ih, h]

@[simp] theorem quiet_setNum (e v : Nat) (s : State) : quiet (setNum e v s) = quiet s := rfl
@[simp] theorem quiet_count (e n : Nat) (s : State) : quiet (count e n s) = quiet s := rfl
@[simp] theorem quiet_emit (o : Output) (s : State) : quiet (emit o s) = quiet s := rfl
@[simp] theorem quiet_setPc (h : Nat) (f : PcieFn → PcieFn) (s : State) : quiet (setPc h f s) = quiet s := rfl
@[simp] theorem quiet_setController (d : Nat) (f : Controller → Controller) (s : State) : quiet (setController d f s) = quiet s := rfl
@[simp] theorem quiet_accum (c k : Nat) (l : List Item) (n : List Nat) (m : Option Nat) (s : State) : quiet (accum c k l n m s) = quiet s := by
  unfold accum; dsimp only; split <;> rfl
@[simp] theorem quiet_dropEvent (k : Nat) (s : State) : quiet (dropEvent k s) = quiet s := by simp [dropEvent]
@[simp] theorem quiet_signal (h v : Nat) (s : State) : quiet (signal h v s) = quiet s := by
  unfold signal; dsimp only; split <;> simp
@[simp] theorem quiet_hostQueue (e : EventRec) (h : Nat) (s : State) : quiet (hostQueue e h s) = quiet s := by
  unfold hostQueue; dsimp only; split
  · rfl
  · split <;> simp
@[simp] theorem quiet_toHost (e : EventRec) (h : Nat) (s : State) : quiet (toHost e h s) = quiet s := by
  unfold toHost; split <;> simp
@[simp] theorem quiet_toSub (e : EventRec) (n : Nat) (s : State) : quiet (toSub e n s) = quiet s := by
  unfold toSub; split
  · rfl
  · split
    · rfl
    · split
      · simp
      · rfl
/-- Raising an event changes reports only. -/
@[simp] theorem quiet_raise (c : Nat) (l : List Item) (s : State) : quiet (raise c l s) = quiet s := by
  unfold raise; dsimp only
  rw [foldl_keeps quiet _ fun s n => quiet_toSub _ n s, quiet_toHost, quiet_toHost]
  split <;> rfl
@[simp] theorem quiet_raiseOnce (c k : Nat) (l : List Item) (s : State) : quiet (raiseOnce c k l s) = quiet s := by
  unfold raiseOnce; split
  · rfl
  · rw [quiet_raise]; rfl
@[simp] theorem quiet_progAdd (b k n : Nat) (s : State) : quiet (progAdd b k n s) = quiet s := by
  unfold progAdd; dsimp only; split
  · rfl
  · split
    · rfl
    · rw [quiet_count]; rfl
/-- Counting an occurrence changes reports only. -/
@[simp] theorem quiet_occ (b e n : Nat) (a : OccAttr) (s : State) : quiet (occ b e n a s) = quiet s := by
  unfold occ; dsimp only; split
  · split <;> rfl
  · rw [foldl_keeps quiet]
    · split <;> rfl
    · intro s k; split
      · split <;> simp
      · rfl
@[simp] theorem quiet_tally (e b v n : Nat) (a : OccAttr) (s : State) : quiet (tally e b v n a s) = quiet s := by simp [tally]


theorem of_quiet_clk {s t : State} (h : quiet t = quiet s) : t.clk = s.clk := (congrArg State.clk h : (quiet t).clk = (quiet s).clk)
theorem of_quiet_tt {s t : State} (h : quiet t = quiet s) : t.tt = s.tt := (congrArg State.tt h : (quiet t).tt = (quiet s).tt)
theorem of_quiet_ft {s t : State} (h : quiet t = quiet s) : t.ft = s.ft := (congrArg State.ft h : (quiet t).ft = (quiet s).ft)
theorem of_quiet_links {s t : State} (h : quiet t = quiet s) : t.links = s.links := (congrArg State.links h : (quiet t).links = (quiet s).links)
theorem of_quiet_dp {s t : State} (h : quiet t = quiet s) : t.dp = s.dp := (congrArg State.dp h : (quiet t).dp = (quiet s).dp)
theorem of_quiet_cr {s t : State} (h : quiet t = quiet s) : t.cr = s.cr := (congrArg State.cr h : (quiet t).cr = (quiet s).cr)
theorem of_quiet_fm {s t : State} (h : quiet t = quiet s) : t.fm = s.fm := (congrArg State.fm h : (quiet t).fm = (quiet s).fm)
theorem of_quiet_tb {s t : State} (h : quiet t = quiet s) : t.tb = s.tb := (congrArg State.tb h : (quiet t).tb = (quiet s).tb)
theorem of_quiet_ot {s t : State} (h : quiet t = quiet s) : t.ot = s.ot := (congrArg State.ot h : (quiet t).ot = (quiet s).ot)
theorem of_quiet_op {s t : State} (h : quiet t = quiet s) : t.op = s.op := (congrArg State.op h : (quiet t).op = (quiet s).op)
theorem of_quiet_ch {s t : State} (h : quiet t = quiet s) : t.ch = s.ch := (congrArg State.ch h : (quiet t).ch = (quiet s).ch)
theorem of_quiet_rp {s t : State} (h : quiet t = quiet s) : t.rp = s.rp := (congrArg State.rp h : (quiet t).rp = (quiet s).rp)
theorem of_quiet_se {s t : State} (h : quiet t = quiet s) : t.se = s.se := (congrArg State.se h : (quiet t).se = (quiet s).se)
theorem of_quiet_bi {s t : State} (h : quiet t = quiet s) : t.bi = s.bi := (congrArg State.bi h : (quiet t).bi = (quiet s).bi)
theorem of_quiet_el {s t : State} (h : quiet t = quiet s) : t.el = s.el := (congrArg State.el h : (quiet t).el = (quiet s).el)
theorem of_quiet_frame {s t : State} (h : quiet t = quiet s) : t.frame = s.frame := (congrArg State.frame h : (quiet t).frame = (quiet s).frame)
theorem of_quiet_pending {s t : State} (h : quiet t = quiet s) : t.pending = s.pending := (congrArg State.pending h : (quiet t).pending = (quiet s).pending)
theorem of_quiet_dx_sessions {s t : State} (h : quiet t = quiet s) : t.dx.sessions = s.dx.sessions := (congrArg (fun x => x.dx.sessions) h : (quiet t).dx.sessions = (quiet s).dx.sessions)
theorem of_quiet_dx_owners {s t : State} (h : quiet t = quiet s) : t.dx.owners = s.dx.owners := (congrArg (fun x => x.dx.owners) h : (quiet t).dx.owners = (quiet s).dx.owners)
theorem of_quiet_dx_xfers {s t : State} (h : quiet t = quiet s) : t.dx.xfers = s.dx.xfers := (congrArg (fun x => x.dx.xfers) h : (quiet t).dx.xfers = (quiet s).dx.xfers)
theorem of_quiet_dx_snaps {s t : State} (h : quiet t = quiet s) : t.dx.snaps = s.dx.snaps := (congrArg (fun x => x.dx.snaps) h : (quiet t).dx.snaps = (quiet s).dx.snaps)
theorem of_quiet_dx_pending {s t : State} (h : quiet t = quiet s) : t.dx.pending = s.dx.pending := (congrArg (fun x => x.dx.pending) h : (quiet t).dx.pending = (quiet s).dx.pending)
theorem of_quiet_dx_inbox {s t : State} (h : quiet t = quiet s) : t.dx.inbox = s.dx.inbox := (congrArg (fun x => x.dx.inbox) h : (quiet t).dx.inbox = (quiet s).dx.inbox)
theorem of_quiet_dx_fetched {s t : State} (h : quiet t = quiet s) : t.dx.fetched = s.dx.fetched := (congrArg (fun x => x.dx.fetched) h : (quiet t).dx.fetched = (quiet s).dx.fetched)
theorem of_quiet_tm_dumpSeq {s t : State} (h : quiet t = quiet s) : t.tm.dumpSeq = s.tm.dumpSeq := (congrArg (fun x => x.tm.dumpSeq) h : (quiet t).tm.dumpSeq = (quiet s).tm.dumpSeq)
theorem of_quiet_tm_latched {s t : State} (h : quiet t = quiet s) : t.tm.latched = s.tm.latched := (congrArg (fun x => x.tm.latched) h : (quiet t).tm.latched = (quiet s).tm.latched)
theorem of_quiet_tm_buffers {s t : State} (h : quiet t = quiet s) : t.tm.buffers = s.tm.buffers := (congrArg (fun x => x.tm.buffers) h : (quiet t).tm.buffers = (quiet s).tm.buffers)
theorem of_quiet_tm_written {s t : State} (h : quiet t = quiet s) : t.tm.written = s.tm.written := (congrArg (fun x => x.tm.written) h : (quiet t).tm.written = (quiet s).tm.written)
theorem of_quiet_tm_ring {s t : State} (h : quiet t = quiet s) : t.tm.ring = s.tm.ring := (congrArg (fun x => x.tm.ring) h : (quiet t).tm.ring = (quiet s).tm.ring)
theorem of_quiet_tm_matchCount {s t : State} (h : quiet t = quiet s) : t.tm.matchCount = s.tm.matchCount := (congrArg (fun x => x.tm.matchCount) h : (quiet t).tm.matchCount = (quiet s).tm.matchCount)
theorem of_quiet_tm_tracking {s t : State} (h : quiet t = quiet s) : t.tm.tracking = s.tm.tracking := (congrArg (fun x => x.tm.tracking) h : (quiet t).tm.tracking = (quiet s).tm.tracking)
theorem of_quiet_tm_staged {s t : State} (h : quiet t = quiet s) : t.tm.staged = s.tm.staged := (congrArg (fun x => x.tm.staged) h : (quiet t).tm.staged = (quiet s).tm.staged)
theorem of_quiet_tm_captureSeq {s t : State} (h : quiet t = quiet s) : t.tm.captureSeq = s.tm.captureSeq := (congrArg (fun x => x.tm.captureSeq) h : (quiet t).tm.captureSeq = (quiet s).tm.captureSeq)
theorem of_quiet_tm_captures {s t : State} (h : quiet t = quiet s) : t.tm.captures = s.tm.captures := (congrArg (fun x => x.tm.captures) h : (quiet t).tm.captures = (quiet s).tm.captures)
theorem of_quiet_tm_captureLen {s t : State} (h : quiet t = quiet s) : t.tm.captureLen = s.tm.captureLen := (congrArg (fun x => x.tm.captureLen) h : (quiet t).tm.captureLen = (quiet s).tm.captureLen)
theorem of_quiet_tm_full {s t : State} (h : quiet t = quiet s) : t.tm.full = s.tm.full := (congrArg (fun x => x.tm.full) h : (quiet t).tm.full = (quiet s).tm.full)
theorem of_quiet_hl_power {s t : State} (h : quiet t = quiet s) : t.hl.power = s.hl.power := (congrArg (fun x => x.hl.power) h : (quiet t).hl.power = (quiet s).hl.power)
theorem of_quiet_hl_offCause {s t : State} (h : quiet t = quiet s) : t.hl.offCause = s.hl.offCause := (congrArg (fun x => x.hl.offCause) h : (quiet t).hl.offCause = (quiet s).hl.offCause)
theorem of_quiet_hl_restTick {s t : State} (h : quiet t = quiet s) : t.hl.restTick = s.hl.restTick := (congrArg (fun x => x.hl.restTick) h : (quiet t).hl.restTick = (quiet s).hl.restTick)
theorem of_quiet_hl_entering {s t : State} (h : quiet t = quiet s) : t.hl.entering = s.hl.entering := (congrArg (fun x => x.hl.entering) h : (quiet t).hl.entering = (quiet s).hl.entering)
theorem of_quiet_hl_wakeAfter {s t : State} (h : quiet t = quiet s) : t.hl.wakeAfter = s.hl.wakeAfter := (congrArg (fun x => x.hl.wakeAfter) h : (quiet t).hl.wakeAfter = (quiet s).hl.wakeAfter)
theorem of_quiet_hl_wakeCause {s t : State} (h : quiet t = quiet s) : t.hl.wakeCause = s.hl.wakeCause := (congrArg (fun x => x.hl.wakeCause) h : (quiet t).hl.wakeCause = (quiet s).hl.wakeCause)
theorem of_quiet_hl_wakeStart {s t : State} (h : quiet t = quiet s) : t.hl.wakeStart = s.hl.wakeStart := (congrArg (fun x => x.hl.wakeStart) h : (quiet t).hl.wakeStart = (quiet s).hl.wakeStart)
theorem of_quiet_hl_wakes {s t : State} (h : quiet t = quiet s) : t.hl.wakes = s.hl.wakes := (congrArg (fun x => x.hl.wakes) h : (quiet t).hl.wakes = (quiet s).hl.wakes)
theorem of_quiet_hl_gated {s t : State} (h : quiet t = quiet s) : t.hl.gated = s.hl.gated := (congrArg (fun x => x.hl.gated) h : (quiet t).hl.gated = (quiet s).hl.gated)
theorem of_quiet_hl_readings {s t : State} (h : quiet t = quiet s) : t.hl.readings = s.hl.readings := (congrArg (fun x => x.hl.readings) h : (quiet t).hl.readings = (quiet s).hl.readings)
theorem of_quiet_hl_throttle {s t : State} (h : quiet t = quiet s) : t.hl.throttle = s.hl.throttle := (congrArg (fun x => x.hl.throttle) h : (quiet t).hl.throttle = (quiet s).hl.throttle)
theorem of_quiet_hl_rules {s t : State} (h : quiet t = quiet s) : t.hl.rules = s.hl.rules := (congrArg (fun x => x.hl.rules) h : (quiet t).hl.rules = (quiet s).hl.rules)
theorem of_quiet_hl_di {s t : State} (h : quiet t = quiet s) : t.hl.di = s.hl.di := (congrArg (fun x => x.hl.di) h : (quiet t).hl.di = (quiet s).hl.di)
theorem of_quiet_hl_faultCause {s t : State} (h : quiet t = quiet s) : t.hl.faultCause = s.hl.faultCause := (congrArg (fun x => x.hl.faultCause) h : (quiet t).hl.faultCause = (quiet s).hl.faultCause)
theorem of_quiet_hl_attnCause {s t : State} (h : quiet t = quiet s) : t.hl.attnCause = s.hl.attnCause := (congrArg (fun x => x.hl.attnCause) h : (quiet t).hl.attnCause = (quiet s).hl.attnCause)
theorem of_quiet_hl_tripped {s t : State} (h : quiet t = quiet s) : t.hl.tripped = s.hl.tripped := (congrArg (fun x => x.hl.tripped) h : (quiet t).hl.tripped = (quiet s).hl.tripped)
theorem of_quiet_hl_neighbours {s t : State} (h : quiet t = quiet s) : t.hl.neighbours = s.hl.neighbours := (congrArg (fun x => x.hl.neighbours) h : (quiet t).hl.neighbours = (quiet s).hl.neighbours)
theorem of_quiet_hl_hbCounter {s t : State} (h : quiet t = quiet s) : t.hl.hbCounter = s.hl.hbCounter := (congrArg (fun x => x.hl.hbCounter) h : (quiet t).hl.hbCounter = (quiet s).hl.hbCounter)
theorem of_quiet_hl_certs {s t : State} (h : quiet t = quiet s) : t.hl.certs = s.hl.certs := (congrArg (fun x => x.hl.certs) h : (quiet t).hl.certs = (quiet s).hl.certs)
theorem of_quiet_hl_fences {s t : State} (h : quiet t = quiet s) : t.hl.fences = s.hl.fences := (congrArg (fun x => x.hl.fences) h : (quiet t).hl.fences = (quiet s).hl.fences)
theorem of_quiet_hl_mothRestarting {s t : State} (h : quiet t = quiet s) : t.hl.mothRestarting = s.hl.mothRestarting := (congrArg (fun x => x.hl.mothRestarting) h : (quiet t).hl.mothRestarting = (quiet s).hl.mothRestarting)
theorem of_quiet_hl_ppsOutEnd {s t : State} (h : quiet t = quiet s) : t.hl.ppsOutEnd = s.hl.ppsOutEnd := (congrArg (fun x => x.hl.ppsOutEnd) h : (quiet t).hl.ppsOutEnd = (quiet s).hl.ppsOutEnd)
theorem of_quiet_hl_testIr {s t : State} (h : quiet t = quiet s) : t.hl.testIr = s.hl.testIr := (congrArg (fun x => x.hl.testIr) h : (quiet t).hl.testIr = (quiet s).hl.testIr)

@[simp] theorem raise_clk (c : Nat) (l : List Item) (s : State) : (raise c l s).clk = s.clk := of_quiet_clk (quiet_raise c l s)
@[simp] theorem raise_tt (c : Nat) (l : List Item) (s : State) : (raise c l s).tt = s.tt := of_quiet_tt (quiet_raise c l s)
@[simp] theorem raise_ft (c : Nat) (l : List Item) (s : State) : (raise c l s).ft = s.ft := of_quiet_ft (quiet_raise c l s)
@[simp] theorem raise_links (c : Nat) (l : List Item) (s : State) : (raise c l s).links = s.links := of_quiet_links (quiet_raise c l s)
@[simp] theorem raise_dp (c : Nat) (l : List Item) (s : State) : (raise c l s).dp = s.dp := of_quiet_dp (quiet_raise c l s)
@[simp] theorem raise_cr (c : Nat) (l : List Item) (s : State) : (raise c l s).cr = s.cr := of_quiet_cr (quiet_raise c l s)
@[simp] theorem raise_fm (c : Nat) (l : List Item) (s : State) : (raise c l s).fm = s.fm := of_quiet_fm (quiet_raise c l s)
@[simp] theorem raise_tb (c : Nat) (l : List Item) (s : State) : (raise c l s).tb = s.tb := of_quiet_tb (quiet_raise c l s)
@[simp] theorem raise_ot (c : Nat) (l : List Item) (s : State) : (raise c l s).ot = s.ot := of_quiet_ot (quiet_raise c l s)
@[simp] theorem raise_op (c : Nat) (l : List Item) (s : State) : (raise c l s).op = s.op := of_quiet_op (quiet_raise c l s)
@[simp] theorem raise_ch (c : Nat) (l : List Item) (s : State) : (raise c l s).ch = s.ch := of_quiet_ch (quiet_raise c l s)
@[simp] theorem raise_rp (c : Nat) (l : List Item) (s : State) : (raise c l s).rp = s.rp := of_quiet_rp (quiet_raise c l s)
@[simp] theorem raise_se (c : Nat) (l : List Item) (s : State) : (raise c l s).se = s.se := of_quiet_se (quiet_raise c l s)
@[simp] theorem raise_bi (c : Nat) (l : List Item) (s : State) : (raise c l s).bi = s.bi := of_quiet_bi (quiet_raise c l s)
@[simp] theorem raise_el (c : Nat) (l : List Item) (s : State) : (raise c l s).el = s.el := of_quiet_el (quiet_raise c l s)
@[simp] theorem raise_frame (c : Nat) (l : List Item) (s : State) : (raise c l s).frame = s.frame := of_quiet_frame (quiet_raise c l s)
@[simp] theorem raise_pending (c : Nat) (l : List Item) (s : State) : (raise c l s).pending = s.pending := of_quiet_pending (quiet_raise c l s)
@[simp] theorem raise_dx_sessions (c : Nat) (l : List Item) (s : State) : (raise c l s).dx.sessions = s.dx.sessions := of_quiet_dx_sessions (quiet_raise c l s)
@[simp] theorem raise_dx_owners (c : Nat) (l : List Item) (s : State) : (raise c l s).dx.owners = s.dx.owners := of_quiet_dx_owners (quiet_raise c l s)
@[simp] theorem raise_dx_xfers (c : Nat) (l : List Item) (s : State) : (raise c l s).dx.xfers = s.dx.xfers := of_quiet_dx_xfers (quiet_raise c l s)
@[simp] theorem raise_dx_snaps (c : Nat) (l : List Item) (s : State) : (raise c l s).dx.snaps = s.dx.snaps := of_quiet_dx_snaps (quiet_raise c l s)
@[simp] theorem raise_dx_pending (c : Nat) (l : List Item) (s : State) : (raise c l s).dx.pending = s.dx.pending := of_quiet_dx_pending (quiet_raise c l s)
@[simp] theorem raise_dx_inbox (c : Nat) (l : List Item) (s : State) : (raise c l s).dx.inbox = s.dx.inbox := of_quiet_dx_inbox (quiet_raise c l s)
@[simp] theorem raise_dx_fetched (c : Nat) (l : List Item) (s : State) : (raise c l s).dx.fetched = s.dx.fetched := of_quiet_dx_fetched (quiet_raise c l s)
@[simp] theorem raise_tm_dumpSeq (c : Nat) (l : List Item) (s : State) : (raise c l s).tm.dumpSeq = s.tm.dumpSeq := of_quiet_tm_dumpSeq (quiet_raise c l s)
@[simp] theorem raise_tm_latched (c : Nat) (l : List Item) (s : State) : (raise c l s).tm.latched = s.tm.latched := of_quiet_tm_latched (quiet_raise c l s)
@[simp] theorem raise_tm_buffers (c : Nat) (l : List Item) (s : State) : (raise c l s).tm.buffers = s.tm.buffers := of_quiet_tm_buffers (quiet_raise c l s)
@[simp] theorem raise_tm_written (c : Nat) (l : List Item) (s : State) : (raise c l s).tm.written = s.tm.written := of_quiet_tm_written (quiet_raise c l s)
@[simp] theorem raise_tm_ring (c : Nat) (l : List Item) (s : State) : (raise c l s).tm.ring = s.tm.ring := of_quiet_tm_ring (quiet_raise c l s)
@[simp] theorem raise_tm_matchCount (c : Nat) (l : List Item) (s : State) : (raise c l s).tm.matchCount = s.tm.matchCount := of_quiet_tm_matchCount (quiet_raise c l s)
@[simp] theorem raise_tm_tracking (c : Nat) (l : List Item) (s : State) : (raise c l s).tm.tracking = s.tm.tracking := of_quiet_tm_tracking (quiet_raise c l s)
@[simp] theorem raise_tm_staged (c : Nat) (l : List Item) (s : State) : (raise c l s).tm.staged = s.tm.staged := of_quiet_tm_staged (quiet_raise c l s)
@[simp] theorem raise_tm_captureSeq (c : Nat) (l : List Item) (s : State) : (raise c l s).tm.captureSeq = s.tm.captureSeq := of_quiet_tm_captureSeq (quiet_raise c l s)
@[simp] theorem raise_tm_captures (c : Nat) (l : List Item) (s : State) : (raise c l s).tm.captures = s.tm.captures := of_quiet_tm_captures (quiet_raise c l s)
@[simp] theorem raise_tm_captureLen (c : Nat) (l : List Item) (s : State) : (raise c l s).tm.captureLen = s.tm.captureLen := of_quiet_tm_captureLen (quiet_raise c l s)
@[simp] theorem raise_tm_full (c : Nat) (l : List Item) (s : State) : (raise c l s).tm.full = s.tm.full := of_quiet_tm_full (quiet_raise c l s)
@[simp] theorem raise_hl_power (c : Nat) (l : List Item) (s : State) : (raise c l s).hl.power = s.hl.power := of_quiet_hl_power (quiet_raise c l s)
@[simp] theorem raise_hl_offCause (c : Nat) (l : List Item) (s : State) : (raise c l s).hl.offCause = s.hl.offCause := of_quiet_hl_offCause (quiet_raise c l s)
@[simp] theorem raise_hl_restTick (c : Nat) (l : List Item) (s : State) : (raise c l s).hl.restTick = s.hl.restTick := of_quiet_hl_restTick (quiet_raise c l s)
@[simp] theorem raise_hl_entering (c : Nat) (l : List Item) (s : State) : (raise c l s).hl.entering = s.hl.entering := of_quiet_hl_entering (quiet_raise c l s)
@[simp] theorem raise_hl_wakeAfter (c : Nat) (l : List Item) (s : State) : (raise c l s).hl.wakeAfter = s.hl.wakeAfter := of_quiet_hl_wakeAfter (quiet_raise c l s)
@[simp] theorem raise_hl_wakeCause (c : Nat) (l : List Item) (s : State) : (raise c l s).hl.wakeCause = s.hl.wakeCause := of_quiet_hl_wakeCause (quiet_raise c l s)
@[simp] theorem raise_hl_wakeStart (c : Nat) (l : List Item) (s : State) : (raise c l s).hl.wakeStart = s.hl.wakeStart := of_quiet_hl_wakeStart (quiet_raise c l s)
@[simp] theorem raise_hl_wakes (c : Nat) (l : List Item) (s : State) : (raise c l s).hl.wakes = s.hl.wakes := of_quiet_hl_wakes (quiet_raise c l s)
@[simp] theorem raise_hl_gated (c : Nat) (l : List Item) (s : State) : (raise c l s).hl.gated = s.hl.gated := of_quiet_hl_gated (quiet_raise c l s)
@[simp] theorem raise_hl_readings (c : Nat) (l : List Item) (s : State) : (raise c l s).hl.readings = s.hl.readings := of_quiet_hl_readings (quiet_raise c l s)
@[simp] theorem raise_hl_throttle (c : Nat) (l : List Item) (s : State) : (raise c l s).hl.throttle = s.hl.throttle := of_quiet_hl_throttle (quiet_raise c l s)
@[simp] theorem raise_hl_rules (c : Nat) (l : List Item) (s : State) : (raise c l s).hl.rules = s.hl.rules := of_quiet_hl_rules (quiet_raise c l s)
@[simp] theorem raise_hl_di (c : Nat) (l : List Item) (s : State) : (raise c l s).hl.di = s.hl.di := of_quiet_hl_di (quiet_raise c l s)
@[simp] theorem raise_hl_faultCause (c : Nat) (l : List Item) (s : State) : (raise c l s).hl.faultCause = s.hl.faultCause := of_quiet_hl_faultCause (quiet_raise c l s)
@[simp] theorem raise_hl_attnCause (c : Nat) (l : List Item) (s : State) : (raise c l s).hl.attnCause = s.hl.attnCause := of_quiet_hl_attnCause (quiet_raise c l s)
@[simp] theorem raise_hl_tripped (c : Nat) (l : List Item) (s : State) : (raise c l s).hl.tripped = s.hl.tripped := of_quiet_hl_tripped (quiet_raise c l s)
@[simp] theorem raise_hl_neighbours (c : Nat) (l : List Item) (s : State) : (raise c l s).hl.neighbours = s.hl.neighbours := of_quiet_hl_neighbours (quiet_raise c l s)
@[simp] theorem raise_hl_hbCounter (c : Nat) (l : List Item) (s : State) : (raise c l s).hl.hbCounter = s.hl.hbCounter := of_quiet_hl_hbCounter (quiet_raise c l s)
@[simp] theorem raise_hl_certs (c : Nat) (l : List Item) (s : State) : (raise c l s).hl.certs = s.hl.certs := of_quiet_hl_certs (quiet_raise c l s)
@[simp] theorem raise_hl_fences (c : Nat) (l : List Item) (s : State) : (raise c l s).hl.fences = s.hl.fences := of_quiet_hl_fences (quiet_raise c l s)
@[simp] theorem raise_hl_mothRestarting (c : Nat) (l : List Item) (s : State) : (raise c l s).hl.mothRestarting = s.hl.mothRestarting := of_quiet_hl_mothRestarting (quiet_raise c l s)
@[simp] theorem raise_hl_ppsOutEnd (c : Nat) (l : List Item) (s : State) : (raise c l s).hl.ppsOutEnd = s.hl.ppsOutEnd := of_quiet_hl_ppsOutEnd (quiet_raise c l s)
@[simp] theorem raise_hl_testIr (c : Nat) (l : List Item) (s : State) : (raise c l s).hl.testIr = s.hl.testIr := of_quiet_hl_testIr (quiet_raise c l s)

@[simp] theorem raiseOnce_clk (c k : Nat) (l : List Item) (s : State) : (raiseOnce c k l s).clk = s.clk := of_quiet_clk (quiet_raiseOnce c k l s)
@[simp] theorem raiseOnce_tt (c k : Nat) (l : List Item) (s : State) : (raiseOnce c k l s).tt = s.tt := of_quiet_tt (quiet_raiseOnce c k l s)
@[simp] theorem raiseOnce_ft (c k : Nat) (l : List Item) (s : State) : (raiseOnce c k l s).ft = s.ft := of_quiet_ft (quiet_raiseOnce c k l s)
@[simp] theorem raiseOnce_links (c k : Nat) (l : List Item) (s : State) : (raiseOnce c k l s).links = s.links := of_quiet_links (quiet_raiseOnce c k l s)
@[simp] theorem raiseOnce_dp (c k : Nat) (l : List Item) (s : State) : (raiseOnce c k l s).dp = s.dp := of_quiet_dp (quiet_raiseOnce c k l s)
@[simp] theorem raiseOnce_cr (c k : Nat) (l : List Item) (s : State) : (raiseOnce c k l s).cr = s.cr := of_quiet_cr (quiet_raiseOnce c k l s)
@[simp] theorem raiseOnce_fm (c k : Nat) (l : List Item) (s : State) : (raiseOnce c k l s).fm = s.fm := of_quiet_fm (quiet_raiseOnce c k l s)
@[simp] theorem raiseOnce_tb (c k : Nat) (l : List Item) (s : State) : (raiseOnce c k l s).tb = s.tb := of_quiet_tb (quiet_raiseOnce c k l s)
@[simp] theorem raiseOnce_ot (c k : Nat) (l : List Item) (s : State) : (raiseOnce c k l s).ot = s.ot := of_quiet_ot (quiet_raiseOnce c k l s)
@[simp] theorem raiseOnce_op (c k : Nat) (l : List Item) (s : State) : (raiseOnce c k l s).op = s.op := of_quiet_op (quiet_raiseOnce c k l s)
@[simp] theorem raiseOnce_ch (c k : Nat) (l : List Item) (s : State) : (raiseOnce c k l s).ch = s.ch := of_quiet_ch (quiet_raiseOnce c k l s)
@[simp] theorem raiseOnce_rp (c k : Nat) (l : List Item) (s : State) : (raiseOnce c k l s).rp = s.rp := of_quiet_rp (quiet_raiseOnce c k l s)
@[simp] theorem raiseOnce_se (c k : Nat) (l : List Item) (s : State) : (raiseOnce c k l s).se = s.se := of_quiet_se (quiet_raiseOnce c k l s)
@[simp] theorem raiseOnce_bi (c k : Nat) (l : List Item) (s : State) : (raiseOnce c k l s).bi = s.bi := of_quiet_bi (quiet_raiseOnce c k l s)
@[simp] theorem raiseOnce_el (c k : Nat) (l : List Item) (s : State) : (raiseOnce c k l s).el = s.el := of_quiet_el (quiet_raiseOnce c k l s)
@[simp] theorem raiseOnce_frame (c k : Nat) (l : List Item) (s : State) : (raiseOnce c k l s).frame = s.frame := of_quiet_frame (quiet_raiseOnce c k l s)
@[simp] theorem raiseOnce_pending (c k : Nat) (l : List Item) (s : State) : (raiseOnce c k l s).pending = s.pending := of_quiet_pending (quiet_raiseOnce c k l s)
@[simp] theorem raiseOnce_dx_sessions (c k : Nat) (l : List Item) (s : State) : (raiseOnce c k l s).dx.sessions = s.dx.sessions := of_quiet_dx_sessions (quiet_raiseOnce c k l s)
@[simp] theorem raiseOnce_dx_owners (c k : Nat) (l : List Item) (s : State) : (raiseOnce c k l s).dx.owners = s.dx.owners := of_quiet_dx_owners (quiet_raiseOnce c k l s)
@[simp] theorem raiseOnce_dx_xfers (c k : Nat) (l : List Item) (s : State) : (raiseOnce c k l s).dx.xfers = s.dx.xfers := of_quiet_dx_xfers (quiet_raiseOnce c k l s)
@[simp] theorem raiseOnce_dx_snaps (c k : Nat) (l : List Item) (s : State) : (raiseOnce c k l s).dx.snaps = s.dx.snaps := of_quiet_dx_snaps (quiet_raiseOnce c k l s)
@[simp] theorem raiseOnce_dx_pending (c k : Nat) (l : List Item) (s : State) : (raiseOnce c k l s).dx.pending = s.dx.pending := of_quiet_dx_pending (quiet_raiseOnce c k l s)
@[simp] theorem raiseOnce_dx_inbox (c k : Nat) (l : List Item) (s : State) : (raiseOnce c k l s).dx.inbox = s.dx.inbox := of_quiet_dx_inbox (quiet_raiseOnce c k l s)
@[simp] theorem raiseOnce_dx_fetched (c k : Nat) (l : List Item) (s : State) : (raiseOnce c k l s).dx.fetched = s.dx.fetched := of_quiet_dx_fetched (quiet_raiseOnce c k l s)
@[simp] theorem raiseOnce_tm_dumpSeq (c k : Nat) (l : List Item) (s : State) : (raiseOnce c k l s).tm.dumpSeq = s.tm.dumpSeq := of_quiet_tm_dumpSeq (quiet_raiseOnce c k l s)
@[simp] theorem raiseOnce_tm_latched (c k : Nat) (l : List Item) (s : State) : (raiseOnce c k l s).tm.latched = s.tm.latched := of_quiet_tm_latched (quiet_raiseOnce c k l s)
@[simp] theorem raiseOnce_tm_buffers (c k : Nat) (l : List Item) (s : State) : (raiseOnce c k l s).tm.buffers = s.tm.buffers := of_quiet_tm_buffers (quiet_raiseOnce c k l s)
@[simp] theorem raiseOnce_tm_written (c k : Nat) (l : List Item) (s : State) : (raiseOnce c k l s).tm.written = s.tm.written := of_quiet_tm_written (quiet_raiseOnce c k l s)
@[simp] theorem raiseOnce_tm_ring (c k : Nat) (l : List Item) (s : State) : (raiseOnce c k l s).tm.ring = s.tm.ring := of_quiet_tm_ring (quiet_raiseOnce c k l s)
@[simp] theorem raiseOnce_tm_matchCount (c k : Nat) (l : List Item) (s : State) : (raiseOnce c k l s).tm.matchCount = s.tm.matchCount := of_quiet_tm_matchCount (quiet_raiseOnce c k l s)
@[simp] theorem raiseOnce_tm_tracking (c k : Nat) (l : List Item) (s : State) : (raiseOnce c k l s).tm.tracking = s.tm.tracking := of_quiet_tm_tracking (quiet_raiseOnce c k l s)
@[simp] theorem raiseOnce_tm_staged (c k : Nat) (l : List Item) (s : State) : (raiseOnce c k l s).tm.staged = s.tm.staged := of_quiet_tm_staged (quiet_raiseOnce c k l s)
@[simp] theorem raiseOnce_tm_captureSeq (c k : Nat) (l : List Item) (s : State) : (raiseOnce c k l s).tm.captureSeq = s.tm.captureSeq := of_quiet_tm_captureSeq (quiet_raiseOnce c k l s)
@[simp] theorem raiseOnce_tm_captures (c k : Nat) (l : List Item) (s : State) : (raiseOnce c k l s).tm.captures = s.tm.captures := of_quiet_tm_captures (quiet_raiseOnce c k l s)
@[simp] theorem raiseOnce_tm_captureLen (c k : Nat) (l : List Item) (s : State) : (raiseOnce c k l s).tm.captureLen = s.tm.captureLen := of_quiet_tm_captureLen (quiet_raiseOnce c k l s)
@[simp] theorem raiseOnce_tm_full (c k : Nat) (l : List Item) (s : State) : (raiseOnce c k l s).tm.full = s.tm.full := of_quiet_tm_full (quiet_raiseOnce c k l s)
@[simp] theorem raiseOnce_hl_power (c k : Nat) (l : List Item) (s : State) : (raiseOnce c k l s).hl.power = s.hl.power := of_quiet_hl_power (quiet_raiseOnce c k l s)
@[simp] theorem raiseOnce_hl_offCause (c k : Nat) (l : List Item) (s : State) : (raiseOnce c k l s).hl.offCause = s.hl.offCause := of_quiet_hl_offCause (quiet_raiseOnce c k l s)
@[simp] theorem raiseOnce_hl_restTick (c k : Nat) (l : List Item) (s : State) : (raiseOnce c k l s).hl.restTick = s.hl.restTick := of_quiet_hl_restTick (quiet_raiseOnce c k l s)
@[simp] theorem raiseOnce_hl_entering (c k : Nat) (l : List Item) (s : State) : (raiseOnce c k l s).hl.entering = s.hl.entering := of_quiet_hl_entering (quiet_raiseOnce c k l s)
@[simp] theorem raiseOnce_hl_wakeAfter (c k : Nat) (l : List Item) (s : State) : (raiseOnce c k l s).hl.wakeAfter = s.hl.wakeAfter := of_quiet_hl_wakeAfter (quiet_raiseOnce c k l s)
@[simp] theorem raiseOnce_hl_wakeCause (c k : Nat) (l : List Item) (s : State) : (raiseOnce c k l s).hl.wakeCause = s.hl.wakeCause := of_quiet_hl_wakeCause (quiet_raiseOnce c k l s)
@[simp] theorem raiseOnce_hl_wakeStart (c k : Nat) (l : List Item) (s : State) : (raiseOnce c k l s).hl.wakeStart = s.hl.wakeStart := of_quiet_hl_wakeStart (quiet_raiseOnce c k l s)
@[simp] theorem raiseOnce_hl_wakes (c k : Nat) (l : List Item) (s : State) : (raiseOnce c k l s).hl.wakes = s.hl.wakes := of_quiet_hl_wakes (quiet_raiseOnce c k l s)
@[simp] theorem raiseOnce_hl_gated (c k : Nat) (l : List Item) (s : State) : (raiseOnce c k l s).hl.gated = s.hl.gated := of_quiet_hl_gated (quiet_raiseOnce c k l s)
@[simp] theorem raiseOnce_hl_readings (c k : Nat) (l : List Item) (s : State) : (raiseOnce c k l s).hl.readings = s.hl.readings := of_quiet_hl_readings (quiet_raiseOnce c k l s)
@[simp] theorem raiseOnce_hl_throttle (c k : Nat) (l : List Item) (s : State) : (raiseOnce c k l s).hl.throttle = s.hl.throttle := of_quiet_hl_throttle (quiet_raiseOnce c k l s)
@[simp] theorem raiseOnce_hl_rules (c k : Nat) (l : List Item) (s : State) : (raiseOnce c k l s).hl.rules = s.hl.rules := of_quiet_hl_rules (quiet_raiseOnce c k l s)
@[simp] theorem raiseOnce_hl_di (c k : Nat) (l : List Item) (s : State) : (raiseOnce c k l s).hl.di = s.hl.di := of_quiet_hl_di (quiet_raiseOnce c k l s)
@[simp] theorem raiseOnce_hl_faultCause (c k : Nat) (l : List Item) (s : State) : (raiseOnce c k l s).hl.faultCause = s.hl.faultCause := of_quiet_hl_faultCause (quiet_raiseOnce c k l s)
@[simp] theorem raiseOnce_hl_attnCause (c k : Nat) (l : List Item) (s : State) : (raiseOnce c k l s).hl.attnCause = s.hl.attnCause := of_quiet_hl_attnCause (quiet_raiseOnce c k l s)
@[simp] theorem raiseOnce_hl_tripped (c k : Nat) (l : List Item) (s : State) : (raiseOnce c k l s).hl.tripped = s.hl.tripped := of_quiet_hl_tripped (quiet_raiseOnce c k l s)
@[simp] theorem raiseOnce_hl_neighbours (c k : Nat) (l : List Item) (s : State) : (raiseOnce c k l s).hl.neighbours = s.hl.neighbours := of_quiet_hl_neighbours (quiet_raiseOnce c k l s)
@[simp] theorem raiseOnce_hl_hbCounter (c k : Nat) (l : List Item) (s : State) : (raiseOnce c k l s).hl.hbCounter = s.hl.hbCounter := of_quiet_hl_hbCounter (quiet_raiseOnce c k l s)
@[simp] theorem raiseOnce_hl_certs (c k : Nat) (l : List Item) (s : State) : (raiseOnce c k l s).hl.certs = s.hl.certs := of_quiet_hl_certs (quiet_raiseOnce c k l s)
@[simp] theorem raiseOnce_hl_fences (c k : Nat) (l : List Item) (s : State) : (raiseOnce c k l s).hl.fences = s.hl.fences := of_quiet_hl_fences (quiet_raiseOnce c k l s)
@[simp] theorem raiseOnce_hl_mothRestarting (c k : Nat) (l : List Item) (s : State) : (raiseOnce c k l s).hl.mothRestarting = s.hl.mothRestarting := of_quiet_hl_mothRestarting (quiet_raiseOnce c k l s)
@[simp] theorem raiseOnce_hl_ppsOutEnd (c k : Nat) (l : List Item) (s : State) : (raiseOnce c k l s).hl.ppsOutEnd = s.hl.ppsOutEnd := of_quiet_hl_ppsOutEnd (quiet_raiseOnce c k l s)
@[simp] theorem raiseOnce_hl_testIr (c k : Nat) (l : List Item) (s : State) : (raiseOnce c k l s).hl.testIr = s.hl.testIr := of_quiet_hl_testIr (quiet_raiseOnce c k l s)

@[simp] theorem accum_clk (c k : Nat) (l : List Item) (n : List Nat) (m : Option Nat) (s : State) : (accum c k l n m s).clk = s.clk := of_quiet_clk (quiet_accum c k l n m s)
@[simp] theorem accum_tt (c k : Nat) (l : List Item) (n : List Nat) (m : Option Nat) (s : State) : (accum c k l n m s).tt = s.tt := of_quiet_tt (quiet_accum c k l n m s)
@[simp] theorem accum_ft (c k : Nat) (l : List Item) (n : List Nat) (m : Option Nat) (s : State) : (accum c k l n m s).ft = s.ft := of_quiet_ft (quiet_accum c k l n m s)
@[simp] theorem accum_links (c k : Nat) (l : List Item) (n : List Nat) (m : Option Nat) (s : State) : (accum c k l n m s).links = s.links := of_quiet_links (quiet_accum c k l n m s)
@[simp] theorem accum_dp (c k : Nat) (l : List Item) (n : List Nat) (m : Option Nat) (s : State) : (accum c k l n m s).dp = s.dp := of_quiet_dp (quiet_accum c k l n m s)
@[simp] theorem accum_cr (c k : Nat) (l : List Item) (n : List Nat) (m : Option Nat) (s : State) : (accum c k l n m s).cr = s.cr := of_quiet_cr (quiet_accum c k l n m s)
@[simp] theorem accum_fm (c k : Nat) (l : List Item) (n : List Nat) (m : Option Nat) (s : State) : (accum c k l n m s).fm = s.fm := of_quiet_fm (quiet_accum c k l n m s)
@[simp] theorem accum_tb (c k : Nat) (l : List Item) (n : List Nat) (m : Option Nat) (s : State) : (accum c k l n m s).tb = s.tb := of_quiet_tb (quiet_accum c k l n m s)
@[simp] theorem accum_ot (c k : Nat) (l : List Item) (n : List Nat) (m : Option Nat) (s : State) : (accum c k l n m s).ot = s.ot := of_quiet_ot (quiet_accum c k l n m s)
@[simp] theorem accum_op (c k : Nat) (l : List Item) (n : List Nat) (m : Option Nat) (s : State) : (accum c k l n m s).op = s.op := of_quiet_op (quiet_accum c k l n m s)
@[simp] theorem accum_ch (c k : Nat) (l : List Item) (n : List Nat) (m : Option Nat) (s : State) : (accum c k l n m s).ch = s.ch := of_quiet_ch (quiet_accum c k l n m s)
@[simp] theorem accum_rp (c k : Nat) (l : List Item) (n : List Nat) (m : Option Nat) (s : State) : (accum c k l n m s).rp = s.rp := of_quiet_rp (quiet_accum c k l n m s)
@[simp] theorem accum_se (c k : Nat) (l : List Item) (n : List Nat) (m : Option Nat) (s : State) : (accum c k l n m s).se = s.se := of_quiet_se (quiet_accum c k l n m s)
@[simp] theorem accum_bi (c k : Nat) (l : List Item) (n : List Nat) (m : Option Nat) (s : State) : (accum c k l n m s).bi = s.bi := of_quiet_bi (quiet_accum c k l n m s)
@[simp] theorem accum_el (c k : Nat) (l : List Item) (n : List Nat) (m : Option Nat) (s : State) : (accum c k l n m s).el = s.el := of_quiet_el (quiet_accum c k l n m s)
@[simp] theorem accum_frame (c k : Nat) (l : List Item) (n : List Nat) (m : Option Nat) (s : State) : (accum c k l n m s).frame = s.frame := of_quiet_frame (quiet_accum c k l n m s)
@[simp] theorem accum_pending (c k : Nat) (l : List Item) (n : List Nat) (m : Option Nat) (s : State) : (accum c k l n m s).pending = s.pending := of_quiet_pending (quiet_accum c k l n m s)
@[simp] theorem accum_dx_sessions (c k : Nat) (l : List Item) (n : List Nat) (m : Option Nat) (s : State) : (accum c k l n m s).dx.sessions = s.dx.sessions := of_quiet_dx_sessions (quiet_accum c k l n m s)
@[simp] theorem accum_dx_owners (c k : Nat) (l : List Item) (n : List Nat) (m : Option Nat) (s : State) : (accum c k l n m s).dx.owners = s.dx.owners := of_quiet_dx_owners (quiet_accum c k l n m s)
@[simp] theorem accum_dx_xfers (c k : Nat) (l : List Item) (n : List Nat) (m : Option Nat) (s : State) : (accum c k l n m s).dx.xfers = s.dx.xfers := of_quiet_dx_xfers (quiet_accum c k l n m s)
@[simp] theorem accum_dx_snaps (c k : Nat) (l : List Item) (n : List Nat) (m : Option Nat) (s : State) : (accum c k l n m s).dx.snaps = s.dx.snaps := of_quiet_dx_snaps (quiet_accum c k l n m s)
@[simp] theorem accum_dx_pending (c k : Nat) (l : List Item) (n : List Nat) (m : Option Nat) (s : State) : (accum c k l n m s).dx.pending = s.dx.pending := of_quiet_dx_pending (quiet_accum c k l n m s)
@[simp] theorem accum_dx_inbox (c k : Nat) (l : List Item) (n : List Nat) (m : Option Nat) (s : State) : (accum c k l n m s).dx.inbox = s.dx.inbox := of_quiet_dx_inbox (quiet_accum c k l n m s)
@[simp] theorem accum_dx_fetched (c k : Nat) (l : List Item) (n : List Nat) (m : Option Nat) (s : State) : (accum c k l n m s).dx.fetched = s.dx.fetched := of_quiet_dx_fetched (quiet_accum c k l n m s)
@[simp] theorem accum_tm_dumpSeq (c k : Nat) (l : List Item) (n : List Nat) (m : Option Nat) (s : State) : (accum c k l n m s).tm.dumpSeq = s.tm.dumpSeq := of_quiet_tm_dumpSeq (quiet_accum c k l n m s)
@[simp] theorem accum_tm_latched (c k : Nat) (l : List Item) (n : List Nat) (m : Option Nat) (s : State) : (accum c k l n m s).tm.latched = s.tm.latched := of_quiet_tm_latched (quiet_accum c k l n m s)
@[simp] theorem accum_tm_buffers (c k : Nat) (l : List Item) (n : List Nat) (m : Option Nat) (s : State) : (accum c k l n m s).tm.buffers = s.tm.buffers := of_quiet_tm_buffers (quiet_accum c k l n m s)
@[simp] theorem accum_tm_written (c k : Nat) (l : List Item) (n : List Nat) (m : Option Nat) (s : State) : (accum c k l n m s).tm.written = s.tm.written := of_quiet_tm_written (quiet_accum c k l n m s)
@[simp] theorem accum_tm_ring (c k : Nat) (l : List Item) (n : List Nat) (m : Option Nat) (s : State) : (accum c k l n m s).tm.ring = s.tm.ring := of_quiet_tm_ring (quiet_accum c k l n m s)
@[simp] theorem accum_tm_matchCount (c k : Nat) (l : List Item) (n : List Nat) (m : Option Nat) (s : State) : (accum c k l n m s).tm.matchCount = s.tm.matchCount := of_quiet_tm_matchCount (quiet_accum c k l n m s)
@[simp] theorem accum_tm_tracking (c k : Nat) (l : List Item) (n : List Nat) (m : Option Nat) (s : State) : (accum c k l n m s).tm.tracking = s.tm.tracking := of_quiet_tm_tracking (quiet_accum c k l n m s)
@[simp] theorem accum_tm_staged (c k : Nat) (l : List Item) (n : List Nat) (m : Option Nat) (s : State) : (accum c k l n m s).tm.staged = s.tm.staged := of_quiet_tm_staged (quiet_accum c k l n m s)
@[simp] theorem accum_tm_captureSeq (c k : Nat) (l : List Item) (n : List Nat) (m : Option Nat) (s : State) : (accum c k l n m s).tm.captureSeq = s.tm.captureSeq := of_quiet_tm_captureSeq (quiet_accum c k l n m s)
@[simp] theorem accum_tm_captures (c k : Nat) (l : List Item) (n : List Nat) (m : Option Nat) (s : State) : (accum c k l n m s).tm.captures = s.tm.captures := of_quiet_tm_captures (quiet_accum c k l n m s)
@[simp] theorem accum_tm_captureLen (c k : Nat) (l : List Item) (n : List Nat) (m : Option Nat) (s : State) : (accum c k l n m s).tm.captureLen = s.tm.captureLen := of_quiet_tm_captureLen (quiet_accum c k l n m s)
@[simp] theorem accum_tm_full (c k : Nat) (l : List Item) (n : List Nat) (m : Option Nat) (s : State) : (accum c k l n m s).tm.full = s.tm.full := of_quiet_tm_full (quiet_accum c k l n m s)
@[simp] theorem accum_hl_power (c k : Nat) (l : List Item) (n : List Nat) (m : Option Nat) (s : State) : (accum c k l n m s).hl.power = s.hl.power := of_quiet_hl_power (quiet_accum c k l n m s)
@[simp] theorem accum_hl_offCause (c k : Nat) (l : List Item) (n : List Nat) (m : Option Nat) (s : State) : (accum c k l n m s).hl.offCause = s.hl.offCause := of_quiet_hl_offCause (quiet_accum c k l n m s)
@[simp] theorem accum_hl_restTick (c k : Nat) (l : List Item) (n : List Nat) (m : Option Nat) (s : State) : (accum c k l n m s).hl.restTick = s.hl.restTick := of_quiet_hl_restTick (quiet_accum c k l n m s)
@[simp] theorem accum_hl_entering (c k : Nat) (l : List Item) (n : List Nat) (m : Option Nat) (s : State) : (accum c k l n m s).hl.entering = s.hl.entering := of_quiet_hl_entering (quiet_accum c k l n m s)
@[simp] theorem accum_hl_wakeAfter (c k : Nat) (l : List Item) (n : List Nat) (m : Option Nat) (s : State) : (accum c k l n m s).hl.wakeAfter = s.hl.wakeAfter := of_quiet_hl_wakeAfter (quiet_accum c k l n m s)
@[simp] theorem accum_hl_wakeCause (c k : Nat) (l : List Item) (n : List Nat) (m : Option Nat) (s : State) : (accum c k l n m s).hl.wakeCause = s.hl.wakeCause := of_quiet_hl_wakeCause (quiet_accum c k l n m s)
@[simp] theorem accum_hl_wakeStart (c k : Nat) (l : List Item) (n : List Nat) (m : Option Nat) (s : State) : (accum c k l n m s).hl.wakeStart = s.hl.wakeStart := of_quiet_hl_wakeStart (quiet_accum c k l n m s)
@[simp] theorem accum_hl_wakes (c k : Nat) (l : List Item) (n : List Nat) (m : Option Nat) (s : State) : (accum c k l n m s).hl.wakes = s.hl.wakes := of_quiet_hl_wakes (quiet_accum c k l n m s)
@[simp] theorem accum_hl_gated (c k : Nat) (l : List Item) (n : List Nat) (m : Option Nat) (s : State) : (accum c k l n m s).hl.gated = s.hl.gated := of_quiet_hl_gated (quiet_accum c k l n m s)
@[simp] theorem accum_hl_readings (c k : Nat) (l : List Item) (n : List Nat) (m : Option Nat) (s : State) : (accum c k l n m s).hl.readings = s.hl.readings := of_quiet_hl_readings (quiet_accum c k l n m s)
@[simp] theorem accum_hl_throttle (c k : Nat) (l : List Item) (n : List Nat) (m : Option Nat) (s : State) : (accum c k l n m s).hl.throttle = s.hl.throttle := of_quiet_hl_throttle (quiet_accum c k l n m s)
@[simp] theorem accum_hl_rules (c k : Nat) (l : List Item) (n : List Nat) (m : Option Nat) (s : State) : (accum c k l n m s).hl.rules = s.hl.rules := of_quiet_hl_rules (quiet_accum c k l n m s)
@[simp] theorem accum_hl_di (c k : Nat) (l : List Item) (n : List Nat) (m : Option Nat) (s : State) : (accum c k l n m s).hl.di = s.hl.di := of_quiet_hl_di (quiet_accum c k l n m s)
@[simp] theorem accum_hl_faultCause (c k : Nat) (l : List Item) (n : List Nat) (m : Option Nat) (s : State) : (accum c k l n m s).hl.faultCause = s.hl.faultCause := of_quiet_hl_faultCause (quiet_accum c k l n m s)
@[simp] theorem accum_hl_attnCause (c k : Nat) (l : List Item) (n : List Nat) (m : Option Nat) (s : State) : (accum c k l n m s).hl.attnCause = s.hl.attnCause := of_quiet_hl_attnCause (quiet_accum c k l n m s)
@[simp] theorem accum_hl_tripped (c k : Nat) (l : List Item) (n : List Nat) (m : Option Nat) (s : State) : (accum c k l n m s).hl.tripped = s.hl.tripped := of_quiet_hl_tripped (quiet_accum c k l n m s)
@[simp] theorem accum_hl_neighbours (c k : Nat) (l : List Item) (n : List Nat) (m : Option Nat) (s : State) : (accum c k l n m s).hl.neighbours = s.hl.neighbours := of_quiet_hl_neighbours (quiet_accum c k l n m s)
@[simp] theorem accum_hl_hbCounter (c k : Nat) (l : List Item) (n : List Nat) (m : Option Nat) (s : State) : (accum c k l n m s).hl.hbCounter = s.hl.hbCounter := of_quiet_hl_hbCounter (quiet_accum c k l n m s)
@[simp] theorem accum_hl_certs (c k : Nat) (l : List Item) (n : List Nat) (m : Option Nat) (s : State) : (accum c k l n m s).hl.certs = s.hl.certs := of_quiet_hl_certs (quiet_accum c k l n m s)
@[simp] theorem accum_hl_fences (c k : Nat) (l : List Item) (n : List Nat) (m : Option Nat) (s : State) : (accum c k l n m s).hl.fences = s.hl.fences := of_quiet_hl_fences (quiet_accum c k l n m s)
@[simp] theorem accum_hl_mothRestarting (c k : Nat) (l : List Item) (n : List Nat) (m : Option Nat) (s : State) : (accum c k l n m s).hl.mothRestarting = s.hl.mothRestarting := of_quiet_hl_mothRestarting (quiet_accum c k l n m s)
@[simp] theorem accum_hl_ppsOutEnd (c k : Nat) (l : List Item) (n : List Nat) (m : Option Nat) (s : State) : (accum c k l n m s).hl.ppsOutEnd = s.hl.ppsOutEnd := of_quiet_hl_ppsOutEnd (quiet_accum c k l n m s)
@[simp] theorem accum_hl_testIr (c k : Nat) (l : List Item) (n : List Nat) (m : Option Nat) (s : State) : (accum c k l n m s).hl.testIr = s.hl.testIr := of_quiet_hl_testIr (quiet_accum c k l n m s)

@[simp] theorem occ_clk (b e n : Nat) (a : OccAttr) (s : State) : (occ b e n a s).clk = s.clk := of_quiet_clk (quiet_occ b e n a s)
@[simp] theorem occ_tt (b e n : Nat) (a : OccAttr) (s : State) : (occ b e n a s).tt = s.tt := of_quiet_tt (quiet_occ b e n a s)
@[simp] theorem occ_ft (b e n : Nat) (a : OccAttr) (s : State) : (occ b e n a s).ft = s.ft := of_quiet_ft (quiet_occ b e n a s)
@[simp] theorem occ_links (b e n : Nat) (a : OccAttr) (s : State) : (occ b e n a s).links = s.links := of_quiet_links (quiet_occ b e n a s)
@[simp] theorem occ_dp (b e n : Nat) (a : OccAttr) (s : State) : (occ b e n a s).dp = s.dp := of_quiet_dp (quiet_occ b e n a s)
@[simp] theorem occ_cr (b e n : Nat) (a : OccAttr) (s : State) : (occ b e n a s).cr = s.cr := of_quiet_cr (quiet_occ b e n a s)
@[simp] theorem occ_fm (b e n : Nat) (a : OccAttr) (s : State) : (occ b e n a s).fm = s.fm := of_quiet_fm (quiet_occ b e n a s)
@[simp] theorem occ_tb (b e n : Nat) (a : OccAttr) (s : State) : (occ b e n a s).tb = s.tb := of_quiet_tb (quiet_occ b e n a s)
@[simp] theorem occ_ot (b e n : Nat) (a : OccAttr) (s : State) : (occ b e n a s).ot = s.ot := of_quiet_ot (quiet_occ b e n a s)
@[simp] theorem occ_op (b e n : Nat) (a : OccAttr) (s : State) : (occ b e n a s).op = s.op := of_quiet_op (quiet_occ b e n a s)
@[simp] theorem occ_ch (b e n : Nat) (a : OccAttr) (s : State) : (occ b e n a s).ch = s.ch := of_quiet_ch (quiet_occ b e n a s)
@[simp] theorem occ_rp (b e n : Nat) (a : OccAttr) (s : State) : (occ b e n a s).rp = s.rp := of_quiet_rp (quiet_occ b e n a s)
@[simp] theorem occ_se (b e n : Nat) (a : OccAttr) (s : State) : (occ b e n a s).se = s.se := of_quiet_se (quiet_occ b e n a s)
@[simp] theorem occ_bi (b e n : Nat) (a : OccAttr) (s : State) : (occ b e n a s).bi = s.bi := of_quiet_bi (quiet_occ b e n a s)
@[simp] theorem occ_el (b e n : Nat) (a : OccAttr) (s : State) : (occ b e n a s).el = s.el := of_quiet_el (quiet_occ b e n a s)
@[simp] theorem occ_frame (b e n : Nat) (a : OccAttr) (s : State) : (occ b e n a s).frame = s.frame := of_quiet_frame (quiet_occ b e n a s)
@[simp] theorem occ_pending (b e n : Nat) (a : OccAttr) (s : State) : (occ b e n a s).pending = s.pending := of_quiet_pending (quiet_occ b e n a s)
@[simp] theorem occ_dx_sessions (b e n : Nat) (a : OccAttr) (s : State) : (occ b e n a s).dx.sessions = s.dx.sessions := of_quiet_dx_sessions (quiet_occ b e n a s)
@[simp] theorem occ_dx_owners (b e n : Nat) (a : OccAttr) (s : State) : (occ b e n a s).dx.owners = s.dx.owners := of_quiet_dx_owners (quiet_occ b e n a s)
@[simp] theorem occ_dx_xfers (b e n : Nat) (a : OccAttr) (s : State) : (occ b e n a s).dx.xfers = s.dx.xfers := of_quiet_dx_xfers (quiet_occ b e n a s)
@[simp] theorem occ_dx_snaps (b e n : Nat) (a : OccAttr) (s : State) : (occ b e n a s).dx.snaps = s.dx.snaps := of_quiet_dx_snaps (quiet_occ b e n a s)
@[simp] theorem occ_dx_pending (b e n : Nat) (a : OccAttr) (s : State) : (occ b e n a s).dx.pending = s.dx.pending := of_quiet_dx_pending (quiet_occ b e n a s)
@[simp] theorem occ_dx_inbox (b e n : Nat) (a : OccAttr) (s : State) : (occ b e n a s).dx.inbox = s.dx.inbox := of_quiet_dx_inbox (quiet_occ b e n a s)
@[simp] theorem occ_dx_fetched (b e n : Nat) (a : OccAttr) (s : State) : (occ b e n a s).dx.fetched = s.dx.fetched := of_quiet_dx_fetched (quiet_occ b e n a s)
@[simp] theorem occ_tm_dumpSeq (b e n : Nat) (a : OccAttr) (s : State) : (occ b e n a s).tm.dumpSeq = s.tm.dumpSeq := of_quiet_tm_dumpSeq (quiet_occ b e n a s)
@[simp] theorem occ_tm_latched (b e n : Nat) (a : OccAttr) (s : State) : (occ b e n a s).tm.latched = s.tm.latched := of_quiet_tm_latched (quiet_occ b e n a s)
@[simp] theorem occ_tm_buffers (b e n : Nat) (a : OccAttr) (s : State) : (occ b e n a s).tm.buffers = s.tm.buffers := of_quiet_tm_buffers (quiet_occ b e n a s)
@[simp] theorem occ_tm_written (b e n : Nat) (a : OccAttr) (s : State) : (occ b e n a s).tm.written = s.tm.written := of_quiet_tm_written (quiet_occ b e n a s)
@[simp] theorem occ_tm_ring (b e n : Nat) (a : OccAttr) (s : State) : (occ b e n a s).tm.ring = s.tm.ring := of_quiet_tm_ring (quiet_occ b e n a s)
@[simp] theorem occ_tm_matchCount (b e n : Nat) (a : OccAttr) (s : State) : (occ b e n a s).tm.matchCount = s.tm.matchCount := of_quiet_tm_matchCount (quiet_occ b e n a s)
@[simp] theorem occ_tm_tracking (b e n : Nat) (a : OccAttr) (s : State) : (occ b e n a s).tm.tracking = s.tm.tracking := of_quiet_tm_tracking (quiet_occ b e n a s)
@[simp] theorem occ_tm_staged (b e n : Nat) (a : OccAttr) (s : State) : (occ b e n a s).tm.staged = s.tm.staged := of_quiet_tm_staged (quiet_occ b e n a s)
@[simp] theorem occ_tm_captureSeq (b e n : Nat) (a : OccAttr) (s : State) : (occ b e n a s).tm.captureSeq = s.tm.captureSeq := of_quiet_tm_captureSeq (quiet_occ b e n a s)
@[simp] theorem occ_tm_captures (b e n : Nat) (a : OccAttr) (s : State) : (occ b e n a s).tm.captures = s.tm.captures := of_quiet_tm_captures (quiet_occ b e n a s)
@[simp] theorem occ_tm_captureLen (b e n : Nat) (a : OccAttr) (s : State) : (occ b e n a s).tm.captureLen = s.tm.captureLen := of_quiet_tm_captureLen (quiet_occ b e n a s)
@[simp] theorem occ_tm_full (b e n : Nat) (a : OccAttr) (s : State) : (occ b e n a s).tm.full = s.tm.full := of_quiet_tm_full (quiet_occ b e n a s)
@[simp] theorem occ_hl_power (b e n : Nat) (a : OccAttr) (s : State) : (occ b e n a s).hl.power = s.hl.power := of_quiet_hl_power (quiet_occ b e n a s)
@[simp] theorem occ_hl_offCause (b e n : Nat) (a : OccAttr) (s : State) : (occ b e n a s).hl.offCause = s.hl.offCause := of_quiet_hl_offCause (quiet_occ b e n a s)
@[simp] theorem occ_hl_restTick (b e n : Nat) (a : OccAttr) (s : State) : (occ b e n a s).hl.restTick = s.hl.restTick := of_quiet_hl_restTick (quiet_occ b e n a s)
@[simp] theorem occ_hl_entering (b e n : Nat) (a : OccAttr) (s : State) : (occ b e n a s).hl.entering = s.hl.entering := of_quiet_hl_entering (quiet_occ b e n a s)
@[simp] theorem occ_hl_wakeAfter (b e n : Nat) (a : OccAttr) (s : State) : (occ b e n a s).hl.wakeAfter = s.hl.wakeAfter := of_quiet_hl_wakeAfter (quiet_occ b e n a s)
@[simp] theorem occ_hl_wakeCause (b e n : Nat) (a : OccAttr) (s : State) : (occ b e n a s).hl.wakeCause = s.hl.wakeCause := of_quiet_hl_wakeCause (quiet_occ b e n a s)
@[simp] theorem occ_hl_wakeStart (b e n : Nat) (a : OccAttr) (s : State) : (occ b e n a s).hl.wakeStart = s.hl.wakeStart := of_quiet_hl_wakeStart (quiet_occ b e n a s)
@[simp] theorem occ_hl_wakes (b e n : Nat) (a : OccAttr) (s : State) : (occ b e n a s).hl.wakes = s.hl.wakes := of_quiet_hl_wakes (quiet_occ b e n a s)
@[simp] theorem occ_hl_gated (b e n : Nat) (a : OccAttr) (s : State) : (occ b e n a s).hl.gated = s.hl.gated := of_quiet_hl_gated (quiet_occ b e n a s)
@[simp] theorem occ_hl_readings (b e n : Nat) (a : OccAttr) (s : State) : (occ b e n a s).hl.readings = s.hl.readings := of_quiet_hl_readings (quiet_occ b e n a s)
@[simp] theorem occ_hl_throttle (b e n : Nat) (a : OccAttr) (s : State) : (occ b e n a s).hl.throttle = s.hl.throttle := of_quiet_hl_throttle (quiet_occ b e n a s)
@[simp] theorem occ_hl_rules (b e n : Nat) (a : OccAttr) (s : State) : (occ b e n a s).hl.rules = s.hl.rules := of_quiet_hl_rules (quiet_occ b e n a s)
@[simp] theorem occ_hl_di (b e n : Nat) (a : OccAttr) (s : State) : (occ b e n a s).hl.di = s.hl.di := of_quiet_hl_di (quiet_occ b e n a s)
@[simp] theorem occ_hl_faultCause (b e n : Nat) (a : OccAttr) (s : State) : (occ b e n a s).hl.faultCause = s.hl.faultCause := of_quiet_hl_faultCause (quiet_occ b e n a s)
@[simp] theorem occ_hl_attnCause (b e n : Nat) (a : OccAttr) (s : State) : (occ b e n a s).hl.attnCause = s.hl.attnCause := of_quiet_hl_attnCause (quiet_occ b e n a s)
@[simp] theorem occ_hl_tripped (b e n : Nat) (a : OccAttr) (s : State) : (occ b e n a s).hl.tripped = s.hl.tripped := of_quiet_hl_tripped (quiet_occ b e n a s)
@[simp] theorem occ_hl_neighbours (b e n : Nat) (a : OccAttr) (s : State) : (occ b e n a s).hl.neighbours = s.hl.neighbours := of_quiet_hl_neighbours (quiet_occ b e n a s)
@[simp] theorem occ_hl_hbCounter (b e n : Nat) (a : OccAttr) (s : State) : (occ b e n a s).hl.hbCounter = s.hl.hbCounter := of_quiet_hl_hbCounter (quiet_occ b e n a s)
@[simp] theorem occ_hl_certs (b e n : Nat) (a : OccAttr) (s : State) : (occ b e n a s).hl.certs = s.hl.certs := of_quiet_hl_certs (quiet_occ b e n a s)
@[simp] theorem occ_hl_fences (b e n : Nat) (a : OccAttr) (s : State) : (occ b e n a s).hl.fences = s.hl.fences := of_quiet_hl_fences (quiet_occ b e n a s)
@[simp] theorem occ_hl_mothRestarting (b e n : Nat) (a : OccAttr) (s : State) : (occ b e n a s).hl.mothRestarting = s.hl.mothRestarting := of_quiet_hl_mothRestarting (quiet_occ b e n a s)
@[simp] theorem occ_hl_ppsOutEnd (b e n : Nat) (a : OccAttr) (s : State) : (occ b e n a s).hl.ppsOutEnd = s.hl.ppsOutEnd := of_quiet_hl_ppsOutEnd (quiet_occ b e n a s)
@[simp] theorem occ_hl_testIr (b e n : Nat) (a : OccAttr) (s : State) : (occ b e n a s).hl.testIr = s.hl.testIr := of_quiet_hl_testIr (quiet_occ b e n a s)

@[simp] theorem tally_clk (e b v n : Nat) (a : OccAttr) (s : State) : (tally e b v n a s).clk = s.clk := of_quiet_clk (quiet_tally e b v n a s)
@[simp] theorem tally_tt (e b v n : Nat) (a : OccAttr) (s : State) : (tally e b v n a s).tt = s.tt := of_quiet_tt (quiet_tally e b v n a s)
@[simp] theorem tally_ft (e b v n : Nat) (a : OccAttr) (s : State) : (tally e b v n a s).ft = s.ft := of_quiet_ft (quiet_tally e b v n a s)
@[simp] theorem tally_links (e b v n : Nat) (a : OccAttr) (s : State) : (tally e b v n a s).links = s.links := of_quiet_links (quiet_tally e b v n a s)
@[simp] theorem tally_dp (e b v n : Nat) (a : OccAttr) (s : State) : (tally e b v n a s).dp = s.dp := of_quiet_dp (quiet_tally e b v n a s)
@[simp] theorem tally_cr (e b v n : Nat) (a : OccAttr) (s : State) : (tally e b v n a s).cr = s.cr := of_quiet_cr (quiet_tally e b v n a s)
@[simp] theorem tally_fm (e b v n : Nat) (a : OccAttr) (s : State) : (tally e b v n a s).fm = s.fm := of_quiet_fm (quiet_tally e b v n a s)
@[simp] theorem tally_tb (e b v n : Nat) (a : OccAttr) (s : State) : (tally e b v n a s).tb = s.tb := of_quiet_tb (quiet_tally e b v n a s)
@[simp] theorem tally_ot (e b v n : Nat) (a : OccAttr) (s : State) : (tally e b v n a s).ot = s.ot := of_quiet_ot (quiet_tally e b v n a s)
@[simp] theorem tally_op (e b v n : Nat) (a : OccAttr) (s : State) : (tally e b v n a s).op = s.op := of_quiet_op (quiet_tally e b v n a s)
@[simp] theorem tally_ch (e b v n : Nat) (a : OccAttr) (s : State) : (tally e b v n a s).ch = s.ch := of_quiet_ch (quiet_tally e b v n a s)
@[simp] theorem tally_rp (e b v n : Nat) (a : OccAttr) (s : State) : (tally e b v n a s).rp = s.rp := of_quiet_rp (quiet_tally e b v n a s)
@[simp] theorem tally_se (e b v n : Nat) (a : OccAttr) (s : State) : (tally e b v n a s).se = s.se := of_quiet_se (quiet_tally e b v n a s)
@[simp] theorem tally_bi (e b v n : Nat) (a : OccAttr) (s : State) : (tally e b v n a s).bi = s.bi := of_quiet_bi (quiet_tally e b v n a s)
@[simp] theorem tally_el (e b v n : Nat) (a : OccAttr) (s : State) : (tally e b v n a s).el = s.el := of_quiet_el (quiet_tally e b v n a s)
@[simp] theorem tally_frame (e b v n : Nat) (a : OccAttr) (s : State) : (tally e b v n a s).frame = s.frame := of_quiet_frame (quiet_tally e b v n a s)
@[simp] theorem tally_pending (e b v n : Nat) (a : OccAttr) (s : State) : (tally e b v n a s).pending = s.pending := of_quiet_pending (quiet_tally e b v n a s)
@[simp] theorem tally_dx_sessions (e b v n : Nat) (a : OccAttr) (s : State) : (tally e b v n a s).dx.sessions = s.dx.sessions := of_quiet_dx_sessions (quiet_tally e b v n a s)
@[simp] theorem tally_dx_owners (e b v n : Nat) (a : OccAttr) (s : State) : (tally e b v n a s).dx.owners = s.dx.owners := of_quiet_dx_owners (quiet_tally e b v n a s)
@[simp] theorem tally_dx_xfers (e b v n : Nat) (a : OccAttr) (s : State) : (tally e b v n a s).dx.xfers = s.dx.xfers := of_quiet_dx_xfers (quiet_tally e b v n a s)
@[simp] theorem tally_dx_snaps (e b v n : Nat) (a : OccAttr) (s : State) : (tally e b v n a s).dx.snaps = s.dx.snaps := of_quiet_dx_snaps (quiet_tally e b v n a s)
@[simp] theorem tally_dx_pending (e b v n : Nat) (a : OccAttr) (s : State) : (tally e b v n a s).dx.pending = s.dx.pending := of_quiet_dx_pending (quiet_tally e b v n a s)
@[simp] theorem tally_dx_inbox (e b v n : Nat) (a : OccAttr) (s : State) : (tally e b v n a s).dx.inbox = s.dx.inbox := of_quiet_dx_inbox (quiet_tally e b v n a s)
@[simp] theorem tally_dx_fetched (e b v n : Nat) (a : OccAttr) (s : State) : (tally e b v n a s).dx.fetched = s.dx.fetched := of_quiet_dx_fetched (quiet_tally e b v n a s)
@[simp] theorem tally_tm_dumpSeq (e b v n : Nat) (a : OccAttr) (s : State) : (tally e b v n a s).tm.dumpSeq = s.tm.dumpSeq := of_quiet_tm_dumpSeq (quiet_tally e b v n a s)
@[simp] theorem tally_tm_latched (e b v n : Nat) (a : OccAttr) (s : State) : (tally e b v n a s).tm.latched = s.tm.latched := of_quiet_tm_latched (quiet_tally e b v n a s)
@[simp] theorem tally_tm_buffers (e b v n : Nat) (a : OccAttr) (s : State) : (tally e b v n a s).tm.buffers = s.tm.buffers := of_quiet_tm_buffers (quiet_tally e b v n a s)
@[simp] theorem tally_tm_written (e b v n : Nat) (a : OccAttr) (s : State) : (tally e b v n a s).tm.written = s.tm.written := of_quiet_tm_written (quiet_tally e b v n a s)
@[simp] theorem tally_tm_ring (e b v n : Nat) (a : OccAttr) (s : State) : (tally e b v n a s).tm.ring = s.tm.ring := of_quiet_tm_ring (quiet_tally e b v n a s)
@[simp] theorem tally_tm_matchCount (e b v n : Nat) (a : OccAttr) (s : State) : (tally e b v n a s).tm.matchCount = s.tm.matchCount := of_quiet_tm_matchCount (quiet_tally e b v n a s)
@[simp] theorem tally_tm_tracking (e b v n : Nat) (a : OccAttr) (s : State) : (tally e b v n a s).tm.tracking = s.tm.tracking := of_quiet_tm_tracking (quiet_tally e b v n a s)
@[simp] theorem tally_tm_staged (e b v n : Nat) (a : OccAttr) (s : State) : (tally e b v n a s).tm.staged = s.tm.staged := of_quiet_tm_staged (quiet_tally e b v n a s)
@[simp] theorem tally_tm_captureSeq (e b v n : Nat) (a : OccAttr) (s : State) : (tally e b v n a s).tm.captureSeq = s.tm.captureSeq := of_quiet_tm_captureSeq (quiet_tally e b v n a s)
@[simp] theorem tally_tm_captures (e b v n : Nat) (a : OccAttr) (s : State) : (tally e b v n a s).tm.captures = s.tm.captures := of_quiet_tm_captures (quiet_tally e b v n a s)
@[simp] theorem tally_tm_captureLen (e b v n : Nat) (a : OccAttr) (s : State) : (tally e b v n a s).tm.captureLen = s.tm.captureLen := of_quiet_tm_captureLen (quiet_tally e b v n a s)
@[simp] theorem tally_tm_full (e b v n : Nat) (a : OccAttr) (s : State) : (tally e b v n a s).tm.full = s.tm.full := of_quiet_tm_full (quiet_tally e b v n a s)
@[simp] theorem tally_hl_power (e b v n : Nat) (a : OccAttr) (s : State) : (tally e b v n a s).hl.power = s.hl.power := of_quiet_hl_power (quiet_tally e b v n a s)
@[simp] theorem tally_hl_offCause (e b v n : Nat) (a : OccAttr) (s : State) : (tally e b v n a s).hl.offCause = s.hl.offCause := of_quiet_hl_offCause (quiet_tally e b v n a s)
@[simp] theorem tally_hl_restTick (e b v n : Nat) (a : OccAttr) (s : State) : (tally e b v n a s).hl.restTick = s.hl.restTick := of_quiet_hl_restTick (quiet_tally e b v n a s)
@[simp] theorem tally_hl_entering (e b v n : Nat) (a : OccAttr) (s : State) : (tally e b v n a s).hl.entering = s.hl.entering := of_quiet_hl_entering (quiet_tally e b v n a s)
@[simp] theorem tally_hl_wakeAfter (e b v n : Nat) (a : OccAttr) (s : State) : (tally e b v n a s).hl.wakeAfter = s.hl.wakeAfter := of_quiet_hl_wakeAfter (quiet_tally e b v n a s)
@[simp] theorem tally_hl_wakeCause (e b v n : Nat) (a : OccAttr) (s : State) : (tally e b v n a s).hl.wakeCause = s.hl.wakeCause := of_quiet_hl_wakeCause (quiet_tally e b v n a s)
@[simp] theorem tally_hl_wakeStart (e b v n : Nat) (a : OccAttr) (s : State) : (tally e b v n a s).hl.wakeStart = s.hl.wakeStart := of_quiet_hl_wakeStart (quiet_tally e b v n a s)
@[simp] theorem tally_hl_wakes (e b v n : Nat) (a : OccAttr) (s : State) : (tally e b v n a s).hl.wakes = s.hl.wakes := of_quiet_hl_wakes (quiet_tally e b v n a s)
@[simp] theorem tally_hl_gated (e b v n : Nat) (a : OccAttr) (s : State) : (tally e b v n a s).hl.gated = s.hl.gated := of_quiet_hl_gated (quiet_tally e b v n a s)
@[simp] theorem tally_hl_readings (e b v n : Nat) (a : OccAttr) (s : State) : (tally e b v n a s).hl.readings = s.hl.readings := of_quiet_hl_readings (quiet_tally e b v n a s)
@[simp] theorem tally_hl_throttle (e b v n : Nat) (a : OccAttr) (s : State) : (tally e b v n a s).hl.throttle = s.hl.throttle := of_quiet_hl_throttle (quiet_tally e b v n a s)
@[simp] theorem tally_hl_rules (e b v n : Nat) (a : OccAttr) (s : State) : (tally e b v n a s).hl.rules = s.hl.rules := of_quiet_hl_rules (quiet_tally e b v n a s)
@[simp] theorem tally_hl_di (e b v n : Nat) (a : OccAttr) (s : State) : (tally e b v n a s).hl.di = s.hl.di := of_quiet_hl_di (quiet_tally e b v n a s)
@[simp] theorem tally_hl_faultCause (e b v n : Nat) (a : OccAttr) (s : State) : (tally e b v n a s).hl.faultCause = s.hl.faultCause := of_quiet_hl_faultCause (quiet_tally e b v n a s)
@[simp] theorem tally_hl_attnCause (e b v n : Nat) (a : OccAttr) (s : State) : (tally e b v n a s).hl.attnCause = s.hl.attnCause := of_quiet_hl_attnCause (quiet_tally e b v n a s)
@[simp] theorem tally_hl_tripped (e b v n : Nat) (a : OccAttr) (s : State) : (tally e b v n a s).hl.tripped = s.hl.tripped := of_quiet_hl_tripped (quiet_tally e b v n a s)
@[simp] theorem tally_hl_neighbours (e b v n : Nat) (a : OccAttr) (s : State) : (tally e b v n a s).hl.neighbours = s.hl.neighbours := of_quiet_hl_neighbours (quiet_tally e b v n a s)
@[simp] theorem tally_hl_hbCounter (e b v n : Nat) (a : OccAttr) (s : State) : (tally e b v n a s).hl.hbCounter = s.hl.hbCounter := of_quiet_hl_hbCounter (quiet_tally e b v n a s)
@[simp] theorem tally_hl_certs (e b v n : Nat) (a : OccAttr) (s : State) : (tally e b v n a s).hl.certs = s.hl.certs := of_quiet_hl_certs (quiet_tally e b v n a s)
@[simp] theorem tally_hl_fences (e b v n : Nat) (a : OccAttr) (s : State) : (tally e b v n a s).hl.fences = s.hl.fences := of_quiet_hl_fences (quiet_tally e b v n a s)
@[simp] theorem tally_hl_mothRestarting (e b v n : Nat) (a : OccAttr) (s : State) : (tally e b v n a s).hl.mothRestarting = s.hl.mothRestarting := of_quiet_hl_mothRestarting (quiet_tally e b v n a s)
@[simp] theorem tally_hl_ppsOutEnd (e b v n : Nat) (a : OccAttr) (s : State) : (tally e b v n a s).hl.ppsOutEnd = s.hl.ppsOutEnd := of_quiet_hl_ppsOutEnd (quiet_tally e b v n a s)
@[simp] theorem tally_hl_testIr (e b v n : Nat) (a : OccAttr) (s : State) : (tally e b v n a s).hl.testIr = s.hl.testIr := of_quiet_hl_testIr (quiet_tally e b v n a s)

end Sys2Proof.Machine
end

