-- ==== Sys2Proof/Laws/SMap.lean ====
section
/-! SUPPORT. Sparse tables: what a look-up finds after a change. -/
namespace Sys2Proof.Machine
open Sys2Proof

@[simp] theorem get?_set_self {α : Type} (m : SMap α) (k : Nat) (v : α) : SMap.get? (SMap.set m k v) k = some v := by
  induction m with
  | nil => simp [SMap.set, SMap.get?]
  | cons x r ih =>
    obtain ⟨i, w⟩ := x
    unfold SMap.set; split
    · simp [SMap.get?]
    · split
      · simp [SMap.get?]
      · rename_i h1 h2
        simp only [SMap.get?, if_neg h2]; exact ih

theorem get?_set_ne {α : Type} (m : SMap α) {k j : Nat} (v : α) (h : j ≠ k) : SMap.get? (SMap.set m k v) j = SMap.get? m j := by
  have h' : ¬ k = j := fun e => h e.symm
  induction m with
  | nil => simp [SMap.set, SMap.get?, h']
  | cons x r ih =>
    obtain ⟨i, w⟩ := x
    unfold SMap.set; split
    · simp [SMap.get?, h']
    · split
      · rename_i h1 h2; subst h2
        simp [SMap.get?, h']
      · simp only [SMap.get?]; split
        · rfl
        · exact ih

@[simp] theorem getD_set_self {α : Type} (m : SMap α) (k : Nat) (v d : α) : SMap.getD (SMap.set m k v) k d = v := by
  simp [SMap.getD]

theorem getD_set_ne {α : Type} (m : SMap α) {k j : Nat} (v d : α) (h : j ≠ k) : SMap.getD (SMap.set m k v) j d = SMap.getD m j d := by
  simp [SMap.getD, get?_set_ne m v h]

theorem get?_eq_none_of_lt {α : Type} {m : SMap α} {k : Nat} (h : ∀ e ∈ m, k < e.1) : SMap.get? m k = none := by
  induction m with
  | nil => rfl
  | cons x r ih =>
    have hx := h x (by simp)
    simp only [SMap.get?]
    rw [if_neg (by omega)]
    exact ih fun e he => h e (by simp [he])

@[simp] theorem get?_erase_self {α : Type} (m : SMap α) (k : Nat) : SMap.get? (SMap.erase m k) k = none := by
  induction m with
  | nil => rfl
  | cons x r ih =>
    unfold SMap.erase at *
    by_cases h : x.1 = k
    · simp [h]; simpa using ih
    · simp only [List.filter_cons, h, ne_eq, not_false_eq_true, decide_true, if_true, SMap.get?, if_false]; simpa using ih

theorem get?_erase_ne {α : Type} (m : SMap α) {k j : Nat} (h : j ≠ k) : SMap.get? (SMap.erase m k) j = SMap.get? m j := by
  induction m with
  | nil => rfl
  | cons x r ih =>
    unfold SMap.erase at *
    by_cases hk : x.1 = k
    · have : ¬ x.1 = j := by omega
      simp [hk, SMap.get?]
      rw [if_neg (by omega)]; simpa using ih
    · simp only [List.filter_cons, hk, ne_eq, not_false_eq_true, decide_true, if_true, SMap.get?]
      split
      · rfl
      · simpa using ih

/-- What a look-up finds after a write that lists no default. -/
theorem getD_put {α : Type} [DecidableEq α] (m : SMap α) (d v : α) (k j : Nat) :
    SMap.getD (SMap.put d m k v) j d = if j = k then v else SMap.getD m j d := by
  unfold SMap.put SMap.getD
  by_cases h : j = k
  · subst h; split <;> simp_all
  · rw [if_neg h]; split
    · rw [get?_erase_ne m h]
    · rw [get?_set_ne m v h]

theorem sorted_erase {α : Type} {m : SMap α} (k : Nat) (h : SMap.sorted m = true) : SMap.sorted (SMap.erase m k) = true := by
  induction m with
  | nil => rfl
  | cons x r ih =>
    simp only [SMap.sorted, Bool.and_eq_true, List.all_eq_true, decide_eq_true_eq] at h
    unfold SMap.erase at *
    by_cases hk : x.1 = k
    · simpa [List.filter_cons, hk] using ih h.2
    · simp only [List.filter_cons, hk, ne_eq, not_false_eq_true, decide_true, if_true, SMap.sorted, Bool.and_eq_true, List.all_eq_true,
        decide_eq_true_eq]
      exact ⟨fun e he => h.1 e (List.mem_of_mem_filter he), ih h.2⟩

theorem mem_set {α : Type} {m : SMap α} {k : Nat} {v : α} {e : Nat × α} (h : e ∈ SMap.set m k v) : e = (k, v) ∨ e ∈ m := by
  induction m with
  | nil => simp [SMap.set] at h; exact .inl h
  | cons x r ih =>
    obtain ⟨i, w⟩ := x
    unfold SMap.set at h; split at h
    · simpa using h
    · split at h
      · rcases List.mem_cons.1 h with h | h
        · exact .inl h
        · exact .inr (by simp [h])
      · rcases List.mem_cons.1 h with h | h
        · exact .inr (by simp [h])
        · rcases ih h with h | h
          · exact .inl h
          · exact .inr (by simp [h])

theorem sorted_set {α : Type} {m : SMap α} (k : Nat) (v : α) (h : SMap.sorted m = true) : SMap.sorted (SMap.set m k v) = true := by
  induction m with
  | nil => rfl
  | cons x r ih =>
    obtain ⟨i, w⟩ := x
    simp only [SMap.sorted, Bool.and_eq_true, List.all_eq_true, decide_eq_true_eq] at h
    unfold SMap.set; split
    · rename_i hk
      simp only [SMap.sorted, Bool.and_eq_true, List.all_eq_true, decide_eq_true_eq]
      refine ⟨?_, h⟩
      intro e he
      rcases List.mem_cons.1 he with he | he
      · subst he; exact hk
      · exact Nat.lt_trans hk (h.1 e he)
    · split
      · rename_i h1 h2; subst h2
        simpa only [SMap.sorted, Bool.and_eq_true, List.all_eq_true, decide_eq_true_eq] using h
      · rename_i h1 h2
        simp only [SMap.sorted, Bool.and_eq_true, List.all_eq_true, decide_eq_true_eq]
        refine ⟨?_, ih h.2⟩
        intro e he
        rcases mem_set he with he | he
        · subst he; show i < k; omega
        · exact h.1 e he

end Sys2Proof.Machine
end

