-- ==== Sys2Proof/Laws/Counters.lean ====
section
/-! SUPPORT. What counting and raising events do to the settings, the counters and the event ring. -/
namespace Sys2Proof.Machine
open Sys2Proof

/-- A signal is sent or left pending; either way only the host's function and what leaves change. -/
theorem signal_cases (h v : Nat) (s : State) :
    ∃ f, signal h v s = setPc h f s ∨ signal h v s = emit (.msix h v) (setPc h f s) := by
  unfold signal; dsimp only; split
  · exact ⟨_, .inl rfl⟩
  · exact ⟨_, .inr rfl⟩

/-! ### Settings and counters -/

@[simp] theorem getNum_setNum_self (e v d : Nat) (s : State) : getNum (setNum e v s) e d = v := by simp [getNum, setNum]
theorem getNum_setNum_ne {e f : Nat} (v d : Nat) (s : State) (h : f ≠ e) : getNum (setNum e v s) f d = getNum s f d := by
  simp [getNum, setNum, getD_set_ne _ _ _ h]
@[simp] theorem getNum_count_self (e n : Nat) (s : State) : getNum (count e n s) e 0 = (getNum s e 0 + n) % 2 ^ 64 := by simp [count]
theorem getNum_count_ne {e f : Nat} (n d : Nat) (s : State) (h : f ≠ e) : getNum (count e n s) f d = getNum s f d := by
  simp [count, getNum_setNum_ne _ _ _ h]

/-- The two counters that reporting itself may move: dropped events and overflows of programmable counters. -/
def reportCounter (e : Nat) : Bool := e == E.DX_EVENTS_DROPPED || e == E.TM_PROG_OVERFLOWS

theorem ne_of_reportCounter {e : Nat} (h : reportCounter e = false) : e ≠ E.DX_EVENTS_DROPPED ∧ e ≠ E.TM_PROG_OVERFLOWS := by
  simpa [reportCounter] using h

@[simp] theorem getNum_emit (o : Output) (s : State) (e d : Nat) : getNum (emit o s) e d = getNum s e d := rfl
@[simp] theorem getNum_setPc (h : Nat) (f : PcieFn → PcieFn) (s : State) (e d : Nat) : getNum (setPc h f s) e d = getNum s e d := rfl
@[simp] theorem getNum_setController (h : Nat) (f : Controller → Controller) (s : State) (e d : Nat) :
    getNum (setController h f s) e d = getNum s e d := rfl
@[simp] theorem getNum_accum (c k : Nat) (l : List Item) (n : List Nat) (m : Option Nat) (s : State) (e d : Nat) :
    getNum (accum c k l n m s) e d = getNum s e d := by unfold accum; dsimp only; split <;> rfl
@[simp] theorem getNum_signal (h v : Nat) (s : State) (e d : Nat) : getNum (signal h v s) e d = getNum s e d := by
  unfold signal; dsimp only; split <;> simp
theorem getNum_dropEvent {e : Nat} (he : reportCounter e = false) (k : Nat) (s : State) (d : Nat) :
    getNum (dropEvent k s) e d = getNum s e d := by
  simp [dropEvent, getNum_count_ne _ _ _ (ne_of_reportCounter he).1]
theorem getNum_hostQueue {e : Nat} (he : reportCounter e = false) (x : EventRec) (h : Nat) (s : State) (d : Nat) :
    getNum (hostQueue x h s) e d = getNum s e d := by
  unfold hostQueue; dsimp only; split
  · rfl
  · split <;> simp [getNum_dropEvent he]
theorem getNum_toHost {e : Nat} (he : reportCounter e = false) (x : EventRec) (h : Nat) (s : State) (d : Nat) :
    getNum (toHost x h s) e d = getNum s e d := by
  unfold toHost; split
  · simp
  · exact getNum_hostQueue he _ _ _ _
theorem getNum_toSub {e : Nat} (he : reportCounter e = false) (x : EventRec) (n : Nat) (s : State) (d : Nat) :
    getNum (toSub x n s) e d = getNum s e d := by
  unfold toSub; split
  · rfl
  · split
    · rfl
    · split
      · exact getNum_dropEvent he _ _ _
      · rfl
/-- Raising an event moves no counter but that of dropped events. -/
theorem getNum_raise {e : Nat} (he : reportCounter e = false) (c : Nat) (l : List Item) (s : State) (d : Nat) :
    getNum (raise c l s) e d = getNum s e d := by
  unfold raise; dsimp only
  rw [foldl_keeps (fun s => getNum s e d) _ fun s n => getNum_toSub he _ n s d, getNum_toHost he, getNum_toHost he]
  split <;> rfl
theorem getNum_raiseOnce {e : Nat} (he : reportCounter e = false) (c k : Nat) (l : List Item) (s : State) (d : Nat) :
    getNum (raiseOnce c k l s) e d = getNum s e d := by
  unfold raiseOnce; split
  · rfl
  · rw [getNum_raise he]; rfl
theorem getNum_progAdd {e : Nat} (he : reportCounter e = false) (b k n : Nat) (s : State) (d : Nat) :
    getNum (progAdd b k n s) e d = getNum s e d := by
  unfold progAdd; dsimp only; split
  · rfl
  · split
    · rfl
    · rw [getNum_count_ne _ _ _ (ne_of_reportCounter he).2]; rfl
/-- Counting an occurrence moves no device counter but that of overflows. -/
theorem getNum_occ {e : Nat} (he : reportCounter e = false) (b v n : Nat) (a : OccAttr) (s : State) (d : Nat) :
    getNum (occ b v n a s) e d = getNum s e d := by
  unfold occ; dsimp only; split
  · split <;> rfl
  · rw [foldl_keeps (fun s => getNum s e d)]
    · split <;> rfl
    · intro s k; split
      · split <;> simp [getNum_raiseOnce he, getNum_progAdd he]
      · rfl
theorem getNum_tally_self {e : Nat} (he : reportCounter e = false) (b v n : Nat) (a : OccAttr) (s : State) :
    getNum (tally e b v n a s) e 0 = (getNum s e 0 + n) % 2 ^ 64 := by simp [tally, getNum_occ he]
theorem getNum_tally_ne {e f : Nat} (he : reportCounter f = false) (h : f ≠ e) (b v n : Nat) (a : OccAttr) (s : State) (d : Nat) :
    getNum (tally e b v n a s) f d = getNum s f d := by simp [tally, getNum_occ he, getNum_count_ne _ _ _ h]

/-! ### Tables -/

@[simp] theorem tabs_setNum (e v : Nat) (s : State) : (setNum e v s).dict.tabs = s.dict.tabs := rfl
@[simp] theorem tabs_count (e n : Nat) (s : State) : (count e n s).dict.tabs = s.dict.tabs := rfl
@[simp] theorem tabs_emit (o : Output) (s : State) : (emit o s).dict.tabs = s.dict.tabs := rfl
@[simp] theorem tabs_setPc (h : Nat) (f : PcieFn → PcieFn) (s : State) : (setPc h f s).dict.tabs = s.dict.tabs := rfl
@[simp] theorem tabs_setController (h : Nat) (f : Controller → Controller) (s : State) :
    (setController h f s).dict.tabs = s.dict.tabs := rfl
@[simp] theorem tabs_accum (c k : Nat) (l : List Item) (n : List Nat) (m : Option Nat) (s : State) :
    (accum c k l n m s).dict.tabs = s.dict.tabs := by unfold accum; dsimp only; split <;> rfl
@[simp] theorem tabs_signal (h v : Nat) (s : State) : (signal h v s).dict.tabs = s.dict.tabs := by
  obtain ⟨f, e | e⟩ := signal_cases h v s <;> rw [e]
  · exact tabs_setPc _ _ _
  · exact (tabs_emit _ _).trans (tabs_setPc _ _ _)
@[simp] theorem tabs_dropEvent (k : Nat) (s : State) : (dropEvent k s).dict.tabs = s.dict.tabs := by simp [dropEvent]
@[simp] theorem tabs_hostQueue (x : EventRec) (h : Nat) (s : State) : (hostQueue x h s).dict.tabs = s.dict.tabs := by
  unfold hostQueue; dsimp only; split
  · rfl
  · split <;> simp
@[simp] theorem tabs_toHost (x : EventRec) (h : Nat) (s : State) : (toHost x h s).dict.tabs = s.dict.tabs := by
  unfold toHost; split <;> simp
@[simp] theorem tabs_toSub (x : EventRec) (n : Nat) (s : State) : (toSub x n s).dict.tabs = s.dict.tabs := by
  unfold toSub; split
  · rfl
  · split
    · rfl
    · split
      · simp
      · rfl
@[simp] theorem tabs_raise (c : Nat) (l : List Item) (s : State) : (raise c l s).dict.tabs = s.dict.tabs := by
  unfold raise; dsimp only
  rw [foldl_keeps (fun s => s.dict.tabs) _ fun s n => tabs_toSub _ n s, tabs_toHost, tabs_toHost]
  split <;> rfl
@[simp] theorem tabs_raiseOnce (c k : Nat) (l : List Item) (s : State) : (raiseOnce c k l s).dict.tabs = s.dict.tabs := by
  unfold raiseOnce; split
  · rfl
  · rw [tabs_raise]
@[simp] theorem tabs_progAdd (b k n : Nat) (s : State) : (progAdd b k n s).dict.tabs = s.dict.tabs := by
  unfold progAdd; dsimp only; split
  · rfl
  · split <;> rfl
@[simp] theorem tabs_occ (b v n : Nat) (a : OccAttr) (s : State) : (occ b v n a s).dict.tabs = s.dict.tabs := by
  unfold occ; dsimp only; split
  · split <;> rfl
  · rw [foldl_keeps (fun s => s.dict.tabs)]
    · split <;> rfl
    · intro s k; split
      · split <;> simp
      · rfl
@[simp] theorem tabs_tally (e b v n : Nat) (a : OccAttr) (s : State) : (tally e b v n a s).dict.tabs = s.dict.tabs := by simp [tally]

/-! ### The event ring -/

theorem ring_setPc (h : Nat) (f : PcieFn → PcieFn) (s : State) : (setPc h f s).ev = s.ev := rfl
theorem ring_emit (o : Output) (s : State) : (emit o s).ev = s.ev := rfl
@[simp] theorem ring_count (e n : Nat) (s : State) : (count e n s).ev = s.ev := rfl
@[simp] theorem ring_accum (c k : Nat) (l : List Item) (n : List Nat) (m : Option Nat) (s : State) :
    (accum c k l n m s).ev.ring = s.ev.ring := by unfold accum; dsimp only; split <;> rfl
@[simp] theorem ring_signal (h v : Nat) (s : State) : (signal h v s).ev = s.ev := by
  obtain ⟨f, e | e⟩ := signal_cases h v s <;> rw [e]
  · exact ring_setPc _ _ _
  · exact (ring_emit _ _).trans (ring_setPc _ _ _)
@[simp] theorem ring_dropEvent (k : Nat) (s : State) : (dropEvent k s).ev.ring = s.ev.ring := by simp [dropEvent]
@[simp] theorem ring_hostQueue (x : EventRec) (h : Nat) (s : State) : (hostQueue x h s).ev.ring = s.ev.ring := by
  unfold hostQueue; dsimp only; split
  · rfl
  · split <;> simp
@[simp] theorem ring_toHost (x : EventRec) (h : Nat) (s : State) : (toHost x h s).ev.ring = s.ev.ring := by
  unfold toHost; split <;> simp
@[simp] theorem ring_toSub (x : EventRec) (n : Nat) (s : State) : (toSub x n s).ev.ring = s.ev.ring := by
  unfold toSub; split
  · rfl
  · split
    · rfl
    · split
      · simp
      · rfl
/-- Outside Rest an event is at the front of the ring, with the next sequence number and the running tick (R399, R523). -/
theorem ring_raise (c : Nat) (l : List Item) (s : State) (h : s.hl.power ≠ .rest) :
    (raise c l s).ev.ring = ringPut { code := c, seq := s.ev.next, tick := s.clk.tick, items := l } s.ev.ring := by
  unfold raise; dsimp only
  rw [foldl_keeps (fun s => s.ev.ring) _ fun s n => ring_toSub _ n s, ring_toHost, ring_toHost]
  simp [h]
theorem head_raise (c : Nat) (l : List Item) (s : State) (h : s.hl.power ≠ .rest) :
    (raise c l s).ev.ring.head? = some { code := c, seq := s.ev.next, tick := s.clk.tick, items := l } := by
  simp [ring_raise _ _ _ h, ringPut]

end Sys2Proof.Machine
end

