-- ==== Sys2Proof/Laws/Run.lean ====
section
/-! SUPPORT. How a command runs: at once, at an instant of the running tick, or when its time has come. -/
namespace Sys2Proof.Machine
open Sys2Proof

theorem answers_run {i : Instr} {s : State} {f : State → State} {P : State → Prop} (h : exec i s = run f s)
    (hp : P (settle s (f (start s)))) : Answers i s P := ⟨_, h, hp⟩

theorem answers_runAt {i : Instr} {s : State} {a : Nat} {f : State → State} {P : State → Prop} (h : exec i s = runAt a f s)
    (hp : P (settle (atPs a s) (f (start (atPs a s))))) : Answers i s P := ⟨_, h, hp⟩

/-- An instant that has been reached is not reached twice. -/
theorem atPs_idem (a : Nat) (s : State) : atPs a (start (atPs a s)) = start (atPs a s) := by
  simp only [atPs, start, Nat.max_assoc, Nat.max_self]

/-- A timer whose time has come runs at its instant. -/
theorem runDue_due {d : Nat} {f : State → State} {s : State} (h : due d s = true) :
    runDue (some d) f s = runAt (d - s.clk.tick * tickPs) f s := by simp [runDue, h]

/-- A timer whose time has not come does nothing. -/
theorem runDue_early {d : Nat} {f : State → State} {s : State} (h : due d s = false) : runDue (some d) f s = run id s := by
  simp [runDue, h]

theorem answers_due {i : Instr} {s : State} {d : Option Nat} {f : State → State} {P : State → Prop} {n : Nat}
    (h : exec i s = runDue d f s) (hd : d = some n) (hn : due n s = true)
    (hp : P (settle (atPs (n - s.clk.tick * tickPs) s) (f (start (atPs (n - s.clk.tick * tickPs) s))))) : Answers i s P := by
  subst hd; rw [runDue_due hn] at h; exact ⟨_, h, hp⟩

end Sys2Proof.Machine
end

