-- ==== Sys2Proof/Laws/Dict.lean ====
section
/-! SUPPORT. A command that passes the checks of R388 has the effect of its op code, and is answered. -/
namespace Sys2Proof.Machine
open Sys2Proof

/-- No lease has lapsed. -/
theorem leasesLapse_none {s : State} (h : ∀ x ∈ s.dx.sessions, now s < x.leaseEnd) : leasesLapse s = s := by
  have e : (s.dx.sessions.filter fun x => x.leaseEnd ≤ now s) = [] := by
    rw [List.filter_eq_nil_iff]; intro x hx; simpa using h x hx
  simp only [leasesLapse, e, List.map_nil, List.foldl_nil]

/-- What the judgement of an accepted command comes to. -/
theorem dxJudge_accepted {op : Nat} {c : Cmd} {s : State} (h : Accepted op c s) :
    dxJudge false op c (dxHeard op c s) =
      (let x := dxEffect false op c (dxBefore op c s)
       let t := respond op c x.2 x.1
       if op = Dx.ACTION && cmdAction c == Act.CLOSE && x.2.status == St.DONE then sessionEnd (cmdSession c) 2 t else t) := by
  have hl : leasesLapse (dxHeard op c s) = dxHeard op c s := by
    apply leasesLapse_none
    intro x hx
    have := h.live x hx
    have e : now (dxHeard op c s) = now s := by
      unfold dxHeard; split
      · rfl
      · split <;> rfl
      · split <;> rfl
    rw [e]; exact this
  have hr : subsFollow c (if c.session = 0 then dxHeard op c s else sessionTouch (cmdSession c) (dxHeard op c s)) = dxReady op c s := rfl
  unfold dxJudge
  simp only [hl, h.whole, h.header, h.source, h.session, hr, h.fresh, h.checks, bne_self_eq_false, Bool.false_eq_true, if_false,
    Bool.not_true]
  unfold dxAct dxBefore
  by_cases ho : op = Dx.SIGNED_WRITE
  · simp only [if_pos ho, h.sig ho, Bool.not_true, Bool.false_eq_true, if_false]
  · simp only [if_neg ho, Bool.not_true, Bool.false_eq_true, if_false]

/-- An accepted command is taken, whichever way it came, and what follows its effect is its answer. -/
theorem dxCommand_accepted {op : Nat} {c : Cmd} {s : State} (h : Accepted op c s) :
    dxCommand op c s = dxFinish op c (dxEffect false op c (dxBefore op c s)).2 (dxEffect false op c (dxBefore op c s)).1 := by
  have ht : ∀ r, count E.DX_COMMANDS 1 r = dxHeard op c s → dxTake op c r = dxJudge false op c (dxHeard op c s) := by
    intro r hr
    unfold dxTake
    simp only [hr, h.turn]
  have hj := dxJudge_accepted h
  unfold dxFinish dxCommand
  have hup := h.up
  have hroom := h.room
  revert ht hj
  unfold dxHeard
  cases hc : c.src with
  | t1s x =>
    intro ht hj
    rw [hc] at hup
    simp only [hup, if_true]
    rw [ht _ rfl, hj]
  | mc fa p =>
    intro ht hj
    simp only at ht hj ⊢
    have e : ∀ x : Nat × Packet, transportUp (fromInbox x.1 x.2 s) (.mc fa p) = transportUp s (.mc fa p) := fun _ => rfl
    rw [hc] at hup
    cases hi : inboxCmd op c fa p s with
    | none =>
      rw [hi] at ht hj
      simp only [hup, if_true]
      rw [ht _ rfl, hj]
    | some x =>
      rw [hi] at ht hj
      simp only [e, hup, if_true]
      rw [ht _ rfl, hj]
  | pcie k =>
    intro ht hj
    obtain ⟨r1, r2⟩ := hroom k hc
    rw [hc] at hup
    simp only at ht hj ⊢
    have e : ∀ (b : Bool) (x : Nat × Nat × Cmd), (controllerOf (if b = true then slotTaken k x s else s) (hostDie k)).restarting = false := by
      intro b x; cases b <;> exact r2
    simp only [hup, r1, Bool.not_true, Bool.or_self, Bool.false_eq_true, if_false, e]
    rw [ht _ rfl, hj]

/-- A row whose command is accepted serves it. -/
theorem serves_row {i : Instr} {op : Nat} {c : Cmd} {s : State} {P : State → State → Answer → Prop} (hx : exec i s = cmdRow op c s)
    (h : Accepted op c (start (atPs c.takenAt s)))
    (hp : P (dxBefore op c (start (atPs c.takenAt s))) (dxEffect false op c (dxBefore op c (start (atPs c.takenAt s)))).1
      (dxEffect false op c (dxBefore op c (start (atPs c.takenAt s)))).2) : Serves i op c s P :=
  ⟨_, _, by rw [hx]; simp only [cmdRow, runAt, run, dxCommand_accepted h], hp⟩

end Sys2Proof.Machine
end

