-- ==== Sys2Proof/Laws/Traffic.lean ====
section
/-! SUPPORT. What queues a packet, drops it or lets it go changes the queues, the links and the reports, and nothing else. -/
namespace Sys2Proof.Machine
open Sys2Proof

/-- A state without the queues, the links and what reports are made of. -/
def still (s : State) : State := { quiet s with dp := dpReset, links := [], tm := tmReset }

theorem still_of_quiet {s t : State} (h : quiet t = quiet s) : still t = still s := by unfold still; rw [h]

theorem quiet_foldl {α : Type} (f : State → α → State) (h : ∀ s a, quiet (f s a) = quiet s) (l : List α) (s : State) :
    quiet (l.foldl f s) = quiet s := foldl_keeps quiet f h l s

@[simp] theorem quiet_occLane (p l e n : Nat) (a : OccAttr) (s : State) : quiet (occLane p l e n a s) = quiet s := by simp [occLane]
@[simp] theorem quiet_occPort (p k n : Nat) (a : OccAttr) (s : State) : quiet (occPort p k n a s) = quiet s := by simp [occPort]
@[simp] theorem quiet_tallyPort (e v p : Nat) (k : Packet) (s : State) : quiet (tallyPort e v p k s) = quiet s := by
  unfold tallyPort; split <;> simp
@[simp] theorem quiet_countSpill (b : Nat) (a : OccAttr) (s : State) : quiet (countSpill b a s) = quiet s := by simp [countSpill]
@[simp] theorem quiet_occSent (p l v : Nat) (k : Packet) (s : State) : quiet (occSent p l v k s) = quiet s := by simp [occSent]
@[simp] theorem quiet_causeNote (c b : Nat) (k : Option Nat) (s : State) : quiet (causeNote c b k s) = quiet s := by
  unfold causeNote; split <;> rfl
@[simp] theorem quiet_breachOf (c : Option Nat) (r b : Nat) (a : OccAttr) (m : Option Nat) (s : State) :
    quiet (breachOf c r b a m s) = quiet s := by simp [breachOf]
@[simp] theorem quiet_breach (r b : Nat) (a : OccAttr) (m : Option Nat) (s : State) : quiet (breach r b a m s) = quiet s := by simp [breach]
@[simp] theorem quiet_r128 (r p : Nat) (k : Packet) (s : State) : quiet (r128 r p k s) = quiet s := by
  unfold r128; dsimp only; split <;> simp

/-! ### Route look-ups -/

@[simp] theorem quiet_selectPort (h : Hop) (p : Nat) (k : Packet) (s : State) : quiet (selectPort h p k s).1 = quiet s := by
  unfold selectPort; dsimp only; split
  · simp
  · split
    · split <;> simp
    · rfl
/-- A state without the queues, the links, the tables and what reports are made of. -/
def calm (s : State) : State := { quiet s with dp := dpReset, links := [], tm := tmReset, tb := State.reset.tb }

theorem calm_of_quiet {s t : State} (h : quiet t = quiet s) : calm t = calm s := by unfold calm; rw [h]
theorem calm_foldl {α : Type} (f : State → α → State) (h : ∀ s a, calm (f s a) = calm s) (l : List α) (s : State) :
    calm (l.foldl f s) = calm s := foldl_keeps calm f h l s

/-- A read of a table word changes the tables and the reports alone. -/
@[simp] theorem calm_eccRead (w : TableWord) (e : EccErr) (s : State) : calm (eccRead w e s) = calm s := by
  unfold eccRead; dsimp only; split
  · rfl
  · exact (calm_of_quiet (quiet_tally _ _ _ _ _ _)).trans rfl
  · split
    · exact (rfl : _ = calm _).trans ((calm_of_quiet ((quiet_raiseOnce _ _ _ _).trans (quiet_tally _ _ _ _ _ _))).trans rfl)
    · exact (rfl : _ = calm _).trans ((calm_of_quiet ((quiet_raiseOnce _ _ _ _).trans (quiet_tally _ _ _ _ _ _))).trans rfl)
@[simp] theorem calm_readWords (d : Nat) (ws : List (TableKind × WordPlace)) (s : State) : calm (readWords d ws s).1 = calm s :=
  calm_foldl (fun s (u : TableWord × EccErr) => eccRead u.1 u.2 s) (fun s u => calm_eccRead u.1 u.2 s) _ s
@[simp] theorem calm_countProbes (b n : Nat) (a : OccAttr) (s : State) : calm (countProbes b n a s) = calm s :=
  (rfl : _ = calm (occ b 97 n a s)).trans (calm_of_quiet (quiet_occ _ _ _ _ _))
/-- A look-up changes the tables, the busy counts and the reports alone. -/
@[simp] theorem calm_routeLookup (p : Nat) (k : Packet) (v : Nat) (r : RouteSet) (s : State) :
    calm (routeLookup p k v r s).1 = calm s := by
  unfold routeLookup; dsimp only
  generalize hq : (if p < 512 then _ else s) = q
  have h : calm q = calm s := by
    rw [← hq]; split
    · rw [calm_countProbes]; exact calm_of_quiet (quiet_occ _ _ _ _ _)
    · rfl
  have hr : ∀ d ws t, calm (readWords d ws t).1 = calm t := calm_readWords
  have go : ∀ (d : Nat) (ws : List (TableKind × WordPlace)) (t u : State) (b : Bool), readWords d ws t = (u, b) → calm u = calm t :=
    fun d ws t u b e => by rw [← hr d ws t, e]
  split
  · next e => rw [calm_of_quiet (quiet_tallyPort _ _ _ _ _), go _ _ _ _ _ e, h]
  · next e =>
    split
    · rw [calm_of_quiet ((quiet_raiseOnce _ _ _ _).trans (quiet_tallyPort _ _ _ _ _)), go _ _ _ _ _ e, h]
    · split
      · next e2 => rw [calm_of_quiet (quiet_tallyPort _ _ _ _ _), go _ _ _ _ _ e2, go _ _ _ _ _ e, h]
      · next e2 =>
        split
        · rw [calm_of_quiet (quiet_tallyPort _ _ _ _ _), go _ _ _ _ _ e2, go _ _ _ _ _ e, h]
        · rw [calm_of_quiet (quiet_selectPort _ _ _ _), go _ _ _ _ _ e2, go _ _ _ _ _ e, h]

/-! ### Queues and links -/

@[simp] theorem still_raise (c : Nat) (l : List Item) (s : State) : still (raise c l s) = still s := still_of_quiet (by simp)
@[simp] theorem still_raiseOnce (c k : Nat) (l : List Item) (s : State) : still (raiseOnce c k l s) = still s := still_of_quiet (by simp)
@[simp] theorem still_count (e n : Nat) (s : State) : still (count e n s) = still s := still_of_quiet (by simp)
@[simp] theorem still_tally (e b v n : Nat) (a : OccAttr) (s : State) : still (tally e b v n a s) = still s := still_of_quiet (by simp)
@[simp] theorem still_occ (b v n : Nat) (a : OccAttr) (s : State) : still (occ b v n a s) = still s := still_of_quiet (by simp)
@[simp] theorem still_accum (c k : Nat) (l : List Item) (n : List Nat) (m : Option Nat) (s : State) : still (accum c k l n m s) = still s :=
  still_of_quiet (by simp)
@[simp] theorem still_countSpill (b : Nat) (a : OccAttr) (s : State) : still (countSpill b a s) = still s := still_of_quiet (by simp)
@[simp] theorem still_setLink (p : Nat) (f : Link → Link) (s : State) : still (setLink p f s) = still s := rfl
@[simp] theorem still_setPort (p : Nat) (v : PortDp) (s : State) : still (setPort p v s) = still s := rfl



theorem still_foldl {α : Type} (f : State → α → State) (h : ∀ s a, still (f s a) = still s) (l : List α) (s : State) :
    still (l.foldl f s) = still s := foldl_keeps still f h l s

/-! ### Captures -/

@[simp] theorem still_capDepth (i a b : Nat) (s : State) : still (capDepth i a b s) = still s := rfl
@[simp] theorem still_capForget (i : Nat) (s : State) : still (capForget i s) = still s := rfl
@[simp] theorem still_capStage (r : Bytes) (s : State) : still (capStage r s) = still s := by
  unfold capStage; dsimp only; split
  · rfl
  · split
    · simp
    · rfl
@[simp] theorem still_capDrop (i c : Nat) (s : State) : still (capDrop i c s) = still s := by
  unfold capDrop; refine still_foldl _ (fun s a => ?_) _ _
  split <;> simp
@[simp] theorem still_capTaken (i : Nat) (s : State) : still (capTaken i s) = still s := by
  unfold capTaken; rw [still_capForget]; refine still_foldl _ (fun s a => ?_) _ _
  split <;> simp
@[simp] theorem still_capSent (i : Nat) (o : CapOut) (s : State) : still (capSent i o s) = still s := by
  unfold capSent; refine still_foldl _ (fun s a => ?_) _ _
  exact still_capStage _ s
@[simp] theorem still_capIngress (p l i : Nat) (k : Packet) (z : Int) (s : State) : still (capIngress p l i k z s) = still s := by
  unfold capIngress; split
  · rfl
  · refine still_foldl _ (fun s a => ?_) _ _
    dsimp only; split
    · split <;> rfl
    · rfl

@[simp] theorem still_mcastReport (i : Nat) (s : State) : still (mcastReport i s) = still s := by
  unfold mcastReport; split
  · rfl
  · rw [still_raiseOnce, still_count]; rfl
@[simp] theorem still_packetDone (i : Nat) (s : State) : still (packetDone i s) = still s := by
  unfold packetDone; dsimp only; rw [still_capForget]
  split
  · rfl
  · exact (rfl : _ = still (mcastReport i s)).trans (still_mcastReport i s)
@[simp] theorem still_mcastLoss (i k q : Nat) (ps : List Nat) (s : State) : still (mcastLoss i k q ps s) = still s := by
  unfold mcastLoss; split
  · rfl
  · exact (rfl : _ = still (ps.foldl (fun s p => tally E.DP_MCAST_COPY_DROPS (benchOf p) 44 1 {} s) s)).trans
      (still_foldl _ (fun s a => by simp) ps s)
@[simp] theorem still_freeCredit (p l v : Nat) (k : Packet) (s : State) : still (freeCredit p l v k s) = still s := by
  unfold freeCredit; split
  · rfl
  · simp
@[simp] theorem still_voqTouch (p v : Nat) (s : State) : still (voqTouch p v s) = still s := by
  unfold voqTouch; dsimp only; rw [still_setLink]
  have h : still (if pairEligible s p v = true then s
      else List.foldl (fun s x => tally E.OT_SHAPER_HOLDS (benchOf p) 118 1 { q := some (p % 4), vc := some v } s) s
        (List.filter (fun x => x.headAt.isNone && x.expire.isNone) (voqHeads s p v))) = still s := by
    split
    · rfl
    · exact still_foldl _ (fun s a => by simp) _ _
  exact h
@[simp] theorem still_portTouch (p : Nat) (s : State) : still (portTouch p s) = still s := by simp [portTouch]
@[simp] theorem still_openLeave (x : OpenPkt) (s : State) : still (openLeave x s) = still s := by
  unfold openLeave; dsimp only; rw [still_voqTouch]
  repeat' split
  all_goals first | rfl | (rw [still_packetDone, still_freeCredit]; rfl)
@[simp] theorem still_openDrop (c : Nat) (x : OpenPkt) (s : State) : still (openDrop c x s) = still s := by
  unfold openDrop; dsimp only; rw [still_openLeave]; split <;> simp
@[simp] theorem still_noCell (p : Nat) (s : State) : still (noCell p s) = still s := by simp [noCell]
@[simp] theorem still_openEnqueue (x : OpenPkt) (s : State) : still (openEnqueue x s) = still s := by
  unfold openEnqueue; dsimp only; split
  · simp
  · rw [still_voqTouch]
    refine Eq.trans (b := still (if _ then countSpill (benchOf x.port) (attrOf x.port x.pkt) s else s)) rfl ?_
    split <;> simp
@[simp] theorem still_originate (p v : Nat) (k : Packet) (s : State) : still (originate p v k s) = still s := by
  unfold originate; dsimp only; rw [still_openEnqueue]; rfl
theorem calm_of_still {s t : State} (h : still t = still s) : calm t = calm s :=
  congrArg (fun x : State => { x with tb := State.reset.tb }) h
/-- A packet that the part routes by its own tables changes the tables as well, where a read meets an error. -/
@[simp] theorem calm_originateRouted (k : Packet) (s : State) : calm (originateRouted k s) = calm s := by
  unfold originateRouted; dsimp only; split
  · simp
  · rw [calm_of_still (still_openEnqueue _ _)]; exact (rfl : _ = calm (routeLookup 512 k (pkVc k) s.tb.active s).1).trans (by simp)
@[simp] theorem still_orderIdle (f : Nat) (s : State) : still (orderIdle f s) = still s := rfl
@[simp] theorem still_orderUnset (f : Nat) (s : State) : still (orderUnset f s) = still s := rfl
theorem still_scDrop (w : ScPkt → Bool) (c : Nat) (n : ScPkt → State → State) (h : ∀ x s, still (n x s) = still s) (s : State) :
    still (scDrop w c n s) = still s := by
  unfold scDrop scDropWith; dsimp only
  refine (still_foldl _ (fun s x => ?_) _ _).trans rfl
  simp [h]


theorem of_still_clk {s t : State} (h : still t = still s) : t.clk = s.clk := (congrArg State.clk h : (still t).clk = (still s).clk)
theorem of_still_tt {s t : State} (h : still t = still s) : t.tt = s.tt := (congrArg State.tt h : (still t).tt = (still s).tt)
theorem of_still_ft {s t : State} (h : still t = still s) : t.ft = s.ft := (congrArg State.ft h : (still t).ft = (still s).ft)
theorem of_still_cr {s t : State} (h : still t = still s) : t.cr = s.cr := (congrArg State.cr h : (still t).cr = (still s).cr)
theorem of_still_fm {s t : State} (h : still t = still s) : t.fm = s.fm := (congrArg State.fm h : (still t).fm = (still s).fm)
theorem of_still_tb {s t : State} (h : still t = still s) : t.tb = s.tb := (congrArg State.tb h : (still t).tb = (still s).tb)
theorem of_still_ot {s t : State} (h : still t = still s) : t.ot = s.ot := (congrArg State.ot h : (still t).ot = (still s).ot)
theorem of_still_op {s t : State} (h : still t = still s) : t.op = s.op := (congrArg State.op h : (still t).op = (still s).op)
theorem of_still_ch {s t : State} (h : still t = still s) : t.ch = s.ch := (congrArg State.ch h : (still t).ch = (still s).ch)
theorem of_still_rp {s t : State} (h : still t = still s) : t.rp = s.rp := (congrArg State.rp h : (still t).rp = (still s).rp)
theorem of_still_se {s t : State} (h : still t = still s) : t.se = s.se := (congrArg State.se h : (still t).se = (still s).se)
theorem of_still_bi {s t : State} (h : still t = still s) : t.bi = s.bi := (congrArg State.bi h : (still t).bi = (still s).bi)
theorem of_still_el {s t : State} (h : still t = still s) : t.el = s.el := (congrArg State.el h : (still t).el = (still s).el)
theorem of_still_frame {s t : State} (h : still t = still s) : t.frame = s.frame := (congrArg State.frame h : (still t).frame = (still s).frame)
theorem of_still_pending {s t : State} (h : still t = still s) : t.pending = s.pending := (congrArg State.pending h : (still t).pending = (still s).pending)
theorem of_still_dx_sessions {s t : State} (h : still t = still s) : t.dx.sessions = s.dx.sessions := (congrArg (fun x => x.dx.sessions) h : (still t).dx.sessions = (still s).dx.sessions)
theorem of_still_dx_owners {s t : State} (h : still t = still s) : t.dx.owners = s.dx.owners := (congrArg (fun x => x.dx.owners) h : (still t).dx.owners = (still s).dx.owners)
theorem of_still_dx_xfers {s t : State} (h : still t = still s) : t.dx.xfers = s.dx.xfers := (congrArg (fun x => x.dx.xfers) h : (still t).dx.xfers = (still s).dx.xfers)
theorem of_still_dx_snaps {s t : State} (h : still t = still s) : t.dx.snaps = s.dx.snaps := (congrArg (fun x => x.dx.snaps) h : (still t).dx.snaps = (still s).dx.snaps)
theorem of_still_dx_pending {s t : State} (h : still t = still s) : t.dx.pending = s.dx.pending := (congrArg (fun x => x.dx.pending) h : (still t).dx.pending = (still s).dx.pending)
theorem of_still_dx_inbox {s t : State} (h : still t = still s) : t.dx.inbox = s.dx.inbox := (congrArg (fun x => x.dx.inbox) h : (still t).dx.inbox = (still s).dx.inbox)
theorem of_still_dx_fetched {s t : State} (h : still t = still s) : t.dx.fetched = s.dx.fetched := (congrArg (fun x => x.dx.fetched) h : (still t).dx.fetched = (still s).dx.fetched)
theorem of_still_hl_power {s t : State} (h : still t = still s) : t.hl.power = s.hl.power := (congrArg (fun x => x.hl.power) h : (still t).hl.power = (still s).hl.power)
theorem of_still_hl_offCause {s t : State} (h : still t = still s) : t.hl.offCause = s.hl.offCause := (congrArg (fun x => x.hl.offCause) h : (still t).hl.offCause = (still s).hl.offCause)
theorem of_still_hl_restTick {s t : State} (h : still t = still s) : t.hl.restTick = s.hl.restTick := (congrArg (fun x => x.hl.restTick) h : (still t).hl.restTick = (still s).hl.restTick)
theorem of_still_hl_entering {s t : State} (h : still t = still s) : t.hl.entering = s.hl.entering := (congrArg (fun x => x.hl.entering) h : (still t).hl.entering = (still s).hl.entering)
theorem of_still_hl_wakeAfter {s t : State} (h : still t = still s) : t.hl.wakeAfter = s.hl.wakeAfter := (congrArg (fun x => x.hl.wakeAfter) h : (still t).hl.wakeAfter = (still s).hl.wakeAfter)
theorem of_still_hl_wakeCause {s t : State} (h : still t = still s) : t.hl.wakeCause = s.hl.wakeCause := (congrArg (fun x => x.hl.wakeCause) h : (still t).hl.wakeCause = (still s).hl.wakeCause)
theorem of_still_hl_wakeStart {s t : State} (h : still t = still s) : t.hl.wakeStart = s.hl.wakeStart := (congrArg (fun x => x.hl.wakeStart) h : (still t).hl.wakeStart = (still s).hl.wakeStart)
theorem of_still_hl_wakes {s t : State} (h : still t = still s) : t.hl.wakes = s.hl.wakes := (congrArg (fun x => x.hl.wakes) h : (still t).hl.wakes = (still s).hl.wakes)
theorem of_still_hl_gated {s t : State} (h : still t = still s) : t.hl.gated = s.hl.gated := (congrArg (fun x => x.hl.gated) h : (still t).hl.gated = (still s).hl.gated)
theorem of_still_hl_readings {s t : State} (h : still t = still s) : t.hl.readings = s.hl.readings := (congrArg (fun x => x.hl.readings) h : (still t).hl.readings = (still s).hl.readings)
theorem of_still_hl_throttle {s t : State} (h : still t = still s) : t.hl.throttle = s.hl.throttle := (congrArg (fun x => x.hl.throttle) h : (still t).hl.throttle = (still s).hl.throttle)
theorem of_still_hl_rules {s t : State} (h : still t = still s) : t.hl.rules = s.hl.rules := (congrArg (fun x => x.hl.rules) h : (still t).hl.rules = (still s).hl.rules)
theorem of_still_hl_di {s t : State} (h : still t = still s) : t.hl.di = s.hl.di := (congrArg (fun x => x.hl.di) h : (still t).hl.di = (still s).hl.di)
theorem of_still_hl_faultCause {s t : State} (h : still t = still s) : t.hl.faultCause = s.hl.faultCause := (congrArg (fun x => x.hl.faultCause) h : (still t).hl.faultCause = (still s).hl.faultCause)
theorem of_still_hl_attnCause {s t : State} (h : still t = still s) : t.hl.attnCause = s.hl.attnCause := (congrArg (fun x => x.hl.attnCause) h : (still t).hl.attnCause = (still s).hl.attnCause)
theorem of_still_hl_tripped {s t : State} (h : still t = still s) : t.hl.tripped = s.hl.tripped := (congrArg (fun x => x.hl.tripped) h : (still t).hl.tripped = (still s).hl.tripped)
theorem of_still_hl_neighbours {s t : State} (h : still t = still s) : t.hl.neighbours = s.hl.neighbours := (congrArg (fun x => x.hl.neighbours) h : (still t).hl.neighbours = (still s).hl.neighbours)
theorem of_still_hl_hbCounter {s t : State} (h : still t = still s) : t.hl.hbCounter = s.hl.hbCounter := (congrArg (fun x => x.hl.hbCounter) h : (still t).hl.hbCounter = (still s).hl.hbCounter)
theorem of_still_hl_certs {s t : State} (h : still t = still s) : t.hl.certs = s.hl.certs := (congrArg (fun x => x.hl.certs) h : (still t).hl.certs = (still s).hl.certs)
theorem of_still_hl_fences {s t : State} (h : still t = still s) : t.hl.fences = s.hl.fences := (congrArg (fun x => x.hl.fences) h : (still t).hl.fences = (still s).hl.fences)
theorem of_still_hl_mothRestarting {s t : State} (h : still t = still s) : t.hl.mothRestarting = s.hl.mothRestarting := (congrArg (fun x => x.hl.mothRestarting) h : (still t).hl.mothRestarting = (still s).hl.mothRestarting)
theorem of_still_hl_ppsOutEnd {s t : State} (h : still t = still s) : t.hl.ppsOutEnd = s.hl.ppsOutEnd := (congrArg (fun x => x.hl.ppsOutEnd) h : (still t).hl.ppsOutEnd = (still s).hl.ppsOutEnd)
theorem of_still_hl_testIr {s t : State} (h : still t = still s) : t.hl.testIr = s.hl.testIr := (congrArg (fun x => x.hl.testIr) h : (still t).hl.testIr = (still s).hl.testIr)

@[simp] theorem originate_clk (p v : Nat) (k : Packet) (s : State) : (originate p v k s).clk = s.clk := of_still_clk (still_originate p v k s)
@[simp] theorem originate_tt (p v : Nat) (k : Packet) (s : State) : (originate p v k s).tt = s.tt := of_still_tt (still_originate p v k s)
@[simp] theorem originate_ft (p v : Nat) (k : Packet) (s : State) : (originate p v k s).ft = s.ft := of_still_ft (still_originate p v k s)
@[simp] theorem originate_cr (p v : Nat) (k : Packet) (s : State) : (originate p v k s).cr = s.cr := of_still_cr (still_originate p v k s)
@[simp] theorem originate_fm (p v : Nat) (k : Packet) (s : State) : (originate p v k s).fm = s.fm := of_still_fm (still_originate p v k s)
@[simp] theorem originate_tb (p v : Nat) (k : Packet) (s : State) : (originate p v k s).tb = s.tb := of_still_tb (still_originate p v k s)
@[simp] theorem originate_ot (p v : Nat) (k : Packet) (s : State) : (originate p v k s).ot = s.ot := of_still_ot (still_originate p v k s)
@[simp] theorem originate_op (p v : Nat) (k : Packet) (s : State) : (originate p v k s).op = s.op := of_still_op (still_originate p v k s)
@[simp] theorem originate_ch (p v : Nat) (k : Packet) (s : State) : (originate p v k s).ch = s.ch := of_still_ch (still_originate p v k s)
@[simp] theorem originate_rp (p v : Nat) (k : Packet) (s : State) : (originate p v k s).rp = s.rp := of_still_rp (still_originate p v k s)
@[simp] theorem originate_se (p v : Nat) (k : Packet) (s : State) : (originate p v k s).se = s.se := of_still_se (still_originate p v k s)
@[simp] theorem originate_bi (p v : Nat) (k : Packet) (s : State) : (originate p v k s).bi = s.bi := of_still_bi (still_originate p v k s)
@[simp] theorem originate_el (p v : Nat) (k : Packet) (s : State) : (originate p v k s).el = s.el := of_still_el (still_originate p v k s)
@[simp] theorem originate_frame (p v : Nat) (k : Packet) (s : State) : (originate p v k s).frame = s.frame := of_still_frame (still_originate p v k s)
@[simp] theorem originate_pending (p v : Nat) (k : Packet) (s : State) : (originate p v k s).pending = s.pending := of_still_pending (still_originate p v k s)
@[simp] theorem originate_hl_power (p v : Nat) (k : Packet) (s : State) : (originate p v k s).hl.power = s.hl.power := of_still_hl_power (still_originate p v k s)


@[simp] theorem openEnqueue_clk (x : OpenPkt) (s : State) : (openEnqueue x s).clk = s.clk := of_still_clk (still_openEnqueue x s)
@[simp] theorem openEnqueue_tt (x : OpenPkt) (s : State) : (openEnqueue x s).tt = s.tt := of_still_tt (still_openEnqueue x s)
@[simp] theorem openEnqueue_ft (x : OpenPkt) (s : State) : (openEnqueue x s).ft = s.ft := of_still_ft (still_openEnqueue x s)
@[simp] theorem openEnqueue_cr (x : OpenPkt) (s : State) : (openEnqueue x s).cr = s.cr := of_still_cr (still_openEnqueue x s)
@[simp] theorem openEnqueue_fm (x : OpenPkt) (s : State) : (openEnqueue x s).fm = s.fm := of_still_fm (still_openEnqueue x s)
@[simp] theorem openEnqueue_tb (x : OpenPkt) (s : State) : (openEnqueue x s).tb = s.tb := of_still_tb (still_openEnqueue x s)
@[simp] theorem openEnqueue_ot (x : OpenPkt) (s : State) : (openEnqueue x s).ot = s.ot := of_still_ot (still_openEnqueue x s)
@[simp] theorem openEnqueue_op (x : OpenPkt) (s : State) : (openEnqueue x s).op = s.op := of_still_op (still_openEnqueue x s)
@[simp] theorem openEnqueue_ch (x : OpenPkt) (s : State) : (openEnqueue x s).ch = s.ch := of_still_ch (still_openEnqueue x s)
@[simp] theorem openEnqueue_rp (x : OpenPkt) (s : State) : (openEnqueue x s).rp = s.rp := of_still_rp (still_openEnqueue x s)
@[simp] theorem openEnqueue_se (x : OpenPkt) (s : State) : (openEnqueue x s).se = s.se := of_still_se (still_openEnqueue x s)
@[simp] theorem openEnqueue_bi (x : OpenPkt) (s : State) : (openEnqueue x s).bi = s.bi := of_still_bi (still_openEnqueue x s)
@[simp] theorem openEnqueue_el (x : OpenPkt) (s : State) : (openEnqueue x s).el = s.el := of_still_el (still_openEnqueue x s)
@[simp] theorem openEnqueue_frame (x : OpenPkt) (s : State) : (openEnqueue x s).frame = s.frame := of_still_frame (still_openEnqueue x s)
@[simp] theorem openEnqueue_pending (x : OpenPkt) (s : State) : (openEnqueue x s).pending = s.pending := of_still_pending (still_openEnqueue x s)
@[simp] theorem openEnqueue_hl_power (x : OpenPkt) (s : State) : (openEnqueue x s).hl.power = s.hl.power := of_still_hl_power (still_openEnqueue x s)

@[simp] theorem openDrop_clk (c : Nat) (x : OpenPkt) (s : State) : (openDrop c x s).clk = s.clk := of_still_clk (still_openDrop c x s)
@[simp] theorem openDrop_tt (c : Nat) (x : OpenPkt) (s : State) : (openDrop c x s).tt = s.tt := of_still_tt (still_openDrop c x s)
@[simp] theorem openDrop_ft (c : Nat) (x : OpenPkt) (s : State) : (openDrop c x s).ft = s.ft := of_still_ft (still_openDrop c x s)
@[simp] theorem openDrop_cr (c : Nat) (x : OpenPkt) (s : State) : (openDrop c x s).cr = s.cr := of_still_cr (still_openDrop c x s)
@[simp] theorem openDrop_fm (c : Nat) (x : OpenPkt) (s : State) : (openDrop c x s).fm = s.fm := of_still_fm (still_openDrop c x s)
@[simp] theorem openDrop_tb (c : Nat) (x : OpenPkt) (s : State) : (openDrop c x s).tb = s.tb := of_still_tb (still_openDrop c x s)
@[simp] theorem openDrop_ot (c : Nat) (x : OpenPkt) (s : State) : (openDrop c x s).ot = s.ot := of_still_ot (still_openDrop c x s)
@[simp] theorem openDrop_op (c : Nat) (x : OpenPkt) (s : State) : (openDrop c x s).op = s.op := of_still_op (still_openDrop c x s)
@[simp] theorem openDrop_ch (c : Nat) (x : OpenPkt) (s : State) : (openDrop c x s).ch = s.ch := of_still_ch (still_openDrop c x s)
@[simp] theorem openDrop_rp (c : Nat) (x : OpenPkt) (s : State) : (openDrop c x s).rp = s.rp := of_still_rp (still_openDrop c x s)
@[simp] theorem openDrop_se (c : Nat) (x : OpenPkt) (s : State) : (openDrop c x s).se = s.se := of_still_se (still_openDrop c x s)
@[simp] theorem openDrop_bi (c : Nat) (x : OpenPkt) (s : State) : (openDrop c x s).bi = s.bi := of_still_bi (still_openDrop c x s)
@[simp] theorem openDrop_el (c : Nat) (x : OpenPkt) (s : State) : (openDrop c x s).el = s.el := of_still_el (still_openDrop c x s)
@[simp] theorem openDrop_frame (c : Nat) (x : OpenPkt) (s : State) : (openDrop c x s).frame = s.frame := of_still_frame (still_openDrop c x s)
@[simp] theorem openDrop_pending (c : Nat) (x : OpenPkt) (s : State) : (openDrop c x s).pending = s.pending := of_still_pending (still_openDrop c x s)
@[simp] theorem openDrop_hl_power (c : Nat) (x : OpenPkt) (s : State) : (openDrop c x s).hl.power = s.hl.power := of_still_hl_power (still_openDrop c x s)

@[simp] theorem openLeave_clk (x : OpenPkt) (s : State) : (openLeave x s).clk = s.clk := of_still_clk (still_openLeave x s)
@[simp] theorem openLeave_tt (x : OpenPkt) (s : State) : (openLeave x s).tt = s.tt := of_still_tt (still_openLeave x s)
@[simp] theorem openLeave_ft (x : OpenPkt) (s : State) : (openLeave x s).ft = s.ft := of_still_ft (still_openLeave x s)
@[simp] theorem openLeave_cr (x : OpenPkt) (s : State) : (openLeave x s).cr = s.cr := of_still_cr (still_openLeave x s)
@[simp] theorem openLeave_fm (x : OpenPkt) (s : State) : (openLeave x s).fm = s.fm := of_still_fm (still_openLeave x s)
@[simp] theorem openLeave_tb (x : OpenPkt) (s : State) : (openLeave x s).tb = s.tb := of_still_tb (still_openLeave x s)
@[simp] theorem openLeave_ot (x : OpenPkt) (s : State) : (openLeave x s).ot = s.ot := of_still_ot (still_openLeave x s)
@[simp] theorem openLeave_op (x : OpenPkt) (s : State) : (openLeave x s).op = s.op := of_still_op (still_openLeave x s)
@[simp] theorem openLeave_ch (x : OpenPkt) (s : State) : (openLeave x s).ch = s.ch := of_still_ch (still_openLeave x s)
@[simp] theorem openLeave_rp (x : OpenPkt) (s : State) : (openLeave x s).rp = s.rp := of_still_rp (still_openLeave x s)
@[simp] theorem openLeave_se (x : OpenPkt) (s : State) : (openLeave x s).se = s.se := of_still_se (still_openLeave x s)
@[simp] theorem openLeave_bi (x : OpenPkt) (s : State) : (openLeave x s).bi = s.bi := of_still_bi (still_openLeave x s)
@[simp] theorem openLeave_el (x : OpenPkt) (s : State) : (openLeave x s).el = s.el := of_still_el (still_openLeave x s)
@[simp] theorem openLeave_frame (x : OpenPkt) (s : State) : (openLeave x s).frame = s.frame := of_still_frame (still_openLeave x s)
@[simp] theorem openLeave_pending (x : OpenPkt) (s : State) : (openLeave x s).pending = s.pending := of_still_pending (still_openLeave x s)
@[simp] theorem openLeave_hl_power (x : OpenPkt) (s : State) : (openLeave x s).hl.power = s.hl.power := of_still_hl_power (still_openLeave x s)

@[simp] theorem voqTouch_clk (p v : Nat) (s : State) : (voqTouch p v s).clk = s.clk := of_still_clk (still_voqTouch p v s)
@[simp] theorem voqTouch_tt (p v : Nat) (s : State) : (voqTouch p v s).tt = s.tt := of_still_tt (still_voqTouch p v s)
@[simp] theorem voqTouch_ft (p v : Nat) (s : State) : (voqTouch p v s).ft = s.ft := of_still_ft (still_voqTouch p v s)
@[simp] theorem voqTouch_cr (p v : Nat) (s : State) : (voqTouch p v s).cr = s.cr := of_still_cr (still_voqTouch p v s)
@[simp] theorem voqTouch_fm (p v : Nat) (s : State) : (voqTouch p v s).fm = s.fm := of_still_fm (still_voqTouch p v s)
@[simp] theorem voqTouch_tb (p v : Nat) (s : State) : (voqTouch p v s).tb = s.tb := of_still_tb (still_voqTouch p v s)
@[simp] theorem voqTouch_ot (p v : Nat) (s : State) : (voqTouch p v s).ot = s.ot := of_still_ot (still_voqTouch p v s)
@[simp] theorem voqTouch_op (p v : Nat) (s : State) : (voqTouch p v s).op = s.op := of_still_op (still_voqTouch p v s)
@[simp] theorem voqTouch_ch (p v : Nat) (s : State) : (voqTouch p v s).ch = s.ch := of_still_ch (still_voqTouch p v s)
@[simp] theorem voqTouch_rp (p v : Nat) (s : State) : (voqTouch p v s).rp = s.rp := of_still_rp (still_voqTouch p v s)
@[simp] theorem voqTouch_se (p v : Nat) (s : State) : (voqTouch p v s).se = s.se := of_still_se (still_voqTouch p v s)
@[simp] theorem voqTouch_bi (p v : Nat) (s : State) : (voqTouch p v s).bi = s.bi := of_still_bi (still_voqTouch p v s)
@[simp] theorem voqTouch_el (p v : Nat) (s : State) : (voqTouch p v s).el = s.el := of_still_el (still_voqTouch p v s)
@[simp] theorem voqTouch_frame (p v : Nat) (s : State) : (voqTouch p v s).frame = s.frame := of_still_frame (still_voqTouch p v s)
@[simp] theorem voqTouch_pending (p v : Nat) (s : State) : (voqTouch p v s).pending = s.pending := of_still_pending (still_voqTouch p v s)
@[simp] theorem voqTouch_hl_power (p v : Nat) (s : State) : (voqTouch p v s).hl.power = s.hl.power := of_still_hl_power (still_voqTouch p v s)

@[simp] theorem portTouch_clk (p : Nat) (s : State) : (portTouch p s).clk = s.clk := of_still_clk (still_portTouch p s)
@[simp] theorem portTouch_tt (p : Nat) (s : State) : (portTouch p s).tt = s.tt := of_still_tt (still_portTouch p s)
@[simp] theorem portTouch_ft (p : Nat) (s : State) : (portTouch p s).ft = s.ft := of_still_ft (still_portTouch p s)
@[simp] theorem portTouch_cr (p : Nat) (s : State) : (portTouch p s).cr = s.cr := of_still_cr (still_portTouch p s)
@[simp] theorem portTouch_fm (p : Nat) (s : State) : (portTouch p s).fm = s.fm := of_still_fm (still_portTouch p s)
@[simp] theorem portTouch_tb (p : Nat) (s : State) : (portTouch p s).tb = s.tb := of_still_tb (still_portTouch p s)
@[simp] theorem portTouch_ot (p : Nat) (s : State) : (portTouch p s).ot = s.ot := of_still_ot (still_portTouch p s)
@[simp] theorem portTouch_op (p : Nat) (s : State) : (portTouch p s).op = s.op := of_still_op (still_portTouch p s)
@[simp] theorem portTouch_ch (p : Nat) (s : State) : (portTouch p s).ch = s.ch := of_still_ch (still_portTouch p s)
@[simp] theorem portTouch_rp (p : Nat) (s : State) : (portTouch p s).rp = s.rp := of_still_rp (still_portTouch p s)
@[simp] theorem portTouch_se (p : Nat) (s : State) : (portTouch p s).se = s.se := of_still_se (still_portTouch p s)
@[simp] theorem portTouch_bi (p : Nat) (s : State) : (portTouch p s).bi = s.bi := of_still_bi (still_portTouch p s)
@[simp] theorem portTouch_el (p : Nat) (s : State) : (portTouch p s).el = s.el := of_still_el (still_portTouch p s)
@[simp] theorem portTouch_frame (p : Nat) (s : State) : (portTouch p s).frame = s.frame := of_still_frame (still_portTouch p s)
@[simp] theorem portTouch_pending (p : Nat) (s : State) : (portTouch p s).pending = s.pending := of_still_pending (still_portTouch p s)
@[simp] theorem portTouch_hl_power (p : Nat) (s : State) : (portTouch p s).hl.power = s.hl.power := of_still_hl_power (still_portTouch p s)

@[simp] theorem mcastLoss_clk (i k q : Nat) (ps : List Nat) (s : State) : (mcastLoss i k q ps s).clk = s.clk := of_still_clk (still_mcastLoss i k q ps s)
@[simp] theorem mcastLoss_tt (i k q : Nat) (ps : List Nat) (s : State) : (mcastLoss i k q ps s).tt = s.tt := of_still_tt (still_mcastLoss i k q ps s)
@[simp] theorem mcastLoss_ft (i k q : Nat) (ps : List Nat) (s : State) : (mcastLoss i k q ps s).ft = s.ft := of_still_ft (still_mcastLoss i k q ps s)
@[simp] theorem mcastLoss_cr (i k q : Nat) (ps : List Nat) (s : State) : (mcastLoss i k q ps s).cr = s.cr := of_still_cr (still_mcastLoss i k q ps s)
@[simp] theorem mcastLoss_fm (i k q : Nat) (ps : List Nat) (s : State) : (mcastLoss i k q ps s).fm = s.fm := of_still_fm (still_mcastLoss i k q ps s)
@[simp] theorem mcastLoss_tb (i k q : Nat) (ps : List Nat) (s : State) : (mcastLoss i k q ps s).tb = s.tb := of_still_tb (still_mcastLoss i k q ps s)
@[simp] theorem mcastLoss_ot (i k q : Nat) (ps : List Nat) (s : State) : (mcastLoss i k q ps s).ot = s.ot := of_still_ot (still_mcastLoss i k q ps s)
@[simp] theorem mcastLoss_op (i k q : Nat) (ps : List Nat) (s : State) : (mcastLoss i k q ps s).op = s.op := of_still_op (still_mcastLoss i k q ps s)
@[simp] theorem mcastLoss_ch (i k q : Nat) (ps : List Nat) (s : State) : (mcastLoss i k q ps s).ch = s.ch := of_still_ch (still_mcastLoss i k q ps s)
@[simp] theorem mcastLoss_rp (i k q : Nat) (ps : List Nat) (s : State) : (mcastLoss i k q ps s).rp = s.rp := of_still_rp (still_mcastLoss i k q ps s)
@[simp] theorem mcastLoss_se (i k q : Nat) (ps : List Nat) (s : State) : (mcastLoss i k q ps s).se = s.se := of_still_se (still_mcastLoss i k q ps s)
@[simp] theorem mcastLoss_bi (i k q : Nat) (ps : List Nat) (s : State) : (mcastLoss i k q ps s).bi = s.bi := of_still_bi (still_mcastLoss i k q ps s)
@[simp] theorem mcastLoss_el (i k q : Nat) (ps : List Nat) (s : State) : (mcastLoss i k q ps s).el = s.el := of_still_el (still_mcastLoss i k q ps s)
@[simp] theorem mcastLoss_frame (i k q : Nat) (ps : List Nat) (s : State) : (mcastLoss i k q ps s).frame = s.frame := of_still_frame (still_mcastLoss i k q ps s)
@[simp] theorem mcastLoss_pending (i k q : Nat) (ps : List Nat) (s : State) : (mcastLoss i k q ps s).pending = s.pending := of_still_pending (still_mcastLoss i k q ps s)
@[simp] theorem mcastLoss_hl_power (i k q : Nat) (ps : List Nat) (s : State) : (mcastLoss i k q ps s).hl.power = s.hl.power := of_still_hl_power (still_mcastLoss i k q ps s)

@[simp] theorem packetDone_clk (i : Nat) (s : State) : (packetDone i s).clk = s.clk := of_still_clk (still_packetDone i s)
@[simp] theorem packetDone_tt (i : Nat) (s : State) : (packetDone i s).tt = s.tt := of_still_tt (still_packetDone i s)
@[simp] theorem packetDone_ft (i : Nat) (s : State) : (packetDone i s).ft = s.ft := of_still_ft (still_packetDone i s)
@[simp] theorem packetDone_cr (i : Nat) (s : State) : (packetDone i s).cr = s.cr := of_still_cr (still_packetDone i s)
@[simp] theorem packetDone_fm (i : Nat) (s : State) : (packetDone i s).fm = s.fm := of_still_fm (still_packetDone i s)
@[simp] theorem packetDone_tb (i : Nat) (s : State) : (packetDone i s).tb = s.tb := of_still_tb (still_packetDone i s)
@[simp] theorem packetDone_ot (i : Nat) (s : State) : (packetDone i s).ot = s.ot := of_still_ot (still_packetDone i s)
@[simp] theorem packetDone_op (i : Nat) (s : State) : (packetDone i s).op = s.op := of_still_op (still_packetDone i s)
@[simp] theorem packetDone_ch (i : Nat) (s : State) : (packetDone i s).ch = s.ch := of_still_ch (still_packetDone i s)
@[simp] theorem packetDone_rp (i : Nat) (s : State) : (packetDone i s).rp = s.rp := of_still_rp (still_packetDone i s)
@[simp] theorem packetDone_se (i : Nat) (s : State) : (packetDone i s).se = s.se := of_still_se (still_packetDone i s)
@[simp] theorem packetDone_bi (i : Nat) (s : State) : (packetDone i s).bi = s.bi := of_still_bi (still_packetDone i s)
@[simp] theorem packetDone_el (i : Nat) (s : State) : (packetDone i s).el = s.el := of_still_el (still_packetDone i s)
@[simp] theorem packetDone_frame (i : Nat) (s : State) : (packetDone i s).frame = s.frame := of_still_frame (still_packetDone i s)
@[simp] theorem packetDone_pending (i : Nat) (s : State) : (packetDone i s).pending = s.pending := of_still_pending (still_packetDone i s)
@[simp] theorem packetDone_hl_power (i : Nat) (s : State) : (packetDone i s).hl.power = s.hl.power := of_still_hl_power (still_packetDone i s)

@[simp] theorem freeCredit_clk (p l v : Nat) (k : Packet) (s : State) : (freeCredit p l v k s).clk = s.clk := of_still_clk (still_freeCredit p l v k s)
@[simp] theorem freeCredit_tt (p l v : Nat) (k : Packet) (s : State) : (freeCredit p l v k s).tt = s.tt := of_still_tt (still_freeCredit p l v k s)
@[simp] theorem freeCredit_ft (p l v : Nat) (k : Packet) (s : State) : (freeCredit p l v k s).ft = s.ft := of_still_ft (still_freeCredit p l v k s)
@[simp] theorem freeCredit_cr (p l v : Nat) (k : Packet) (s : State) : (freeCredit p l v k s).cr = s.cr := of_still_cr (still_freeCredit p l v k s)
@[simp] theorem freeCredit_fm (p l v : Nat) (k : Packet) (s : State) : (freeCredit p l v k s).fm = s.fm := of_still_fm (still_freeCredit p l v k s)
@[simp] theorem freeCredit_tb (p l v : Nat) (k : Packet) (s : State) : (freeCredit p l v k s).tb = s.tb := of_still_tb (still_freeCredit p l v k s)
@[simp] theorem freeCredit_ot (p l v : Nat) (k : Packet) (s : State) : (freeCredit p l v k s).ot = s.ot := of_still_ot (still_freeCredit p l v k s)
@[simp] theorem freeCredit_op (p l v : Nat) (k : Packet) (s : State) : (freeCredit p l v k s).op = s.op := of_still_op (still_freeCredit p l v k s)
@[simp] theorem freeCredit_ch (p l v : Nat) (k : Packet) (s : State) : (freeCredit p l v k s).ch = s.ch := of_still_ch (still_freeCredit p l v k s)
@[simp] theorem freeCredit_rp (p l v : Nat) (k : Packet) (s : State) : (freeCredit p l v k s).rp = s.rp := of_still_rp (still_freeCredit p l v k s)
@[simp] theorem freeCredit_se (p l v : Nat) (k : Packet) (s : State) : (freeCredit p l v k s).se = s.se := of_still_se (still_freeCredit p l v k s)
@[simp] theorem freeCredit_bi (p l v : Nat) (k : Packet) (s : State) : (freeCredit p l v k s).bi = s.bi := of_still_bi (still_freeCredit p l v k s)
@[simp] theorem freeCredit_el (p l v : Nat) (k : Packet) (s : State) : (freeCredit p l v k s).el = s.el := of_still_el (still_freeCredit p l v k s)
@[simp] theorem freeCredit_frame (p l v : Nat) (k : Packet) (s : State) : (freeCredit p l v k s).frame = s.frame := of_still_frame (still_freeCredit p l v k s)
@[simp] theorem freeCredit_pending (p l v : Nat) (k : Packet) (s : State) : (freeCredit p l v k s).pending = s.pending := of_still_pending (still_freeCredit p l v k s)
@[simp] theorem freeCredit_hl_power (p l v : Nat) (k : Packet) (s : State) : (freeCredit p l v k s).hl.power = s.hl.power := of_still_hl_power (still_freeCredit p l v k s)


/-! ### What a packet that is queued leaves -/

theorem map_voqTouch (p v : Nat) (s : State) :
    ∃ f : OpenPkt → OpenPkt, (∀ x, (f x).egress = x.egress ∧ (f x).vc = x.vc ∧ (f x).pkt = x.pkt ∧ (f x).id = x.id)
      ∧ (voqTouch p v s).dp.openq = s.dp.openq.map f := by
  have h : quiet (if pairEligible s p v = true then s
      else List.foldl (fun s x => tally E.OT_SHAPER_HOLDS (benchOf p) 118 1 { q := some (p % 4), vc := some v } s) s
        (List.filter (fun x => x.headAt.isNone && x.expire.isNone) (voqHeads s p v))) = quiet s := by
    split
    · rfl
    · exact quiet_foldl _ (fun s a => by simp) _ _
  rw [← congrArg DpState.openq (of_quiet_dp h)]
  refine ⟨_, ?_, rfl⟩
  intro x; split <;> exact ⟨rfl, rfl, rfl, rfl⟩

theorem waits_voqTouch {p vc q v : Nat} {k : Packet} {s : State} (h : Waits s p vc k) : Waits (voqTouch q v s) p vc k := by
  obtain ⟨f, hf, e⟩ := map_voqTouch q v s
  obtain ⟨x, hx, h1, h2, h3⟩ := h
  refine ⟨f x, by rw [e]; exact List.mem_map_of_mem hx, ?_⟩
  obtain ⟨f1, f2, f3, -⟩ := hf x
  exact ⟨f1.trans h1, f2.trans h2, f3.trans h3⟩

theorem mem_placed {α : Type} (c : Prop) [Decidable c] (a b l : List α) (z : α) : z ∈ (if c then a ++ [z] ++ b else l ++ [z]) := by
  split <;> simp

/-- A packet for a port that can carry it waits there once it is queued. -/
theorem waits_openEnqueue {x : OpenPkt} {s : State} (h : cellBad s x = false) :
    Waits (openEnqueue x s) x.egress x.vc x.pkt := by
  unfold openEnqueue; dsimp only; rw [if_neg (by simp [h])]
  apply waits_voqTouch
  exact ⟨_, mem_placed _ _ _ _ _, rfl, rfl, rfl⟩

/-- A packet that the part originates waits on its port. -/
theorem waits_originate {p v : Nat} {k : Packet} {s : State} (h : (portCell s p && !cellFits k) = false) :
    Waits (originate p v k s) p v k := waits_openEnqueue (x := { id := s.dp.nextId, pkt := k, port := 512, lane := 0, egress := p, vc := v, arrived := now s, stamp := 0, headAt := none, safe := none, escaped := false, expire := if isTime s k then some (s.clk.tick + 1) else none, blocked := none, pooled := 0, parent := none }) (s := { s with dp := { s.dp with nextId := s.dp.nextId + 1 } }) h

end Sys2Proof.Machine
end

