-- ==== Sys2Proof/Laws/Sends.lean ====
section
/-! SUPPORT. What a command has sent stays sent: later acts of the same command only add to it. -/
namespace Sys2Proof.Machine
open Sys2Proof

/-- `t` has sent all that `s` has, in the same order, and perhaps more. -/
def Grows (s t : State) : Prop := s.out <+: t.out

theorem grows_rfl (s : State) : Grows s s := List.prefix_refl _
theorem grows_trans {s t u : State} (h : Grows s t) (k : Grows t u) : Grows s u := List.IsPrefix.trans h k
theorem grows_of_out {s t : State} (h : t.out = s.out) : Grows s t := by unfold Grows; rw [h]
/-- What grows from a state grows from any other that has sent the same. -/
theorem grows_via {s t u : State} (k : Grows t u) (h : t.out = s.out) : Grows s u := by unfold Grows at *; rw [← h]; exact k
theorem grows_mem {s t : State} {o : Output} (h : Grows s t) (m : o ∈ s.out) : o ∈ t.out := h.subset m
theorem grows_foldl {α : Type} (f : State → α → State) (h : ∀ s a, Grows s (f s a)) (l : List α) (s : State) :
    Grows s (l.foldl f s) := by
  induction l generalizing s with
  | nil => exact grows_rfl s
  | cons a l ih => exact grows_trans (h s a) (ih (f s a))

/-! ### Reports -/

theorem grows_emit (o : Output) (s : State) : Grows s (emit o s) := List.prefix_append _ _
theorem grows_count (e n : Nat) (s : State) : Grows s (count e n s) := grows_rfl s
theorem grows_setPc (h : Nat) (f : PcieFn → PcieFn) (s : State) : Grows s (setPc h f s) := grows_rfl s
theorem grows_setController (h : Nat) (f : Controller → Controller) (s : State) : Grows s (setController h f s) := grows_rfl s
theorem grows_accum (c k : Nat) (l : List Item) (n : List Nat) (m : Option Nat) (s : State) : Grows s (accum c k l n m s) := by
  unfold accum; dsimp only; split <;> exact grows_rfl s
theorem grows_signal (h v : Nat) (s : State) : Grows s (signal h v s) := by
  obtain ⟨f, e | e⟩ := signal_cases h v s <;> rw [e]
  · exact grows_rfl s
  · exact grows_trans (grows_setPc h f s) (grows_emit _ _)
theorem grows_dropEvent (k : Nat) (s : State) : Grows s (dropEvent k s) := grows_via (grows_accum _ _ _ _ _ _) rfl
theorem grows_hostQueue (e : EventRec) (h : Nat) (s : State) : Grows s (hostQueue e h s) := by
  unfold hostQueue; dsimp only; split
  · exact grows_rfl s
  · split
    · exact grows_via (grows_dropEvent _ _) rfl
    · exact grows_trans (grows_via (grows_emit _ (setPc h _ s)) rfl) (grows_signal _ _ _)
theorem grows_toHost (e : EventRec) (h : Nat) (s : State) : Grows s (toHost e h s) := by
  unfold toHost; split
  · exact grows_rfl s
  · exact grows_hostQueue _ _ _
theorem grows_toSub (e : EventRec) (n : Nat) (s : State) : Grows s (toSub e n s) := by
  unfold toSub; split
  · exact grows_rfl s
  · split
    · exact grows_rfl s
    · split
      · exact grows_dropEvent _ _
      · exact grows_rfl s
theorem grows_raise (c : Nat) (l : List Item) (s : State) : Grows s (raise c l s) := by
  unfold raise; dsimp only
  refine grows_trans ?_ (grows_foldl _ (fun s n => grows_toSub _ n s) _ _)
  refine grows_trans ?_ (grows_toHost _ _ _)
  refine grows_trans ?_ (grows_toHost _ _ _)
  split <;> exact grows_rfl s
theorem grows_raiseOnce (c k : Nat) (l : List Item) (s : State) : Grows s (raiseOnce c k l s) := by
  unfold raiseOnce; split
  · exact grows_rfl s
  · exact grows_via (grows_raise c l _) rfl
theorem grows_progAdd (b k n : Nat) (s : State) : Grows s (progAdd b k n s) := by
  unfold progAdd; dsimp only; split
  · exact grows_rfl s
  · split <;> exact grows_rfl s
theorem grows_occ (b v n : Nat) (a : OccAttr) (s : State) : Grows s (occ b v n a s) := by
  unfold occ; dsimp only; split
  · split <;> exact grows_rfl s
  · refine grows_trans ?_ (grows_foldl _ (fun s k => ?_) _ _)
    · split <;> exact grows_rfl s
    · split
      · split
        · exact grows_trans (grows_progAdd _ _ _ _) (grows_raiseOnce _ _ _ _)
        · exact grows_progAdd _ _ _ _
      · exact grows_rfl s
theorem grows_tally (e b v n : Nat) (a : OccAttr) (s : State) : Grows s (tally e b v n a s) := grows_occ b v n a (count e n s)
theorem grows_occLane (p l e n : Nat) (a : OccAttr) (s : State) : Grows s (occLane p l e n a s) :=
  grows_trans (grows_occ _ _ _ _ _) (grows_occ _ _ _ _ _)
theorem grows_occPort (p k n : Nat) (a : OccAttr) (s : State) : Grows s (occPort p k n a s) := grows_occ _ _ _ _ _
theorem grows_occSent (p l v : Nat) (k : Packet) (s : State) : Grows s (occSent p l v k s) :=
  grows_trans (grows_occLane _ _ _ _ _ _) (grows_trans (grows_occLane _ _ _ _ _ _)
    (grows_trans (grows_occPort _ _ _ _ _) (grows_occPort _ _ _ _ _)))

/-! ### Captures, queues and lanes -/

theorem grows_capStage (r : Bytes) (s : State) : Grows s (capStage r s) := by
  unfold capStage; dsimp only; split
  · exact grows_rfl s
  · split
    · exact grows_via (grows_accum _ _ _ _ _ _) rfl
    · exact grows_rfl s
theorem grows_capDrop (i c : Nat) (s : State) : Grows s (capDrop i c s) := by
  unfold capDrop; refine grows_foldl _ (fun s a => ?_) _ _
  split
  · exact grows_capStage _ s
  · exact grows_rfl s
theorem grows_capSent (i : Nat) (o : CapOut) (s : State) : Grows s (capSent i o s) := by
  unfold capSent; refine grows_foldl _ (fun s a => ?_) _ _
  exact grows_capStage _ s
theorem grows_setLink (p : Nat) (f : Link → Link) (s : State) : Grows s (setLink p f s) := grows_rfl s
theorem grows_mcastReport (i : Nat) (s : State) : Grows s (mcastReport i s) := by
  unfold mcastReport; split
  · exact grows_rfl s
  · exact grows_via (grows_raiseOnce _ _ _ _) rfl
theorem grows_packetDone (i : Nat) (s : State) : Grows s (packetDone i s) := by
  unfold packetDone; dsimp only; split
  · exact grows_of_out rfl
  · exact grows_trans (grows_mcastReport i s) (grows_of_out rfl)
theorem grows_mcastLoss (i k q : Nat) (ps : List Nat) (s : State) : Grows s (mcastLoss i k q ps s) := by
  unfold mcastLoss; split
  · exact grows_rfl s
  · exact grows_trans (grows_foldl (fun s p => tally E.DP_MCAST_COPY_DROPS (benchOf p) 44 1 {} s)
      (fun s a => grows_tally _ _ _ _ _ s) ps s) (grows_of_out rfl)
theorem grows_freeCredit (p l v : Nat) (k : Packet) (s : State) : Grows s (freeCredit p l v k s) := by
  unfold freeCredit; split <;> exact grows_rfl s
theorem grows_voqTouch (p v : Nat) (s : State) : Grows s (voqTouch p v s) := by
  unfold voqTouch; dsimp only
  refine grows_trans (t := if pairEligible s p v = true then s
      else List.foldl (fun s x => tally E.OT_SHAPER_HOLDS (benchOf p) 118 1 { q := some (p % 4), vc := some v } s) s
        (List.filter (fun x => x.headAt.isNone && x.expire.isNone) (voqHeads s p v))) ?_ (grows_of_out rfl)
  split
  · exact grows_rfl s
  · exact grows_foldl _ (fun s a => grows_tally _ _ _ _ _ _) _ _
theorem grows_portTouch (p : Nat) (s : State) : Grows s (portTouch p s) :=
  grows_trans (grows_voqTouch _ _ _) (grows_trans (grows_voqTouch _ _ _) (grows_voqTouch _ _ _))
theorem grows_openLeave (x : OpenPkt) (s : State) : Grows s (openLeave x s) := by
  unfold openLeave; dsimp only
  refine grows_trans ?_ (grows_voqTouch _ _ _)
  repeat' split
  all_goals first | exact grows_of_out rfl | exact grows_via (grows_trans (grows_freeCredit _ _ _ _ _) (grows_packetDone _ _)) rfl
theorem grows_openDrop (c : Nat) (x : OpenPkt) (s : State) : Grows s (openDrop c x s) := by
  unfold openDrop; dsimp only
  refine grows_trans (grows_capDrop (x.parent.getD x.id) c s) (grows_trans ?_ (grows_openLeave _ _))
  split
  · exact grows_rfl _
  · exact grows_mcastLoss _ _ _ _ _
theorem grows_noCell (p : Nat) (s : State) : Grows s (noCell p s) := grows_via (grows_raiseOnce _ _ _ _) rfl
theorem grows_busyAdd (k n c : Nat) (s : State) : Grows s (busyAdd k n c s) := grows_of_out rfl
theorem grows_occCycles (k v b n : Nat) (c : Bool) (s : State) : Grows s (occCycles k v b n c s) := by
  unfold occCycles; dsimp only
  refine grows_trans (grows_occ b v n {} s) (grows_trans ?_ (grows_busyAdd _ _ _ _))
  split
  · exact grows_occ _ _ _ _ _
  · exact grows_rfl _
/-- What crosses to a bench is counted, and sends nothing. -/
theorem grows_crossOnce (i a b n j : Nat) (c : Bool) (s : State) : Grows s (crossOnce i a b n j c s) := by
  unfold crossOnce crossAdd; split
  · exact grows_rfl s
  · split
    · exact grows_of_out rfl
    · dsimp only
      split
      · exact grows_via (grows_trans (grows_occCycles 256 164 a _ c _) (grows_occCycles _ _ _ _ _ _)) rfl
      · exact grows_via (grows_trans (grows_occCycles 256 164 a _ c _) (grows_trans (grows_occCycles _ _ _ _ _ _) (grows_busyAdd _ _ _ _))) rfl
theorem grows_emitOn (p l : Nat) (k : Packet) (s : State) : Grows s (emitOn p l k s) := by
  unfold emitOn; dsimp only; split
  · exact grows_trans (grows_emit _ _) (grows_emit _ _)
  · exact grows_emit _ _
theorem mem_emitOn (p l : Nat) (k : Packet) (s : State) : Output.packet p l k ∈ (emitOn p l k s).out := by
  unfold emitOn; dsimp only; split <;> simp [emit]
theorem grows_onWire (p l i w : Nat) (s : State) : Grows s (onWire p l i w s) := grows_rfl s
theorem grows_cutBegin (i p l : Nat) (s : State) : Grows s (cutBegin i p l s) := grows_rfl s
theorem grows_laneNote (k : Nat) (s : State) : Grows s (laneNote k s) := grows_rfl s
theorem grows_slotUsed (p l e : Nat) (s : State) : Grows s (slotUsed p l e s) := by
  unfold slotUsed; dsimp only
  generalize hs : ({ s with dp := { s.dp with idle := s.dp.idle.filter fun x => x != p * 5 + l } } : State) = s1
  have h : Grows s s1 := grows_of_out (by rw [← hs])
  replace h := grows_trans h (grows_trans (grows_occLane p l e 1 {} s1) (grows_trans (grows_occ (benchOf p) 167 1 {} _)
    (grows_trans (grows_occPort p 4 1 {} _) (grows_busyAdd (512 + benchOf p) 1 (if e = 32 then 1 else 0) _))))
  generalize busyAdd (512 + benchOf p) 1 (if e = 32 then 1 else 0) (occPort p 4 1 {} (occ (benchOf p) 167 1 {} (occLane p l e 1 {} s1))) = s2
    at h ⊢
  split
  · exact grows_trans h (grows_occ _ _ _ _ _)
  · exact h
theorem grows_setServo (d : Nat) (f : Servo → Servo) (s : State) : Grows s (setServo d f s) := by
  unfold setServo; split <;> exact grows_rfl s
theorem grows_ptpLeaves (p : Nat) (k : Packet) (s : State) : Grows s (ptpLeaves p k s).2 := by
  unfold ptpLeaves; split
  · exact grows_rfl s
  · dsimp only; split
    · exact grows_setServo _ _ _
    all_goals exact grows_rfl s
theorem grows_chargePair (p v : Nat) (k : Packet) (s : State) : Grows s (chargePair p v k s) := by
  unfold chargePair; refine grows_foldl _ (fun s n => ?_) _ _
  exact grows_rfl s

/-! ### Open packets that start, and the gap slot -/

theorem grows_withWire (l : List OnWire) (s : State) : Grows s { s with dp := { s.dp with wire := l } } := grows_rfl s
theorem grows_onWireFrom (p l i w : Nat) (s : State) : Grows s (onWireFrom p l i w s) := grows_rfl s
/-- A link-local packet is sent in addition. -/
theorem grows_sendLocal (p op : Nat) (b : Bytes) (s : State) : Grows s (sendLocal p op b s) := by
  unfold sendLocal; split
  · exact grows_rfl s
  · next w _ =>
    split
    · exact grows_rfl s
    · next t _ =>
      dsimp only
      generalize mkControl _ _ _ _ _ _ _ _ _ _ _ _ _ = k
      generalize hs : onWireFrom p w t (wirePs 64) (occSent p w Vc.MC k (emitOn p w k s)) = s1
      have h : Grows s s1 := hs ▸ grows_trans (grows_emitOn p w k s) (grows_trans (grows_occSent _ _ _ _ _) (grows_onWireFrom _ _ _ _ _))
      replace h := grows_trans h (t := s1) (u := if (slotOf t).2 = 24 then occLane p w 36 64 {} s1 else s1)
        (by split; exact grows_occLane _ _ _ _ _ _; exact grows_rfl _)
      generalize (if (slotOf t).2 = 24 then occLane p w 36 64 {} s1 else s1) = s2 at h ⊢
      split
      · exact grows_trans h (grows_slotUsed _ _ _ _)
      · exact h
theorem grows_sendParams (p : Nat) (s : State) : Grows s (sendParams p s) := by
  unfold sendParams; split
  · exact grows_rfl s
  · exact grows_trans (grows_sendLocal _ _ _ _) (grows_setLink _ _ _)
theorem grows_heartbeatSend (p : Nat) (s : State) : Grows s (heartbeatSend p s) := by
  unfold heartbeatSend; split
  · exact grows_rfl s
  · exact grows_via (grows_sendLocal _ _ _ _) rfl
theorem grows_noticeOut (p : Nat) (s : State) : Grows s (noticeOut p s) := by
  unfold noticeOut; split
  · exact grows_rfl s
  · split
    · exact grows_rfl s
    · exact grows_via (grows_sendLocal _ _ _ _) rfl
theorem grows_movesOut (p : Nat) (s : State) : Grows s (movesOut p s) := by
  unfold movesOut; dsimp only
  refine grows_trans (t := { s with op := { s.op with outbox := s.op.outbox.filter fun x => x.1 != p } }) (grows_rfl s)
    (grows_foldl _ (fun s x => ?_) _ _)
  refine grows_via (grows_sendLocal _ _ _ _) ?_
  split <;> rfl
theorem grows_gapLocal (p : Nat) (s : State) : Grows (sendLocal p Op.CREDIT (creditBody s p) s) (gapLocal p s) := by
  unfold gapLocal; dsimp only
  refine grows_trans ?_ (grows_movesOut _ _)
  generalize sendLocal p Op.CREDIT (creditBody s p) s = s1
  have h2 : Grows s1 (if (decide (s1.clk.tick % 1024 = 0) || limitsNew s1 p) = true then sendParams p s1 else s1) := by
    split
    · exact grows_sendParams _ _
    · exact grows_rfl _
  refine grows_trans h2 ?_
  generalize (if (decide (s1.clk.tick % 1024 = 0) || limitsNew s1 p) = true then sendParams p s1 else s1) = s2
  have h3 : Grows s2 (if s2.clk.tick % max (Cfg.HL_HB_INTERVAL_TICKS s2) 1 = p % max (Cfg.HL_HB_INTERVAL_TICKS s2) 1
      then heartbeatSend p s2 else s2) := by
    split
    · exact grows_heartbeatSend _ _
    · exact grows_rfl _
  refine grows_trans h3 ?_
  generalize (if s2.clk.tick % max (Cfg.HL_HB_INTERVAL_TICKS s2) 1 = p % max (Cfg.HL_HB_INTERVAL_TICKS s2) 1
      then heartbeatSend p s2 else s2) = s3
  have h4 : Grows s3 (if portUp s3 p = true then noticeOut p s3 else s3) := by
    split
    · exact grows_noticeOut _ _
    · exact grows_rfl _
  refine grows_trans h4 ?_
  generalize (if portUp s3 p = true then noticeOut p s3 else s3) = s4
  split
  · exact grows_sendLocal _ _ _ _
  · exact grows_rfl _

theorem grows_chooseOpen (p w : Nat) (f : OpenPkt → Bool) (l : List Nat) (s : State) : Grows s (chooseOpen p w f l s).1 := by
  induction l generalizing s with
  | nil => exact grows_rfl s
  | cons a l ih =>
    unfold chooseOpen; split
    · exact ih s
    · repeat' split
      all_goals first | exact grows_rfl s | exact grows_trans (grows_tally E.OT_GAP_PASSES (benchOf p) 117 1 _ s) (ih _)

theorem grows_openForm (p : Nat) (x : OpenPkt) (s : State) : Grows s (openForm p x s).2 := by
  unfold openForm; split
  · dsimp only; split <;> exact grows_rfl s
  · exact grows_ptpLeaves _ _ _
theorem grows_cellsOut (p w v i : Nat) (k : Packet) (s : State) : Grows s (cellsOut p w v i k s) := by
  unfold cellsOut; dsimp only
  exact grows_trans (grows_foldl _ (fun s b => grows_emit _ s) _ _) (grows_trans (grows_setLink _ _ _) (grows_onWire _ _ _ _ _))
theorem grows_wireOut (p w v i : Nat) (k : Packet) (s : State) : Grows s (wireOut p w v i k s) := by
  unfold wireOut; dsimp only
  generalize hs : setLink p _ s = s1
  have h : Grows s (onWire p w i (wirePs (pkWire k)) (emitOn p w k s1)) :=
    grows_trans (hs ▸ grows_setLink _ _ _) (grows_trans (grows_emitOn _ _ _ _) (grows_onWire _ _ _ _ _))
  generalize onWire p w i (wirePs (pkWire k)) (emitOn p w k s1) = s2 at h ⊢
  replace h := grows_trans h (t := s2) (u := if (slotOf (now s)).2 = 24 then occLane p w 36 (pkWire k) {} s2 else s2)
    (by split; exact grows_occLane _ _ _ _ _ _; exact grows_rfl _)
  generalize (if (slotOf (now s)).2 = 24 then occLane p w 36 (pkWire k) {} s2 else s2) = s3 at h ⊢
  split
  · exact grows_trans h (grows_slotUsed _ _ _ _)
  · exact h
theorem grows_takeTurn (p v b : Nat) (s : State) : Grows s (takeTurn p v b s) := grows_rfl s
theorem grows_startOpen (p w : Nat) (x : OpenPkt) (s : State) : Grows s (startOpen p w x s) := by
  unfold startOpen; split
  · exact grows_trans (grows_noCell _ _) (grows_openDrop _ _ _)
  · dsimp only
    refine grows_trans ?_ (grows_openLeave _ _)
    refine grows_trans ?_ (grows_capSent _ _ _)
    refine grows_trans ?_ (grows_cutBegin _ _ _ _)
    refine grows_trans ?_ (grows_count _ _ _)
    refine grows_trans ?_ (grows_occSent _ _ _ _ _)
    refine grows_trans (grows_openForm p x s) ?_
    generalize openForm p x s = r
    refine grows_trans (grows_crossOnce (x.parent.getD x.id) (benchOf x.port) (benchOf p) (pkWire r.1) (slotIndex r.2) false r.2) ?_
    generalize crossOnce (x.parent.getD x.id) (benchOf x.port) (benchOf p) (pkWire r.1) (slotIndex r.2) false r.2 = s1
    refine grows_trans (grows_takeTurn p x.vc (benchOf x.port) s1) ?_
    refine grows_trans (grows_chargePair p x.vc r.1 _) ?_
    split
    · exact grows_cellsOut _ _ _ _ _ _
    · exact grows_wireOut _ _ _ _ _ _
theorem grows_startAfter (p w : Nat) (s : State) : Grows s (startAfter p w s) := by
  unfold startAfter; split <;> exact grows_rfl s
theorem grows_startChosen (p w : Nat) (r : State × Option OpenPkt) : Grows r.1 (startChosen p w r) := by
  unfold startChosen; split
  · exact grows_rfl _
  · exact grows_startOpen _ _ _ _
/-- A start sends what it sends in addition. -/
theorem grows_openStart (p w : Nat) (f : OpenPkt → Bool) (s : State) : Grows s (openStart p w f s) := by
  have h := grows_trans (grows_startAfter p w s) (grows_trans
    (grows_chooseOpen p w f (if throttleOf s (dieOf p) < 2 then [3, 2, 1] else [3, 2]) (startAfter p w s)) (grows_startChosen p w _))
  unfold openStart; dsimp only
  repeat' split
  all_goals first | exact grows_rfl s | (simp only [*, if_true, if_false] at h; exact grows_trans h (grows_of_out rfl))

end Sys2Proof.Machine
end

