-- ==== Sys2Proof/Laws/Time.lean ====
section
/-! SUPPORT. The servos and the generator: what each shared operation of chapter 3 does. -/
namespace Sys2Proof.Machine
open Sys2Proof

/-! ### One servo -/

@[simp] theorem servoOf_setServo (d : Nat) (f : Servo → Servo) (s : State) : servoOf (setServo d f s) d = f (servoOf s d) := by
  unfold servoOf setServo; by_cases h : d = 0 <;> simp [h]
@[simp] theorem servoOf_raise (d c : Nat) (l : List Item) (s : State) : servoOf (raise c l s) d = servoOf s d := by simp [servoOf]
@[simp] theorem servoOf_raiseOnce (d c k : Nat) (l : List Item) (s : State) : servoOf (raiseOnce c k l s) d = servoOf s d := by simp [servoOf]
@[simp] theorem servoOf_count (d e n : Nat) (s : State) : servoOf (count e n s) d = servoOf s d := rfl
@[simp] theorem servoOf_setGen (d : Nat) (g : GenSt) (s : State) : servoOf (setGen g s) d = servoOf s d := rfl
@[simp] theorem setServo_gen (d : Nat) (f : Servo → Servo) (s : State) : (setServo d f s).ft.gen = s.ft.gen := by
  unfold setServo; split <;> rfl
@[simp] theorem setServo_acts (d : Nat) (f : Servo → Servo) (s : State) : (setServo d f s).ft.acts = s.ft.acts := by
  unfold setServo; split <;> rfl
@[simp] theorem setServo_active (d : Nat) (f : Servo → Servo) (s : State) : (setServo d f s).ft.active = s.ft.active := by
  unfold setServo; split <;> rfl
@[simp] theorem setServo_clk' (d : Nat) (f : Servo → Servo) (s : State) : (setServo d f s).clk = s.clk := by
  unfold setServo; split <;> rfl
@[simp] theorem setServo_dict' (d : Nat) (f : Servo → Servo) (s : State) : (setServo d f s).dict = s.dict := by
  unfold setServo; split <;> rfl

/-! ### The generator's judgement (R86) -/

@[simp] theorem servoOf_genJudge (d : Nat) (s : State) : servoOf (genJudge s) d = servoOf s d := by
  unfold genJudge; dsimp only; split
  · simp [servoOf, setGen]
  · split <;> simp

/-- A generator that is FREE stays so until the first lock, and no judgement makes one FREE. -/
theorem genJudge_free (s : State) : (genJudge s).ft.gen = .free ↔ s.ft.gen = .free := by
  unfold genJudge; dsimp only; split
  · rename_i h; rw [raise_ft]; simp only [setGen]
    refine ⟨fun e => (GenSt.noConfusion e), fun e => ?_⟩
    rw [e] at h; simp at h
  · split
    · rename_i h; simp only [Bool.and_eq_true, decide_eq_true_eq] at h
      rw [raise_ft, h.1]; simp only [setGen]; split <;> simp
    · exact Iff.rfl

/-! ### A servo changes state (R81) -/

@[simp] theorem servoGo_state (d : Nat) (n : ServoSt) (s : State) : (servoOf (servoGo d n s) d).state = n := by
  unfold servoGo; dsimp only; split
  · assumption
  · simp

theorem servoGo_free (d : Nat) (n : ServoSt) (s : State) : (servoGo d n s).ft.gen = .free ↔ s.ft.gen = .free := by
  unfold servoGo; dsimp only; split
  · exact Iff.rfl
  · rw [genJudge_free]; simp

/-- A change of state keeps the servo's samples. -/
@[simp] theorem servoGo_ring (d : Nat) (n : ServoSt) (s : State) : (servoOf (servoGo d n s) d).ring = (servoOf s d).ring := by
  unfold servoGo; dsimp only; split
  · rfl
  · simp

/-! ### Timed actions (R90, R91) -/

/-- An entry in a final state holds its record in that state. -/
@[simp] theorem get?_actEndWith (m : List Item) (n : Nat) (a : ActEntry) (st : ActSt) (s : State) :
    SMap.get? (actEndWith m n a st s).ft.acts n = some { a with state := st } := by
  unfold actEndWith; dsimp only; rw [raise_ft]; exact get?_set_self _ _ _
@[simp] theorem actState_actEndWith (m : List Item) (n : Nat) (a : ActEntry) (st : ActSt) (s : State) :
    actStateOf (actEndWith m n a st s) n = some st := by simp [actStateOf]
@[simp] theorem actState_actEnd (n : Nat) (a : ActEntry) (st : ActSt) (s : State) : actStateOf (actEnd n a st s) n = some st :=
  actState_actEndWith _ _ _ _ _
/-- The end of an entry changes the table and the reports alone. -/
theorem quiet_actEndWith (m : List Item) (n : Nat) (a : ActEntry) (st : ActSt) (s : State) :
    quiet (actEndWith m n a st s) = quiet (setAct n { a with state := st } s) := by unfold actEndWith; simp
theorem actFire_of_turn {n c : Nat} {a : ActEntry} {f : ActEntry → State → State} {s : State} (h : actTurn n c s = some a) :
    actFire n c f s = f a (actEnd n a .fired s) := by unfold actFire; rw [h]

/-! ### A sample (R80) -/

theorem firstLock_eq (d : Nat) (s : State) (h : s.ft.gen ≠ .free) : firstLock d s = s := by simp [firstLock, h]

theorem lockJudge_ring (d : Nat) (s : State) (h : s.ft.gen ≠ .free) : (servoOf (lockJudge d s) d).ring = (servoOf s d).ring := by
  unfold lockJudge; dsimp only; split
  · generalize (if absInt (servoOf s d).last ≤ ftLock s d then (servoOf s d).good + 1 else 0) = g
    split
    · rw [firstLock_eq]
      · simp
      · rw [ne_eq, servoGo_free]; simpa using h
    · simp
  · generalize (if absInt (servoOf s d).last > 2 * ftLock s d then (servoOf s d).bad + 1 else 0) = g
    split <;> simp
  · rfl

@[simp] theorem alignJudge_ring (d : Nat) (s : State) : (servoOf (alignJudge d s) d).ring = (servoOf s d).ring := by
  unfold alignJudge; dsimp only; split
  · rfl
  · split
    · split <;> simp
    · simp
@[simp] theorem splitJudge_servo (d : Nat) (s : State) : servoOf (splitJudge s) d = servoOf s d := by
  unfold splitJudge; dsimp only; split <;> simp

/-- The servo of `d` holds the samples `r`, and the generator has had its step. -/
def Sampled (d : Nat) (r : List Int) (s : State) : Prop := (servoOf s d).ring = r ∧ s.ft.gen ≠ .free

theorem sampled_servoGo {d : Nat} {r : List Int} {s : State} (n : ServoSt) (h : Sampled d r s) : Sampled d r (servoGo d n s) :=
  ⟨(servoGo_ring d n s).trans h.1, fun e => h.2 ((servoGo_free d n s).1 e)⟩
theorem sampled_setServo {d : Nat} {r : List Int} {s : State} (f : Servo → Servo) (hf : ∀ v, (f v).ring = v.ring) (h : Sampled d r s) :
    Sampled d r (setServo d f s) := ⟨by rw [servoOf_setServo, hf]; exact h.1, by rw [setServo_gen]; exact h.2⟩

/-- A sample joins the last three, whatever the servo then makes of it, while the generator is not FREE. -/
theorem sample_ring (d : Nat) (raw : Int) (s : State) (hs : (servoOf s d).state ≠ .disabled) (h : s.ft.gen ≠ .free) :
    (servoOf (sample d raw s) d).ring = (raw :: (servoOf s d).ring).take 3 := by
  have h0 : Sampled d ((raw :: (servoOf s d).ring).take 3)
      (setServo d (fun v => { v with ring := (raw :: (servoOf s d).ring).take 3 }) s) := ⟨by simp, by simpa using h⟩
  unfold sample; dsimp only; rw [if_neg hs]
  generalize setServo d (fun v => { v with ring := (raw :: (servoOf s d).ring).take 3 }) s = s0 at h0 ⊢
  split
  · have h1 := sampled_setServo (fun v => { v with outliers := v.outliers + 1 }) (fun _ => rfl) h0
    split
    · exact (sampled_servoGo _ h1).1
    · exact h1.1
  · simp only [splitJudge_servo, alignJudge_ring]
    have h1 := sampled_setServo (fun v => { v with
      outliers := 0, last := median ((raw :: (servoOf s d).ring).take 3),
      freq := (servoOf s d).freq + ftKi s0 d * (median ((raw :: (servoOf s d).ring).take 3) : Int),
      phase := (median ((raw :: (servoOf s d).ring).take 3) : Int), sampleTick := s0.clk.tick }) (fun _ => rfl) h0
    generalize setServo d _ s0 = s1 at h1 ⊢
    have h2 : Sampled d ((raw :: (servoOf s d).ring).take 3) (if d = s1.ft.active && s1.ft.gen == .following then
        { s1 with ft := { s1.ft with
          genStep := ftKp s1 d * (median ((raw :: (servoOf s d).ring).take 3) : Int)
            + ((servoOf s d).freq + ftKi s0 d * (median ((raw :: (servoOf s d).ring).take 3) : Int))
          genFreq := (servoOf s d).freq + ftKi s0 d * (median ((raw :: (servoOf s d).ring).take 3) : Int) } } else s1) := by
      split
      · exact h1
      · exact h1
    generalize (if d = s1.ft.active && s1.ft.gen == .following then _ else s1) = s2 at h2 ⊢
    suffices h3 : Sampled d ((raw :: (servoOf s d).ring).take 3) (match (servoOf s d).state with
        | .holdover => servoGo d .acquiring s2
        | .fault => if s2.clk.tick ≥ (servoOf s d).faultTick + Cfg.FT_FAULT_HOLD_TICKS s2 then servoGo d .acquiring s2 else s2
        | _ => s2) from (lockJudge_ring d _ h3.2).trans h3.1
    split
    · exact sampled_servoGo _ h2
    · split
      · exact sampled_servoGo _ h2
      · exact h2
    · exact h2

end Sys2Proof.Machine
end

