-- ==== Sys2Proof/Tests/Slice0.lean ====
section
/-! SUPPORT. Small tests of the model, and for each statement a state and operands that meet the hypotheses of each of its clauses. -/
namespace Sys2Proof.Tests
-- One declaration at a time: the kernel checks below would otherwise each hold a thread and its stack.
set_option Elab.async false
open Sys2Proof Sys2Proof.Machine

/-! ### A part in service -/

/-- A session of the board controller. -/
def board : Session :=
  { num := 7, kind := 3, fa := 0, src := .t1s 1, leaseEnd := 10 ^ 18, commands := 0, openTick := 0, replay := [], waiting := [] }

/-- The part after its release: in the fabric, both domains LOCKED, port 0 in service, every area owned by the board controller. -/
def live : State :=
  { State.reset with
    clk := { tick := 2048, ps := 0 }, frame := 2
    bi := { biReset with state := 2, phase := 6 }
    rp := { rpReset with sync := .current }
    ft := { ftReset with gen := .following, servoA := { servoReset with state := .locked }, servoB := { servoReset with state := .locked } }
    op := { opReset with lanes := (List.range 10).map fun i => (i, .inService) }
    dp := { dpReset with ports := [(0, { state := .inService, holdEnd := 0, trained := true })] }
    dx := { dxReset with sessions := [board], owners := (List.range 17).map fun a => (a, 7) } }

/-- A command of the board controller's session. -/
def ask : Cmd := { src := .t1s 1, session := 7, tag := 1 }

/-- The command with its length and its check, which its row computes over what it makes of the command. -/
def sealed (op : Nat) (row : Cmd → Cmd) (c : Cmd) : Cmd :=
  let c := { c with bodyLen := BitVec.ofNat 32 c.body.length }
  { c with check := BitVec.ofNat 32 (cmdCheck (op % 256) (row c)) }

/-- `Accepted` as a test. -/
def accepted (op : Nat) (c : Cmd) (s : State) : Bool :=
  transportUp s c.src
  && (match c.src with | .pcie h => !cqFull (pcOf s h) && !(controllerOf s (hostDie h)).restarting | _ => true)
  && ((sessionOf (dxHeard op c s) (cmdSession c)).filter fun x => samePrincipal x c.src && verifying (dxHeard op c s) x.num).isNone
  && ((dxHeard op c s).dx.sessions.all fun x => now s < x.leaseEnd)
  && c.check.toNat == cmdCheck (op % 256) c && !headerBad op c && !sourceRefused c (dxHeard op c s) && sessionOk op c (dxHeard op c s)
  && (cached c (dxReady op c s)).isNone && (checkSteps op c (dxReady op c s)).isNone
  && (op != Dx.SIGNED_WRITE || (sigJudge op c (dxReady op c s)).2)

theorem accepted_of {op : Nat} {c : Cmd} {s : State} (h : accepted op c s = true) : Accepted op c s := by
  simp only [accepted, Bool.and_eq_true, Bool.or_eq_true, Bool.not_eq_true', bne_iff_ne, beq_iff_eq, List.all_eq_true,
    decide_eq_true_eq, Option.isNone_iff_eq_none] at h
  obtain ⟨⟨⟨⟨⟨⟨⟨⟨⟨⟨h1, h2⟩, h3⟩, h4⟩, h5⟩, h6⟩, h7⟩, h8⟩, h9⟩, h10⟩, h11⟩ := h
  refine ⟨h1, ?_, h3, h4, h5, h6, h7, h8, h9, h10, fun e => h11.resolve_left (fun n => n e)⟩
  intro p hp
  rw [hp] at h2
  simpa using h2

/-- A command and a state meet what a statement about its row asks of them. -/
def Meets (op : Nat) (c : Cmd) (s : State) (H : State → Prop) : Prop :=
  Accepted op c (start (atPs c.takenAt s)) ∧ H (dxBefore op c (start (atPs c.takenAt s)))

/-- A WRITE of an entry at a tick, and one at once. -/
def writesAt (id tick : Nat) (b : Bytes) : Cmd :=
  sealed Dx.WRITE (onEntry id) { ask with body := b, tick := BitVec.ofNat 64 tick }
def writes (id : Nat) (b : Bytes) : Cmd := writesAt id 0 b

/-- An image without schedule. -/
def bare : Image :=
  { epoch := 1, frame := 2, level := 0x400, position := 0, period := 1, boost := false, voqKib := 64, patterns := [], ticks := [],
    parts := [], binds := [], sprays := [], recipes := [], chutes := [], actions := [], slews := [], leases := [], variants := [],
    digest := [], bytes := [] }

/-- A timed action of a code and operand at a tick, and its entry. -/
def action (code fire job operand : Nat) (arm : Bool) : ActionRec :=
  { fire := fire, code := code, job := job, arm := arm, operand := operand, raw := [] }
def entryOf (a : ActionRec) : ActEntry :=
  { record := a, state := .pending, command := true, epoch := 0, launch := 0, armFa := 0, ofNext := false }
def acting (a : ActionRec) : State := { live with ft := { live.ft with acts := [(0, entryOf a)] } }

/-! ### The machine, the timetable and timed actions -/

/-- A step that answers, from a state that meets the invariants. -/
theorem witness_invariants : ∃ s t : State, s.clk.ps < tickPs ∧ memoryWf s = true ∧ step s = .next t ∧ s.pending = [.tickBoundary {}] :=
  ⟨{ State.reset with pending := [.tickBoundary {}] }, _, by decide, by decide, rfl, rfl⟩

theorem witness_StepRunsFront : ({ live with pending := [.slewDone] } : State).pending = [.slewDone] := rfl

theorem witness_SessionsStaySound : SessionsSound { State.reset with dx := { dxReset with sessions := [board] } } :=
  ⟨by decide, by decide, by decide, fun _ h => absurd rfl h⟩

theorem witness_Boundaries :
    (live.clk.tick % 1024 = 0 ∧ ({ live with frame := 1 } : State).frame ≠ live.clk.tick / 1024)
    ∧ (portFormat live 0 = 1 ∧ lowLane live 0 = some 0 ∧ live.hl.power ≠ .off ∧ darkOut live live.clk.tick 0 = false
      ∧ (localStart (atPs (24 * 40960) live) 0 0).isSome = true) := by decide +kernel

/-- The clause of an image without failures has no witness here: such an image has at least 512 KiB. -/
theorem witness_TimetableRows :
    (let s := { live with tt := { ttReset with next := .checking } };
      s.tt.next = .checking ∧ imageFails s s.tt.nextBytes s.tt.nextDigest ≠ [])
    ∧ (let s := { live with tt := { ttReset with next := .ready, nextImage := some bare } };
      s.tt.next = .ready ∧ s.tt.nextImage = some bare)
    ∧ (let s := { live with tt := { ttReset with selected := some (2048, 0) } };
      s.tt.selected = some (2048, 0) ∧ 2048 ≤ s.clk.tick ∧ s.frame = frameOf s ∧ joinWaits s = false)
    ∧ (let l : LeaseState := { record := { kind := 3, subject := 0, unit := 33, len := 1, start := 2, raw := [] }, state := 0 };
      let s := { live with tt := { ttReset with leases := [l] } };
      leaseLive s = true ∧ l.record.start ≤ frameOf s ∧ frameOf s < l.record.start + l.record.len ∧ (physSlot s 33).state = .spare)
    ∧ (let l : LeaseState := { record := { kind := 2, subject := 0, unit := 1, len := 1, start := 1, raw := [] }, state := 1 };
      leaseLive { live with tt := { ttReset with leases := [l] } } = true ∧ l.record.start + l.record.len ≤ frameOf live) := by
  decide +kernel

theorem witness_TimetableCommands :
    Meets Dx.WRITE (onEntry E.TT_NEXT_DISCARD (writes E.TT_NEXT_DISCARD [1])) live
      (fun _ => beNat (dxValue Dx.WRITE (onEntry E.TT_NEXT_DISCARD (writes E.TT_NEXT_DISCARD [1]))) = 1)
    ∧ Meets Dx.WRITE (onEntry E.TT_VARIANT_SELECT (writesAt E.TT_VARIANT_SELECT 5120 [0, 0])) live
      (fun v => variantHeld v.tt.active 0 = true ∧ v.dx.pending.length < 1024)
    ∧ Meets Dx.WRITE (onEntry E.TT_VARIANT_NEXT (writes E.TT_VARIANT_NEXT [0, 0])) live
      (fun v => variantHeld (nextHeld v) 0 = true ∧ v.dx.pending.length < 1024)
    ∧ (let b := beBytes 8 2064 ++ beBytes 4 0x40000 ++ beBytes 20 0;
      Meets Dx.WRITE (onEntry E.FT_ACTION_ADD (writes E.FT_ACTION_ADD b)) live
        (fun v => v.clk.tick + 16 ≤ (parseAction b).fire ∧ actionRuleOk v ((imageAt v (parseAction b).fire).map (·.1)) (parseAction b) = true
          ∧ fld b 0x0C 1 31 = 0 ∧ actFreeSlot v = some 0))
    ∧ (let a := entryOf (action 4 2304 0 0 true);
      Meets Dx.WRITE (onEntry E.FT_ACTION_ARM (writes E.FT_ACTION_ARM [0, 0])) (acting a.record)
        (fun v => SMap.get? v.ft.acts 0 = some a ∧ a.record.arm = true ∧ v.clk.tick + 256 ≤ a.record.fire))
    ∧ (let a := entryOf (action 4 2112 0 0 true);
      Meets Dx.WRITE (onEntry E.FT_ACTION_CANCEL (writes E.FT_ACTION_CANCEL [0, 0])) (acting a.record)
        (fun v => SMap.get? v.ft.acts 0 = some a ∧ a.record.arm = true ∧ v.clk.tick + 64 ≤ a.record.fire))
    ∧ Meets Dx.WRITE (onEntry E.FT_SERVO_RESTART (writes E.FT_SERVO_RESTART [3])) live (fun _ => True)
    ∧ Meets Dx.WRITE (onEntry E.FT_DOMAIN_SELECT (writes E.FT_DOMAIN_SELECT [1])) live (fun v => servoLocked v 1 = true)
    ∧ Meets Dx.WRITE (onEntry E.CR_MISSING_LOG_CLEAR (writes E.CR_MISSING_LOG_CLEAR [1])) live (fun _ => True) := by
  refine ⟨?_, ?_, ?_, ?_, ?_, ?_, ?_, ?_, ?_⟩ <;> exact ⟨accepted_of (by decide +kernel), by decide +kernel⟩

theorem witness_TimedActions :
    (actTurn 0 1 (acting (action 1 2048 5 0 false))).isSome = true ∧ (actTurn 0 2 (acting (action 2 2048 5 0 false))).isSome = true
    ∧ ((actTurn 0 3 (acting (action 3 2048 0 0 false))).isSome = true ∧ live.tm.latched = [] ∧ live.tm.buffers.length < 2)
    ∧ (actTurn 0 4 (acting (action 4 2048 0 0 false))).isSome = true
    ∧ (let r := action 5 2048 0 (E.FT_PPS_OUT_MODE * 2 ^ 104 + 2) false;
      let s := acting r;
      actTurn 0 5 s = some (entryOf r) ∧ (findEntry (dictEntry r)).isSome = true ∧ dictEntry r = E.FT_PPS_OUT_MODE
        ∧ dictRefused (entryOf r) s = none ∧ dictValue r < 256 ∧ actionOver (actEnd 0 (entryOf r) .fired s) E.FT_PPS_OUT_MODE = false)
    ∧ (let r := action 4 2048 0 0 true;
      SMap.get? (acting r).ft.acts 0 = some (entryOf r) ∧ r.fire ≤ (acting r).clk.tick ∧ (acting r).hl.power ≠ .off) := by
  decide +kernel

/-- A LAUNCH message of a kind for tick 2,304 and code 4. -/
def launch (kind : Nat) : Packet :=
  mkControl Vc.MC 0 0 Op.LAUNCH 0x10 0 false 0 0 0 0 (beBytes 1 kind ++ beBytes 7 0 ++ beBytes 8 2304 ++ beBytes 2 0 ++ beBytes 2 4) 0

theorem witness_LaunchMessages :
    (let s := acting (action 4 2304 0 0 true);
      let taken := fun (kind : Nat) (s : State) => dpLive s = true ∧ pkOp (launch kind) = Op.LAUNCH ∧ beAt (pkBody (launch kind)) 0 1 = kind
        ∧ pkCrcOk (launch kind) = true ∧ pkDest (launch kind) = posFa s;
      (taken 1 s ∧ tabList s E.FT_LAUNCH_SOURCES 4 = [] ∧ SMap.get? s.ft.acts 0 = some (entryOf (action 4 2304 0 0 true))
        ∧ beAt (pkBody (launch 1)) 8 8 = 2304 ∧ beAt (pkBody (launch 1)) 0x10 2 = 0 ∧ beAt (pkBody (launch 1)) 0x12 2 = 4
        ∧ s.clk.tick + 256 ≤ beAt (pkBody (launch 1)) 8 8)
      ∧ taken 3 s
      ∧ (let s := setTab E.FT_LAUNCH_SOURCES [0, 0, 0, 1] s;
        taken 1 s ∧ (tabList s E.FT_LAUNCH_SOURCES 4).map (fun r => beNat r % 2 ^ 24) = [1] ∧ pkSrc (launch 1) = 0x10)) := by
  decide +kernel

/-- A PTP message of a type from clock 9, with its sequence 3. -/
def ptp (type flags clock : Nat) (body : Bytes) : Packet :=
  mkData { vc := Vc.MC, dest := 0, op := Op.PTP, src := 0x10, hop := 4 }
    (beBytes 1 type ++ [2] ++ beBytes 2 (34 + body.length) ++ beBytes 1 0 ++ [0] ++ beBytes 2 flags ++ beBytes 8 0 ++ beBytes 4 0
      ++ beBytes 8 clock ++ beBytes 2 1 ++ beBytes 2 3 ++ [0, 0] ++ body) 0

/-- Clock 9 is the grandmaster of domain A; the mechanism is `m`. -/
def timed (m : Nat) (f : Servo → Servo) (d : Pdelay) : State :=
  setNum E.FT_DELAY_MECH_A m (setTab 0x480102 (beBytes 8 9)
    { live with ft := { live.ft with servoA := f live.ft.servoA, pdelay := [(0, d)] } })
def quiet : Pdelay := { seq := 3, sent := none, held := none, mean := 0, nextAt := 0 }

/-- The two clauses about an answer to the part's own request ask for the part's own clock identity, a free value, in a message
that keeps its checks: they have no closed witness. -/
theorem witness_TimeMessages :
    (let s := timed 0 id quiet;
      let k := ptp 0 0x200 9 (beBytes 10 0);
      ptpFrom s k 0 = some 0 ∧ ptpClock k = ftGm s 0 ∧ ptpTwoStep k = true)
    ∧ (let s := timed 1 id quiet;
      let k := ptp 0 0 9 (beBytes 10 0);
      ptpFrom s k 0 = some 0 ∧ ptpClock k = ftGm s 0 ∧ ptpTwoStep k = false ∧ (servoOf s 0).state ≠ .disabled ∧ s.ft.gen ≠ .free)
    ∧ (let s := timed 0 (fun v => { v with sync := some (3, 0, 0) }) quiet;
      let k := ptp 8 0 9 (beBytes 10 0);
      ptpFrom s k 8 = some 0 ∧ (servoOf s 0).sync = some (3, 0, 0) ∧ ptpClock k = ftGm s 0 ∧ ptpSeq k = 3 ∧ s.ft.gen ≠ .free)
    ∧ (let s := timed 0 (fun v => { v with req := some (3, 0), t12 := some (0, 0) }) quiet;
      let k := ptp 9 0 9 (beBytes 20 0);
      ptpFrom s k 9 = some 0 ∧ ptpPeer s 0 = false ∧ ptpSeq k = 3)
    ∧ (let s := timed 0 id quiet;
      let k := ptp 11 0 8 (beBytes 30 0);
      ptpFrom s k 11 = some 0 ∧ ptpClock k ≠ ftGm s 0 ∧ (servoOf s 0).state ≠ .disabled)
    ∧ (let s := timed 1 id { quiet with sent := some 0 };
      let k := ptp 3 0 8 (beBytes 20 0);
      ptpFrom s k 3 = some 0 ∧ ptpPeer s 0 = true ∧ ptpSeq k = (pdelayOf s 0).seq)
    ∧ (let s := timed 1 id { quiet with held := some (3, 0) };
      let k := ptp 10 0 8 (beBytes 20 0);
      ptpFrom s k 8 = none ∧ ptpFrom s k 10 = some 0 ∧ (pdelayOf s 0).held = some (3, 0) ∧ ptpSeq k = 3)
    ∧ (let s := timed 1 id quiet;
      let k := ptp 2 0 8 (beBytes 20 0);
      ptpFrom s k 2 = some 0 ∧ ptpPeer s 0 = true ∧ s.hl.power ≠ .rest ∧ portCell s 0 = false)
    ∧ (let s := timed 1 id quiet;
      s.hl.power ≠ .off ∧ peerDomain s = some 0 ∧ egressLanes s 0 ≠ [] ∧ due (pdelayOf s 0).nextAt s = true) := by
  decide +kernel

theorem witness_ServoTimers :
    (servoLocked live 0 = true ∧ due (((servoOf live 0).sampleTick + ftNum live 0 0x0B 1024) * tickPs) live = true)
    ∧ (let s := setNum 0x480104 1 (timed 0 (fun v => { v with ptp := some 0 }) quiet);
      s.hl.power ≠ .off ∧ ftPps s 0 = true ∧ ftEnabled s 0 = true ∧ (servoOf s 0).ptp = some 0 ∧ (servoOf s 0).ppsLost = false
        ∧ due ((servoOf s 0).ppsAt.getD 0 + 2 * 10 ^ 12) { s with clk := { tick := 1953125, ps := 0 } } = true)
    ∧ (let s := setNum E.FT_PPS_OUT_MODE 2 live;
      ppsRise s = some (2048 * tickPs) ∧ s.hl.ppsOutEnd < 2048 * tickPs + ppsWidth ∧ due (2048 * tickPs) s = true)
    ∧ (let s := { live with ft := { live.ft with servoA := { servoReset with state := .holdover } } };
      (preferred s).isSome = true ∧ s.ft.gen ≠ .free ∧ selectedDomain s = 0 ∧ servoLocked s 1 = true ∧ (servoOf s 0).lostSince = some 0
        ∧ due ((0 + Cfg.FT_LOSS_HOLD_TICKS s) * tickPs) s = true)
    ∧ (let s := { live with ft := { live.ft with active := 1, servoA := { live.ft.servoA with lockedSince := some 0 } },
                            clk := { tick := 10 ^ 7, ps := 0 } };
      preferred s = some 0 ∧ s.ft.gen ≠ .free ∧ selectedDomain s ≠ 0 ∧ (servoOf s 0).lockedSince = some 0
        ∧ due ((0 + Cfg.FT_RETURN_HOLD_FRAMES s * 1024) * tickPs) s = true)
    ∧ (let s := { live with ft := { live.ft with gen := .slewing } };
      s.ft.gen = .slewing ∧ s.ft.slew = 0) := by
  decide +kernel

/-! ### Packets and cells that arrive -/

/-- The part's address is 0x20; the receiving lane of port 0 shows its own markers. -/
def placed (s : State) : State := setNum E.RP_POSITION_FA 0x20 s
def hearing (s : State) : State := { s with op := { s.op with roles := [(0, 2048, 1, 0)] } }

/-- A load for the part, and a contribution to its binding. -/
def load : Packet := mkData { vc := Vc.OC0, dest := 0x20, op := Op.MEM_LOAD, src := 0x10, hop := 4 } [] 0
def sent (flow job : Nat) : Packet := mkData { vc := Vc.SC, dest := 7, op := 0x10, src := 0x10, flow := flow, job := job, hop := 4 } [1, 2, 3] 0
/-- A message of the link. -/
def linkMsg (op : Nat) (body : Bytes) : Packet := mkControl Vc.MC 0 0xFFFFFF op 0x10 0 false 0 0 0 0 body 0

/-- A binding of flow 5 to port 0. -/
def bind5 : Binding :=
  { flow := 5, multi := false, dwell := 8, job := 9, egress := 0, ingress := 0, hold := 0, window := 16, gated := false, pkts := 1, bound := 4 }
def bound : Image := { bare with binds := [bind5], sprays := [{ count := 1, entries := [(0, 15)] }] }
def scheduled (s : State) : State := { s with tt := { s.tt with active := some bound } }

/-- A packet whose tail has not come. -/
def tailing (k : Packet) (taken : Bool) : State :=
  { hearing live with dp := { live.dp with cut := [{ port := 0, lane := 0, id := 3, pkt := k, taken := taken, begun := [], at' := 0, stamp := 0 }] } }
def damagedPkt (k : Packet) : Packet := ⟨k.bytes.take (k.bytes.length - 1) ++ [(k.bytes.getLast?.getD 0) + 1]⟩

def damagedHead (k : Packet) : Packet := ⟨k.bytes.take 4 ++ [(k.bytes[4]?.getD 0) + 1] ++ k.bytes.drop 5⟩

/-- Port 0 in cell mode. -/
def celled (s : State) : State := setTab E.PORT_CONFIG [0, 0, 2, 0] s
/-- The header of a load for the part in the cells' form with `n` bytes, and a cell by position. -/
def head (n : Nat) : Bytes := beBytes 16 (0x20 * 2 ^ 104 + 0x10 * 2 ^ 80 + 5 * 2 ^ 72 + n * 2 ^ 60)
def cellOf (pos : Nat) (d : Bytes) : Bytes := mkCell pos d.length 0 d
def asmOf (d : Bytes) : CellAsm := { head := head 8, data := d, at' := 0, stamp := 0 }
def midway (x : CellAsm) : State := { celled (placed live) with links := [(0, { linkZero with cells := [(0, { cellLaneZero with asm := some x })] })] }

theorem witness_ArrivalRows :
    (let s := hearing (placed live);
      let heard := fun (s : State) => portFormat s 0 = 1 ∧ laneWatched s 0 0 = true ∧ takingOf s 0 0 = .own ∧ darkIn s 0 = false ∧ s.dp.cut = [];
      let sound := fun (k : Packet) (s : State) => heard s ∧ headFault k = none ∧ arrivalFault s k = none;
      (let k := linkMsg Op.CREDIT (beBytes 32 0);
        sound k s ∧ fateOf s 0 k = .link)
      ∧ (sound load s ∧ fateOf s 0 load = .own ∧ opRequest (pkOp load) = true ∧ judgedWhole s load = true)
      ∧ (let s := scheduled s;
        let k := sent 5 9;
        sound k s ∧ fateOf s 0 k = .sched ∧ bindingOf s (pkFlow k) = some bind5 ∧ gateOf s bind5 = .openn ∧ bind5.job = pkJob k
          ∧ 0 ∈ egressPorts bound bind5 ∧ portGone s 0 = false ∧ s.tb.bad = [] ∧ s.tb.upset = [] ∧ s.dp.sc = [] ∧ pkBlocks k ≤ bound.voqKib * 4)
      ∧ (heard s ∧ duplicated s 0 0 = false ∧ headFault (damagedHead load) = some 0)
      ∧ (let k := mkData { vc := Vc.OC0, dest := 9, op := Op.MEM_LOAD, src := 0x10, hop := 0 } [] 0;
        heard s ∧ duplicated s 0 0 = false ∧ headFault k = none ∧ arrivalFault s k = some 7))
    ∧ (tailFault load = none ∧ tailFault (damagedPkt load) = some 1 ∧ duplicated (tailing load false) 0 0 = false ∧ opRequest (pkOp load) = true)
    ∧ (let cell := fun (c : Bytes) (s : State) => portFormat s 0 = 2 ∧ dpLive s = true ∧ benchServes s (benchOf 0) = true ∧ cellOk c = true
        ∧ darkIn s 0 = false ∧ ((linkOf s 0).cell 0).rxCount = none;
      let opened := fun (c : Bytes) (s : State) =>
        ({ head := padTo 16 (cellData c), data := (cellData c).drop 16, at' := now s, stamp := stampIn s 0 } : CellAsm);
      let own := fun (y : CellAsm) (s : State) => asmFault y = none ∧ fateOf s 0 (asmPacket s y) = .own ∧ opRequest (pkOp (asmPacket s y)) = true;
      let s := celled (placed live);
      (let c := cellOf 2 (head 8 ++ beBytes 40 0);
        cell c s ∧ cellPos c = 2 ∧ asmClass (opened c s) ≠ 0x3F)
      ∧ (let v := midway (asmOf []);
        cell (cellOf 0 (beBytes 56 0)) v ∧ cellPos (cellOf 0 (beBytes 56 0)) = 0 ∧ ((linkOf v 0).cell 0).asm = some (asmOf [])
        ∧ cell (cellOf 1 (beBytes 8 0)) v ∧ cellPos (cellOf 1 (beBytes 8 0)) = 1 ∧ own (asmOf (cellData (cellOf 1 (beBytes 8 0)))) v)
      ∧ (let c := cellOf 3 (head 8 ++ beBytes 8 0);
        cell c s ∧ cellPos c = 3 ∧ asmClass (opened c s) ≠ 0x3F ∧ own (opened c s) s)
      ∧ (let c := cellOf 3 (beBytes 16 (0x3F * 2 ^ 72) ++ beBytes 24 0);
        cell c s ∧ cellIsCredit c = true ∧ ((linkOf s 0).cell 0).asm = none))
    ∧ (let k := mkData { vc := Vc.OC0, dest := 6, op := Op.MEM_MCAST_STORE, src := 0x10, m := true, hop := 4 } [1] 0;
      let s := setTab E.FM_MCAST_LOCAL [0, 0, 0, 6] live;
      pkOp k = Op.MEM_MCAST_STORE ∧ dpLive s = true ∧ pkM k = true ∧ (tabList s E.FM_MCAST_LOCAL 4).any (fun g => beNat g == pkDest k) = true)
    ∧ (let k := mkData { vc := Vc.OC0, dest := 6, op := Op.MEM_MCAST_STORE, src := 0x10, hop := 4 } [1] 0;
      let s := celled live;
      pkOp k = Op.MEM_MCAST_STORE ∧ dpLive s = true ∧ pkM k = false ∧ fenced s (pkSrc k) = false ∧ portCell s 0 = true) := by
  refine ⟨?_, ?_, ?_, ?_, ?_⟩ <;> decide +kernel

/-! ### Links -/

/-- Port 0's link with its partner's parameters and a CREDIT base, and the tick its lanes' latest slot-24 markers showed. -/
def linked (tick : Nat) (based : Bool) : State :=
  { hearing live with links := [(0, { linkZero with params := true, oc0 := { linkZero.oc0 with limit := 9 }, mc := { linkZero.mc with limit := 9 }, based := based, gapTicks := (List.range 4).map fun l => (l, tick) })] }
/-- A CREDIT of tick 2,048. -/
def creditMsg : Packet := linkMsg Op.CREDIT (beBytes 24 0 ++ beBytes 4 2048 ++ beBytes 4 0)
/-- An image with a chute of port 3 to port 7 of wing 0 from its first tick. -/
def chuted : Image := { bare with chutes := [{ tick := 0, wing := 0, i := 3, j := 7, act := 0, job := 0, fec := 0 }] }

theorem witness_LinkRows :
    (let s := hearing live;
      laneWatched s 0 0 = true ∧ portFormat s 0 = 1 ∧ darkIn s 0 = false ∧ markerOk (mkMarker 0 2048 0 1 0) = true
        ∧ SMap.get? { s with clk := { tick := 2049, ps := 0 } }.op.roles 0 = some (2048, 1, 0))
    ∧ (let valid := fun (s : State) => dpLive s = true ∧ portFormat s 0 = 1 ∧ pkOp creditMsg = Op.CREDIT ∧ pkCrcOk creditMsg = true
        ∧ darkIn (hearEpoch 0 creditMsg (fromInbox 0 creditMsg (start s))) 0 = false;
      let marks := fun (s : State) => (ingressLanes (hearEpoch 0 creditMsg (fromInbox 0 creditMsg (start s))) 0).map
        fun l => SMap.get? (linkOf s 0).gapTicks l == some (beAt (pkBody creditMsg) 24 4 % 1024);
      (valid (linked 7 false) ∧ false ∈ marks (linked 7 false))
      ∧ (valid (linked 0 false) ∧ marks (linked 0 false) = [true, true, true, true] ∧ (linkOf (linked 0 false) 0).based = false)
      ∧ (valid (linked 0 true) ∧ marks (linked 0 true) = [true, true, true, true] ∧ (linkOf (linked 0 true) 0).based = true))
    ∧ (let k := linkMsg Op.LINK_PARAMS (beBytes 32 0);
      dpLive live = true ∧ portFormat live 0 = 1 ∧ pkOp k = Op.LINK_PARAMS ∧ pkCrcOk k = true)
    ∧ (let x : Shaper := { tokens := 0, last := 0, wheel := some 1 };
      SMap.get? { live with ot := { live.ot with shapers := [(4, x)] } }.ot.shapers 4 = some x ∧ x.wheel = some 1 ∧ due 1 live = true)
    ∧ (let s := { live with tt := { ttReset with active := some chuted }, clk := { tick := 2055, ps := 0 } };
      dpLive s = true ∧ imageAt s (s.clk.tick + 1) = some (chuted, 0) ∧ (s.clk.tick + 1) % 8 = 0 ∧ (wingOf s 0).chutes = []
        ∧ ((chutesAt chuted (periodTick chuted (s.clk.tick + 1))).filter fun c => c.1 == 0).map (·.2) = [(3, 7)])
    ∧ (let s := { live with ch := [(0, { wingZero with settleAt := some 1 })] };
      (wingOf s 0).settleAt = some 1 ∧ due 1 s = true ∧ cellSetting (wingOf s 0) 5 ≠ 1) := by
  decide +kernel

/-! ### Queues -/

/-- Port 0's lane 0 is scheduled for the binding of `bound` in slot 3 of every tick. -/
def running : Image :=
  { bound with patterns := [[(entryNo 0 0 3, (1, 0))]], ticks := [(0, 0)] }
def queued (l : List ScPkt) : State :=
  { live with tt := { ttReset with active := some running }, dp := { live.dp with sc := l } }
def scPkt : ScPkt :=
  { id := 6, pkt := sent 5 9, flow := 5, job := 9, seq := 0, port := 128, lane := 0, ready := 0, deadline := 3000, left := [], pooled := 1 }
def openPkt (k : Packet) (vc : Nat) : OpenPkt :=
  { id := 6, pkt := k, port := 1, lane := 0, egress := 0, vc := vc, arrived := 0, stamp := 0, headAt := some 0, safe := none, escaped := false,
    expire := none, blocked := none, pooled := 1, parent := none }
def waiting (x : OpenPkt) : State :=
  { linked 0 true with dp := { live.dp with openq := [x] }, clk := { tick := 2048, ps := 0 } }

def data : Packet := mkData { vc := Vc.OC0, dest := 7, op := Op.DATA, src := 0x10, hop := 4 } [1, 2, 3] 0
def draw3 : Drawn :=
  { port := 0, lane := 0, tick := 2048, slot := 3, pkt := sent 5 9, id := 6, transit := true, ready := 0, lead := 0, hold := 0 }
/-- The turn of slot 3 of port 0's lane 0 in a state, and the packet that comes first in it. -/
def servedTo (s : State) : State :=
  (entriesBefore (start s) running bind5 0 0 0 (drawTick s 3) 3).foldl (fun s e => serveEntry running bind5 e.1 e.2.1 e.2.2.1 e.2.2.2 s) (start s)
abbrev turn (s : State) : Prop :=
  let u := servedTo s
  dpLive s = true ∧ s.rp.sync = .current ∧ entryIn s (drawTick s 3) 0 0 3 = (1, 0) ∧ imageAt s (drawTick s 3) = some (running, 0)
    ∧ (running.binds.drop 0).head? = some bind5 ∧ entryServed u 0 0 (drawTick s 3) 3 = false ∧ darkOut u (drawTick s 3) 0 = false
    ∧ portUp u 0 = true ∧ (servingLane u 0 0).isSome = true
def first (l : List ScPkt) : Option ScPkt :=
  let u := servedTo (queued l)
  scFirst ((u.dp.sc.filter fun x => x.flow == 5 && drawTick (queued l) 3 < x.deadline).filter fun x =>
    x.ready + pathLead x.port 0 ≤ slotStart (drawTick (queued l) 3) 3)

theorem witness_QueueRows :
    (laneDriven live 0 0 = true ∧ portFormat live 0 = 1 ∧ darkOut live 2048 0 = false ∧ markerRole live 0 0 = some (1, 0) ∧ dpLive live = true
      ∧ portUp live 0 = true)
    ∧ ((live.dp.drawn ++ [draw3]).find? fun d => d.port == 0 && d.lane == 0 && d.tick == live.clk.tick && d.slot == 3) = some draw3
    ∧ (turn (queued []) ∧ first [] = none)
    ∧ (turn (queued [scPkt]) ∧ first [scPkt] = some scPkt ∧ refillLate (servedTo (queued [scPkt])) scPkt orderZero = false ∧ orderZero.next = none
      ∧ SMap.get? (servedTo (queued [scPkt])).dp.orders (orderKey bind5 0) = none)
    ∧ (let s := waiting (openPkt data 1);
      dpLive s = true ∧ portUp s 0 = true ∧ portCell s 0 = false ∧ (carriedLane s 0 0).isSome = true
        ∧ laneBusy (startAfter 0 0 (start s)) 0 0 = false ∧ s.hl.gated = [] ∧ shaperDue s = false ∧ throttleOf s 0 < 2
        ∧ (chooseOpen 0 0 (fun _ => true) [3, 2, 1] (startAfter 0 0 (start s))).2.map (·.id) = some 6)
    ∧ (let k := ptp 0 0 9 (beBytes 10 0);
      let s := waiting (openPkt k 3);
      isEvent s k = true
        ∧ (chooseOpen 0 0 (fun y => isEvent s y.pkt) [3, 2, 1] (startAfter 0 0 (start s))).2.map (·.id) = some 6)
    ∧ (let x := { openPkt data 1 with egress := 2, port := 3, safe := some { kind := 1, ports := [0] }, blocked := some 0 };
      let s := { waiting x with tb := { tbReset with active := { routesReset with seedSel := 0 } } };
      (s.dp.openq.drop 0).head? = some x ∧ x.vc = Vc.OC0 ∧ due (0 + Cfg.PKT_ESCAPE_NS s * 1000) s = true
        ∧ (selectPort { kind := 1, ports := [0] } x.port x.pkt s).2 = some 0 ∧ portCell s 0 = false)
    ∧ (let s := { live with links := [(0, { linkZero with oc0 := { linkZero.oc0 with stallSince := some 0 } })], clk := { tick := 10 ^ 7, ps := 0 } };
      ((linkOf s 0).vc 1).stallSince = some 0 ∧ due (0 + Cfg.PKT_CREDIT_STALL_US s * 1000000) s = true ∧ darkIn s 0 = false
        ∧ onceKey Ev.PKT_CREDIT_STALL 1 s = false ∧ s.hl.power ≠ .rest)
    ∧ (let s := { setNum E.OT_HEAD_DROP_US 1 (waiting (openPkt data 1)) with clk := { tick := 4096, ps := 0 } };
      (s.dp.openq.drop 0).head? = some (openPkt data 1) ∧ headLimit s data = some 1000000 ∧ due (0 + 1000000) s = true ∧ portState s 0 ≠ .held)
    ∧ (let x := { openPkt data 1 with expire := some 2047 };
      ((waiting x).dp.openq.drop 0).head? = some x ∧ due (2048 * tickPs) (waiting x) = true)
    ∧ (let o : Order := { orderZero with emptySince := some 0 };
      let s := { live with dp := { live.dp with orders := [(5120, o)] }, clk := { tick := 10 ^ 7, ps := 0 } };
      (s.dp.orders.find? fun o => o.1 / 1024 == 5) = some (5120, o) ∧ due (0 + Cfg.DP_RESEQ_IDLE_US s * 1000000) s = true)
    ∧ ((queued [scPkt]).dp.sc.find? fun x => x.id == 6) = some scPkt
    ∧ (let s := waiting (openPkt data 1);
      (s.dp.sc.find? fun x => x.id == 6) = none ∧ (s.dp.openq.find? fun x => x.id == 6) = some (openPkt data 1)
        ∧ (s.dp.openq.takeWhile fun y => y.id != 6) = [] ∧ scRefillDue s 0 = false)
    ∧ ((waiting { openPkt data 1 with pooled := 0 }).dp.openq.any fun x => x.id == 6 && x.inStrata) = true
    ∧ (let s := { live with op := opReset };
      portState s 0 = .inService ∧ darkOut s 2048 0 = false ∧ darkIn s 0 = false ∧ markersSeen s 0 = false
        ∧ (List.range 4).any (fun l => (servingLane s 0 l).isSome) = false)
    ∧ (let s := { live with dp := { live.dp with ports := [(0, { state := .held, holdEnd := 1, trained := true })] } };
      portState s 0 = .held ∧ due (portOf s 0).holdEnd s = true)
    ∧ (let s := { hearing live with dp := { live.dp with ports := [(0, { state := .down, holdEnd := 0, trained := true })] } };
      portState s 0 ≠ .inService ∧ portState s 0 ≠ .disabled ∧ (portOf s 0).trained = true ∧ markersSeen s 0 = true
        ∧ ([0, 1].all fun d => (List.range 4).any fun l => laneSt s 0 d l == .inService || laneSt s 0 d l == .moved) = true
        ∧ ((SMap.get? s.hl.neighbours 0).any fun n => n.state == .fenced) = false ∧ benchServes s (benchOf 0) = true) := by
  refine ⟨?_, ?_, ?_, ?_, ?_, ?_, ?_, ?_, ?_, ?_, ?_, ?_, ?_, ?_, ?_, ?_, ?_⟩
  · decide +kernel
  · decide +kernel
  · decide +kernel
  · decide +kernel
  · decide +kernel
  · decide +kernel
  · decide +kernel
  · decide +kernel
  · decide +kernel
  · decide +kernel
  · decide +kernel
  · decide +kernel
  · decide +kernel
  · decide +kernel
  · decide +kernel
  · decide +kernel
  · decide +kernel

/-! ### Lanes, rings and laser modules -/

/-- A LANE_MOVE message of the partner about lane 1 of the part's egress of port 0 (its own ingress). -/
def moveMsg (kind : Nat) (S : Nat) : Packet := linkMsg Op.LANE_MOVE (moveBody kind 1 4 1 1 0 5 S ++ beBytes 16 0)
def moveOf (st : MoveSt) (mine : Bool) (dst S : Nat) : Move :=
  { id := 5, port := 0, src := if dst = 4 then 1 else 4, dst := dst, dir := 0, reason := 1, state := st, S := S, mine := mine }
def moving (m : Move) : State := { live with op := { live.op with moves := [m] } }
def module0 (x : Els) : State := { live with op := { live.op with els := [(0, x)] } }
def access (tries : Nat) : ElsAccess :=
  { seq := 3, item := 1, output := 0xFF, write := false, tries := tries, dueAt := 1, frame := [] }
def ring0 (n : Nat) (x : Ring) (s : State) : State := { s with op := { s.op with rings := [(n, x)] } }
def lane0 (d l : Nat) (v : LaneSt) (s : State) : State := setLane 0 d l v s
/-- Long after the start. -/
def late (s : State) : State := { s with clk := { tick := 10 ^ 12, ps := 0 } }

theorem witness_inSearch (s : State) (n : Nat) (h : (1 : Rat) ≤ Cfg.OP_SEARCH_GHZ s) : ∃ i : Int, inSearch s n i = true := by
  refine ⟨⌊1000 * ((ringOf s n).base - coupling n * (pFf s (n / 10 / 128) - (ringOf s n).pref))⌋, ?_⟩
  simp only [inSearch, decide_eq_true_eq]
  generalize (ringOf s n).base - coupling n * (pFf s (n / 10 / 128) - (ringOf s n).pref) = m
  have h1 := Int.floor_le (1000 * m)
  have h2 := Int.lt_floor_add_one (1000 * m)
  unfold ratAbs
  split <;> linarith

theorem witness_OpticRows :
    (live.hl.power ≠ .off ∧ pollDue live = true)
    ∧ (let s := module0 { elsZero with state := .inService, pending := [access 0] };
      ((elsOf s 0).pending.find? fun a => a.seq == beAt [0x90, 0, 0, 3, 25] 2 2
        && bits (beAt [0x90, 0, 0, 3, 25] 0 2) 12 4 == (if a.write then 0xA else 0x9)) = some (access 0))
    ∧ (((elsOf (module0 { elsZero with pending := [access 0] }) 0).pending.drop 0).head? = some (access 0)
      ∧ ((elsOf (module0 { elsZero with pending := [access 3] }) 0).pending.drop 0).head? = some (access 3) ∧ due 1 live = true)
    ∧ ((ringOf live 7).state = .searching ∧ (ringOf live 7).retry = false ∧ (1 : Rat) ≤ Cfg.OP_SEARCH_GHZ live)
    ∧ (let s := lane0 0 0 .training (ring0 (ringNo 0 0 0) { ringZero with state := .locked } live);
      laneSt s 0 0 0 = .training ∧ (ringOf s (ringNo 0 0 0)).state = .locked ∧ dpLive s = true)
    ∧ (let msg := fun (kind : Nat) (k : Packet) (s : State) => pkOp k = Op.LANE_MOVE ∧ bits (mvWord k) 24 8 = kind ∧ portFormat s 0 = 1 ∧ dpLive s = true;
      let heard := fun (k : Packet) (s : State) => hearEpoch 0 k (fromInbox 0 k (start s));
      (msg 5 (moveMsg 5 0) live)
      ∧ (let k := moveMsg 1 3000;
        msg 1 k live ∧ mvSrc k < 4 ∧ mvDst k = 4 ∧ live.clk.tick + 60 ≤ mvTick k ∧ laneSt (heard k live) 0 (mvDir k) (mvSrc k) = .inService
          ∧ reserveFree (heard k live) 0 (mvDir k) = true ∧ (heard k live).op.moves = [])
      ∧ (let k := moveMsg 1 2050;
        msg 1 k live ∧ mvSrc k < 4 ∧ mvDst k = 4 ∧ mvTick k < live.clk.tick + 60)
      ∧ (let s := moving (moveOf .proposed true 4 3000);
        let k := moveMsg 2 3000;
        msg 2 k s ∧ moveFind (heard k s) 0 (mvId k) = some (moveOf .proposed true 4 3000) ∧ s.clk.tick + 2 ≤ 3000)
      ∧ (let s := moving (moveOf .proposed true 4 3000);
        let k := moveMsg 3 3000;
        msg 3 k s ∧ moveFind (heard k s) 0 (mvId k) = some (moveOf .proposed true 4 3000) ∧ (moveOf .proposed true 4 3000).src ≠ 4)
      ∧ (let k := moveMsg 4 0;
        msg 4 k live ∧ mvDir k = 0 ∧ mvSrc k < 4 ∧ laneSt (heard k live) 0 0 (mvSrc k) = .inService))
    ∧ (let at' := fun (m : Move) (st : MoveSt) (tick : Nat) =>
        ((moving m).op.moves.drop 0).head? = some m ∧ m.state = st ∧ m.S ≠ 0 ∧ due (tick * tickPs) (moving m) = true ∧ moveFault m = false;
      (at' (moveOf .accepted true 4 2049) .accepted 2048 ∧ reserveHeld (moving (moveOf .accepted true 4 2049)) 0 0 = .idle)
      ∧ at' (moveOf .accepted true 1 2049) .accepted 2048
      ∧ (let s := setReserve 0 0 .boost (moving (moveOf .accepted true 4 2049));
        (s.op.moves.drop 0).head? = some (moveOf .accepted true 4 2049) ∧ reserveHeld s 0 0 ≠ .idle)
      ∧ at' (moveOf .accepted true 4 2048) .accepted 2048 ∧ at' (moveOf .accepted true 1 2048) .accepted 2048
      ∧ (at' (moveOf .proposed true 4 2049) .proposed 2048 ∧ (moveOf .proposed true 4 2049).src ≠ 4)
      ∧ darkIn (moving (moveOf .accepted true 4 2049)) 0 = false)
    ∧ (let m := { moveOf .accepted true 4 2048 with port := 3 };
      let s := { moving m with tt := { ttReset with active := some { bare with chutes := [{ tick := 0, wing := 0, i := 3, j := 7, act := 0, job := 0, fec := 0 }] } } };
      m.state = .accepted ∧ m.S ≠ 0 ∧ moveFault m = false ∧ darkIn s 3 = true ∧ m.src ≠ 4)
    ∧ (let s := lane0 1 1 .fault { live with op := { live.op with faultSent := [(laneKey 0 1 1, 2044)] } };
      SMap.get? s.op.faultSent (laneKey 0 1 1) = some 2044 ∧ due ((2044 + 4) * tickPs) s = true ∧ darkIn s 0 = false
        ∧ laneSt s 0 1 1 = .fault ∧ shownRole s 0 4 ≠ some (2, 1))
    ∧ (let s := late (lane0 0 1 .fault (ring0 (ringNo 0 0 1) { ringZero with lockedAt := some 0 } live));
      dpLive s = true ∧ (ringOf s (ringNo 0 0 1)).lockedAt = some 0 ∧ 0 + Cfg.OP_RETURN_HOLD_TICKS s ≤ s.clk.tick ∧ laneSt s 0 0 1 = .fault)
    ∧ (let m := moveOf .inForce true 4 2048;
      let s := late (lane0 0 1 .moved (ring0 (ringNo 0 0 1) { ringZero with lockedAt := some 0 } (moving m)));
      dpLive s = true ∧ (ringOf s (ringNo 0 0 1)).lockedAt = some 0 ∧ laneSt s 0 0 1 = .moved
        ∧ (s.op.moves.find? fun m => m.port == 0 && m.dir == 0 && m.src == 1 && m.state == .inForce) = some m
        ∧ m.S + Cfg.OP_RETURN_HOLD_TICKS s ≤ s.clk.tick ∧ causeGone s m = true)
    ∧ (let s := module0 { elsZero with state := .replace, preparing := true };
      (elsOf s 0).preparing = true ∧ s.op.moves = [] ∧ s.hl.power ≠ .rest ∧ onceKey Ev.OP_ELS_READY 0 s = false)
    ∧ (let s := lane0 0 1 .calibrating live;
      laneSt s 0 0 1 = .calibrating ∧ s.hl.power ≠ .rest ∧ onceKey Ev.OP_CAL_DONE 0 s = false) := by
  refine ⟨?_, ?_, ?_, ?_, ?_, ?_, ?_, ?_, ?_, ?_, ?_, ?_, ?_⟩
  · decide +kernel
  · decide +kernel
  · decide +kernel
  · decide +kernel
  · decide +kernel
  · decide +kernel
  · decide +kernel
  · decide +kernel
  · decide +kernel
  · decide +kernel
  · decide +kernel
  · decide +kernel
  · decide +kernel

/-! ### The crusher -/

/-- A sum of one 4-byte element from two members, both blocks on bench 0, with its result to port 0. -/
def recipe (type : Nat) : Recipe :=
  { coll := 1, type := type, op := 0, job := 9, n := 2, inFmt := 0, outFmt := 0, partialFmt := 0, stochastic := false, preOn := false,
    postOn := false, shift := 1, gated := false, elems := 1, window := 4, dwell := 8, timeout := 8, chunks := 1, flow := 5, group := 6, pre := 0,
    post := 0, gen := 0, seed := 0, fma := 0, key := 0, benches := [0], ports := [0], raw := [] }
def reducing (type : Nat) : Image :=
  { bare with recipes := [(0, recipe type)], patterns := [[(entryNo 0 0 3, (2, 0))]], ticks := [(0, 0)] }
def crushing (type : Nat) (f : RecState → RecState) : State :=
  { live with tt := { ttReset with active := some (reducing type) }, cr := { crReset with recs := [(1, f (recZero (recipe type)))] } }
def chunk3 : Chunk := { index := 3, deadline := 2048, members := [0], froms := [0], nodes := [], complete := false, broken := false }
def contrib (op : Nat) : Packet :=
  mkData { vc := Vc.SC, dest := 0, op := op, src := 0x10, flow := 5, job := 9, hop := 4, operand := 2 ^ 24 } [0, 0, 0, 1] 0
def part1 : Partial := { coll := 1, chunk := 3, level := 0, index := 0, opd := { lo := 0, size := 1, vals := [1] } }
def move1 (o : Nat) : ResultMove := { coll := 1, chunk := 3, bench := 0, ports := [0], payload := [1], orphan := o }
def result1 : ResultQ := { coll := 1, port := 0, chunk := 3, payload := [0, 0, 0, 1], tick := 2000, at' := 0 }

theorem witness_CrusherRows :
    (let accepted := fun (type op : Nat) =>
        let s := crushing type id
        let r := recipe type
        pkOp (contrib op) = op ∧ recipeOf s (pkColl (contrib op)) = some (0, r) ∧ dpLive s = true ∧ (recOf s r).gate = .openn
          ∧ pkJob (contrib op) = r.job ∧ pkMember (contrib op) < r.n ∧ blockBench r (pkMember (contrib op) / 2 ^ r.shift) = benchOf 0
          ∧ pkLen (contrib op) = inBytes r ∧ serialDist 24 (pkChunk (contrib op)) (recOf s r).base < r.window
          ∧ (recOf s r).closed = [] ∧ chunkOf (recOf s r) (pkChunk (contrib op)) = none ∧ accRoom s (benchOf 0) r = true;
      accepted 0 Op.RED_CONTRIB ∧ rBarrier (recipe 0) = false ∧ accepted 4 Op.BARRIER ∧ rBarrier (recipe 4) = true)
    ∧ (let s := { crushing 0 (fun x => { x with open' := [chunk3] }) with cr := { (crushing 0 fun x => { x with open' := [chunk3] }).cr with partials := [part1] } };
      (s.cr.partials.drop 0).head? = some part1 ∧ recipeOf s 1 = some (0, recipe 0) ∧ chunkOf (recOf s (recipe 0)) 3 = some chunk3
        ∧ accRoom s (nodeBench (recipe 0) 0 0) (recipe 0) = true)
    ∧ (([move1 0].drop 0).head? = some (move1 0) ∧ ([move1 1].drop 0).head? = some (move1 1))
    ∧ (let c := { chunk3 with nodes := [] };
      let s := crushing 0 (fun x => { x with open' := [c] });
      recipeOf s 1 = some (0, recipe 0) ∧ chunkOf (recOf s (recipe 0)) 3 = some c ∧ c.unfinished = true ∧ due (c.deadline * tickPs) s = true)
    ∧ (let s := { crushing 0 id with cr := { (crushing 0 id).cr with results := [result1] } };
      (s.cr.results.drop 0).head? = some result1 ∧ recipeOf s 1 = some (0, recipe 0) ∧ due ((result1.tick + 8) * tickPs) s = true
        ∧ dpLive s = true ∧ entryIn s 2048 0 0 3 = (2, 0) ∧ darkOut s 2048 0 = false ∧ portUp s 0 = true ∧ carries s = true
        ∧ imageAt s 2048 = some (reducing 0, 0) ∧ SMap.get? (reducing 0).recipes 0 = some (recipe 0) ∧ servingLane s 0 0 = some 0
        ∧ (s.cr.results.find? fun y => y.coll == 1 && y.port == 0 && y.at' + 34000 ≤ slotStart 2048 3) = some result1) := by
  refine ⟨?_, ?_, ?_, ?_, ?_⟩
  · decide +kernel
  · decide +kernel
  · decide +kernel
  · decide +kernel
  · decide +kernel

/-! ### Fabric memory -/

/-- A request at an offset, with its descriptor under key 7 and generation 2. -/
def request (op off word : Nat) (d : Bytes) : Packet :=
  mkData { vc := Vc.OC0, dest := 0x20, op := op, src := 0x10, seq := 3, hop := 4, operand := off } (beBytes 8 7 ++ beBytes 4 (2 * 2 ^ 20) ++ beBytes 4 word ++ d) 0
def region4 (st : RegionSt) : Region :=
  { state := st, mirrored := false, checkpointed := true, gen := 2, stack := 0, placement := 0, base := 0, size := 4096, key := 7,
    data := [], poison := [], atJoin := false }
def resident (st : RegionSt) (s : State) : State := { s with fm := { s.fm with regions := [(4, region4 st)] } }
def asked (k : Packet) : MemApply := { req := { pkt := k, port := 0, cell := false }, sequenced := true, again := false }
def serving (k : Packet) : State := { resident .active live with fm := { (resident .active live).fm with applies := [asked k] } }
def slot16 : SourceSlot :=
  { base := 3, highest := 3, young := false, allocated := 0, window := [], replay := [], fault := none, held := [], waiting := [],
    gapEnd := some 1, gaps := [], activity := 0, activityPs := 0 }
def sourced (x : SourceSlot) : State := { live with fm := { live.fm with sources := [(0x10, x)] } }
def answered : MemOutcome := { src := 0x10, seq := 3, op := Op.MEM_STORE, code := none, old := none, how := { region := 4, gen := 2, tick := 0 } }

/-- The requests of each kind, aligned and well formed. -/
def loads : Packet := request Op.MEM_LOAD 8 8 []
def stores (op : Nat) : Packet := request op 8 0 [1, 2, 3, 4]
def atomics : Packet := request Op.MEM_ATOMIC 8 (0xD * 2 ^ 24) (beBytes 8 5)
def reduces : Packet := request Op.MEM_REDUCE_STORE 8 (0xC * 2 ^ 24) (beBytes 4 5)

theorem witness_MemoryRows :
    (let both := fun (op : Nat) (k : Packet) => pkOp k = op ∧ dpLive live = true ∧ fenced live (pkSrc k) = false ∧ portCell live 0 = false
        ∧ SMap.get? live.fm.sources (pkSrc k) = none ∧ live.fm.sources.length < 4096
        ∧ SMap.get? (sourced slot16).fm.sources (pkSrc k) = some slot16 ∧ slot16.young = false ∧ slot16.replay = []
        ∧ serialDist 16 (pkSeq k) slot16.base < 256 ∧ SMap.get? slot16.window (pkSeq k) = none;
      both Op.MEM_LOAD loads ∧ both Op.MEM_STORE (stores Op.MEM_STORE) ∧ both Op.MEM_STORE_FLAG (stores Op.MEM_STORE_FLAG)
        ∧ both Op.MEM_ATOMIC atomics ∧ both Op.MEM_REDUCE_STORE reduces ∧ portCell (celled live) 0 = true)
    ∧ (let next := fun (k : Packet) (op : Nat) => ((serving k).fm.applies.drop 0).head? = some (asked k) ∧ rqOp (asked k).req = op
        ∧ memCheck (serving k) (asked k).req = .ok (.region 4 (region4 .active));
      next loads Op.MEM_LOAD ∧ next (stores Op.MEM_STORE) Op.MEM_STORE ∧ next (stores Op.MEM_STORE_FLAG) Op.MEM_STORE_FLAG
        ∧ next atomics Op.MEM_ATOMIC ∧ next reduces Op.MEM_REDUCE_STORE)
    ∧ (rqReads (asked loads).req = true ∧ rqRegion (serving loads) (asked loads).req = some (4, region4 .active)
      ∧ SMap.get? (serving loads).fm.regions 4 = some (region4 .active) ∧ 0 ∈ linesOf 8 (rqSpan (asked loads).req))
    ∧ memCheck live (asked loads).req = .error 3
    ∧ (let x := { slot16 with window := [(3, .progress)] };
      ([answered].drop 0).head? = some answered ∧ SMap.get? (sourced x).fm.sources 0x10 = some x ∧ x.base = 3 ∧ x.waiting = [] ∧ x.held = [])
    ∧ (SMap.get? (sourced slot16).fm.sources 0x10 = some slot16 ∧ slot16.gapEnd = some 1 ∧ due 1 (sourced slot16) = true
      ∧ due (slot16.allocated + Cfg.FM_GAP_HOLD_US (sourced slot16) * 1000000) { sourced slot16 with clk := { tick := 10 ^ 9, ps := 0 } } = true) := by
  refine ⟨?_, ?_, ?_, ?_, ?_, ?_⟩
  · decide +kernel
  · decide +kernel
  · decide +kernel
  · decide +kernel
  · decide +kernel
  · decide +kernel

/-- The atomic of `witness_MemoryRows` meets what AtomicRule asks. -/
theorem witness_MemoryBytes :
    ((serving (stores Op.MEM_STORE)).fm.applies.drop 0).head? = some (asked (stores Op.MEM_STORE))
    ∧ SMap.sorted (serving (stores Op.MEM_STORE)).fm.regions = true ∧ rqOff (asked (stores Op.MEM_STORE)).req < 0xFE00000000
    ∧ (asked (stores Op.MEM_STORE)).req.cell = false := by
  decide +kernel

/-! ### Mirror, streams and regions -/

def write9 (n : Option Nat) (whole : Bool) : MirrorWrite :=
  { seq := n, offset := 0, body := [1], key := 0, gen := 0, poisoned := false, whole := whole, dueAt := 1, firstAt := 0 }
def mirrored (st : MirrorSt) (l : List MirrorWrite) : State := { live with fm := { live.fm with mirror := st, log := l } }
def stream1 (l : List MirrorWrite) : Stream :=
  { role := 1, state := 1, peer := 0x10, key := 0, gen := 0, step := 0, done := 0, lost := 0, bytes := 0, todo := l, seq := 5, paceAt := 1,
    dueAt := 0, marked := false }
def streaming (l : List MirrorWrite) : State := { live with rp := { live.rp with stream := some (stream1 l) } }
def reply (op src word : Nat) : Packet :=
  mkControl Vc.OC0 0 0x20 op src 0 false 3 0 0 0 (beBytes 4 word ++ beBytes 28 0) 0

theorem witness_MirrorRows :
    (let s := setNum E.FM_MIRROR_PARTNER 0x10 (mirrored .syncing [write9 (some 3) false]);
      let mine := fun (k : Packet) => pkSrc k = Cfg.FM_MIRROR_PARTNER s % 2 ^ 24 ∧ s.fm.mirror ≠ .off ∧ s.fm.log.any (fun w => w.seq == some (pkSeq k)) = true;
      (pkOp (reply Op.MEM_ACK 0x10 0) = Op.MEM_ACK ∧ mine (reply Op.MEM_ACK 0x10 0))
      ∧ (pkOp (reply Op.MEM_NACK 0x10 0x90000) = Op.MEM_NACK ∧ bits (beAt (pkBody (reply Op.MEM_NACK 0x10 0x90000)) 0 4) 16 8 = 0x09
        ∧ mine (reply Op.MEM_NACK 0x10 0x90000))
      ∧ (¬ mine (reply Op.MEM_ACK 0x11 0) ∧ streamSending s = none)
      ∧ ((s.fm.log.drop 0).head? = some (write9 (some 3) false) ∧ dpLive s = true ∧ due 1 s = true))
    ∧ (let s := streaming [write9 (some 5) false];
      (s.fm.log.drop 0).head? = none ∧ streamSending s = some (stream1 [write9 (some 5) false])
        ∧ ((stream1 [write9 (some 5) false]).todo.drop 0).head? = some (write9 (some 5) false) ∧ dpLive s = true ∧ due 1 s = true)
    ∧ ((mirrored .syncing [write9 (some 3) false]).fm.mirror = .syncing ∧ (mirrored .syncing [write9 (some 3) false]).fm.log.any (·.whole) = false)
    ∧ (let x := stream1 [write9 none false];
      let s := streaming [write9 none false];
      dpLive s = true ∧ streamSending s = some x ∧ due x.paceAt s = true ∧ (x.todo.findIdx? fun w => w.seq.isNone) = some 0
        ∧ (x.todo.drop 0).head? = some (write9 none false) ∧ (x.todo.filterMap (·.seq)).any (fun o => serialDist 16 (streamSeq s x) o ≥ 256) = false) := by
  refine ⟨?_, ?_, ?_, ?_⟩
  · decide +kernel
  · decide +kernel
  · decide +kernel
  · decide +kernel

def snapshot4 : Checkpoint := { step := 11, tick := 0, regions := [{ num := 4, gen := 2, base := 0, size := 4096, data := [], poison := [] }] }

theorem witness_RegionRows :
    (SMap.get? (resident .initialising live).fm.regions 4 = some (region4 .initialising) ∧ live.hl.power ≠ .rest)
    ∧ ({ live.fm with copying := some snapshot4 }).copying = some snapshot4
    ∧ ({ live.fm with winCopying := some live.fm.win }).copying = none ∧ ({ live.fm with winCopying := some live.fm.win }).winCopying = some live.fm.win
    ∧ (let s := { resident .restoring live with fm := { (resident .restoring live).fm with restores := [{ step := 11, regions := snapshot4.regions }] } };
      s.fm.restores = [{ step := 11, regions := snapshot4.regions }] ∧ (snapshot4.regions.find? fun k => k.num == 4).isSome = true
        ∧ SMap.get? s.fm.regions 4 = some (region4 .restoring)) := by
  decide +kernel

/-! ### Forwarding tables -/

def clear : RouteSet := { routesReset with seedLpm := 0, seedExact := 0, seedSel := 0 }
def tabled (f : TbState → TbState) : State := { live with tb := f { tbReset with active := clear, shadow := clear } }
def learn7 : LearnReq := { fa := 7, port := 0, at' := 0 }

/-- An exact table without a free place. -/
theorem witness_bindLearned : ∃ s : State, bindLearned 7 0 s = none ∧ SMap.get? s.tb.learned 7 = none ∧ s.tb.active.exact = [] := by
  have full : ∀ m : SMap Nat, hasPlace m 7 = false → 262144 ≤ m.length → ∀ n, insertKey n m 7 = none := by
    intro m h l n
    simp only [insertKey, h, Bool.false_eq_true, if_false]
    rw [if_pos (by omega)]
  obtain ⟨m, h, l⟩ : ∃ m : SMap Nat, hasPlace m 7 = false ∧ 262144 ≤ m.length := by
    refine ⟨List.replicate 262144 (0, 0), ?_, ?_⟩
    · unfold hasPlace
      exact List.any_eq_false.mpr fun x hx => by simp [(List.mem_replicate.mp hx).2]
    · exact Nat.le_of_eq List.length_replicate.symm
  refine ⟨{ live with tb := { tbReset with active := { clear with exactPlaces := m } } }, ?_, rfl, rfl⟩
  simp only [bindLearned, tbReset, SMap.get?, Option.isSome_none, Bool.false_eq_true, if_false, full m h l]

theorem witness_TableRows :
    (let s := tabled fun x => { x with queue := [learn7] };
      learnNext s.tb.queue = some learn7 ∧ SMap.get? s.tb.active.exact 7 = none ∧ SMap.get? s.tb.learned 7 = none ∧ (bindLearned 7 0 s).isSome = true)
    ∧ (let s := fun (port stamp : Nat) => { tabled (fun x => { x with queue := [learn7], learned := [(7, { port := port, stamp := stamp })] }) with clk := { tick := 10 ^ 12, ps := 0 } };
      SMap.get? (s 0 0).tb.learned 7 = some { port := 0, stamp := 0 } ∧ (1 : Nat) ≠ 0
        ∧ ageOf (s 1 (nowQ (s 1 0))) { port := 1, stamp := nowQ (s 1 0) } < Cfg.TB_MOVE_HOLD (s 1 0)
        ∧ Cfg.TB_MOVE_HOLD (s 1 0) ≤ ageOf (s 1 0) { port := 1, stamp := (nowQ (s 1 0) + 1) % 65536 }
        ∧ Cfg.TB_AGE_LIMIT (s 1 0) < ageOf (s 1 0) { port := 1, stamp := (nowQ (s 1 0) + 1) % 65536 })
    ∧ live.tb.upset = []
    ∧ (let w : TbWrite := { entry := E.TB_LPM_WRITE, body := [], seed := false };
      let s := tabled fun x => { x with applying := [w] };
      s.tb.applying = [w] ∧ applyUnit s.tb.learned w s.tb.shadow = .ok (clear, []) ∧ s.hl.power ≠ .rest)
    ∧ (let s := tabled fun x => { x with grace := some clear, graceEnd := 2 };
      s.tb.grace = some clear ∧ due (s.tb.graceEnd * 1024 * tickPs) s = true)
    ∧ (tabled fun x => { x with copying := true }).tb.copying = true := by
  refine ⟨?_, ?_, ?_, ?_, ?_, ?_⟩
  · decide +kernel
  · decide +kernel
  · decide +kernel
  · decide +kernel
  · decide +kernel
  · decide +kernel

/-- A command on region 4: its code, its generation, 4 KiB at 0 and the key 9. -/
def regionRow (cmd : Nat) (c : Cmd) : Cmd := withByte Dx.WRITE 32 2 (fun b => cmd * 16 + b % 16) (onEntry E.FM_REGION_DEFINE c)
def regionCmd (cmd gen : Nat) : Cmd :=
  sealed Dx.WRITE (regionRow cmd)
    { ask with body := beBytes 4 (cmd * 2 ^ 12 + 4) ++ beBytes 4 (gen * 2 ^ 20) ++ beBytes 8 0 ++ beBytes 8 4096 ++ beBytes 8 9 }
def regionFits (cmd gen : Nat) (r : Option Region) (v : State) : Prop :=
  let b := dxValue Dx.WRITE (regionRow cmd (regionCmd cmd gen))
  (regionCmd cmd gen).body.length = 32 ∧ defineOk v cmd 4 b = true ∧ beAt b 0 4 % 4096 = 4 ∧ (pastOf v 4).lastCmd = none
    ∧ SMap.get? v.fm.regions 4 = r
/-- A route write of one record that removes what is not there. -/
def route (id : Nat) (b : Bytes) : Cmd := withPhase 3 (onEntry id (sealed Dx.WHOLE (fun c => withPhase 3 (onEntry id c)) { ask with body := b }))
def routeFits (id : Nat) (b : Bytes) (v : State) : Prop :=
  (applyUnit v.tb.learned { entry := id, body := b, seed := false } (futureShadow v)).isOk = true

/-- A substitution asks for a signature that `verify`, which is opaque, finds good: it has no closed witness. -/
theorem witness_FabricCommands :
    Meets Dx.WRITE (regionRow 1 (regionCmd 1 3)) live (regionFits 1 3 none)
    ∧ Meets Dx.WRITE (regionRow 2 (regionCmd 2 0)) (resident .active live) (regionFits 2 0 (some (region4 .active)))
    ∧ Meets Dx.WRITE (regionRow 3 (regionCmd 3 3)) (resident .active live) (regionFits 3 3 (some (region4 .active)))
    ∧ Meets Dx.WRITE (regionRow 4 (regionCmd 4 3)) (resident .lost live) (regionFits 4 3 (some (region4 .lost)))
    ∧ Meets Dx.WRITE (onEntry E.FM_CHECKPOINT_STEP (writesAt E.FM_CHECKPOINT_STEP 4096 (beBytes 8 11))) live (fun v => v.dx.pending.length < 1024)
    ∧ (let c := onEntry E.FM_CHECKPOINT_RESTORE (writesAt E.FM_CHECKPOINT_RESTORE 4096 (beBytes 8 11));
      Meets Dx.WRITE c { live with fm := { live.fm with complete := some snapshot4 } }
        (fun v => v.dx.pending.length < 1024 ∧ (v.fm.complete.any fun k => k.step == beNat (dxValue Dx.WRITE c)) = true))
    ∧ Meets Dx.WHOLE (route E.TB_LPM_WRITE (beBytes 8 (2 * 2 ^ 60))) (tabled id) (routeFits E.TB_LPM_WRITE (beBytes 8 (2 * 2 ^ 60)))
    ∧ Meets Dx.WHOLE (route E.TB_EXACT_WRITE (beBytes 8 (2 * 2 ^ 60))) (tabled id) (routeFits E.TB_EXACT_WRITE (beBytes 8 (2 * 2 ^ 60)))
    ∧ Meets Dx.WHOLE (route E.TB_NEXTHOP_WRITE (beBytes 2 16 ++ beBytes 14 0)) (tabled id) (routeFits E.TB_NEXTHOP_WRITE (beBytes 2 16 ++ beBytes 14 0))
    ∧ Meets Dx.WHOLE (route E.TB_GROUP_WRITE (beBytes 72 0)) (tabled id) (routeFits E.TB_GROUP_WRITE (beBytes 72 0))
    ∧ (let c := onEntry E.TB_SEED_NEXT (writes E.TB_SEED_NEXT (beBytes 24 0));
      Meets Dx.WRITE c (tabled id) (fun v =>
        let b := splice (seedBytes (futureShadow v)) (cmdOff c) (dxValue Dx.WRITE c)
        (applyUnit v.tb.learned { entry := E.TB_SEED_NEXT, body := b, seed := true } (futureShadow v)).isOk = true)) := by
  refine ⟨?_, ?_, ?_, ?_, ?_, ?_, ?_, ?_, ?_, ?_, ?_⟩ <;> refine ⟨accepted_of ?_, ?_⟩ <;> (try unfold regionFits) <;> (try unfold routeFits) <;> decide +kernel

/-! ### Commands of the devices -/

/-- The lane command on lane 1 of the egress of port 0, and the loop command from port 2 to port 5 of wing 0. -/
def laneRow (act : Nat) (c : Cmd) : Cmd := withByte Dx.WRITE 8 2 (fun b => b / 16 * 16 + act) (onEntry E.OP_LANE_COMMAND c)
def laneCmd (act : Nat) : Cmd := laneRow act (sealed Dx.WRITE (laneRow act) { ask with body := beBytes 8 (1 * 2 ^ 45 + act * 2 ^ 40) })
def loopRow (act : Nat) (c : Cmd) : Cmd := withByte Dx.WRITE 8 0 (fun b => act * 16 + b % 16) (onEntry E.CH_LOOP_COMMAND c)
def loopCmd (act : Nat) : Cmd := loopRow act (sealed Dx.WRITE (loopRow act) { ask with body := beBytes 8 (act * 2 ^ 60 + 2 * 2 ^ 51 + 5 * 2 ^ 46) })
def powerRow (n : Nat) (c : Cmd) : Cmd := withByte Dx.WRITE 1 0 (fun _ => n) (onEntry E.PS_REQUEST c)
def powerCmd (n tick : Nat) : Cmd := powerRow n (sealed Dx.WRITE (powerRow n) { ask with body := [BitVec.ofNat 8 n], tick := BitVec.ofNat 64 tick })
def clearRow (n : Nat) (c : Cmd) : Cmd := withByte Dx.WRITE 1 0 (fun b => b ||| n) (onEntry E.TM_CLEAR c)
def clearCmd (n : Nat) : Cmd := clearRow n (sealed Dx.WRITE (clearRow n) { ask with body := [BitVec.ofNat 8 n], tick := 5000 })
def plain (id : Nat) (b : Bytes) : Cmd := onEntry id (writes id b)
/-- A certificate under one manager key that holds no key. -/
def cert : Bytes :=
  beBytes 4 0x57435254 ++ beBytes 1 1 ++ beBytes 3 9 ++ beBytes 4 5 ++ beBytes 4 0 ++ beBytes 8 3000 ++ beBytes 8 0 ++ beBytes 1 1 ++ beBytes 7 0
    ++ beBytes 104 0
/-- Ports 2 and 5 are disabled. -/
def spare25 : State :=
  setTab E.PORT_CONFIG ([0, 0, 1, 0] ++ [0, 0, 1, 0] ++ beBytes 4 0 ++ [0, 0, 1, 0] ++ [0, 0, 1, 0] ++ beBytes 4 0) live
def looped : State := { spare25 with ch := [(0, { wingZero with loops := [{ a := 2, b := 5, path := some 0 }] })] }

theorem witness_DeviceCommands :
    Meets Dx.WRITE (laneCmd 1) live (fun v =>
      let n := beNat (dxValue Dx.WRITE (laneCmd 1))
      (laneCmd 1).body.length = 8 ∧ dpLive v = true ∧ bits n 48 16 = 0 ∧ bits n 44 1 = 0 ∧ bits n 45 3 = 1 ∧ portFormat v 0 = 1
        ∧ darkIn v 0 = false ∧ laneSt v 0 0 1 = .inService ∧ reserveFree v 0 0 = true ∧ v.op.moves = [])
    ∧ Meets Dx.WRITE (laneCmd 2) (lane0 0 1 .moved (moving (moveOf .inForce true 4 2000))) (fun v =>
      let n := beNat (dxValue Dx.WRITE (laneCmd 2))
      (laneCmd 2).body.length = 8 ∧ bits n 48 16 = 0 ∧ bits n 44 1 = 0 ∧ bits n 45 3 = 1 ∧ laneSt v 0 0 1 = .moved
        ∧ (v.op.moves.any fun m => m.port == 0 && m.dir == 0 && m.src == 1 && m.state == .inForce) = true)
    ∧ Meets Dx.WRITE (plain E.OP_ELS_REPLACE_PREPARE [0]) live (fun _ => True)
    ∧ Meets Dx.WRITE (loopCmd 1) spare25 (fun v => (loopCmd 1).body.length = 8 ∧ (loopDone (beNat (dxValue Dx.WRITE (loopCmd 1))) v).isSome = true)
    ∧ Meets Dx.WRITE (loopCmd 2) looped (fun v => (loopCmd 2).body.length = 8 ∧ (loopDone (beNat (dxValue Dx.WRITE (loopCmd 2))) v).isSome = true)
    ∧ (let c := onEntry E.PORT_CONFIG { writesAt E.PORT_CONFIG 4096 [0, 0, 1, 0] with operand := 0 };
      Meets Dx.WRITE c live (fun v => v.dx.pending.length < 1024
        ∧ ((writeRecs ((findEntry E.PORT_CONFIG).getD noEntry) (cmdOff c) (dxValue Dx.WRITE c)).find? fun x => recordRefused v E.PORT_CONFIG x.1 x.2) = none))
    ∧ Meets Dx.WRITE (powerCmd 0 5000) live (fun v => (powerCmd 0 5000).body.length = 1 ∧ v.hl.power ≠ .rest ∧ v.dx.pending.length < 1024)
    ∧ Meets Dx.WRITE (powerCmd 1 5000) live (fun v => (powerCmd 1 5000).body.length = 1 ∧ v.hl.power ≠ .rest ∧ v.dx.pending.length < 1024)
    ∧ Meets Dx.WRITE (powerCmd 0 0) { live with hl := { live.hl with power := .rest } } (fun v => v.hl.power = .rest ∧ v.hl.entering = false)
    ∧ Meets Dx.WRITE (powerCmd 1 0) { live with hl := { live.hl with power := .rest } } (fun v => v.hl.power = .rest ∧ v.hl.entering = false)
    ∧ Meets Dx.WRITE (powerCmd 2 5120) { live with rp := { live.rp with sync := .stale } }
      (fun v => (powerCmd 2 5120).body.length = 1 ∧ restRefusal v = none ∧ v.dx.pending.length < 1024)
    ∧ Meets Dx.WRITE (plain E.HL_DI_UNMASK [1]) live (fun _ => True)
    ∧ Meets Dx.WRITE (plain E.HL_FAULT_CLEAR [0, 0, 0, 1]) live (fun _ => True)
    ∧ Meets Dx.WRITE (plain E.HL_ATTN_CLEAR [0, 0, 0, 1]) live (fun _ => True)
    ∧ Meets Dx.WRITE (plain E.HL_CERT_SUBMIT cert) { live with se := { live.se with quorum := 0 } } (fun v =>
      certForm cert = true ∧ v.se.quorum = 0 ∧ getNum v E.HL_CERT_COUNTER 0 < beAt cert 8 4 ∧ beAt cert 5 3 ≠ posFa v
        ∧ beAt cert 16 8 ≤ v.clk.tick + 2 ^ 20 ∧ v.hl.fences.length < 1024)
    ∧ Meets Dx.WRITE (clearCmd 1) live (fun v => (clearCmd 1).body.length = 1 ∧ v.dx.pending.length < 1024)
    ∧ Meets Dx.WRITE (clearCmd 2) live (fun v => (clearCmd 2).body.length = 1 ∧ v.dx.pending.length < 1024)
    ∧ Meets Dx.WRITE (onEntry E.TM_LATCH_NOW (writesAt E.TM_LATCH_NOW 5000 [1])) live (fun v => v.dx.pending.length < 1024)
    ∧ Meets Dx.WRITE (plain E.TM_CAPTURE_RESTART [1]) live (fun _ => beNat (dxValue Dx.WRITE (plain E.TM_CAPTURE_RESTART [1])) = 1)
    ∧ Meets Dx.WRITE (plain E.BI_STRATA_TEST_NOW [0, 3]) live (fun v =>
      beNat (dxValue Dx.WRITE (plain E.BI_STRATA_TEST_NOW [0, 3])) = 3 ∧ bankTestable v 0 3 = true ∧ bankBusy 0 v = false) := by
  refine ⟨?_, ?_, ?_, ?_, ?_, ?_, ?_, ?_, ?_, ?_, ?_, ?_, ?_, ?_, ?_, ?_, ?_, ?_, ?_, ?_⟩
  · exact ⟨accepted_of (by decide +kernel), by decide +kernel⟩
  · exact ⟨accepted_of (by decide +kernel), by decide +kernel⟩
  · exact ⟨accepted_of (by decide +kernel), by decide +kernel⟩
  · exact ⟨accepted_of (by decide +kernel), by decide +kernel⟩
  · exact ⟨accepted_of (by decide +kernel), by decide +kernel⟩
  · exact ⟨accepted_of (by decide +kernel), by decide +kernel⟩
  · exact ⟨accepted_of (by decide +kernel), by decide +kernel⟩
  · exact ⟨accepted_of (by decide +kernel), by decide +kernel⟩
  · exact ⟨accepted_of (by decide +kernel), by decide +kernel⟩
  · exact ⟨accepted_of (by decide +kernel), by decide +kernel⟩
  · exact ⟨accepted_of (by decide +kernel), by decide +kernel⟩
  · exact ⟨accepted_of (by decide +kernel), by decide +kernel⟩
  · exact ⟨accepted_of (by decide +kernel), by decide +kernel⟩
  · exact ⟨accepted_of (by decide +kernel), by decide +kernel⟩
  · exact ⟨accepted_of (by decide +kernel), by decide +kernel⟩
  · exact ⟨accepted_of (by decide +kernel), by decide +kernel⟩
  · exact ⟨accepted_of (by decide +kernel), by decide +kernel⟩
  · exact ⟨accepted_of (by decide +kernel), by decide +kernel⟩
  · exact ⟨accepted_of (by decide +kernel), by decide +kernel⟩
  · exact ⟨accepted_of (by decide +kernel), by decide +kernel⟩

/-! ### Host queues, sessions, reads and writes -/

/-- Host 0's queues of four slots, and a response that waits for a completion slot. -/
def hosted (f : PcieFn → PcieFn) : State := { live with pc := [(0, f { pcieReset with sqLog2 := 2, cqLog2 := 2, eqLog2 := 2, ctrl := 1 })] }
def response : Resp :=
  { dest := .pcie 0, op := Dx.READ, session := 7, tag := 1, entry := 0, status := 0, detail := 0, tick := 0, replayed := false, body := [] }
def later (entry : Nat) (b : Bytes) : PendWrite := { entry := entry, session := 7, tick := some 2048, offset := 0, body := b }
def pendingOn (l : List PendWrite) : State := { live with dx := { live.dx with pending := l } }
def xfer5 : Xfer :=
  { entry := E.TT_NEXT_IMAGE, session := 7, state := .openn, length := 64, digest := [], lines := [], idleEnd := 1, activity := 0, commit := none }
def snap5 : Snap := { entry := E.PORT_CONFIG, session := 7, src := .t1s 1, data := [1, 2], served := 0, idleEnd := 1, activity := 0 }
def with5 (l : List Xfer) (n : List Snap) : State := { live with dx := { live.dx with xfers := l, snaps := n } }

theorem witness_HostQueues :
    (let s := hosted id;
      (pcOf s 0).perst = false ∧ pcieServed s = true ∧ fetchedOf s 0 = [] ∧ slotsRead 0 (slotsNew s 0 0) [] = [] ∧ (pcOf s 0).waiting = [])
    ∧ (let s := hosted fun f => { f with waiting := [response] };
      (pcOf s 0).perst = false ∧ pcieServed s = true ∧ fetchedOf s 0 = [] ∧ (pcOf s 0).waiting = [response]
        ∧ ((pcOf s 0).cqTail + 1) % 2 ^ (pcOf s 0).cqLog2 ≠ 0)
    ∧ (let s := hosted fun f => { f with vectors := [(2, (1, true))] };
      SMap.get? (pcOf s 0).vectors 2 = some (1, true) ∧ due 1 s = true)
    ∧ (let s := { live with dx := { live.dx with sessions := [{ board with leaseEnd := 1 }] } };
      sessionOf s 7 = some { board with leaseEnd := 1 } ∧ due 1 s = true)
    ∧ (let s := with5 [xfer5] [snap5];
      (s.dx.xfers.drop 0).head? = some xfer5 ∧ due xfer5.idleEnd s = true ∧ (s.dx.snaps.drop 0).head? = some snap5 ∧ due snap5.idleEnd s = true)
    ∧ (let alone := fun (w : PendWrite) (s : State) => writeDue s w = true
        ∧ (s.dx.pending.filter fun x => x.entry == w.entry && x.tick == w.tick) = [w] ∧ actionOver s w.entry = false
        ∧ (s.dx.pending.any fun x => x.entry == w.entry && x.tick.any fun t => w.tick.any (t < ·)) = false;
      (let w := later E.FT_PPS_OUT_MODE [2];
        ((pendingOn [w]).dx.pending.drop 0).head? = some w ∧ alone w (pendingOn [w])
          ∧ ((findEntry w.entry).map (·.id)) = some E.FT_PPS_OUT_MODE)
      ∧ (let w := later E.FM_CHECKPOINT_STEP (beBytes 8 11);
        pendingOf (pendingOn [w]) E.FM_CHECKPOINT_STEP = some w ∧ pendingOf (pendingOn [w]) E.FM_CHECKPOINT_RESTORE = none ∧ alone w (pendingOn [w])
          ∧ (pendingOn [w]).fm.copying = none)
      ∧ (let w := later E.FM_CHECKPOINT_RESTORE (beBytes 8 11);
        pendingOf (pendingOn [w]) E.FM_CHECKPOINT_RESTORE = some w)) := by
  refine ⟨?_, ?_, ?_, ?_, ?_, ?_⟩
  · decide +kernel
  · decide +kernel
  · decide +kernel
  · decide +kernel
  · decide +kernel
  · decide +kernel

/-- An action of a session, and a second session of the same controller. -/
def act (a : Nat) (b : Bytes) : Cmd := withAction a (sealed Dx.ACTION (withAction a) { ask with body := b })
def opening : Cmd := withAction Act.OPEN (sealed Dx.ACTION (withAction Act.OPEN) { ask with session := 0 })
def board2 : Session := { board with num := 8, src := .t1s 1 }
def shared : State := { live with dx := { live.dx with sessions := [board, board2] } }
/-- All areas belong to the second session. -/
def others : State := { shared with dx := { shared.dx with owners := (List.range 17).map fun a => (a, 8) } }

theorem witness_SessionRows :
    Meets Dx.ACTION opening live (fun v => v.dx.sessions.length < 64 ∧ (v.dx.sessions.filter fun x => samePrincipal x opening.src).length < 8)
    ∧ Meets Dx.ACTION (act Act.CLOSE []) live (fun _ => True)
    ∧ Meets Dx.ACTION (act Act.RENEW []) live (fun _ => True)
    ∧ Meets Dx.ACTION (act Act.CLAIM (beBytes 4 3)) live (fun v => bit 3 17 = false ∧ bit 3 18 = false ∧ maskAreas 3 = [0, 1]
        ∧ ∀ b ∈ maskAreas 3, (ownerOf v b = 0 ∨ ownerOf v b = 7) ∧ mayClaim 3 b v = true)
    ∧ Meets Dx.ACTION (act Act.RELEASE (beBytes 4 3)) live (fun _ => cmdNum (act Act.RELEASE (beBytes 4 3)) 0 4 = 3)
    ∧ (let c := act Act.HANDOVER (beBytes 4 3 ++ beBytes 2 8 ++ beBytes 2 0);
      Meets Dx.ACTION c shared (fun v => cmdNum c 0 4 = 3 ∧ sessionOf v (cmdNum c 4 2) = some board2
        ∧ ∀ b ∈ maskAreas 3, mayClaim 3 b v = true ∧ ownerOf v b = 7))
    ∧ Meets Dx.ACTION (act Act.CLAIM (beBytes 4 3)) others (fun v =>
      (maskAreas 3).find? (fun b => !((ownerOf v b == 0 || ownerOf v b == 7) && mayClaim 3 b v)) = some 0) := by
  refine ⟨?_, ?_, ?_, ?_, ?_, ?_, ?_⟩
  · exact ⟨accepted_of (by decide +kernel), by decide +kernel⟩
  · exact ⟨accepted_of (by decide +kernel), by decide +kernel⟩
  · exact ⟨accepted_of (by decide +kernel), by decide +kernel⟩
  · exact ⟨accepted_of (by decide +kernel), by decide +kernel⟩
  · exact ⟨accepted_of (by decide +kernel), by decide +kernel⟩
  · exact ⟨accepted_of (by decide +kernel), by decide +kernel⟩
  · exact ⟨accepted_of (by decide +kernel), by decide +kernel⟩

/-- A command of a phase on an entry. -/
def phased (op n low id : Nat) (b : Bytes) : Cmd :=
  withPhase n (sealed op (withPhase n) { ask with entry := BitVec.ofNat 24 id, operand := BitVec.ofNat 32 low, body := b })

theorem witness_ReadRows :
    Meets Dx.READ (sealed Dx.READ id { ask with entry := BitVec.ofNat 24 E.DX_LEASE_MS, operand := 4 }) live (fun _ => True)
    ∧ Meets Dx.READ_BLOCK (phased Dx.READ_BLOCK 1 0 E.PORT_CONFIG []) live (fun v => v.dx.snaps = [])
    ∧ (let c := phased Dx.READ_BLOCK 2 4 E.PORT_CONFIG [];
      let x := { snap5 with entry := E.PORT_CONFIG, data := beBytes 2048 0, idleEnd := 10 ^ 18 };
      Meets Dx.READ_BLOCK c (with5 [] [x]) (fun v => ownSnap c v = some x))
    ∧ Meets Dx.READ_BLOCK (phased Dx.READ_BLOCK 3 0 E.PORT_CONFIG []) (with5 [] [{ snap5 with entry := E.PORT_CONFIG }]) (fun _ => True)
    ∧ Meets Dx.SUBSCRIBE (phased Dx.SUBSCRIBE 1 0 0 (beBytes 4 2)) live (fun v => v.dx.subs.length < 64)
    ∧ Meets Dx.SUBSCRIBE (phased Dx.SUBSCRIBE 2 0 0 (beBytes 4 (E.DX_LEASE_MS * 256) ++ beBytes 4 8)) live (fun v => v.dx.subs.length < 64)
    ∧ (let c := phased Dx.SUBSCRIBE 3 0 0 (beBytes 4 6);
      let b : Sub := { num := 6, session := 7, kind := 1, arg := 2, interval := 0, dest := .t1s 1, sent := 0, queue := [] };
      Meets Dx.SUBSCRIBE c { live with dx := { live.dx with subs := [b] } } (fun v => v.dx.subs.length = 1 ∧ b.num = cmdNum c 0 4 ∧ b.session = cmdSession c)) := by
  refine ⟨?_, ?_, ?_, ?_, ?_, ?_, ?_⟩
  · exact ⟨accepted_of (by decide +kernel), by decide +kernel⟩
  · exact ⟨accepted_of (by decide +kernel), by decide +kernel⟩
  · exact ⟨accepted_of (by decide +kernel), by decide +kernel⟩
  · exact ⟨accepted_of (by decide +kernel), by decide +kernel⟩
  · exact ⟨accepted_of (by decide +kernel), by decide +kernel⟩
  · exact ⟨accepted_of (by decide +kernel), by decide +kernel⟩
  · exact ⟨accepted_of (by decide +kernel), by decide +kernel⟩

/-- A write that every owner lets through, at once or later. -/
def free (op : Nat) (c : Cmd) (v : State) (now' : Bool) : Prop :=
  let e := (findEntry c.entry.toNat).getD noEntry
  commandEntry e.id = false ∧ ownerRefuses v e (cmdOff c) (if e.eff = 2 then cmdTick c else v.clk.tick) (dxValue op c) = none
    ∧ ((e.eff == 1) = now') ∧ v.dx.pending.length < 1024 ∧ wakesNow v e.id (dxValue op c) = false
/-- A signed write on a part without owners: key 0xFF, no signature and a counter of 1. -/
def signed (id : Nat) (b : Bytes) : Cmd :=
  sealed Dx.SIGNED_WRITE (onEntry id) { ask with entry := BitVec.ofNat 24 id, body := b ++ beBytes 8 1 ++ [0xFF] ++ beBytes 7 0 ++ beBytes 96 0 }
/-- The transfer with its line, and its COMMIT. -/
def filled : Xfer := { xfer5 with lines := [(0, beBytes 64 0)], idleEnd := 10 ^ 18 }
def commit5 : Cmd := phased Dx.WRITE_BLOCK 3 0 E.TT_NEXT_IMAGE []

theorem witness_WriteRows :
    Meets Dx.WRITE (plain E.FT_ENABLE_A [1]) live (fun v => free Dx.WRITE (plain E.FT_ENABLE_A [1]) v true)
    ∧ Meets Dx.WRITE (onEntry E.FT_PPS_OUT_MODE (writesAt E.FT_PPS_OUT_MODE 4096 [1])) live
      (fun v => free Dx.WRITE (onEntry E.FT_PPS_OUT_MODE (writesAt E.FT_PPS_OUT_MODE 4096 [1])) v false)
    ∧ Meets Dx.SIGNED_WRITE (signed E.SE_QUORUM [2]) live (fun v => free Dx.SIGNED_WRITE (signed E.SE_QUORUM [2]) v true ∧ v.se.counter = 1)
    ∧ Meets Dx.WRITE_BLOCK (phased Dx.WRITE_BLOCK 1 0 E.TT_NEXT_IMAGE (beBytes 8 64 ++ beBytes 48 0)) live (fun v => v.dx.xfers = [])
    ∧ (let c := phased Dx.WRITE_BLOCK 2 0 E.TT_NEXT_IMAGE (beBytes 64 0);
      Meets Dx.WRITE_BLOCK c (with5 [{ xfer5 with idleEnd := 10 ^ 18 }] []) (fun v => (ownXfer c v).isSome = true))
    ∧ Meets Dx.WRITE_BLOCK commit5 (with5 [filled] []) (fun v => ownXfer commit5 v = some filled ∧ filled.length ≤ firstMissing filled)
    ∧ Meets Dx.WRITE_BLOCK commit5 (with5 [{ filled with lines := [] }] [])
      (fun v => ownXfer commit5 v = some { filled with lines := [] } ∧ firstMissing { filled with lines := [] } < filled.length)
    ∧ Meets Dx.WRITE_BLOCK (phased Dx.WRITE_BLOCK 4 0 E.TT_NEXT_IMAGE []) (with5 [filled] [])
      (fun v => ownXfer (phased Dx.WRITE_BLOCK 4 0 E.TT_NEXT_IMAGE []) v = some filled)
    ∧ (let x := { filled with state := .verifying, commit := some commit5 };
      let s := with5 [x] [];
      xferOf s E.TT_NEXT_IMAGE = some x ∧ x.commit = some commit5 ∧ sessionOf s 7 = some board ∧ board.waiting = []) := by
  refine ⟨?_, ?_, ?_, ?_, ?_, ?_, ?_, ?_, ?_⟩
  · exact ⟨accepted_of (by decide +kernel), by unfold free; decide +kernel⟩
  · exact ⟨accepted_of (by decide +kernel), by unfold free; decide +kernel⟩
  · exact ⟨accepted_of (by decide +kernel), by unfold free; decide +kernel⟩
  · exact ⟨accepted_of (by decide +kernel), by decide +kernel⟩
  · exact ⟨accepted_of (by decide +kernel), by decide +kernel⟩
  · exact ⟨accepted_of (by decide +kernel), by decide +kernel⟩
  · exact ⟨accepted_of (by decide +kernel), by decide +kernel⟩
  · exact ⟨accepted_of (by decide +kernel), by decide +kernel⟩
  · decide +kernel

/-! ### The moth, resets, tests and repair -/

/-- A rule of one input that is on. -/
def ruled : State := setTab E.HL_RULES (beBytes 256 0 ++ beBytes 4 (2 ^ 31) ++ beBytes 4 (2 ^ 16) ++ beBytes 24 0) live
def beat (counter : Nat) : Packet :=
  linkMsg Op.HEARTBEAT (beBytes 4 0 ++ beBytes 4 counter ++ beBytes 8 0 ++ beBytes 4 0x30 ++ beBytes 12 0)
def neighbour (n : Neighbour) : State :=
  { live with links := [(0, { linkZero with params := true, partner := beBytes 16 0 ++ beBytes 4 0x30 ++ beBytes 12 0 })]
              hl := { live.hl with neighbours := [(0, n)] } }
def certOf (expel : Bool) : Cert := { expel := expel, fa := 0x30, num := 4, tick := 2000 }
def certed (expel : Bool) : State := { live with hl := { live.hl with certs := [certOf expel] } }
def watched (c : Option Nat) : State := { live with hl := { live.hl with controllers := [(0, { controllerZero with challenge := c })] } }

theorem witness_MothRows :
    ((diOf live 0).raw = false ∧ (diOf live 0).raw ≠ true)
    ∧ (let s := { live with hl := { live.hl with di := [(2, { diZero with raw := true, filtered := true, since := some 0 })] }, clk := { tick := 10 ^ 8, ps := 0 } };
      diAsserted s 2 = true ∧ (diOf s 2).stuck = false ∧ (diOf s 2).since = some 0 ∧ due (0 + beAt (diCfg s 2) 6 2 * 1000000000) s = true ∧ s.hl.power ≠ .rest)
    ∧ ((ruleOf ruled 8).on = true ∧ 0 < (ruleOf ruled 8).count ∧ ruled.hl.power ≠ .off ∧ ruled.hl.mothRestarting = false
      ∧ ((SMap.getD (ruleState ruled 8).inputs 0 ruleInputZero).evalAt.any fun t => ruled.clk.tick < t + (ruleOf ruled 8).period) = false)
    ∧ (let s := { waiting (openPkt data 1) with hl := { live.hl with gated := [0] } };
      (s.hl.gated.find? fun l => physBench s l == 0) = some 0 ∧ benchQueued s 0 = true)
    ∧ (let valid := fun (k : Packet) (s : State) => pkOp k = Op.HEARTBEAT ∧ pkCrcOk k = true ∧ (linkOf s 0).params = true
        ∧ beAt (pkBody k) 16 4 % 2 ^ 24 = partnerFa s 0;
      (valid (beat 5) (neighbour nbZero) ∧ (nbOf (neighbour nbZero) 0).counted = false)
      ∧ (let s := neighbour { nbZero with counted := true, counter := 5 };
        valid (beat 5) s ∧ (nbOf s 0).counted = true ∧ serialAfter 32 (beAt (pkBody (beat 5)) 4 4) (nbOf s 0).counter = false))
    ∧ (let s := neighbour { nbZero with state := .alive, age := 10 ^ 9 };
      (nbOf s 0).state = .alive ∧ ageLimit s < (nbOf s 0).age ∧ partnerLeft s 0 = false)
    ∧ (certNth (certed true) 0 true = some (certOf true) ∧ (certed true).hl.power ≠ .rest
      ∧ ((certed true).hl.certs.any fun x => !x.expel && x.fa == 0x30 && x.tick == 2000 && x.num > 4) = false)
    ∧ (certNth (certed false) 0 false = some (certOf false) ∧ (certed false).hl.fences = []
      ∧ (((certed false).hl.fences ++ (certed false).hl.certs).any fun x => x.expel && x.fa == 0x30 && x.tick == 2000 && x.num > 4) = false)
    ∧ (let calm := fun (s : State) => (controllerOf s 0).restarting = false ∧ s.hl.mothRestarting = false ∧ s.hl.power ≠ .off ∧ due (controllerOf s 0).nextAt s = true;
      (calm (watched none) ∧ (controllerOf (watched none) 0).challenge = none)
      ∧ (calm (watched (some 3)) ∧ (controllerOf (watched (some 3)) 0).challenge ≠ none))
    ∧ (controllerOf { live with hl := { live.hl with controllers := [(0, { controllerZero with restarting := true })] } } 0).restarting = true := by
  refine ⟨?_, ?_, ?_, ?_, ?_, ?_, ?_, ?_, ?_, ?_⟩
  · decide +kernel
  · decide +kernel
  · decide +kernel
  · decide +kernel
  · decide +kernel
  · decide +kernel
  · decide +kernel
  · decide +kernel
  · decide +kernel
  · decide +kernel

theorem witness_PowerResets :
    restDue { live with hl := { live.hl with restTick := some 2048 } } = true
    ∧ (let s := { live with hl := { live.hl with power := .rest, entering := true } };
      s.hl.power = .rest ∧ s.hl.entering = true ∧ s.hl.wakeAfter = none)
    ∧ ({ live.hl with power := .waking }).power = .waking
    ∧ (let s := { live with bi := { live.bi with state := 1 }, rp := { live.rp with resetClass := 2 } };
      s.bi.state = 1 ∧ s.rp.resetClass = 2)
    ∧ (State.reset.el.fuseOpen = false ∧ State.reset.hl.tripped = false ∧ State.reset.bi.state = 0)
    ∧ (live.el.pwrOk = true ∧ live.el.rstN = true ∧ live.hl.power ≠ .off ∧ live.el.input = true) := by
  decide +kernel

def testing (step : Nat) (failed spare : Bool) : BankTest := { stack := 0, bank := 3, step := step, failed := failed, spare := spare }
def banked (x : BankTest) : State :=
  { live with bi := { live.bi with tests := [x], banks := [(bankKey 0 3, { state := .underTest, replaces := 0xFF }), (bankKey 0 130, { state := .spare, replaces := 0xFF })] } }

theorem witness_PowerUpTests :
    (let s := { live with bi := { live.bi with state := 1, phase := 2 }, rp := { live.rp with resetClass := 3 } };
      s.bi.state = 1 ∧ s.hl.power ≠ .off ∧ s.rp.resetClass ≠ 2 ∧ s.bi.phase ≠ 1 ∧ s.bi.phase ≠ 5 ∧ stepFits 1 (stepUnits 1 s ++ [0]) = true
        ∧ inputW s + stepIncrement 1 * 1 ≤ Cfg.BI_POWER_LIMIT_W s)
    ∧ ({ live.bi with phase := 5 }).phase = 5
    ∧ (bankTestable { live with bi := { live.bi with tests := [testing 0 false false] } } 0 3 = true
      ∧ ([testing 0 false false].any fun t => t.stack == 0 && t.bank == 3 && t.step == 0) = true)
    ∧ (let s := setNum E.BI_RT_ENABLE 1 { live with frame := 0, clk := { tick := 0, ps := 0 } };
      bankTestable s 0 0 = true ∧ Cfg.BI_RT_ENABLE s = 1 ∧ frameOf s % Cfg.BI_STRATA_INTERVAL_FRAMES s = 0 ∧ bankNext s 0 = 0)
    ∧ (let s := banked (testing 3 true false);
      (s.bi.tests.drop 0).head? = some (testing 3 true false) ∧ (bankOf s (bankKey 0 3)).state ≠ .spare ∧ (spareBank s 0).isSome = true)
    ∧ (((banked (testing 1 false false)).bi.tests.drop 0).head? = some (testing 1 false false)
      ∧ ((banked (testing 2 false false)).bi.tests.drop 0).head? = some (testing 2 false false)
      ∧ ((banked (testing 3 false false)).bi.tests.drop 0).head? = some (testing 3 false false)) := by
  refine ⟨?_, ?_, ?_, ?_, ?_, ?_⟩
  · decide +kernel
  · decide +kernel
  · decide +kernel
  · decide +kernel
  · decide +kernel
  · decide +kernel

def leaving (reason : Nat) : State :=
  { live with rp := { live.rp with sync := .withdrawing, withdraw := some { frame := 2, lossSet := 1, reason := reason, told := [] } } }
def receiving : State := { live with rp := { live.rp with stream := some { stream1 [] with role := 2 } } }
def dump5 : Dump := { seq := 5, bytes := [1] }

/-- The clause of an import that applies has no witness here: its record holds every setting that R471 lists. -/
theorem witness_RepairRows :
    (let atW := fun (n : Nat) (s : State) =>
        (s.rp.withdraw.all fun w => w.frame ≤ frameOf s && w.reason == n) = true ∧ s.frame = frameOf s ∧ s.rp.sync = .withdrawing;
      atW 1 (leaving 1) ∧ (atW 2 (leaving 2) ∧ restDue { leaving 2 with hl := { live.hl with restTick := some 2048 } } = true)
        ∧ (atW 3 (leaving 3) ∧ (leaving 3).bi.state = 2 ∧ (leaving 3).hl.tripped = false) ∧ atW 4 (leaving 4))
    ∧ (let k := linkMsg Op.WITHDRAW (beBytes 32 0);
      pkOp k = Op.WITHDRAW ∧ pkCrcOk k = true)
    ∧ (let s := { live with rp := { live.rp with sync := .joining, heard := [(0, 1)] }, tt := { ttReset with nextImage := some bare }, ft := { live.ft with gen := .following } };
      s.rp.sync = .joining ∧ s.frame = frameOf s ∧ s.rp.join ≤ frameOf s ∧ dpLive s = true ∧ s.tt.nextImage = some bare
        ∧ fabricEpoch s = some 1 ∧ s.ft.gen ≠ .free)
    ∧ (let s := { live with rp := { live.rp with bench := [(33, { state := .testing, result := 0, frame := 0, leaseEnd := 0 })] } };
      (physSlot s 33).state = .testing ∧ throttleOf s 0 ≠ 2)
    ∧ (physSlot live 0).state = .serving
    ∧ (streamReceiving receiving = some { stream1 [] with role := 2 } ∧ due (stream1 []).dueAt receiving = true)
    ∧ (let s := { live with se := { live.se with checking := true, running := 0 } };
      s.se.checking = true ∧ fwTarget s = 1)
    ∧ (let s := { live with rp := { live.rp with building := some 1 } };
      s.rp.building = some 1 ∧ s.rp.sync = .current)
    ∧ (let s := { live with rp := { live.rp with importing := some [] } };
      s.rp.importing = some [] ∧ importReason s [] ≠ 0 ∧ s.hl.power ≠ .rest)
    ∧ (let s := { live with tm := { live.tm with buffers := [dump5] } };
      s.tm.buffers = [dump5] ∧ s.hl.power ≠ .off ∧ Cfg.TM_DUMP_DEST s = 0) := by
  refine ⟨?_, ?_, ?_, ?_, ?_, ?_, ?_, ?_, ?_, ?_⟩
  · decide +kernel
  · decide +kernel
  · decide +kernel
  · decide +kernel
  · decide +kernel
  · decide +kernel
  · decide +kernel
  · decide +kernel
  · decide +kernel
  · decide +kernel

/-- A signed command on a part without owners, under its row. -/
def signedBy (row : Cmd → Cmd) (b : Bytes) : Cmd :=
  row (sealed Dx.SIGNED_WRITE row { ask with body := b ++ beBytes 8 1 ++ [0xFF] ++ beBytes 7 0 ++ beBytes 96 0 })
def resetRow (cls : Nat) (c : Cmd) : Cmd := withByte Dx.SIGNED_WRITE 16 0 (fun _ => cls) (onEntry E.RP_RESET c)
def resetCmd (cls : Nat) (later : Bool) : Cmd :=
  signedBy (resetRow cls) (beBytes 1 cls ++ beBytes 1 (if later then 0x80 else 0) ++ beBytes 6 0 ++ beBytes 8 (if later then 9 else 0))
def resetLater (c : Cmd) : Bool := bit (beAt (dxValue Dx.SIGNED_WRITE c) 0 4) 23
/-- The base point of the curve, as a key of slot 0. -/
def basePoint : Bytes :=
  [4] ++ beBytes 48 0x1D1C64F068CF45FFA2A63A81B7C13F6B8847A3E77EF14FE3DB7FCAFE0CBD10E8E826E03436D646AAEF87B2E247D4AF1E
    ++ beBytes 48 0x8ABE1D7520F9C2A45CB1EB8E95CFD55262B70B29FEEC5864E19C054FF99129280E4646217791811142820341263C5315
/-- The part runs a firmware image of version 5. -/
def firmware : State := { live with se := { live.se with slots := [(0, { state := 1, image := beBytes 16 0 ++ [5] })] } }
/-- The mirror window is open to 0x10 and has a complete checkpoint. -/
def windowed : State :=
  setNum E.FM_MIRROR_FROM 0x10 { live with fm := { live.fm with winCk := some live.fm.win } }

/-- A revocation asks for an owner, whose signature `verify`, which is opaque, must find good: it has no closed witness. -/
theorem witness_RepairCommands :
    Meets Dx.WRITE (plain E.RP_POSITION_FA (beBytes 4 0x20)) { live with rp := { live.rp with sync := .stale } } (fun v => positionRefused v = false)
    ∧ (let c := plain E.RP_WITHDRAW (beBytes 8 9 ++ beBytes 2 1 ++ beBytes 6 0);
      Meets Dx.WRITE c live (fun v => frameOf v + 2 ≤ beAt c.body 0 8 ∧ v.rp.sync = .current ∧ withdrawLoss (beAt c.body 8 2) v ≠ 0))
    ∧ Meets Dx.SIGNED_WRITE (resetCmd 2 false) live
      (fun v => (resetCmd 2 false).body.length = 128 ∧ resetLater (resetCmd 2 false) = false ∧ v.bi.state = 2 ∧ v.hl.tripped = false)
    ∧ Meets Dx.SIGNED_WRITE (resetCmd 2 true) (setNum E.RP_LOSS_SET 1 live)
      (fun v => resetLater (resetCmd 2 true) = true ∧ frameOf v + 2 ≤ beAt (resetCmd 2 true).body 8 8 ∧ v.rp.sync = .current ∧ Cfg.RP_LOSS_SET v ≠ 0)
    ∧ Meets Dx.SIGNED_WRITE (resetCmd 3 false) live (fun _ => (resetCmd 3 false).body.length = 128 ∧ resetLater (resetCmd 3 false) = false)
    ∧ Meets Dx.WRITE (plain E.RP_BENCH_RESET [33]) live
      (fun v => benchResetRefused (beNat (dxValue Dx.WRITE (plain E.RP_BENCH_RESET [33]))) v = false)
    ∧ Meets Dx.WRITE (plain E.RP_STREAM_ACCEPT (beBytes 4 0x10 ++ beBytes 4 0 ++ beBytes 8 7 ++ beBytes 4 (2 ^ 20) ++ beBytes 4 0)) live
      (fun v => streamRunning v = false)
    ∧ (let c := plain E.RP_STREAM_START (beBytes 4 0x10 ++ beBytes 4 0 ++ beBytes 8 7 ++ beBytes 4 (2 ^ 20) ++ beBytes 4 0);
      Meets Dx.WRITE c windowed (fun v => streamStartRefused c.body v = false ∧ (streamSource c.body v).isSome = true))
    ∧ Meets Dx.WRITE (plain E.RP_STREAM_ABORT [1]) receiving
      (fun v => beNat (dxValue Dx.WRITE (plain E.RP_STREAM_ABORT [1])) = 1 ∧ streamRunning v = true)
    ∧ Meets Dx.SIGNED_WRITE (signedBy (onEntry E.SE_FW_ACTIVATE) [0]) firmware
      (fun v => fwActivateRefused (beNat (dxValue Dx.SIGNED_WRITE (signedBy (onEntry E.SE_FW_ACTIVATE) [0]))) v = false)
    ∧ Meets Dx.SIGNED_WRITE (signedBy (onEntry E.SE_ROLLBACK_COMMIT) [5]) firmware
      (fun v => rollbackRefused (beNat (dxValue Dx.SIGNED_WRITE (signedBy (onEntry E.SE_ROLLBACK_COMMIT) [5]))) v = false)
    ∧ Meets Dx.SIGNED_WRITE (signedBy (onEntry E.SE_QUORUM) [2]) firmware
      (fun v => quorumRefused (beNat (dxValue Dx.SIGNED_WRITE (signedBy (onEntry E.SE_QUORUM) [2]))) v = false)
    ∧ Meets Dx.WRITE (plain E.SE_ATTEST_REQUEST (beBytes 32 0)) live (fun _ => True)
    ∧ (let c := signedBy (onEntry E.BEHAVIOUR_LEVEL_SET) [4, 0];
      Meets Dx.SIGNED_WRITE c firmware (fun v => v.dx.pending.length < 1024 ∧ 0x400 ≤ beNat (dxValue Dx.SIGNED_WRITE c)
        ∧ beNat (dxValue Dx.SIGNED_WRITE c) ≤ getNum v E.BEHAVIOUR_LEVEL_MAX 0x400)) := by
  refine ⟨?_, ?_, ?_, ?_, ?_, ?_, ?_, ?_, ?_, ?_, ?_, ?_, ?_, ?_⟩
  · exact ⟨accepted_of (by decide +kernel), by decide +kernel⟩
  · exact ⟨accepted_of (by decide +kernel), by decide +kernel⟩
  · exact ⟨accepted_of (by decide +kernel), by decide +kernel⟩
  · exact ⟨accepted_of (by decide +kernel), by decide +kernel⟩
  · exact ⟨accepted_of (by decide +kernel), by decide +kernel⟩
  · exact ⟨accepted_of (by decide +kernel), by decide +kernel⟩
  · exact ⟨accepted_of (by decide +kernel), by decide +kernel⟩
  · exact ⟨accepted_of (by decide +kernel), by decide +kernel⟩
  · exact ⟨accepted_of (by decide +kernel), by decide +kernel⟩
  · exact ⟨accepted_of (by decide +kernel), by decide +kernel⟩
  · exact ⟨accepted_of (by decide +kernel), by decide +kernel⟩
  · exact ⟨accepted_of (by decide +kernel), by decide +kernel⟩
  · exact ⟨accepted_of (by decide +kernel), by decide +kernel⟩
  · exact ⟨accepted_of (by decide +kernel), by decide +kernel⟩

set_option maxRecDepth 2000 in
/-- Enrolment of an owner and a record of the manager keys: commands of more than 220 B. -/
theorem witness_RepairCommands_keys :
    (let c := signedBy (onEntry E.SE_OWNER_ENROL) (beBytes 8 0 ++ basePoint ++ beBytes 7 0);
      Meets Dx.SIGNED_WRITE c firmware (fun v => enrolRefused (dxValue Dx.SIGNED_WRITE c) v = false))
    ∧ Meets Dx.SIGNED_WRITE (signedBy (onEntry E.SE_MANAGER_KEYS) (beBytes 112 0)) firmware (fun _ => True) := by
  refine ⟨?_, ?_⟩
  · exact ⟨accepted_of (by decide +kernel), by decide +kernel⟩
  · exact ⟨accepted_of (by decide +kernel), by decide +kernel⟩

theorem witness_BehaviourLevelRule :
    let c := signedBy (onEntry E.BEHAVIOUR_LEVEL_SET) [3, 0];
    Meets Dx.SIGNED_WRITE c firmware (fun _ => beNat (dxValue Dx.SIGNED_WRITE c) < 0x400) :=
  ⟨accepted_of (by decide +kernel), by decide +kernel⟩

/-- An owner's key that is in force; whether a signature is good is opaque. -/
theorem witness_SignatureRule : ∃ s : State, owned s = true ∧ s.hl.power ≠ .rest ∧ ownerGood s 0 = true ∧ s.se.counter < 1 :=
  ⟨{ live with se := { live.se with owners := [(0, { state := 1, key := [], hash := sha [] })] } }, rfl, by decide, by
    simp [ownerGood, ownerKey, SMap.getD, SMap.get?], by decide⟩

/-! ### Rules without a row of their own -/

theorem witness_IdleStep : State.reset.pending = [] := rfl

/-- A byte listed, and addresses at both edges of what a write of three bytes at 4 stores to. -/
theorem witness_MemoryForm :
    cellsWf (cellsWrite [] 4 [1, 2, 3]) = true ∧ (3 : Nat) < 4 ∧ 4 + ([1, 2, 3] : Bytes).length ≤ 7 := by decide +kernel

theorem witness_NodeBenches : (4 : Nat) ^ 1 * 0 + 1 < rBlocks { recipe 0 with n := 8 } ∧ rBlocks (recipe 0) ≤ 4 ^ 1 * 0 + 1 := by decide +kernel

theorem witness_SessionEnds : sessionOf live 7 = some board ∧ SMap.sorted live.dx.owners = true ∧ live.hl.power ≠ .rest := by decide +kernel

/-- At the edges of the ranges that each clause names. -/
theorem witness_CreditBase :
    (let c := linkZero.oc0;
      (2 ^ 31 : Int) ≤ c.outstanding + 2 ^ 31 ∧ c.received < 2 ^ 32 ∧ c.pFreed < 2 ^ 32
        ∧ 2 ^ 31 - 1 = (c.received + (2 ^ 31 - 1)) % 2 ^ 32 ∧ serialAfter 32 1 c.pFreed = true)
    ∧ serialAfter 32 ({ linkZero.oc0 with received := 2 ^ 31 - 1 }).received 0 = true := by decide +kernel

/-- R98 at both sides of half the range, and R99's example: a stamp of 0xFFFFFF00 at 0x100 is 512 ns earlier. -/
theorem witness_SerialOrder :
    serialAfter 8 127 0 = true ∧ serialDist 8 128 0 = 2 ^ 7 ∧ serialAfter 8 128 0 = false ∧ serialAfter 8 0 129 = true := by decide
theorem witness_LaunchUnwrap : unwrapLaunch (2 ^ 40 + 0x100) 0xFFFFFF00 = 2 ^ 40 + 0x100 - 512 := by decide

theorem witness_PacketForm :
    pkHdrOk load = true ∧ pkCrcOk load = true ∧ pkDest load = 0x20 ∧ pkSrc load = 0x10 ∧ pkHop load = 4
      ∧ pkFormat creditMsg = 6 ∧ pkDest creditMsg = 0xFFFFFF ∧ beAt (pkBody creditMsg) 24 4 = 2048 := by decide +kernel
theorem witness_RewriteKeepsChecks :
    40 ≤ load.bytes.length ∧ 0x0F + 1 ≤ load.bytes.length - 4 ∧ 0x0F + 1 ≤ 0x12 ∧ pkControl load = false := by decide +kernel
theorem witness_CellForm : (mkCells (stores Op.MEM_STORE) 9).length = 1 ∧ (mkCells reduces 9)[0]?.map cellCount = some 9 := by decide +kernel

/-- A command of the board controller's for each outcome of the checks, and the same one damaged. -/
theorem witness_CheckOrder :
    (live.dx.sessions.all fun x => now live < x.leaseEnd) = true
    ∧ (let c := plain E.FT_ENABLE_A [1];
      c.check.toNat = cmdCheck (Dx.WRITE % 256) c ∧ headerBad Dx.WRITE c = false ∧ sourceRefused c live = false ∧ sessionOk Dx.WRITE c live = true
        ∧ cached c live = none ∧ checkSteps Dx.WRITE c live = none
        ∧ ({ c with check := c.check + 1 } : Cmd).check.toNat ≠ cmdCheck (Dx.WRITE % 256) { c with check := c.check + 1 }
        ∧ sessionOk Dx.WRITE { c with session := 8 } live = false)
    ∧ ((checkSteps Dx.WRITE (onEntry 0xFFFFFF (writes 0xFFFFFF [1])) live).map (·.1) = some St.NO_ENTRY
      ∧ findEntry 0xFFFFFF = none ∧ available Dx.WRITE (onEntry 0xFFFFFF (writes 0xFFFFFF [1])) live = true)
    ∧ (checkSteps Dx.WRITE (plain E.FT_ENABLE_A [1]) { live with hl := { live.hl with tripped := true } }).map (·.1) = some St.NOT_AVAILABLE := by
  decide +kernel

/-! ### Values of the spec's own words -/

/-- R112: the CRC-32C of RFC 3720 over the digits 1 to 9. -/
theorem test_crc32c : crc32c ([0x31, 0x32, 0x33, 0x34, 0x35, 0x36, 0x37, 0x38, 0x39] : Bytes) = 0xE3069283 := by decide +kernel
/-- A packet too short for a header is refused, and so is a cell of another length. -/
theorem test_wf_packet : (Instr.packetArrival 0 0 ⟨[]⟩ 0).wellFormed = false := by decide
theorem test_wf_cell : (Instr.cellReceived 0 0 [] 0).wellFormed = false := by decide
/-- R371, R376: the chapter's worked examples, in ps: the atomic, flow 0x00401 in mode S, and the retry from the replay table. -/
theorem test_latencies : latMemory 0 0 5 22 49 5 .atomic 0 = 425000 ∧ latScheduled 0 0 true 0 0 = 269000 ∧ latHome 0 0 5 22 5 0 = 255000 := by
  decide

end Sys2Proof.Tests
end

section
/-! What every command keeps: it answers a next state, and the queue is as it was (R9, R25). -/
namespace Sys2Proof.Machine
open Sys2Proof

/-- An outcome is a next state with the queue of `s`. -/
def KeepsQueue (o : Out) (s : State) : Prop := ∃ t, o = .next t ∧ t.pending = s.pending

theorem keepsQueue_run (f : State → State) (s : State) : KeepsQueue (run f s) s := ⟨_, rfl, rfl⟩

/-- A timer's row runs at its instant or does nothing; either way the queue stays. -/
theorem keepsQueue_runDue (d : Option Nat) (f : State → State) (s : State) : KeepsQueue (runDue d f s) s := by
  unfold runDue
  split
  · split <;> exact keepsQueue_run _ _
  · exact keepsQueue_run _ _

/-! ### Rows that look for the object of their timer -/

theorem keepsQueue_execTimeMsgExpire (n : Nat) (s : State) : KeepsQueue (execTimeMsgExpire n s) s := by
  unfold execTimeMsgExpire
  split
  · exact keepsQueue_run _ _
  · exact keepsQueue_runDue _ _ _

theorem keepsQueue_execEscapeMove (n : Nat) (s : State) : KeepsQueue (execEscapeMove n s) s := by
  unfold execEscapeMove
  split
  · exact keepsQueue_run _ _
  · split
    · split
      · exact keepsQueue_runDue _ _ _
      · exact keepsQueue_run _ _
    · exact keepsQueue_run _ _

theorem keepsQueue_execHeadDrop (n : Nat) (s : State) : KeepsQueue (execHeadDrop n s) s := by
  unfold execHeadDrop
  split
  · exact keepsQueue_run _ _
  · exact keepsQueue_runDue _ _ _

theorem keepsQueue_execChunkTimeout (coll chunk : Nat) (s : State) : KeepsQueue (execChunkTimeout coll chunk s) s := by
  unfold execChunkTimeout
  split
  · exact keepsQueue_run _ _
  · split
    · exact keepsQueue_run _ _
    · exact keepsQueue_runDue _ _ _

theorem keepsQueue_execResultDwellExpiry (n : Nat) (s : State) : KeepsQueue (execResultDwellExpiry n s) s := by
  unfold execResultDwellExpiry
  split
  · exact keepsQueue_run _ _
  · split
    · exact keepsQueue_run _ _
    · exact keepsQueue_runDue _ _ _

theorem keepsQueue_streamResend (n : Nat) (s : State) : KeepsQueue (streamResend n s) s := by
  unfold streamResend
  split
  · exact keepsQueue_run _ _
  · split
    · exact keepsQueue_run _ _
    · exact keepsQueue_runDue _ _ _

theorem keepsQueue_execMirrorAckTimeout (n : Nat) (s : State) : KeepsQueue (execMirrorAckTimeout n s) s := by
  unfold execMirrorAckTimeout
  split
  · exact keepsQueue_streamResend _ _
  · exact keepsQueue_runDue _ _ _

theorem keepsQueue_execElsAccessTimeout (pos n : Nat) (s : State) : KeepsQueue (execElsAccessTimeout pos n s) s := by
  unfold execElsAccessTimeout
  split
  · exact keepsQueue_run _ _
  · exact keepsQueue_runDue _ _ _

theorem keepsQueue_moveAt (n : Nat) (st : MoveSt) (tick : Move → Nat) (f : Move → State → State) (s : State) :
    KeepsQueue (moveAt n st tick f s) s := by
  unfold moveAt
  split
  · exact keepsQueue_run _ _
  · exact keepsQueue_runDue _ _ _

theorem keepsQueue_execBlockIdleExpiry (n : Nat) (s : State) : KeepsQueue (execBlockIdleExpiry n s) s := by
  unfold execBlockIdleExpiry
  dsimp only
  split
  · split
    · exact keepsQueue_runDue _ _ _
    · exact keepsQueue_run _ _
  · split
    · exact keepsQueue_runDue _ _ _
    · exact keepsQueue_run _ _

/-! ### Every row -/

/-- Every command answers a next state with the same queue. The rows of timers are named; every other row is one of `run`, `runAt`,
`runStep` and `cmdRow`, which put the queue back whatever the effect. -/
theorem keepsQueue_exec (i : Instr) (s : State) : KeepsQueue (exec i s) s := by
  cases i with
  | timeMsgExpire n => exact keepsQueue_execTimeMsgExpire n s
  | escapeMove n => exact keepsQueue_execEscapeMove n s
  | headDrop n => exact keepsQueue_execHeadDrop n s
  | chunkTimeout coll chunk => exact keepsQueue_execChunkTimeout coll chunk s
  | resultDwellExpiry n => exact keepsQueue_execResultDwellExpiry n s
  | mirrorAckTimeout n => exact keepsQueue_execMirrorAckTimeout n s
  | elsAccessTimeout pos n => exact keepsQueue_execElsAccessTimeout pos n s
  | blockIdleExpiry n => exact keepsQueue_execBlockIdleExpiry n s
  | moveDuplicateTick n => exact keepsQueue_moveAt _ _ _ _ s
  | moveSwitch n => exact keepsQueue_moveAt _ _ _ _ s
  | moveAbandon n => exact keepsQueue_moveAt _ _ _ _ s
  | pdelayMeasure p => exact keepsQueue_runDue _ _ s
  | servoSyncTimeout d => exact keepsQueue_runDue _ _ s
  | ppsMissing d => exact keepsQueue_runDue _ _ s
  | ppsOutPulse => exact keepsQueue_runDue _ _ s
  | domainLossHold d => exact keepsQueue_runDue _ _ s
  | domainReturnHold d => exact keepsQueue_runDue _ _ s
  | creditStall p vc => exact keepsQueue_runDue _ _ s
  | shaperWheelExpiry n => exact keepsQueue_runDue _ _ s
  | flapHoldExpiry p => exact keepsQueue_runDue _ _ s
  | reseqIdleExpiry flow => exact keepsQueue_runDue _ _ s
  | gapTimerExpiry src => exact keepsQueue_runDue _ _ s
  | sourceYoungExpiry src => exact keepsQueue_runDue _ _ s
  | graceEnd => exact keepsQueue_runDue _ _ s
  | partnerSilent p l => exact keepsQueue_runDue _ _ s
  | chuteSettleCheck w reports => exact keepsQueue_runDue _ _ s
  | sessionLeaseExpiry n => exact keepsQueue_runDue _ _ s
  | msixHoldoffExpiry h vec => exact keepsQueue_runDue _ _ s
  | diStuckExpiry d => exact keepsQueue_runDue _ _ s
  | wdtChallenge die answered => exact keepsQueue_runDue _ _ s
  | streamSend => exact keepsQueue_runDue _ _ s
  | streamTimeout => exact keepsQueue_runDue _ _ s
  | _ => exact ⟨_, rfl, rfl⟩

/-- A step runs the front command or idles, and so it completes. -/
theorem completes_step (s : State) : Completes (step s) := by
  unfold step
  split
  · exact ⟨s, rfl⟩
  · obtain ⟨t, ht, -⟩ := keepsQueue_exec _ _
    exact ⟨t, ht⟩

/-- Settles O5: every row of the table puts the queue back and answers a next state, and a step is such a row or idles. -/
theorem nothingStops : Obligations.NothingStops := ⟨keepsQueue_exec, completes_step⟩

end Sys2Proof.Machine
end
section
/-! What an accepted WRITE or SIGNED_WRITE of an entry comes to (R382, R388): the command it carries is carried out, or its value
takes effect, waits, or is refused by the owning chapter. -/
namespace Sys2Proof.Machine
open Sys2Proof

/-- The listing row of an entry that the dictionary has. -/
def entryRow (id : Nat) : Entry := (findEntry id).getD noEntry

theorem findEntry_id {id : Nat} {e : Entry} (h : findEntry id = some e) : e.id = id := by
  simpa using List.find?_some h

theorem entryRow_of_find {id : Nat} {e : Entry} (h : findEntry id = some e) : entryRow id = e := by simp [entryRow, h]

/-- The op codes of single writes. -/
def writeOp (op : Nat) : Prop := op = Dx.WRITE ∨ op = Dx.SIGNED_WRITE

/-- A row whose command is accepted serves it with the effect of its op code. -/
theorem does_of_effect {i : Instr} {op : Nat} {c : Cmd} {s : State} {H : State → Prop} {P : State → State → Answer → Prop}
    (hx : exec i s = cmdRow op c s) (hp : ∀ v, H v → P v (dxEffect false op c v).1 (dxEffect false op c v).2) : Does i op c s H P :=
  fun ha hh => serves_row hx ha (hp _ hh)

theorem entryNamed_write {op : Nat} (hop : writeOp op) (c : Cmd) : entryNamed op c = some c.entry.toNat := by
  rcases hop with rfl | rfl <;> rfl

theorem dxValue_write {op : Nat} (hop : writeOp op) (c : Cmd) : dxValue op c = cmdCanon op c (entryRow c.entry.toNat) := by
  rw [dxValue, entryNamed_write hop]; rfl

/-- A single write is taken with the row of its entry and the value in the dictionary's byte order. -/
theorem dxEffect_write {op : Nat} (hop : writeOp op) (c : Cmd) (s : State) :
    dxEffect false op c s = takeWrite c (entryRow c.entry.toNat) (cmdOff c) (cmdTick c) (dxValue op c) false s := by
  rw [dxValue_write hop, dxEffect, entryNamed_write hop]
  rcases hop with rfl | rfl <;> rfl

/-! ### Taking a write -/

theorem takeWrite_command {c : Cmd} {e : Entry} {off tick : Nat} {v : Bytes} {s : State} (h : commandEntry e.id = true) :
    takeWrite c e off tick v false s = commandEffect c e off v s := by
  unfold takeWrite; simp [h]

theorem takeWrite_refused {c : Cmd} {e : Entry} {off tick : Nat} {v : Bytes} {full : Bool} {s : State} {x : Nat × Nat}
    (hc : commandEntry e.id = false) (hr : ownerRefuses s e off (if e.eff = 2 then tick else s.clk.tick) v = some x) :
    takeWrite c e off tick v full s = (refusalEvents e off v x.1 x.2 s, { status := x.1, detail := x.2 }) := by
  unfold takeWrite; simp [hc, hr]

theorem takeWrite_now {c : Cmd} {e : Entry} {off tick : Nat} {v : Bytes} {s : State} (hc : commandEntry e.id = false) (he : e.eff = 1)
    (hr : ownerRefuses s e off s.clk.tick v = none) : takeWrite c e off tick v false s = (valueEffect e off v s, answerDone) := by
  unfold takeWrite; simp [hc, he, hr]

theorem takeWrite_waits {c : Cmd} {e : Entry} {off tick : Nat} {v : Bytes} {s : State} (hc : commandEntry e.id = false) (he : e.eff = 3)
    (hw : e.id ≠ E.PS_REQUEST) (hr : ownerRefuses s e off s.clk.tick v = none) (hl : s.dx.pending.length < 1024) :
    takeWrite c e off tick v false s = (pend e c.session.toNat off tick v s, answerDone) := by
  unfold takeWrite
  simp [hc, he, hr, wakesNow, hw, Nat.not_le.2 hl]

/-! ### Refusals of the owning chapters -/

theorem ownerRefuses_scalar {s : State} {e : Entry} {off tick : Nat} {v : Bytes} (ht : scalarType e.ty = true)
    (hb : e.id ≠ E.BI_STRATA_TEST_NOW) :
    ownerRefuses s e off tick v = if scalarRefused s e.id (beNat v) tick then some (St.REFUSED, 0) else none := by
  unfold ownerRefuses; simp [ht, hb]

/-- The owning chapters refuse records of four tables alone. -/
theorem ownerRefuses_table {s : State} {e : Entry} {off tick : Nat} {v : Bytes} (ht : scalarType e.ty = false)
    (hi : e.id ∉ [E.PORT_CONFIG, E.OT_SHAPER_MAP, E.OT_POLICER_MAP, E.HL_RULES]) : ownerRefuses s e off tick v = none := by
  simp only [List.mem_cons, List.not_mem_nil, or_false, not_or] at hi
  obtain ⟨h1, h2, h3, h4⟩ := hi
  unfold ownerRefuses
  simp [ht, recordRefused, h1, h2, h3, h4]

/-! ### Rows of single writes -/

section
variable {i : Instr} {op : Nat} {c : Cmd} {s : State} {H : State → Prop} {P : State → State → Answer → Prop} {e : Entry}

/-- A write that carries a command has the command's effect and answer. -/
theorem does_command (hx : exec i s = cmdRow op c s) (hop : writeOp op) (he : entryRow c.entry.toNat = e)
    (hc : commandEntry e.id = true)
    (hp : ∀ v, H v → P v (commandEffect c e (cmdOff c) (dxValue op c) v).1 (commandEffect c e (cmdOff c) (dxValue op c) v).2) :
    Does i op c s H P := by
  subst he
  refine does_of_effect hx fun v hv => ?_
  rw [dxEffect_write hop, takeWrite_command hc]
  exact hp v hv

/-- A value of immediate effect that its chapter does not refuse takes effect, and the answer is DONE. -/
theorem does_value (hx : exec i s = cmdRow op c s) (hop : writeOp op) (he : entryRow c.entry.toNat = e)
    (hc : commandEntry e.id = false) (hf : e.eff = 1)
    (hr : ∀ v, H v → ownerRefuses v e (cmdOff c) v.clk.tick (dxValue op c) = none)
    (hp : ∀ v, H v → P v (valueEffect e (cmdOff c) (dxValue op c) v) answerDone) : Does i op c s H P := by
  subst he
  refine does_of_effect hx fun v hv => ?_
  rw [dxEffect_write hop, takeWrite_now hc hf (hr v hv)]
  exact hp v hv

/-- The same of a scalar. -/
theorem does_scalar (hx : exec i s = cmdRow op c s) (hop : writeOp op) (he : entryRow c.entry.toNat = e)
    (hc : commandEntry e.id = false) (hf : e.eff = 1) (ht : scalarType e.ty = true) (hb : e.id ≠ E.BI_STRATA_TEST_NOW)
    (hr : ∀ v, H v → scalarRefused v e.id (beNat (dxValue op c)) v.clk.tick = false)
    (hp : ∀ v, H v → P v (valueEffect e (cmdOff c) (dxValue op c) v) answerDone) : Does i op c s H P :=
  does_value hx hop he hc hf (fun v hv => by rw [ownerRefuses_scalar ht hb, hr v hv]; rfl) hp

end

/-! ### Byte order -/

/-- A value without a layout to turn round travels as it is kept. -/
theorem dxValue_plain {op : Nat} (hop : writeOp op) {c : Cmd} {e : Entry} (he : entryRow c.entry.toNat = e)
    (ht : scalarType e.ty = false) (hl : e.layout = []) : dxValue op c = cmdValue op c := by
  rw [dxValue_write hop, cmdCanon, he, orderBytes, ht, hl]; simp


end Sys2Proof.Machine
end
section
/-! What almost nothing but the tick, the sessions and the queues touches: time, the command queue, the inputs, and the
dictionary's sessions with what belongs to them. -/
namespace Sys2Proof.Machine
open Sys2Proof

/-- A state's time, queue and inputs, and its dictionary without subscriptions and waiting writes. -/
def spine (s : State) : State :=
  { State.reset with
    clk := s.clk, frame := s.frame, pending := s.pending, el := s.el
    dx := { s.dx with subs := [], pending := [] } }

theorem of_spine_clk {s t : State} (h : spine t = spine s) : t.clk = s.clk := (congrArg State.clk h :)
theorem of_spine_sessions {s t : State} (h : spine t = spine s) : t.dx.sessions = s.dx.sessions :=
  (congrArg (fun x => x.dx.sessions) h :)
theorem of_spine_xfers {s t : State} (h : spine t = spine s) : t.dx.xfers = s.dx.xfers :=
  (congrArg (fun x => x.dx.xfers) h :)

/-- What changes the queues, the links, the tables and the reports alone keeps the spine. -/
theorem spine_of_calm {s t : State} (h : calm t = calm s) : spine t = spine s :=
  (congrArg (fun x => spine x) h : spine (calm t) = spine (calm s))
theorem spine_of_still {s t : State} (h : still t = still s) : spine t = spine s := spine_of_calm (calm_of_still h)
theorem spine_of_quiet {s t : State} (h : quiet t = quiet s) : spine t = spine s := spine_of_still (still_of_quiet h)

theorem spine_foldl {α : Type} (f : State → α → State) (h : ∀ s a, spine (f s a) = spine s) (l : List α) (s : State) :
    spine (l.foldl f s) = spine s := foldl_keeps spine f h l s

@[simp] theorem spine_raise (c : Nat) (l : List Item) (s : State) : spine (raise c l s) = spine s := spine_of_quiet (by simp)
@[simp] theorem spine_raiseOnce (c k : Nat) (l : List Item) (s : State) : spine (raiseOnce c k l s) = spine s :=
  spine_of_quiet (by simp)
@[simp] theorem spine_count (e n : Nat) (s : State) : spine (count e n s) = spine s := rfl
@[simp] theorem spine_setNum (e v : Nat) (s : State) : spine (setNum e v s) = spine s := rfl
@[simp] theorem spine_tally (e b v n : Nat) (a : OccAttr) (s : State) : spine (tally e b v n a s) = spine s :=
  spine_of_quiet (by simp)
@[simp] theorem spine_emit (o : Output) (s : State) : spine (emit o s) = spine s := rfl

end Sys2Proof.Machine
end
section
/-! Commands of replacement, reset and security (R453, R461, R462, R473 to R476, R493 to R500, R505), and the range of the
behaviour level (R4). -/
namespace Sys2Proof.Machine
open Sys2Proof

/-! ### What the operations leave and set -/

theorem setSync_sync (n : SyncSt) (r : Nat) (s : State) : (setSync n r s).rp.sync = n := by
  unfold setSync; split
  · assumption
  · rw [raise_rp]

/-- A change of the sync state changes nothing else of the repair state. -/
theorem setSync_rp (n : SyncSt) (r : Nat) (s : State) : (setSync n r s).rp = { s.rp with sync := n } := by
  unfold setSync; split
  · rename_i h; subst h; rfl
  · rw [raise_rp]

@[simp] theorem spine_setSync (n : SyncSt) (r : Nat) (s : State) : spine (setSync n r s) = spine s := by
  unfold setSync; split
  · rfl
  · rw [spine_raise]; rfl


theorem getNum_setSync {e : Nat} (he : reportCounter e = false) (n : SyncSt) (r d : Nat) (s : State) :
    getNum (setSync n r s) e d = getNum s e d := by
  unfold setSync; split
  · rfl
  · rw [getNum_raise he]; rfl

/-- An accepted withdraw stands as it was named. -/
theorem withdrawAccept_rp (w loss reason : Nat) (s : State) :
    (withdrawAccept w loss reason s).rp.sync = .withdrawing
      ∧ (withdrawAccept w loss reason s).rp.withdraw = some { frame := w, lossSet := loss, reason := reason, told := [] } := by
  unfold withdrawAccept
  simp [setSync_rp]

theorem withdrawJudge_done {w named : Nat} {s : State} (hw : frameOf s + 2 ≤ w) (hs : s.rp.sync = .current)
    (hl : withdrawLoss named s ≠ 0) : withdrawJudge w named s = 0 := by
  unfold withdrawJudge
  simp [hs, hl, Nat.not_lt.2 hw, St.DONE]

theorem streamState_rp (x : Stream) (n : Nat) (s : State) : (streamState x n s).rp = { s.rp with stream := some { x with state := n } } := by
  unfold streamState; rw [raise_rp]; rfl

theorem mirrorFromHeld_stream (s : State) : (mirrorFromHeld s).rp.stream = s.rp.stream := by
  unfold mirrorFromHeld; split <;> rfl

/-- Where a stream ran, none runs once it has broken off. -/
theorem streamRunning_streamAbandon {s : State} (h : streamRunning s = true) : streamRunning (streamAbandon s) = false := by
  unfold streamAbandon
  split
  · unfold streamFinish
    simp [streamRunning, streamReceiving, streamSending, mirrorFromHeld_stream, streamState_rp, Option.filter]
  · simp [streamRunning, streamReceiving, streamSending, streamState_rp, Option.filter]
  · rename_i h1 h2
    simp [streamRunning, h1, h2] at h

theorem burn_se (b : FuseBurn) (s : State) :
    (burn b s).se = (burnApply b { s with se := { s.se with burning := s.se.burning ++ [b] } }).se := by
  unfold burn burnEvent ownerEvent; split <;> rw [raise_se]

/-! ### A warm reset (R462) -/

/-- Nothing of a session's end but its transfers and what it owned changes before it goes: it goes from the list. -/
theorem sessions_setOwner (a n k : Nat) (s : State) : (setOwner a n k s).dx.sessions = s.dx.sessions := by
  unfold setOwner; split
  · rfl
  · rw [raise_dx_sessions]

@[simp] theorem spine_nextGone (st : NextState) (s : State) : spine (nextGone st s) = spine s := rfl

@[simp] theorem spine_ttAborted (s : State) : spine (ttAborted s) = spine s := by
  unfold ttAborted; rw [spine_raise]; rfl

@[simp] theorem spine_xferFailed (e : Nat) (s : State) : spine (xferFailed e s) = spine s := by
  unfold xferFailed; split
  · exact spine_ttAborted s
  · rfl

/-- An aborted transfer goes from the list of transfers. -/
theorem xfers_xferAbort (x : Xfer) (s : State) : (xferAbort x s).dx.xfers = s.dx.xfers.filter fun y => y.entry != x.entry := by
  unfold xferAbort
  rw [of_spine_xfers (spine_xferFailed _ _)]
  simp [xferClose]

theorem sessions_xferAbort (x : Xfer) (s : State) : (xferAbort x s).dx.sessions = s.dx.sessions := by
  unfold xferAbort
  rw [of_spine_sessions (spine_xferFailed _ _)]
  simp [xferClose]

theorem sessions_sessionEnd (n k : Nat) (s : State) : (sessionEnd n k s).dx.sessions = s.dx.sessions.filter fun y => y.num != n := by
  unfold sessionEnd; split
  · rename_i h
    symm; rw [List.filter_eq_self]
    simpa [sessionOf] using h
  · rename_i x h
    simp only [raise_dx_sessions]
    rw [foldl_keeps (fun s => s.dx.sessions) _ (fun s a => sessions_setOwner a 0 4 s),
      foldl_keeps (fun s => s.dx.sessions) _ (fun s t => sessions_xferAbort t s)]

theorem sessions_foldl_sessionEnd (k : Nat) (l : List Nat) (s : State) :
    (l.foldl (fun s n => sessionEnd n k s) s).dx.sessions = s.dx.sessions.filter fun y => y.num ∉ l := by
  induction l generalizing s with
  | nil => simp
  | cons n l ih =>
    rw [List.foldl_cons, ih, sessions_sessionEnd, List.filter_filter]
    congr 1; funext y
    by_cases h : y.num = n <;> simp [h]

theorem sessions_allSessionsEnd (s : State) : (allSessionsEnd s).dx.sessions = [] := by
  unfold allSessionsEnd
  rw [sessions_foldl_sessionEnd, List.filter_eq_nil_iff]
  intro y hy
  simpa using ⟨y, hy, rfl⟩

@[simp] theorem spine_moveReturned (p d l : Nat) (s : State) : spine (moveReturned p d l s) = spine s := by
  unfold moveReturned; dsimp only
  rw [spine_raiseOnce, spine_tally]
  split <;> rfl

@[simp] theorem spine_movesReturn (s : State) : spine (movesReturn s) = spine s := by
  unfold movesReturn
  refine spine_foldl _ (fun s m => ?_) _ s
  split
  · exact spine_moveReturned _ _ _ s
  · rfl

@[simp] theorem spine_chutesClear (k : Nat) (s : State) : spine (chutesClear k s) = spine s := by
  unfold chutesClear; rw [spine_raise]; rfl

@[simp] theorem spine_lanesTrain (l : List (Nat × LaneSt)) (s : State) : spine (lanesTrain l s) = spine s := rfl

@[simp] theorem spine_shaperReset (n : Nat) (s : State) : spine (shaperReset n s) = spine s := by
  unfold shaperReset; dsimp only; split <;> rfl
@[simp] theorem spine_policerReset (n : Nat) (s : State) : spine (policerReset n s) = spine s := by
  unfold policerReset; dsimp only; split <;> rfl

theorem rp_shaperReset (n : Nat) (s : State) : (shaperReset n s).rp = s.rp := by
  unfold shaperReset; dsimp only; split <;> rfl
theorem rp_policerReset (n : Nat) (s : State) : (policerReset n s).rp = s.rp := by
  unfold policerReset; dsimp only; split <;> rfl

@[simp] theorem spine_tokensReset (s : State) : spine (tokensReset s) = spine s := by
  unfold tokensReset
  rw [spine_foldl _ (fun s n => spine_policerReset n s), spine_foldl _ (fun s n => spine_shaperReset n s)]
  rfl
theorem rp_tokensReset (s : State) : (tokensReset s).rp = s.rp := by
  unfold tokensReset
  rw [foldl_keeps State.rp _ (fun s n => rp_policerReset n s), foldl_keeps State.rp _ (fun s n => rp_shaperReset n s)]

theorem spine_progSet (s : State) (i : Nat) : spine (progSet s i) = spine s := rfl
@[simp] theorem spine_clearProg (s : State) : spine (clearProg s) = spine s := by
  unfold clearProg; exact spine_foldl progSet spine_progSet _ s
theorem rp_progSet (s : State) (i : Nat) : (progSet s i).rp = s.rp := rfl
theorem rp_clearProg (s : State) : (clearProg s).rp = s.rp := by
  unfold clearProg; exact foldl_keeps State.rp progSet rp_progSet _ s
theorem rp_clearFixed (s : State) : (clearFixed s).rp = s.rp := rfl
theorem rp_dictWarm (s : State) : (dictWarm s).rp = s.rp := rfl
theorem sessions_clearFixed (s : State) : (clearFixed s).dx.sessions = s.dx.sessions := rfl
theorem sessions_dictWarm (s : State) : (dictWarm s).dx.sessions = s.dx.sessions := rfl

@[simp] theorem spine_syncIdle (r : Nat) (s : State) : spine (syncIdle r s) = spine s := by
  unfold syncIdle; rw [spine_setSync]; rfl

theorem syncIdle_resetClass (r : Nat) (s : State) : (syncIdle r s).rp.resetClass = s.rp.resetClass := by
  unfold syncIdle; rw [setSync_rp]

@[simp] theorem spine_setPower (p : PowerSt) (s : State) : spine (setPower p s) = spine s := by
  unfold setPower; split
  · rfl
  · rw [spine_raise]; rfl
theorem setPower_rp (p : PowerSt) (s : State) : (setPower p s).rp = s.rp := by
  unfold setPower; split
  · rfl
  · rw [raise_rp]
theorem setPower_bi (p : PowerSt) (s : State) : (setPower p s).bi = s.bi := by
  unfold setPower; split
  · rfl
  · rw [raise_bi]

/-- The start of settings, tokens and counters anew changes neither the repair state nor the sessions. -/
theorem rp_settingsWarm (s : State) : (clearProg (clearFixed (tokensReset (dictWarm s)))).rp = s.rp := by
  rw [rp_clearProg, rp_clearFixed, rp_tokensReset, rp_dictWarm]
theorem sessions_settingsWarm (s : State) : (clearProg (clearFixed (tokensReset (dictWarm s)))).dx.sessions = s.dx.sessions := by
  rw [of_spine_sessions (spine_clearProg _), sessions_clearFixed, of_spine_sessions (spine_tokensReset _), sessions_dictWarm]

/-- A warm reset of an operating part begins: it is in reset, of class 2, and no session is open. -/
theorem warmReset_begins (k : Nat) {s : State} (ht : s.hl.tripped = false) (hb : s.bi.state = 2) :
    (warmReset k s).bi.state = 1 ∧ (warmReset k s).rp.resetClass = 2 ∧ (warmReset k s).dx.sessions = [] := by
  unfold warmReset
  rw [if_neg (by simp [ht, hb])]
  extract_lets raised ended _ _ cleared gone kept trained _ _ _ _ _ _ _ _ _ _ _ blank zeroed counted _ noted idle _
  clear_value raised
  have he : ended.dx.sessions = [] := sessions_allSessionsEnd raised
  clear_value ended
  have hs : trained.dx.sessions = ended.dx.sessions :=
    calc trained.dx.sessions = (chutesClear 2 (movesReturn gone)).dx.sessions := of_spine_sessions (spine_lanesTrain kept _)
      _ = (movesReturn gone).dx.sessions := of_spine_sessions (spine_chutesClear 2 _)
      _ = gone.dx.sessions := of_spine_sessions (spine_movesReturn gone)
      _ = cleared.dx.sessions := of_spine_sessions (spine_nextGone .empty cleared)
  clear_value trained
  have hr : blank.rp.resetClass = 2 := rfl
  have hc : zeroed.rp.resetClass = 2 := by
    rw [← hr, ← rp_settingsWarm blank]
  have hs' : blank.dx.sessions = [] := hs.trans he
  have hz : zeroed.dx.sessions = [] := by
    rw [← hs', ← sessions_settingsWarm blank]
  clear_value zeroed
  have hk : counted.rp = zeroed.rp := count_rp _ _ zeroed
  have hl : counted.dx = zeroed.dx := count_dx _ _ zeroed
  clear_value counted
  have hn : noted.rp.resetClass = counted.rp.resetClass := rfl
  have hm : noted.dx = counted.dx := rfl
  clear_value noted
  have hi : idle.rp.resetClass = noted.rp.resetClass := syncIdle_resetClass 3 noted
  have hj : idle.dx.sessions = noted.dx.sessions := of_spine_sessions (spine_syncIdle 3 noted)
  clear_value idle
  refine ⟨by rw [setPower_bi], ?_, ?_⟩
  · rw [setPower_rp]
    rw [hi, hn, hk, hc]
  · rw [of_spine_sessions (spine_setPower _ _)]
    rw [hj, hm, hl, hz]

end Sys2Proof.Machine
end
section
/-! What the writes of the repair and security chapters come to: `commandEffect` and `valueEffect` at their entries. -/
namespace Sys2Proof.Machine
open Sys2Proof

/-! ### A command whose row fixes its entry -/

theorem entry_onEntry {id : Nat} (h : id < 2 ^ 24) (c : Cmd) : (onEntry id c).entry.toNat = id := by
  simpa [onEntry] using h

theorem row_onEntry {id : Nat} (h : id < 2 ^ 24) (c : Cmd) : entryRow (onEntry id c).entry.toNat = entryRow id := by
  rw [entry_onEntry h]

theorem dxValue_onEntry {id op : Nat} (h : id < 2 ^ 24) (hop : writeOp op) (ht : scalarType (entryRow id).ty = false)
    (hl : (entryRow id).layout = []) (c : Cmd) : dxValue op (onEntry id c) = cmdValue op (onEntry id c) :=
  dxValue_plain hop (row_onEntry h c) ht hl

/-! ### What a command of an entry does -/

section
variable (c : Cmd) (off : Nat) (v : Bytes) (s : State)

theorem commandEffect_rpWithdraw : commandEffect c (entryRow E.RP_WITHDRAW) off v s = withdrawCommand v s := by
  have h : (entryRow E.RP_WITHDRAW).id = E.RP_WITHDRAW := rfl
  simp only [commandEffect, h]; rfl
theorem commandEffect_rpReset : commandEffect c (entryRow E.RP_RESET) off v s = resetCommand v s := by
  have h : (entryRow E.RP_RESET).id = E.RP_RESET := rfl
  simp only [commandEffect, h]; rfl
theorem commandEffect_rpBenchReset : commandEffect c (entryRow E.RP_BENCH_RESET) off v s = actIf (!benchResetRefused (beNat v) s) id s := by
  have h : (entryRow E.RP_BENCH_RESET).id = E.RP_BENCH_RESET := rfl
  simp only [commandEffect, h]; rfl
theorem commandEffect_rpStreamStart : commandEffect c (entryRow E.RP_STREAM_START) off v s = actIf (!streamStartRefused v s) (streamStart v) s := by
  have h : (entryRow E.RP_STREAM_START).id = E.RP_STREAM_START := rfl
  simp only [commandEffect, h]; rfl
theorem commandEffect_rpStreamAccept : commandEffect c (entryRow E.RP_STREAM_ACCEPT) off v s = actIf (!streamRunning s) (streamAccept v) s := by
  have h : (entryRow E.RP_STREAM_ACCEPT).id = E.RP_STREAM_ACCEPT := rfl
  simp only [commandEffect, h]; rfl
theorem commandEffect_rpStreamAbort : commandEffect c (entryRow E.RP_STREAM_ABORT) off v s = (if beNat v = 1 then streamAbandon s else s, answerDone) := by
  have h : (entryRow E.RP_STREAM_ABORT).id = E.RP_STREAM_ABORT := rfl
  simp only [commandEffect, h]; rfl
theorem commandEffect_seOwnerEnrol : commandEffect c (entryRow E.SE_OWNER_ENROL) off v s = actIf (!enrolRefused v s) (ownerEnrol v) s := by
  have h : (entryRow E.SE_OWNER_ENROL).id = E.SE_OWNER_ENROL := rfl
  simp only [commandEffect, h]; rfl
theorem commandEffect_seOwnerRevoke : commandEffect c (entryRow E.SE_OWNER_REVOKE) off v s = actIf (!revokeRefused (beNat v) (sigIndex c) s) (ownerRevoke (beNat v)) s := by
  have h : (entryRow E.SE_OWNER_REVOKE).id = E.SE_OWNER_REVOKE := rfl
  simp only [commandEffect, h]; rfl
theorem commandEffect_seAttestRequest : commandEffect c (entryRow E.SE_ATTEST_REQUEST) off v s = (attest c.session.toNat v s, answerDone) := by
  have h : (entryRow E.SE_ATTEST_REQUEST).id = E.SE_ATTEST_REQUEST := rfl
  simp only [commandEffect, h]; rfl
end

/-! ### What a value of an entry does -/

section
variable (off : Nat) (v : Bytes) (s : State)

theorem valueEffect_rpPositionFa : valueEffect (entryRow E.RP_POSITION_FA) off v s = positionFa (beNat v) s := by
  have h : (entryRow E.RP_POSITION_FA).id = E.RP_POSITION_FA := rfl
  simp only [valueEffect, h]; rfl
theorem valueEffect_seFwActivate : valueEffect (entryRow E.SE_FW_ACTIVATE) off v s = fwActivate (beNat v) s := by
  have h : (entryRow E.SE_FW_ACTIVATE).id = E.SE_FW_ACTIVATE := rfl
  simp only [valueEffect, h]; rfl
theorem valueEffect_seRollbackCommit : valueEffect (entryRow E.SE_ROLLBACK_COMMIT) off v s = rollbackCommit (beNat v) s := by
  have h : (entryRow E.SE_ROLLBACK_COMMIT).id = E.SE_ROLLBACK_COMMIT := rfl
  simp only [valueEffect, h]; rfl
theorem valueEffect_seManagerKeys : valueEffect (entryRow E.SE_MANAGER_KEYS) off v s = managerKeysSet (newValue (entryRow E.SE_MANAGER_KEYS) off v (entryValue s 0 (entryRow E.SE_MANAGER_KEYS))) s := by
  have h : (entryRow E.SE_MANAGER_KEYS).id = E.SE_MANAGER_KEYS := rfl
  simp only [valueEffect, h]; rfl
theorem valueEffect_seQuorum : valueEffect (entryRow E.SE_QUORUM) off v s = quorumSet (beNat v) s := by
  have h : (entryRow E.SE_QUORUM).id = E.SE_QUORUM := rfl
  simp only [valueEffect, h]; rfl
end

/-! ### When the owning chapter refuses a value -/

section
variable (s : State) (n tick : Nat)

theorem scalarRefused_rpPositionFa : scalarRefused s (entryRow E.RP_POSITION_FA).id n tick = positionRefused s := by
  have h : (entryRow E.RP_POSITION_FA).id = E.RP_POSITION_FA := rfl
  simp only [scalarRefused, h]; rfl
theorem scalarRefused_seFwActivate : scalarRefused s (entryRow E.SE_FW_ACTIVATE).id n tick = fwActivateRefused n s := by
  have h : (entryRow E.SE_FW_ACTIVATE).id = E.SE_FW_ACTIVATE := rfl
  simp only [scalarRefused, h]; rfl
theorem scalarRefused_seRollbackCommit : scalarRefused s (entryRow E.SE_ROLLBACK_COMMIT).id n tick = rollbackRefused n s := by
  have h : (entryRow E.SE_ROLLBACK_COMMIT).id = E.SE_ROLLBACK_COMMIT := rfl
  simp only [scalarRefused, h]; rfl
theorem scalarRefused_seQuorum : scalarRefused s (entryRow E.SE_QUORUM).id n tick = quorumRefused n s := by
  have h : (entryRow E.SE_QUORUM).id = E.SE_QUORUM := rfl
  simp only [scalarRefused, h]; rfl
theorem scalarRefused_behaviourLevelSet : scalarRefused s (entryRow E.BEHAVIOUR_LEVEL_SET).id n tick = (decide (n < 0x400) || decide (getNum s E.BEHAVIOUR_LEVEL_MAX 0x400 < n)) := by
  have h : (entryRow E.BEHAVIOUR_LEVEL_SET).id = E.BEHAVIOUR_LEVEL_SET := rfl
  simp only [scalarRefused, h]; rfl
end

end Sys2Proof.Machine
end
section
/-! Commands of replacement, reset and security: one theorem per row, and the statement from them. -/
namespace Sys2Proof.Machine
open Sys2Proof

theorem actIf_ok {b : Bool} (h : b = false) (f : State → State) (s : State) : actIf (!b) f s = (f s, answerDone) := by
  rw [h]; rfl

/-! ### Position, withdraw and reset (R453, R461, R462) -/

theorem positionFa_position (n : Nat) (s : State) : Cfg.RP_POSITION_FA (positionFa n s) = n := by
  unfold positionFa syncIdle Cfg.RP_POSITION_FA
  rw [getNum_setSync (by decide)]
  exact getNum_setNum_self _ _ _ _

theorem positionFa_sync (n : Nat) (s : State) : (positionFa n s).rp.sync = if posFa (positionFa n s) = 0 then .unassigned else .stale := by
  have h : posFa (positionFa n s) = posFa (setNum E.RP_POSITION_FA n s) := by
    unfold posFa
    rw [positionFa_position]
    exact congrArg (· % 2 ^ 24) (getNum_setNum_self E.RP_POSITION_FA n 0 s).symm
  rw [h]
  exact setSync_sync _ _ _

theorem rpPositionFa_does (c : Cmd) (s : State) :
    Does (.rpPositionFa c) Dx.WRITE (onEntry E.RP_POSITION_FA c) s (fun v => positionRefused v = false)
      fun _ u a => a = answerDone ∧ Cfg.RP_POSITION_FA u = beNat (dxValue Dx.WRITE (onEntry E.RP_POSITION_FA c))
        ∧ u.rp.sync = if posFa u = 0 then .unassigned else .stale := by
  refine does_scalar rfl (.inl rfl) (row_onEntry (by decide) c) rfl rfl rfl (by decide) (fun v hv => ?_) fun v _ => ?_
  · rwa [scalarRefused_rpPositionFa]
  · rw [valueEffect_rpPositionFa]
    exact ⟨rfl, positionFa_position _ v, positionFa_sync _ v⟩

theorem withdrawCommand_done {b : Bytes} {s : State} (hw : frameOf s + 2 ≤ beAt b 0 8) (hs : s.rp.sync = .current)
    (hl : withdrawLoss (beAt b 8 2) s ≠ 0) :
    withdrawCommand b s = (withdrawAccept (beAt b 0 8) (withdrawLoss (beAt b 8 2) s) 1 s, answerDone) := by
  simp only [withdrawCommand, withdrawJudge_done hw hs hl]

theorem rpWithdraw_does (c : Cmd) (s : State) :
    Does (.rpWithdraw c) Dx.WRITE (onEntry E.RP_WITHDRAW c) s
      (fun v => frameOf v + 2 ≤ beAt c.body 0 8 ∧ v.rp.sync = .current ∧ withdrawLoss (beAt c.body 8 2) v ≠ 0)
      fun v u a => a = answerDone ∧ u.rp.sync = .withdrawing
        ∧ u.rp.withdraw = some { frame := beAt c.body 0 8, lossSet := withdrawLoss (beAt c.body 8 2) v, reason := 1, told := [] } := by
  have hb : dxValue Dx.WRITE (onEntry E.RP_WITHDRAW c) = c.body := dxValue_onEntry (by decide) (.inl rfl) rfl rfl c
  refine does_command rfl (.inl rfl) (row_onEntry (by decide) c) rfl fun v ⟨hw, hs, hl⟩ => ?_
  rw [hb, commandEffect_rpWithdraw, withdrawCommand_done hw hs hl]
  exact ⟨rfl, withdrawAccept_rp _ _ _ v⟩

/-- `RP_RESET` with its class in the first byte, as the row takes it. -/
def resetOf (cls : Nat) (c : Cmd) : Cmd := withByte Dx.SIGNED_WRITE 16 0 (fun _ => cls) (onEntry E.RP_RESET c)

theorem row_resetOf (cls : Nat) (c : Cmd) : entryRow (resetOf cls c).entry.toNat = entryRow E.RP_RESET := by
  have h : (resetOf cls c).entry = (onEntry E.RP_RESET c).entry := by
    unfold resetOf withByte; split <;> rfl
  rw [h, row_onEntry (by decide)]

/-- The record of a signed reset of 128 bytes: the class, and the body's next 15 bytes. -/
theorem dxValue_resetOf {cls : Nat} {c : Cmd} (h : c.body.length = 128) :
    dxValue Dx.SIGNED_WRITE (resetOf cls c) = BitVec.ofNat 8 cls :: (c.body.drop 1).take 15 := by
  rw [dxValue_plain (.inr rfl) (row_resetOf cls c) rfl rfl]
  simp [resetOf, withByte, onEntry, cmdValue, splice, h]

theorem beAt_resetOf_class {cls : Nat} {c : Cmd} (h : c.body.length = 128) (hc : cls < 256) :
    beAt (dxValue Dx.SIGNED_WRITE (resetOf cls c)) 0 1 = cls := by
  rw [dxValue_resetOf h]
  simpa [beAt, slice, beNat] using hc

theorem beAt_resetOf_frame {cls : Nat} {c : Cmd} (h : c.body.length = 128) :
    beAt (dxValue Dx.SIGNED_WRITE (resetOf cls c)) 8 8 = beAt c.body 8 8 := by
  rw [dxValue_resetOf h]
  simp [beAt, slice, List.take_take, List.drop_take]

/-- Whether a reset asks for a withdraw first. -/
def resetLater (cls : Nat) (c : Cmd) : Bool := bit (beAt (dxValue Dx.SIGNED_WRITE (resetOf cls c)) 0 4) 23

theorem resetCommand_now {b : Bytes} {s : State} (h : bit (beAt b 0 4) 23 = false) :
    resetCommand b s = (resetNow (beAt b 0 1) s, { status := St.DONE, sent := false }) := by
  simp [resetCommand, h]

theorem resetCommand_later {b : Bytes} {s : State} (h : bit (beAt b 0 4) 23 = true) (hw : frameOf s + 2 ≤ beAt b 8 8)
    (hs : s.rp.sync = .current) (hl : withdrawLoss 0 s ≠ 0) :
    resetCommand b s = (withdrawAccept (beAt b 8 8) (withdrawLoss 0 s) (beAt b 0 1 + 1) s, answerDone) := by
  simp [resetCommand, h, withdrawJudge_done hw hs hl]

theorem resetNow_warm (s : State) : resetNow 2 s = warmReset 1 s := if_pos rfl
theorem resetNow_cold (s : State) : resetNow 3 s = coldReset 1 s := if_neg (by decide)

theorem rpResetWarm_now (c : Cmd) (s : State) :
    Does (.rpResetWarm c) Dx.SIGNED_WRITE (resetOf 2 c) s
      (fun v => c.body.length = 128 ∧ resetLater 2 c = false ∧ v.bi.state = 2 ∧ v.hl.tripped = false)
      fun _ u a => a.sent = false ∧ u.bi.state = 1 ∧ u.rp.resetClass = 2 ∧ u.dx.sessions = [] := by
  refine does_command rfl (.inr rfl) (row_resetOf 2 c) rfl fun v ⟨hb, hn, ho, ht⟩ => ?_
  rw [commandEffect_rpReset, resetCommand_now hn, beAt_resetOf_class hb (by decide), resetNow_warm]
  exact ⟨rfl, warmReset_begins 1 ht ho⟩

theorem withdrawLoss_none (s : State) : withdrawLoss 0 s = Cfg.RP_LOSS_SET s := if_pos rfl

theorem rpResetWarm_later (c : Cmd) (s : State) :
    Does (.rpResetWarm c) Dx.SIGNED_WRITE (resetOf 2 c) s
      (fun v => c.body.length = 128 ∧ resetLater 2 c = true ∧ frameOf v + 2 ≤ beAt c.body 8 8 ∧ v.rp.sync = .current ∧ Cfg.RP_LOSS_SET v ≠ 0)
      fun v u a => a = answerDone ∧ u.rp.sync = .withdrawing
        ∧ u.rp.withdraw = some { frame := beAt c.body 8 8, lossSet := Cfg.RP_LOSS_SET v, reason := 3, told := [] } := by
  refine does_command rfl (.inr rfl) (row_resetOf 2 c) rfl fun v ⟨hb, hn, hw, hs, hl⟩ => ?_
  have hf := beAt_resetOf_frame (cls := 2) hb
  rw [← hf] at hw
  rw [← withdrawLoss_none] at hl
  rw [commandEffect_rpReset, resetCommand_later hn hw hs hl, hf, beAt_resetOf_class hb (by decide), withdrawLoss_none]
  exact ⟨rfl, withdrawAccept_rp _ _ _ v⟩

/-- A cold reset leaves the part in reset, with itself as the one reset of its log. -/
theorem coldReset_begins (k : Nat) (s : State) :
    (coldReset k s).rp.resetClass = 3 ∧ (coldReset k s).bi.state = 0 ∧ (coldReset k s).rp.resets = [(s.clk.tick, 3, k, 0)] :=
  ⟨rfl, rfl, rfl⟩

theorem rpResetCold_now (c : Cmd) (s : State) :
    Does (.rpResetCold c) Dx.SIGNED_WRITE (resetOf 3 c) s (fun _ => c.body.length = 128 ∧ resetLater 3 c = false)
      fun v u a => a.sent = false ∧ u.rp.resetClass = 3 ∧ u.bi.state = 0 ∧ u.rp.resets = [(v.clk.tick, 3, 1, 0)] := by
  refine does_command rfl (.inr rfl) (row_resetOf 3 c) rfl fun v ⟨hb, hn⟩ => ?_
  rw [commandEffect_rpReset, resetCommand_now hn, beAt_resetOf_class hb (by decide), resetNow_cold]
  exact ⟨rfl, coldReset_begins 1 v⟩

theorem rpBenchReset_does (c : Cmd) (s : State) :
    Does (.rpBenchReset c) Dx.WRITE (onEntry E.RP_BENCH_RESET c) s
      (fun v => benchResetRefused (beNat (dxValue Dx.WRITE (onEntry E.RP_BENCH_RESET c))) v = false) fun v u a => a = answerDone ∧ u = v := by
  refine does_command rfl (.inl rfl) (row_onEntry (by decide) c) rfl fun v hv => ?_
  rw [commandEffect_rpBenchReset, actIf_ok hv]
  exact ⟨rfl, rfl⟩

/-! ### Streams (R473, R474, R476) -/

theorem rpStreamAccept_does (c : Cmd) (s : State) :
    Does (.rpStreamAccept c) Dx.WRITE (onEntry E.RP_STREAM_ACCEPT c) s (fun v => streamRunning v = false)
      fun v u a => a = answerDone ∧ u.rp.stream = some (streamOf c.body 2 v) := by
  have hb : dxValue Dx.WRITE (onEntry E.RP_STREAM_ACCEPT c) = c.body := dxValue_onEntry (by decide) (.inl rfl) rfl rfl c
  refine does_command rfl (.inl rfl) (row_onEntry (by decide) c) rfl fun v hv => ?_
  rw [hb, commandEffect_rpStreamAccept, actIf_ok hv]
  exact ⟨rfl, congrArg RpState.stream (streamState_rp _ 1 v)⟩

theorem streamStart_stream {b : Bytes} {s : State} {w : MirrorWin} {n : Nat} (h : streamSource b s = some (w, n)) :
    (streamStart b s).rp.stream
      = some { streamOf b 1 s with step := n, todo := streamItems s { streamOf b 1 s with step := n } w n } := by
  unfold streamStart; rw [h]
  exact congrArg RpState.stream (streamState_rp _ 1 s)

theorem rpStreamStart_does (c : Cmd) (w : MirrorWin) (n : Nat) (s : State) :
    Does (.rpStreamStart c) Dx.WRITE (onEntry E.RP_STREAM_START c) s
      (fun v => streamStartRefused c.body v = false ∧ streamSource c.body v = some (w, n))
      fun v u a => a = answerDone ∧ u.rp.stream
        = some { streamOf c.body 1 v with step := n, todo := streamItems v { streamOf c.body 1 v with step := n } w n } := by
  have hb : dxValue Dx.WRITE (onEntry E.RP_STREAM_START c) = c.body := dxValue_onEntry (by decide) (.inl rfl) rfl rfl c
  refine does_command rfl (.inl rfl) (row_onEntry (by decide) c) rfl fun v ⟨hv, hs⟩ => ?_
  rw [hb, commandEffect_rpStreamStart, actIf_ok hv]
  exact ⟨rfl, streamStart_stream hs⟩

theorem rpStreamAbort_does (c : Cmd) (s : State) :
    Does (.rpStreamAbort c) Dx.WRITE (onEntry E.RP_STREAM_ABORT c) s
      (fun v => beNat (dxValue Dx.WRITE (onEntry E.RP_STREAM_ABORT c)) = 1 ∧ streamRunning v = true)
      fun _ u a => a = answerDone ∧ streamRunning u = false := by
  refine does_command rfl (.inl rfl) (row_onEntry (by decide) c) rfl fun v ⟨h1, hr⟩ => ?_
  rw [commandEffect_rpStreamAbort, if_pos h1]
  exact ⟨rfl, streamRunning_streamAbandon hr⟩

/-! ### Security (R493, R494, R498 to R500, R505) -/

theorem seFwActivate_does (c : Cmd) (s : State) :
    Does (.seFwActivate c) Dx.SIGNED_WRITE (onEntry E.SE_FW_ACTIVATE c) s
      (fun v => fwActivateRefused (beNat (dxValue Dx.SIGNED_WRITE (onEntry E.SE_FW_ACTIVATE c))) v = false)
      fun _ u a => a = answerDone ∧ u.se.activate = beNat (dxValue Dx.SIGNED_WRITE (onEntry E.SE_FW_ACTIVATE c)) := by
  refine does_scalar rfl (.inr rfl) (row_onEntry (by decide) c) rfl rfl rfl (by decide) (fun v hv => ?_) fun v _ => ?_
  · rwa [scalarRefused_seFwActivate]
  · rw [valueEffect_seFwActivate]
    exact ⟨rfl, rfl⟩

theorem rollbackCommit_fused (n : Nat) (s : State) : (rollbackCommit n s).se.fused = n := by
  rw [rollbackCommit, burn_se]; rfl

/-- No image below the counter stays valid. -/
theorem rollbackCommit_slots (n : Nat) (s : State) : ∀ x ∈ (rollbackCommit n s).se.slots, x.2.state = 1 → n ≤ fwVersion x.2.image := by
  rw [rollbackCommit, burn_se]
  simp only [burnApply, List.mem_map]
  rintro x ⟨y, -, rfl⟩ hx
  split at hx
  · simp at hx
  · rename_i h
    rw [if_neg h]
    simpa [hx] using h

theorem seRollbackCommit_does (c : Cmd) (s : State) :
    Does (.seRollbackCommit c) Dx.SIGNED_WRITE (onEntry E.SE_ROLLBACK_COMMIT c) s
      (fun v => rollbackRefused (beNat (dxValue Dx.SIGNED_WRITE (onEntry E.SE_ROLLBACK_COMMIT c))) v = false)
      fun _ u a => a = answerDone ∧ u.se.fused = beNat (dxValue Dx.SIGNED_WRITE (onEntry E.SE_ROLLBACK_COMMIT c))
        ∧ ∀ x ∈ u.se.slots, x.2.state = 1 → beNat (dxValue Dx.SIGNED_WRITE (onEntry E.SE_ROLLBACK_COMMIT c)) ≤ fwVersion x.2.image := by
  refine does_scalar rfl (.inr rfl) (row_onEntry (by decide) c) rfl rfl rfl (by decide) (fun v hv => ?_) fun v _ => ?_
  · rwa [scalarRefused_seRollbackCommit]
  · rw [valueEffect_seRollbackCommit]
    exact ⟨rfl, rollbackCommit_fused _ v, rollbackCommit_slots _ v⟩

theorem ownerKey_ownerEnrol (b : Bytes) (s : State) :
    ownerKey (ownerEnrol b s) (beAt b 0 1) = { state := 1, key := slice b 8 97, hash := sha (slice b 8 97) } := by
  rw [ownerKey, ownerEnrol, burn_se]
  exact getD_set_self _ _ _ _

theorem seOwnerEnrol_does (c : Cmd) (s : State) :
    Does (.seOwnerEnrol c) Dx.SIGNED_WRITE (onEntry E.SE_OWNER_ENROL c) s
      (fun v => enrolRefused (dxValue Dx.SIGNED_WRITE (onEntry E.SE_OWNER_ENROL c)) v = false)
      fun _ u a => a = answerDone ∧ (ownerKey u (beAt (dxValue Dx.SIGNED_WRITE (onEntry E.SE_OWNER_ENROL c)) 0 1)).state = 1
        ∧ (ownerKey u (beAt (dxValue Dx.SIGNED_WRITE (onEntry E.SE_OWNER_ENROL c)) 0 1)).key
            = slice (dxValue Dx.SIGNED_WRITE (onEntry E.SE_OWNER_ENROL c)) 8 97 := by
  refine does_command rfl (.inr rfl) (row_onEntry (by decide) c) rfl fun v hv => ?_
  rw [commandEffect_seOwnerEnrol, actIf_ok hv]
  refine ⟨rfl, ?_⟩
  rw [ownerKey_ownerEnrol]
  exact ⟨rfl, rfl⟩

theorem ownerKey_ownerRevoke (n : Nat) (s : State) : ownerKey (ownerRevoke n s) n = { ownerKey s n with state := 2 } := by
  rw [ownerKey, ownerRevoke, burn_se]
  exact getD_set_self _ _ _ _

theorem seOwnerRevoke_does (c : Cmd) (s : State) :
    Does (.seOwnerRevoke c) Dx.SIGNED_WRITE (onEntry E.SE_OWNER_REVOKE c) s
      (fun v => revokeRefused (beNat (dxValue Dx.SIGNED_WRITE (onEntry E.SE_OWNER_REVOKE c))) (sigIndex c) v = false)
      fun _ u a => a = answerDone ∧ (ownerKey u (beNat (dxValue Dx.SIGNED_WRITE (onEntry E.SE_OWNER_REVOKE c)))).state = 2 := by
  refine does_command rfl (.inr rfl) (row_onEntry (by decide) c) rfl fun v hv => ?_
  rw [commandEffect_seOwnerRevoke, actIf_ok (b := revokeRefused _ (sigIndex (onEntry E.SE_OWNER_REVOKE c)) v) hv]
  exact ⟨rfl, congrArg OwnerKey.state (ownerKey_ownerRevoke _ v)⟩

theorem managerKeysSet_managers (b : Bytes) (s : State) : (managerKeysSet b s).se.managers = b := by
  unfold managerKeysSet; split
  · rfl
  · rw [raise_se]

theorem seManagerKeys_does (c : Cmd) (s : State) :
    Does (.seManagerKeys c) Dx.SIGNED_WRITE (onEntry E.SE_MANAGER_KEYS c) s (fun _ => True)
      fun v u a => a = answerDone
        ∧ u.se.managers = splice v.se.managers (cmdOff c) (dxValue Dx.SIGNED_WRITE (onEntry E.SE_MANAGER_KEYS c)) := by
  refine does_value rfl (.inr rfl) (row_onEntry (by decide) c) rfl rfl (fun v _ => ownerRefuses_table rfl (by decide)) fun v _ => ?_
  rw [valueEffect_seManagerKeys]
  exact ⟨rfl, managerKeysSet_managers _ v⟩

theorem quorumSet_quorum (n : Nat) (s : State) : (quorumSet n s).se.quorum = n := by
  unfold quorumSet; split
  · rfl
  · rw [raise_se]

theorem seQuorum_does (c : Cmd) (s : State) :
    Does (.seQuorum c) Dx.SIGNED_WRITE (onEntry E.SE_QUORUM c) s
      (fun v => quorumRefused (beNat (dxValue Dx.SIGNED_WRITE (onEntry E.SE_QUORUM c))) v = false)
      fun _ u a => a = answerDone ∧ u.se.quorum = beNat (dxValue Dx.SIGNED_WRITE (onEntry E.SE_QUORUM c)) := by
  refine does_scalar rfl (.inr rfl) (row_onEntry (by decide) c) rfl rfl rfl (by decide) (fun v hv => ?_) fun v _ => ?_
  · rwa [scalarRefused_seQuorum]
  · rw [valueEffect_seQuorum]
    exact ⟨rfl, quorumSet_quorum _ v⟩

theorem seAttestRequest_does (c : Cmd) (s : State) :
    Does (.seAttestRequest c) Dx.WRITE (onEntry E.SE_ATTEST_REQUEST c) s (fun _ => True)
      fun v u a => a = answerDone
        ∧ u.se.reports = (cmdSession c, attestReport c.body v) :: v.se.reports.filter fun x => x.1 != cmdSession c := by
  have hb : dxValue Dx.WRITE (onEntry E.SE_ATTEST_REQUEST c) = c.body := dxValue_onEntry (by decide) (.inl rfl) rfl rfl c
  refine does_command rfl (.inl rfl) (row_onEntry (by decide) c) rfl fun v _ => ?_
  rw [hb, commandEffect_seAttestRequest]
  exact ⟨rfl, rfl⟩

/-! ### Behaviour level (R4) -/

theorem scalarRefused_level {s : State} {n tick : Nat} :
    scalarRefused s (entryRow E.BEHAVIOUR_LEVEL_SET).id n tick = true ↔ n < 0x400 ∨ getNum s E.BEHAVIOUR_LEVEL_MAX 0x400 < n := by
  rw [scalarRefused_behaviourLevelSet]; simp

theorem behaviourLevelSet_does (c : Cmd) (s : State) :
    Does (.behaviourLevelSet c) Dx.SIGNED_WRITE (onEntry E.BEHAVIOUR_LEVEL_SET c) s
      (fun v => v.dx.pending.length < 1024 ∧ 0x400 ≤ beNat (dxValue Dx.SIGNED_WRITE (onEntry E.BEHAVIOUR_LEVEL_SET c))
        ∧ beNat (dxValue Dx.SIGNED_WRITE (onEntry E.BEHAVIOUR_LEVEL_SET c)) ≤ getNum v E.BEHAVIOUR_LEVEL_MAX 0x400)
      fun v u a => a = answerDone ∧ u.dx.pending = v.dx.pending
        ++ [{ entry := E.BEHAVIOUR_LEVEL_SET, session := cmdSession c, tick := none, offset := cmdOff c,
              body := dxValue Dx.SIGNED_WRITE (onEntry E.BEHAVIOUR_LEVEL_SET c) }] := by
  refine does_of_effect rfl fun v ⟨hp, hl, hm⟩ => ?_
  have hn : ¬ scalarRefused v (entryRow E.BEHAVIOUR_LEVEL_SET).id (beNat (dxValue Dx.SIGNED_WRITE (onEntry E.BEHAVIOUR_LEVEL_SET c)))
      v.clk.tick = true := by
    rw [scalarRefused_level]; omega
  have hr : ownerRefuses v (entryRow E.BEHAVIOUR_LEVEL_SET) (cmdOff (onEntry E.BEHAVIOUR_LEVEL_SET c)) v.clk.tick
      (dxValue Dx.SIGNED_WRITE (onEntry E.BEHAVIOUR_LEVEL_SET c)) = none := by
    rw [ownerRefuses_scalar rfl (by decide), if_neg hn]
  rw [dxEffect_write (.inr rfl), row_onEntry (by decide), takeWrite_waits rfl rfl (by decide) hr hp]
  exact ⟨rfl, rfl⟩

/-- Settles O35: one theorem per row, from what a write of its entry comes to. -/
theorem repairCommands : Obligations.RepairCommands :=
  ⟨rpPositionFa_does, rpWithdraw_does, rpResetWarm_now, rpResetWarm_later, rpResetCold_now, rpBenchReset_does, rpStreamAccept_does,
    rpStreamStart_does, rpStreamAbort_does, seFwActivate_does, seRollbackCommit_does, seOwnerEnrol_does, seOwnerRevoke_does,
    seManagerKeys_does, seQuorum_does, seAttestRequest_does, behaviourLevelSet_does⟩

/-- A refused level raises nothing. -/
theorem refusalEvents_level (off : Nat) (v : Bytes) (st d : Nat) (s : State) :
    refusalEvents (entryRow E.BEHAVIOUR_LEVEL_SET) off v st d s = s := by
  have h : (entryRow E.BEHAVIOUR_LEVEL_SET).id = E.BEHAVIOUR_LEVEL_SET := rfl
  have hi : E.BEHAVIOUR_LEVEL_SET ∉ [E.OT_SHAPER_CONFIG, E.OT_SHAPER_MAP, E.OT_POLICER_CONFIG, E.OT_POLICER_MAP] := by decide
  have hp : E.BEHAVIOUR_LEVEL_SET ≠ E.PS_REQUEST := by decide
  simp [refusalEvents, h, hi, hp]

/-- Settles O46: the owning chapter refuses the value (step 15 of R388), so neither the entry nor a waiting write changes. -/
theorem behaviourLevelRule : Obligations.BehaviourLevelRule := by
  intro c s
  refine does_of_effect rfl fun v hv => ?_
  have hr : ∀ tick, ownerRefuses v (entryRow E.BEHAVIOUR_LEVEL_SET) (cmdOff (onEntry E.BEHAVIOUR_LEVEL_SET c)) tick
      (dxValue Dx.SIGNED_WRITE (onEntry E.BEHAVIOUR_LEVEL_SET c)) = some (St.REFUSED, 0) := fun tick => by
    rw [ownerRefuses_scalar rfl (by decide), if_pos (scalarRefused_level.2 hv)]
  rw [dxEffect_write (.inr rfl), row_onEntry (by decide), takeWrite_refused rfl (hr _), refusalEvents_level]
  exact ⟨rfl, rfl, rfl⟩

end Sys2Proof.Machine
end
section
/-! What reports, queues and the memory's mirror leave of the settings: a setting is an entry that is not read-only. -/
namespace Sys2Proof.Machine
open Sys2Proof

/-- An entry that the dictionary has and that is not read-only. -/
def setting (e : Nat) : Bool := (findEntry e).any fun x => x.acc != 1

theorem ne_of_setting {e f : Nat} (h : setting e = true) (k : setting f = false) : e ≠ f := by
  rintro rfl; rw [h] at k; cases k

theorem reportCounter_of_setting {e : Nat} (h : setting e = true) : reportCounter e = false := by
  have h1 := ne_of_setting (f := E.DX_EVENTS_DROPPED) h (by decide +kernel)
  have h2 := ne_of_setting (f := E.TM_PROG_OVERFLOWS) h (by decide +kernel)
  simp [reportCounter, h1, h2]

/-- The numbers of the settings, each with the default that stands where none is set. -/
def sets (s : State) : Nat → Nat → Nat := fun e d => if setting e then getNum s e d else 0

theorem getNum_of_sets {s t : State} (h : sets t = sets s) {e : Nat} (he : setting e = true) (d : Nat) : getNum t e d = getNum s e d := by
  simpa [sets, he] using congrFun (congrFun h e) d

theorem sets_of_getNum {s t : State} (h : ∀ e, setting e = true → ∀ d, getNum t e d = getNum s e d) : sets t = sets s := by
  funext e d
  by_cases he : setting e = true
  · simp [sets, he, h e he d]
  · simp [sets, he]

theorem sets_foldl {α : Type} (f : State → α → State) (h : ∀ s a, sets (f s a) = sets s) (l : List α) (s : State) :
    sets (l.foldl f s) = sets s := foldl_keeps sets f h l s

/-! ### Reports -/

theorem sets_setNum {f : Nat} (hf : setting f = false) (v : Nat) (s : State) : sets (setNum f v s) = sets s :=
  sets_of_getNum fun _ he d => getNum_setNum_ne v d s (ne_of_setting he hf)
theorem sets_count {f : Nat} (hf : setting f = false) (n : Nat) (s : State) : sets (count f n s) = sets s := sets_setNum hf _ s
@[simp] theorem sets_raise (c : Nat) (l : List Item) (s : State) : sets (raise c l s) = sets s :=
  sets_of_getNum fun _ he d => getNum_raise (reportCounter_of_setting he) c l s d
@[simp] theorem sets_raiseOnce (c k : Nat) (l : List Item) (s : State) : sets (raiseOnce c k l s) = sets s :=
  sets_of_getNum fun _ he d => getNum_raiseOnce (reportCounter_of_setting he) c k l s d
@[simp] theorem sets_accum (c k : Nat) (l : List Item) (n : List Nat) (m : Option Nat) (s : State) : sets (accum c k l n m s) = sets s :=
  sets_of_getNum fun e _ d => getNum_accum c k l n m s e d
@[simp] theorem sets_occ (b v n : Nat) (a : OccAttr) (s : State) : sets (occ b v n a s) = sets s :=
  sets_of_getNum fun _ he d => getNum_occ (reportCounter_of_setting he) b v n a s d
theorem sets_tally {f : Nat} (hf : setting f = false) (b v n : Nat) (a : OccAttr) (s : State) : sets (tally f b v n a s) = sets s := by
  rw [tally, sets_occ, sets_count hf]
theorem sets_tallyPort {f : Nat} (hf : setting f = false) (v p : Nat) (k : Packet) (s : State) : sets (tallyPort f v p k s) = sets s := by
  unfold tallyPort; split
  · exact sets_tally hf _ _ _ _ _
  · exact sets_count hf _ _

/-! ### Captures and queues -/

@[simp] theorem sets_setLink (p : Nat) (f : Link → Link) (s : State) : sets (setLink p f s) = sets s := rfl
@[simp] theorem sets_capForget (i : Nat) (s : State) : sets (capForget i s) = sets s := rfl
@[simp] theorem sets_capDepth (i a b : Nat) (s : State) : sets (capDepth i a b s) = sets s := rfl
@[simp] theorem sets_capStage (r : Bytes) (s : State) : sets (capStage r s) = sets s := by
  unfold capStage; dsimp only; split
  · rfl
  · split
    · rw [sets_accum, sets_count rfl]
    · rfl
@[simp] theorem sets_capDrop (i c : Nat) (s : State) : sets (capDrop i c s) = sets s := by
  unfold capDrop; refine sets_foldl _ (fun s a => ?_) _ _
  split <;> simp
@[simp] theorem sets_mcastReport (i : Nat) (s : State) : sets (mcastReport i s) = sets s := by
  unfold mcastReport; split
  · rfl
  · rw [sets_raiseOnce, sets_count rfl]; rfl
@[simp] theorem sets_packetDone (i : Nat) (s : State) : sets (packetDone i s) = sets s := by
  unfold packetDone; dsimp only; rw [sets_capForget]
  split
  · rfl
  · exact (rfl : _ = sets (mcastReport i s)).trans (sets_mcastReport i s)
@[simp] theorem sets_mcastLoss (i k q : Nat) (ps : List Nat) (s : State) : sets (mcastLoss i k q ps s) = sets s := by
  unfold mcastLoss; split
  · rfl
  · exact (rfl : _ = sets (ps.foldl (fun s p => tally E.DP_MCAST_COPY_DROPS (benchOf p) 44 1 {} s) s)).trans
      (sets_foldl _ (fun s a => sets_tally rfl _ _ _ _ s) ps s)
@[simp] theorem sets_freeCredit (p l v : Nat) (k : Packet) (s : State) : sets (freeCredit p l v k s) = sets s := by
  unfold freeCredit; split <;> rfl

/-- The heads that a shaper holds back are counted, and no more. -/
theorem sets_holds (b : Bool) (q : Nat) (a : OccAttr) (l : List OpenPkt) (s : State) :
    sets (if b then s else l.foldl (fun s _ => tally E.OT_SHAPER_HOLDS q 118 1 a s) s) = sets s := by
  split
  · rfl
  · exact sets_foldl _ (fun s _ => sets_tally rfl _ _ _ _ s) _ _
@[simp] theorem sets_voqTouch (p v : Nat) (s : State) : sets (voqTouch p v s) = sets s := by
  unfold voqTouch; dsimp only; rw [sets_setLink]
  exact sets_holds (pairEligible s p v) (benchOf p) { q := some (p % 4), vc := some v } _ s
/-- A packet that may have been the last of its parent's frees its credit. -/
theorem sets_freed (b : Bool) (i p l v : Nat) (k : Packet) (s : State) :
    sets (if b then packetDone i (freeCredit p l v k s) else s) = sets s := by
  split
  · rw [sets_packetDone, sets_freeCredit]
  · rfl
@[simp] theorem sets_openLeave (x : OpenPkt) (s : State) : sets (openLeave x s) = sets s := by
  unfold openLeave; dsimp only; rw [sets_voqTouch, sets_freed]; rfl
@[simp] theorem sets_openDrop (c : Nat) (x : OpenPkt) (s : State) : sets (openDrop c x s) = sets s := by
  unfold openDrop; dsimp only; rw [sets_openLeave]; split <;> simp
@[simp] theorem sets_openEnqueue (x : OpenPkt) (s : State) : sets (openEnqueue x s) = sets s := by
  unfold openEnqueue; dsimp only; split
  · rw [sets_openDrop, noCell, sets_raiseOnce, sets_count rfl]
  · rw [sets_voqTouch]
    refine Eq.trans (b := sets (if _ then countSpill (benchOf x.port) (attrOf x.port x.pkt) s else s)) rfl ?_
    split
    · exact sets_tally rfl _ _ _ _ s
    · rfl

/-! ### Look-ups -/

theorem sets_unlearn (fa : Nat) (s : State) : sets (unlearn fa s) = sets s := rfl
@[simp] theorem sets_eccRead (w : TableWord) (e : EccErr) (s : State) : sets (eccRead w e s) = sets s := by
  unfold eccRead; dsimp only; split
  · rfl
  · exact (sets_tally rfl _ _ _ _ _).trans rfl
  · split
    · rw [sets_unlearn, sets_raiseOnce, sets_tally rfl]; rfl
    · exact (rfl : _ = sets (raiseOnce _ _ _ _)).trans (by rw [sets_raiseOnce, sets_tally rfl]; rfl)
theorem sets_readWords {d : Nat} {ws : List (TableKind × WordPlace)} {s t : State} {b : Bool} (h : readWords d ws s = (t, b)) :
    sets t = sets s := by
  rw [show t = (readWords d ws s).1 from (congrArg Prod.fst h).symm]
  exact sets_foldl (fun s (u : TableWord × EccErr) => eccRead u.1 u.2 s) (fun s u => sets_eccRead u.1 u.2 s) _ s
@[simp] theorem sets_countProbes (b n : Nat) (a : OccAttr) (s : State) : sets (countProbes b n a s) = sets s :=
  (rfl : _ = sets (occ b 97 n a s)).trans (sets_occ _ _ _ _ _)
@[simp] theorem sets_selectPort (h : Hop) (p : Nat) (k : Packet) (s : State) : sets (selectPort h p k s).1 = sets s := by
  unfold selectPort; dsimp only
  split
  · exact sets_tallyPort rfl _ _ _ _
  · split
    · split
      · exact sets_tallyPort rfl _ _ _ _
      · exact sets_tallyPort rfl _ _ _ _
    · rfl
@[simp] theorem sets_routeLookup (p : Nat) (k : Packet) (v : Nat) (r : RouteSet) (s : State) :
    sets (routeLookup p k v r s).1 = sets s := by
  unfold routeLookup; dsimp only
  generalize hq : (if p < 512 then _ else s) = q
  have h : sets q = sets s := by
    rw [← hq]; split
    · rw [sets_countProbes, sets_occ]
    · rfl
  split
  · next e => rw [sets_tallyPort rfl, sets_readWords e, h]
  · next e =>
    split
    · rw [sets_raiseOnce, sets_tallyPort rfl, sets_readWords e, h]
    · split
      · next e2 => rw [sets_tallyPort rfl, sets_readWords e2, sets_readWords e, h]
      · next e2 =>
        split
        · rw [sets_tallyPort rfl, sets_readWords e2, sets_readWords e, h]
        · rw [sets_selectPort, sets_readWords e2, sets_readWords e, h]
@[simp] theorem sets_originateRouted (k : Packet) (s : State) : sets (originateRouted k s) = sets s := by
  unfold originateRouted; dsimp only; split
  · simp
  · rw [sets_openEnqueue]; exact (rfl : _ = sets (routeLookup 512 k (pkVc k) s.tb.active s).1).trans (by simp)

/-! ### The mirror (R232 to R236) -/

@[simp] theorem sets_setMirror (m : MirrorSt) (s : State) : sets (setMirror m s) = sets s := by
  unfold setMirror; split
  · rfl
  · rw [sets_raise]; rfl
@[simp] theorem sets_mirrorSend (b : Bool) (w : MirrorWrite) (s : State) : sets (mirrorSend b w s) = sets s := by
  unfold mirrorSend; dsimp only
  rw [sets_originateRouted]
  split
  · exact sets_tally rfl _ _ _ _ _
  · rw [sets_occ, sets_tally rfl]
@[simp] theorem sets_mirrorPump (n : Nat) (s : State) : sets (mirrorPump n s) = sets s := by
  induction n generalizing s with
  | zero => rfl
  | succ n ih =>
    unfold mirrorPump; dsimp only
    split
    · rfl
    · split
      · rfl
      · split
        · rfl
        · rw [ih, sets_mirrorSend]; rfl
@[simp] theorem sets_mirrorDegrade (s : State) : sets (mirrorDegrade s) = sets s := by
  unfold mirrorDegrade mirrorResync; dsimp only
  rw [sets_mirrorPump, sets_setMirror]
  exact (rfl : _ = sets (setMirror .degraded s)).trans (sets_setMirror _ s)
@[simp] theorem sets_mirrorPut (l : List MirrorWrite) (s : State) : sets (mirrorPut l s) = sets s := by
  unfold mirrorPut; split
  · rfl
  · split
    · exact sets_mirrorDegrade s
    · rw [sets_mirrorPump]; rfl

end Sys2Proof.Machine
end
section
/-! The PCIe queue interface (R404 to R407): doorbells, head writes, the control register, and MSI-X. -/
namespace Sys2Proof.Machine
open Sys2Proof

/-! ### A host's function -/

@[simp] theorem pcOf_setPc (h : Nat) (f : PcieFn → PcieFn) (s : State) : pcOf (setPc h f s) h = f (pcOf s h) := by
  simp [pcOf, setPc]

@[simp] theorem pcOf_emit (o : Output) (h : Nat) (s : State) : pcOf (emit o s) h = pcOf s h := rfl

/-- A function that the host reaches shows that its link has trained. -/
theorem barAccess_served {h : HostPort} {f : State → State} {s : State} (hp : (pcOf s h).perst = false) (hs : pcieServed s = true) :
    barAccess h f s = f (setPc h (fun f => { f with linkUp := true }) s) := by
  unfold barAccess; simp [hp, hs]

/-- The state in which a host's access takes effect. -/
def reached (h : Nat) (s : State) : State := setPc h (fun f => { f with linkUp := true }) (start s)

@[simp] theorem pcOf_reached (h : Nat) (s : State) : pcOf (reached h s) h = { pcOf s h with linkUp := true } := pcOf_setPc _ _ _
@[simp] theorem reached_dx (h : Nat) (s : State) : (reached h s).dx = s.dx := rfl
@[simp] theorem pcOf_settle (s t : State) (h : Nat) : pcOf (settle s t) h = pcOf t h := rfl
@[simp] theorem pcOf_withDx (x : DxState) (s : State) (h : Nat) : pcOf { s with dx := x } h = pcOf s h := rfl
@[simp] theorem fetchedOf_setPc (n h : Nat) (f : PcieFn → PcieFn) (s : State) : fetchedOf (setPc n f s) h = fetchedOf s h := rfl
@[simp] theorem fetchedOf_reached (n h : Nat) (s : State) : fetchedOf (reached n s) h = fetchedOf s h := rfl

/-- The host reaches its function, and the access runs at once. -/
theorem answers_bar {i : Instr} {h : HostPort} {f : State → State} {s : State} {P : State → Prop} (he : exec i s = run (barAccess h f) s)
    (hs : (pcOf s h).perst = false ∧ pcieServed s = true) (hP : P (settle s (f (reached h s)))) : Answers i s P :=
  answers_run he ((barAccess_served (s := start s) hs.1 hs.2).symm ▸ hP)

/-! ### Slots -/

/-- A slot that waits for the row of its own command. -/
def wholeSlot (x : Nat × Nat × Cmd) : Prop := 1 ≤ x.2.1 ∧ x.2.1 ≤ 7 ∧ x.2.2.bodyLen.toNat ≤ 4048

theorem slotsJudge_whole {h : HostPort} {s : State} (hw : ∀ x ∈ fetchedOf s h, wholeSlot x) (k : Nat) : slotsJudge h k s = s := by
  cases k with
  | zero => rfl
  | succ k =>
    unfold slotsJudge
    split
    · rfl
    · rename_i x l e
      obtain ⟨h1, h7, hl⟩ := hw x (e ▸ List.mem_cons_self)
      simp [Nat.not_lt.2 hl, h1, h7]

theorem slotsGo_whole {h : HostPort} {s : State} (hw : ∀ x ∈ fetchedOf s h, wholeSlot x) : slotsGo h s = s := slotsJudge_whole hw _

theorem fetchedOf_append (s : State) (h : Nat) (l : List (Nat × Nat × Cmd)) :
    fetchedOf { s with dx := { s.dx with fetched := s.dx.fetched ++ l } } h = fetchedOf s h ++ l.filter fun x => x.1 == h := by
  simp [fetchedOf]

theorem sqTailDoorbell_answers (h : HostPort) (tail : BitVec 32) (slots : List Bytes) (s : State)
    (hs : (pcOf s h).perst = false ∧ pcieServed s = true) :
    let t := tail.toNat % 2 ^ (pcOf s h).sqLog2
    let new := if bit (pcOf s h).ctrl 0 then slotsRead h (slotsNew s h t) slots else []
    (∀ x ∈ fetchedOf s h ++ new, wholeSlot x) →
    Answers (.sqTailDoorbell h tail slots) s fun u => (pcOf u h).sqTail = t ∧ u.dx.fetched = s.dx.fetched ++ new := by
  intro t new hw
  refine answers_bar rfl hs ?_
  dsimp only
  have hn : slotsNew (reached h s) h = slotsNew s h := by
    funext t; simp [slotsNew]
  rw [pcOf_reached, hn]
  rw [slotsGo_whole]
  · exact ⟨by rw [pcOf_settle, pcOf_withDx, pcOf_setPc], rfl⟩
  · intro x hx
    rw [fetchedOf_append, fetchedOf_setPc, fetchedOf_reached, List.mem_append] at hx
    exact hw x (List.mem_append.2 (hx.imp_right fun hx => (List.mem_filter.1 hx).1))

/-! ### Completions -/

theorem dx_signal (h v : Nat) (s : State) : (signal h v s).dx = s.dx := by
  obtain ⟨f, e | e⟩ := signal_cases h v s <;> rw [e] <;> rfl

theorem dx_cqWrite (h : Nat) (r : Resp) (s : State) : (cqWrite h r s).dx = s.dx := dx_signal _ _ _

theorem dx_cqDrain (h n : Nat) (s : State) : (cqDrain h n s).dx = s.dx := by
  induction n generalizing s with
  | zero => rfl
  | succ n ih =>
    unfold cqDrain; dsimp only
    split
    · rfl
    · split
      · rfl
      · rw [ih, dx_cqWrite]; rfl

theorem grows_cqWrite (h : Nat) (r : Resp) (s : State) : Grows s (cqWrite h r s) :=
  grows_trans (grows_via (grows_emit (.resp r) (setPc h _ s)) rfl) (grows_signal _ _ _)

theorem grows_cqDrain (h n : Nat) (s : State) : Grows s (cqDrain h n s) := by
  induction n generalizing s with
  | zero => exact grows_rfl s
  | succ n ih =>
    unfold cqDrain; dsimp only
    split
    · exact grows_rfl s
    · split
      · exact grows_rfl s
      · exact grows_trans (grows_via (grows_cqWrite _ _ (setPc h _ s)) rfl) (ih _)

theorem mem_cqWrite (h : Nat) (r : Resp) (s : State) : .resp r ∈ (cqWrite h r s).out := by
  unfold cqWrite
  exact grows_mem (grows_signal _ _ _) (by simp [emit])

/-- The first response that waited goes into a slot that is free. -/
theorem mem_cqDrain {h n : Nat} {r : Resp} {l : List Resp} {s : State} (hw : (pcOf s h).waiting = r :: l)
    (hf : cqFull (pcOf s h) = false) : .resp r ∈ (cqDrain h (n + 1) s).out := by
  unfold cqDrain; dsimp only
  rw [hw]; dsimp only
  rw [hf]
  exact grows_mem (grows_cqDrain _ _ _) (mem_cqWrite _ _ _)

theorem cqHeadWrite_idle (h : HostPort) (head : BitVec 32) (s : State) (hs : (pcOf s h).perst = false ∧ pcieServed s = true)
    (hw : ∀ x ∈ fetchedOf s h, wholeSlot x) (he : (pcOf s h).waiting = []) :
    Answers (.cqHeadWrite h head) s fun t => (pcOf t h).cqHead = head.toNat % 2 ^ (pcOf s h).cqLog2 ∧ t.dx = s.dx := by
  refine answers_bar rfl hs ?_
  dsimp only
  rw [slotsGo_whole]
  · simp [he, cqDrain]
  · simpa [fetchedOf, dx_cqDrain] using hw

theorem cqHeadWrite_resp (h : HostPort) (head : BitVec 32) (r : Resp) (l : List Resp) (s : State)
    (hs : (pcOf s h).perst = false ∧ pcieServed s = true) (hw : ∀ x ∈ fetchedOf s h, wholeSlot x) (he : (pcOf s h).waiting = r :: l)
    (hf : ((pcOf s h).cqTail + 1) % 2 ^ (pcOf s h).cqLog2 ≠ head.toNat % 2 ^ (pcOf s h).cqLog2) :
    Answers (.cqHeadWrite h head) s fun t => .resp r ∈ t.out := by
  refine answers_bar rfl hs ?_
  dsimp only
  rw [slotsGo_whole]
  · have hl : (pcOf (setPc h (fun f => { f with cqHead := head.toNat % 2 ^ f.cqLog2 }) (reached h s)) h).waiting = r :: l := by
      simp [he]
    rw [hl]
    exact mem_cqDrain hl (by simpa [cqFull] using hf)
  · simpa [fetchedOf, dx_cqDrain] using hw

theorem eqHeadWrite_answers (h : HostPort) (head : BitVec 32) (s : State) (hs : (pcOf s h).perst = false ∧ pcieServed s = true) :
    Answers (.eqHeadWrite h head) s fun t => (pcOf t h).eqHead = head.toNat % 2 ^ (pcOf s h).eqLog2 ∧ t.dx = s.dx := by
  refine answers_bar rfl hs ?_
  simp

/-! ### Registers -/

theorem queueCtrlWrite_answers (h : HostPort) (v : BitVec 32) (s : State) (hs : (pcOf s h).perst = false ∧ pcieServed s = true)
    (hw : ∀ x ∈ fetchedOf s h, wholeSlot x) :
    Answers (.queueCtrlWrite h v) s fun t => (pcOf t h).ctrl = v.toNat % 4
      ∧ (bit v.toNat 0 = true → bit (pcOf s h).ctrl 0 = false → (pcOf t h).queueError = false) := by
  refine answers_bar rfl hs ?_
  rw [slotsGo_whole (by simpa using hw)]
  refine ⟨by simp [queueCtrl], fun hv hc => by simp [queueCtrl, hv, hc]⟩

/-- A function with other vectors. -/
def withVectors (x : SMap (Nat × Bool)) (f : PcieFn) : PcieFn := { f with vectors := x }

/-- A signal changes nothing of the host's function but its vectors. -/
theorem withVectors_signal (h v : Nat) (x : SMap (Nat × Bool)) (s : State) :
    withVectors x (pcOf (signal h v s) h) = withVectors x (pcOf s h) := by
  unfold signal; dsimp only
  split
  · rw [pcOf_setPc]; rfl
  · rw [pcOf_emit, pcOf_setPc]; rfl

theorem withVectors_vectorsGo (h : Nat) (x : SMap (Nat × Bool)) (s : State) :
    withVectors x (pcOf (vectorsGo h s) h) = withVectors x (pcOf s h) := by
  unfold vectorsGo
  refine foldl_keeps (fun s => withVectors x (pcOf s h)) _ (fun s v => ?_) _ s
  dsimp only
  split
  · split
    · rfl
    · exact withVectors_signal h v x s
  · rfl

/-- No register of BAR0 is a vector. -/
theorem withVectors_barWrite (off v size : Nat) (f : PcieFn) : withVectors f.vectors (barWrite off v size f) = barWrite off v size f := by
  unfold barWrite; dsimp only
  repeat' split
  all_goals rfl

theorem barRegisterWrite_answers (h : HostPort) (off : BitVec 20) (v : BitVec 64) (size : Nat) (s : State)
    (hs : (pcOf s h).perst = false ∧ pcieServed s = true) :
    Answers (.barRegisterWrite h off v size) s fun t =>
      { pcOf t h with vectors := (pcOf s h).vectors } = barWrite off.toNat v.toNat size { pcOf s h with linkUp := true } := by
  refine answers_bar rfl hs ?_
  generalize hu : setPc h (barWrite off.toNat v.toNat size) (reached h s) = u
  have hp : pcOf u h = barWrite off.toNat v.toNat size { pcOf s h with linkUp := true } := by
    rw [← hu, pcOf_setPc, pcOf_reached]
  calc withVectors (pcOf s h).vectors (pcOf (settle s (vectorsGo h u)) h)
      = withVectors (pcOf s h).vectors (pcOf u h) := by rw [pcOf_settle, withVectors_vectorsGo]
    _ = _ := by rw [hp]; exact withVectors_barWrite _ _ _ { pcOf s h with linkUp := true }

/-! ### Interrupt holdoff (R407) -/

/-- A signal goes out unless the vector's holdoff runs or its mask is set. -/
theorem signal_sent (h v : Nat) (s : State) :
    (now s < (SMap.getD (pcOf s h).vectors v (0, false)).1 ∨ msixMasked (pcOf s h) v = true)
      ∨ ∃ f, signal h v s = emit (.msix h v) (setPc h f s) := by
  unfold signal; dsimp only
  split
  · rename_i c
    exact .inl (by simpa using c)
  · exact .inr ⟨_, rfl⟩

theorem signal_now {h v : Nat} {s : State} (he : SMap.get? (pcOf s h).vectors v = none) (hm : msixMasked (pcOf s h) v = false) :
    .msix h v ∈ (signal h v s).out := by
  have hd : (SMap.getD (pcOf s h).vectors v (0, false)).1 = 0 := by rw [SMap.getD, he]; rfl
  obtain (c | c) | ⟨f, e⟩ := signal_sent h v s
  · exact absurd (hd ▸ c) (Nat.not_lt_zero _)
  · rw [hm] at c; cases c
  · rw [e]; exact List.mem_append_right _ List.mem_cons_self

theorem signal_masked {h v : Nat} {s : State} (hm : msixMasked (pcOf s h) v = true) :
    (SMap.get? (pcOf (signal h v s) h).vectors v).any (·.2) = true ∧ (signal h v s).out = s.out := by
  unfold signal; dsimp only
  split
  · exact ⟨by rw [pcOf_setPc, get?_set_self]; rfl, rfl⟩
  · rename_i c
    rw [hm, Bool.or_true] at c
    exact absurd rfl c

/-- The holdoff of a vector ends in `s`: a signal that waited goes out, or stays pending under the mask. -/
theorem holdoff_ends {h vec d : Nat} {b : Bool} {s u : State} (hv : SMap.get? (pcOf s h).vectors vec = some (d, b)) (ho : s.out = [])
    (hu : u = setPc h (fun f => { f with vectors := SMap.erase f.vectors vec }) s) :
    if b && !msixMasked (pcOf s h) vec then .msix h vec ∈ (if b then signal h vec u else u).out
    else (SMap.get? (pcOf (if b then signal h vec u else u) h).vectors vec).any (·.2) = b ∧ (if b then signal h vec u else u).out = [] := by
  have hp : pcOf u h = { pcOf s h with vectors := SMap.erase (pcOf s h).vectors vec } := by rw [hu, pcOf_setPc]
  have hn : SMap.get? (pcOf u h).vectors vec = none := by rw [hp]; exact get?_erase_self _ _
  have hm : msixMasked (pcOf u h) vec = msixMasked (pcOf s h) vec := by rw [hp]; rfl
  have hq : u.out = [] := by rw [hu]; exact ho
  rw [← hm]
  cases b with
  | false => simp [hn, hq]
  | true =>
    rw [if_pos (rfl : true = true)]
    cases k : msixMasked (pcOf u h) vec with
    | false => simpa using signal_now hn k
    | true =>
      obtain ⟨h1, h2⟩ := signal_masked k
      simpa [h1] using h2.trans hq

theorem msixHoldoffExpiry_answers (h : HostPort) (vec d : Nat) (b : Bool) (s : State)
    (hv : SMap.get? (pcOf s h).vectors vec = some (d, b)) (hd : due d s = true) :
    Answers (.msixHoldoffExpiry h vec) s fun t =>
      if b && !msixMasked (pcOf s h) vec then .msix h vec ∈ t.out
      else (SMap.get? (pcOf t h).vectors vec).any (·.2) = b ∧ t.out = [] := by
  refine answers_due rfl (congrArg (Option.map (·.1)) hv) hd ?_
  have hx : (SMap.get? (pcOf s h).vectors vec).any (·.2) = b := by rw [hv]; rfl
  rw [hx]
  generalize ha : start (atPs (d - s.clk.tick * tickPs) s) = v
  have hp : pcOf v h = pcOf s h := by rw [← ha]; rfl
  have ho : v.out = [] := by rw [← ha]; rfl
  rw [← hp] at hv ⊢
  exact holdoff_ends hv ho rfl

end Sys2Proof.Machine
end
section
/-! What ends with time in the dictionary (R392, R393, R395, R397), and the writes whose boundary has come (R9, R238, R239, R382). -/
namespace Sys2Proof.Machine
open Sys2Proof

/-! ### The end of a session (R397) -/

theorem of_spine_owners {s t : State} (h : spine t = spine s) : t.dx.owners = s.dx.owners := (congrArg (fun x => x.dx.owners) h :)

/-- The sessions of the subscriptions, in their order. -/
def subSessions (s : State) : List Nat := s.dx.subs.map (·.session)

theorem subSessions_signal (h v : Nat) (s : State) : subSessions (signal h v s) = subSessions s := by
  rw [subSessions, dx_signal]; rfl

theorem subSessions_dropEvent (k : Nat) (s : State) : subSessions (dropEvent k s) = subSessions s := by
  refine (rfl : _ = subSessions (accum _ _ _ _ _ _)).trans ?_
  unfold accum; dsimp only; split <;> rfl

theorem subSessions_toHost (e : EventRec) (h : Nat) (s : State) : subSessions (toHost e h s) = subSessions s := by
  unfold toHost hostQueue; dsimp only
  split
  · rfl
  · split
    · rfl
    · split
      · exact subSessions_dropEvent _ _
      · exact subSessions_signal _ _ _

theorem subSessions_toSub (e : EventRec) (n : Nat) (s : State) : subSessions (toSub e n s) = subSessions s := by
  unfold toSub
  split
  · rfl
  · split
    · rfl
    · split
      · exact subSessions_dropEvent _ _
      · simp only [subSessions, List.map_map]
        refine List.map_congr_left fun x _ => ?_
        dsimp only [Function.comp]
        split <;> rfl

/-- An event waits in a subscription or is dropped; the subscriptions stay. -/
theorem subSessions_raise (c : Nat) (l : List Item) (s : State) : subSessions (raise c l s) = subSessions s := by
  unfold raise; dsimp only
  rw [foldl_keeps subSessions _ (fun s n => subSessions_toSub _ n s), subSessions_toHost, subSessions_toHost]
  split <;> rfl

theorem xfers_foldl_xferAbort (l : List Xfer) (s : State) :
    (l.foldl (fun s t => xferAbort t s) s).dx.xfers = s.dx.xfers.filter fun y => l.all fun x => y.entry != x.entry := by
  induction l generalizing s with
  | nil => simp
  | cons x l ih =>
    rw [List.foldl_cons, ih, xfers_xferAbort, List.filter_filter]
    congr 1; funext y
    rw [List.all_cons, Bool.and_comm]

theorem owners_xferAbort (x : Xfer) (s : State) : (xferAbort x s).dx.owners = s.dx.owners := by
  unfold xferAbort
  rw [of_spine_owners (spine_xferFailed _ _)]
  simp [xferClose]

theorem ownerOf_setOwner (a n k b : Nat) (s : State) : ownerOf (setOwner a n k s) b = if b = a then n else ownerOf s b := by
  unfold setOwner
  split
  · rename_i h
    split
    · rename_i e; rw [e, h]
    · rfl
  · unfold ownerOf
    rw [raise_dx_owners]
    exact getD_put _ _ _ _ _

/-- Areas given up have no owner; the others keep theirs. -/
theorem ownerOf_foldl_release (k b : Nat) (l : List Nat) (s : State) :
    ownerOf (l.foldl (fun s a => setOwner a 0 k s) s) b = if b ∈ l then 0 else ownerOf s b := by
  induction l generalizing s with
  | nil => simp
  | cons a l ih =>
    rw [List.foldl_cons, ih, ownerOf_setOwner]
    by_cases h : b = a <;> simp [h]

theorem mem_of_get? {α : Type} {m : SMap α} {k : Nat} {v : α} (h : SMap.get? m k = some v) : (k, v) ∈ m := by
  induction m with
  | nil => cases h
  | cons x r ih =>
    unfold SMap.get? at h
    split at h
    · rename_i e
      cases h; subst e; exact List.mem_cons_self
    · exact List.mem_cons_of_mem _ (ih h)

/-- The areas of a session. -/
def areasOf (n : Nat) (s : State) : List Nat := (s.dx.owners.filter fun o => o.2 == n).map (·.1)

/-- An area whose owner is a session is one of the session's. -/
theorem mem_areasOf {s : State} {b n : Nat} (h : ownerOf s b = n) (hn : n ≠ 0) : b ∈ areasOf n s := by
  unfold ownerOf SMap.getD at h
  cases k : SMap.get? s.dx.owners b with
  | none => rw [k] at h; exact absurd h.symm hn
  | some m =>
    rw [k] at h
    have hm : m = n := h
    exact List.mem_map.2 ⟨(b, m), List.mem_filter.2 ⟨mem_of_get? k, by simpa using hm⟩, rfl⟩

/-- The transfers of a session are aborted, and its areas given up. -/
def sessionLeaves (n : Nat) (s : State) : State :=
  let t := (s.dx.xfers.filter fun t => t.session == n).foldl (fun s t => xferAbort t s) s
  (areasOf n t).foldl (fun s a => setOwner a 0 4 s) t

theorem sessionEnd_eq {n k : Nat} {x : Session} {s : State} (hx : sessionOf s n = some x) :
    sessionEnd n k s = raise Ev.DX_SESSION [.u16 n, .u8 x.kind, .u32 x.fa, .u8 k]
      { sessionLeaves n s with
        dx := { (sessionLeaves n s).dx with
          sessions := (sessionLeaves n s).dx.sessions.filter fun y => y.num != n
          snaps := (sessionLeaves n s).dx.snaps.filter fun y => y.session != n
          subs := (sessionLeaves n s).dx.subs.filter fun y => y.session != n }
        se := { (sessionLeaves n s).se with reports := (sessionLeaves n s).se.reports.filter fun r => r.1 != n } } := by
  unfold sessionEnd; rw [hx]; rfl

theorem xfers_setOwner (a n k : Nat) (s : State) : (setOwner a n k s).dx.xfers = s.dx.xfers := by
  unfold setOwner; split
  · rfl
  · rw [raise_dx_xfers]

theorem xfers_sessionLeaves (n : Nat) (s : State) : ∀ y ∈ (sessionLeaves n s).dx.xfers, y.session ≠ n := by
  intro y hy hn
  unfold sessionLeaves at hy
  rw [foldl_keeps (fun s => s.dx.xfers) _ (fun s a => xfers_setOwner a 0 4 s), xfers_foldl_xferAbort, List.mem_filter,
    List.all_eq_true] at hy
  obtain ⟨hm, ha⟩ := hy
  simpa using ha y (List.mem_filter.2 ⟨hm, by simpa using hn⟩)

theorem ownerOf_sessionLeaves {n b : Nat} {s : State} (h : ownerOf s b = n) : ownerOf (sessionLeaves n s) b = 0 := by
  unfold sessionLeaves
  generalize ht : (s.dx.xfers.filter fun t => t.session == n).foldl (fun s t => xferAbort t s) s = t
  have ho : ownerOf t b = n := by
    rw [← h, ← ht]
    exact congrArg (SMap.getD · b 0) (foldl_keeps (fun s => s.dx.owners) _ (fun s t => owners_xferAbort t s) _ s)
  rw [ownerOf_foldl_release]
  split
  · rfl
  · rename_i hb
    by_contra hz
    exact hb (mem_areasOf ho (ho ▸ hz))

theorem sessionEnd_ends {n k : Nat} {x : Session} {s : State} (hx : sessionOf s n = some x) :
    (∀ y ∈ (sessionEnd n k s).dx.sessions, y.num ≠ n) ∧ (∀ y ∈ (sessionEnd n k s).dx.xfers, y.session ≠ n)
      ∧ (∀ y ∈ (sessionEnd n k s).dx.snaps, y.session ≠ n) ∧ (∀ y ∈ (sessionEnd n k s).dx.subs, y.session ≠ n)
      ∧ ∀ b, ownerOf s b = n → ownerOf (sessionEnd n k s) b = 0 := by
  rw [sessionEnd_eq hx]
  refine ⟨fun y hy => ?_, fun y hy => ?_, fun y hy => ?_, fun y hy => ?_, fun b hb => ?_⟩
  · rw [raise_dx_sessions] at hy
    simpa using (List.mem_filter.1 hy).2
  · rw [raise_dx_xfers] at hy
    exact xfers_sessionLeaves n s y hy
  · rw [raise_dx_snaps] at hy
    simpa using (List.mem_filter.1 hy).2
  · have hm : y.session ∈ subSessions (raise _ _ _) := List.mem_map.2 ⟨y, hy, rfl⟩
    rw [subSessions_raise] at hm
    obtain ⟨z, hz, hs⟩ := List.mem_map.1 hm
    rw [← hs]
    simpa using (List.mem_filter.1 hz).2
  · unfold ownerOf
    rw [raise_dx_owners]
    exact ownerOf_sessionLeaves hb

theorem sessionLeaseExpiry_answers (n : Nat) (x : Session) (s : State) (hx : sessionOf s n = some x) (hd : due x.leaseEnd s = true) :
    Answers (.sessionLeaseExpiry n) s fun t => (∀ y ∈ t.dx.sessions, y.num ≠ n) ∧ (∀ y ∈ t.dx.xfers, y.session ≠ n)
      ∧ (∀ y ∈ t.dx.snaps, y.session ≠ n) ∧ (∀ y ∈ t.dx.subs, y.session ≠ n) ∧ ∀ b, ownerOf s b = n → ownerOf t b = 0 :=
  answers_due rfl (congrArg (Option.map (·.leaseEnd)) hx) hd
    (sessionEnd_ends (s := start (atPs (x.leaseEnd - s.clk.tick * tickPs) s)) hx)

/-! ### Transfers and snapshots that are idle (R392, R393) -/

theorem lt_of_head?_drop {α : Type} {l : List α} {n : Nat} {x : α} (h : (l.drop n).head? = some x) : n < l.length := by
  by_contra hn
  rw [List.drop_eq_nil_of_le (Nat.not_lt.1 hn)] at h
  cases h

theorem blockIdleExpiry_xfer (n : Nat) (x : Xfer) (s : State) (hx : (s.dx.xfers.drop n).head? = some x) (ho : x.state = .openn)
    (hd : due x.idleEnd s = true) : Answers (.blockIdleExpiry n) s fun t => ∀ y ∈ t.dx.xfers, y.entry ≠ x.entry := by
  have he : exec (.blockIdleExpiry n) s = runDue (some x.idleEnd) (xferAbort x) s := by
    refine (rfl : _ = execBlockIdleExpiry n s).trans ?_
    unfold execBlockIdleExpiry
    simp only [lt_of_head?_drop hx, hx, ho, if_true]
  refine answers_due he rfl hd fun y hy => ?_
  rw [settle_dx, xfers_xferAbort] at hy
  simpa using (List.mem_filter.1 hy).2

theorem blockIdleExpiry_snap (n : Nat) (x : Snap) (s : State) (hx : (s.dx.snaps.drop n).head? = some x) (hd : due x.idleEnd s = true) :
    Answers (.blockIdleExpiry (s.dx.xfers.length + n)) s fun t => t.dx.snaps = listErase s.dx.snaps n := by
  have he : exec (.blockIdleExpiry (s.dx.xfers.length + n)) s
      = runDue (some x.idleEnd) (fun s => { s with dx := { s.dx with snaps := listErase s.dx.snaps n } }) s := by
    refine (rfl : _ = execBlockIdleExpiry _ s).trans ?_
    unfold execBlockIdleExpiry
    simp only [Nat.not_lt.2 (Nat.le_add_right _ n), if_false, Nat.add_sub_cancel_left, hx]
  exact answers_due he rfl hd rfl

end Sys2Proof.Machine
end
section
/-! Writes whose boundary has come (R9, R382), and the checkpoint's snapshot and restore (R238, R239). -/
namespace Sys2Proof.Machine
open Sys2Proof

/-! ### What the start of a command leaves of the rules -/

theorem domainSelect_start (v : Nat) (s : State) : (domainSelect v (start s)).isNone = (domainSelect v s).isNone := by
  have h : servoLocked (start s) v = servoLocked s v := rfl
  unfold domainSelect
  rw [h]
  split <;> rfl

theorem atTickRefused_start (s : State) (i : Option Image) (id v tick : Nat) :
    atTickRefused (start s) i id v tick = atTickRefused s i id v tick := rfl

theorem scalarRefused_start (s : State) (id v tick : Nat) : scalarRefused (start s) id v tick = scalarRefused s id v tick := by
  unfold scalarRefused
  rw [domainSelect_start, atTickRefused_start]
  rfl

theorem recordRefused_start (s : State) (id i : Nat) (r : Bytes) : recordRefused (start s) id i r = recordRefused s id i r := rfl

theorem ownerRefuses_start (s : State) (e : Entry) (off tick : Nat) (v : Bytes) :
    ownerRefuses (start s) e off tick v = ownerRefuses s e off tick v := by
  have hb : ∀ n, bankBusy n (start s) = bankBusy n s := fun _ => rfl
  unfold ownerRefuses
  simp only [scalarRefused_start, recordRefused_start, hb]

theorem actionOver_start (s : State) (id : Nat) : actionOver (start s) id = actionOver s id := by
  have hd : ∀ a, dictRefused a (start s) = dictRefused a s := fun a => by
    unfold dictRefused
    simp only [ownerRefuses_start]
    rfl
  unfold actionOver
  simp only [hd]
  rfl

/-! ### Taking a pending write -/

/-- Writes of one entry for one tick. -/
def sameWrite (w x : PendWrite) : Bool := x.entry == w.entry && x.tick == w.tick

/-- Whether a write of an earlier tick of the same entry waits too. -/
def earlierWaits (w : PendWrite) (s : State) : Bool :=
  s.dx.pending.any fun x => x.entry == w.entry && x.tick.any fun t => w.tick.any (t < ·)

/-- A state with other pending writes. -/
def withPending (l : List PendWrite) (s : State) : State := { s with dx := { s.dx with pending := l } }

/-- The one write of its entry and tick takes effect and waits no longer. -/
theorem pendingTake_alone {w : PendWrite} {e : Entry} {s : State} (hw : s.dx.pending.filter (sameWrite w) = [w])
    (ha : actionOver s w.entry = false) (hn : earlierWaits w s = false) (hs : neverSuperseded w.entry = false)
    (he : findEntry w.entry = some e) :
    pendingTake w s
      = valueEffect e w.offset w.body (count E.DX_SUPERSEDED 0 (withPending (s.dx.pending.filter fun x => !sameWrite w x) s)) := by
  have hl : (s.dx.pending.filter fun x => x.entry == w.entry && x.tick == w.tick) = [w] := hw
  have hn' : (s.dx.pending.any fun x => x.entry == w.entry && x.tick.any fun t => w.tick.any (t < ·)) = false := hn
  unfold pendingTake
  simp only [hn', hs, ha, hl, he]
  rfl

/-- A write of an entry whose writes are all carried out: the first of its tick takes effect. -/
theorem pendingTake_first {w : PendWrite} {e : Entry} {s : State} (hw : (s.dx.pending.filter (sameWrite w)).head? = some w)
    (hn : earlierWaits w s = false) (hs : neverSuperseded w.entry = true) (he : findEntry w.entry = some e) :
    pendingTake w s = valueEffect e w.offset w.body (withPending (s.dx.pending.erase w) s) := by
  have hl : (s.dx.pending.filter fun x => x.entry == w.entry && x.tick == w.tick).head? = some w := hw
  have hn' : (s.dx.pending.any fun x => x.entry == w.entry && x.tick.any fun t => w.tick.any (t < ·)) = false := hn
  unfold pendingTake
  simp only [hn', hs, hl, he]
  rfl

/-- Four settings whose writes set a number and do no more. -/
def plainWrites : List Nat := [E.PKT_CREDIT_LIMIT_OC0, E.PKT_CREDIT_LIMIT_OC1, E.PKT_CREDIT_LIMIT_MC, E.FT_PPS_OUT_MODE]

theorem valueEffect_plainWrites {id : Nat} (h : id ∈ plainWrites) (off : Nat) (v : Bytes) (s : State) :
    valueEffect (entryRow id) off v s = setNum id (beNat v) s := by
  simp only [plainWrites, List.mem_cons, List.not_mem_nil, or_false] at h
  obtain rfl | rfl | rfl | rfl := h
  · have h : (entryRow E.PKT_CREDIT_LIMIT_OC0).id = E.PKT_CREDIT_LIMIT_OC0 := rfl
    simp only [valueEffect, h]; rfl
  · have h : (entryRow E.PKT_CREDIT_LIMIT_OC1).id = E.PKT_CREDIT_LIMIT_OC1 := rfl
    simp only [valueEffect, h]; rfl
  · have h : (entryRow E.PKT_CREDIT_LIMIT_MC).id = E.PKT_CREDIT_LIMIT_MC := rfl
    simp only [valueEffect, h]; rfl
  · have h : (entryRow E.FT_PPS_OUT_MODE).id = E.FT_PPS_OUT_MODE := rfl
    simp only [valueEffect, h]; rfl

theorem plainWrites_rows {id : Nat} (h : id ∈ plainWrites) : ownRow id = false ∧ neverSuperseded id = false := by
  simp only [plainWrites, List.mem_cons, List.not_mem_nil, or_false] at h
  obtain rfl | rfl | rfl | rfl := h <;> exact ⟨by decide, by decide⟩

/-- What `Obligations.HostQueues` asks of a write that is alone: it is due, no other of its tick and none of an earlier tick waits, and no
timed action stands over it. -/
structure Alone (w : PendWrite) (s : State) : Prop where
  due : writeDue s w = true
  only : s.dx.pending.filter (sameWrite w) = [w]
  free : actionOver s w.entry = false
  first : earlierWaits w s = false

/-- What PENDING_WRITE_EFFECT does. -/
def pendingEffect (n : Nat) (s : State) : State := match (s.dx.pending.drop n).head? with
  | none => s
  | some w => if writeDue s w && !ownRow w.entry then pendingTake w s else s

theorem pendingWriteEffect_answers (n : Nat) (w : PendWrite) (e : Entry) (s : State) (hw : (s.dx.pending.drop n).head? = some w)
    (h : Alone w s) (he : findEntry w.entry = some e) (hp : e.id ∈ plainWrites) :
    Answers (.pendingWriteEffect n) s fun t => getNum t e.id 0 = beNat w.body
      ∧ t.dx.pending = s.dx.pending.filter fun x => !sameWrite w x := by
  have hid : e.id = w.entry := findEntry_id he
  rw [hid] at hp ⊢
  obtain ⟨ho, hs⟩ := plainWrites_rows hp
  have hd : writeDue (start s) w = true := h.due
  have ht : pendingTake w (start s) = setNum w.entry (beNat w.body)
      (count E.DX_SUPERSEDED 0 (withPending (s.dx.pending.filter fun x => !sameWrite w x) (start s))) := by
    rw [pendingTake_alone (s := start s) h.only ((actionOver_start s _).trans h.free) h.first hs he, ← entryRow_of_find he,
      valueEffect_plainWrites hp]
    rfl
  have hm : ((start s).dx.pending.drop n).head? = some w := hw
  refine answers_run (f := pendingEffect n) rfl ?_
  simp only [pendingEffect, hm, hd, ho, Bool.not_false, Bool.and_self, if_true, ht]
  exact ⟨getNum_setNum_self _ _ _ _, rfl⟩

/-! ### The earliest write of an entry -/

/-- One step of the search for the earliest write: an earlier one takes the place of what was found. -/
def earlier (m : Option PendWrite) (x : PendWrite) : Option PendWrite := match m with
  | some y => if x.tick.getD 0 < y.tick.getD 0 then some x else m
  | none => some x

theorem earlier_none (x : PendWrite) : earlier none x = some x := rfl
theorem earlier_lt {x y : PendWrite} (h : x.tick.getD 0 < y.tick.getD 0) : earlier (some y) x = some x := if_pos h
theorem earlier_ge {x y : PendWrite} (h : ¬ x.tick.getD 0 < y.tick.getD 0) : earlier (some y) x = some y := if_neg h

/-- A write stands in a list so that those before it are later and those after it not earlier. -/
def EarliestIn (w : PendWrite) (l : List PendWrite) : Prop :=
  ∃ l1 l2, l = l1 ++ w :: l2 ∧ (∀ x ∈ l1, w.tick.getD 0 < x.tick.getD 0) ∧ ∀ x ∈ l2, w.tick.getD 0 ≤ x.tick.getD 0

theorem earliestIn_cons {w x : PendWrite} {l : List PendWrite} (h : EarliestIn w l) (hx : w.tick.getD 0 < x.tick.getD 0) :
    EarliestIn w (x :: l) := by
  obtain ⟨l1, l2, rfl, h1, h2⟩ := h
  exact ⟨x :: l1, l2, rfl, fun y hy => by rcases List.mem_cons.1 hy with rfl | hy; exacts [hx, h1 y hy], h2⟩

/-- From what was found before: it stands, or an earlier one of the list takes its place. -/
theorem foldl_earlier_some {w y : PendWrite} {l : List PendWrite} (h : l.foldl earlier (some y) = some w) :
    (w = y ∧ ∀ x ∈ l, w.tick.getD 0 ≤ x.tick.getD 0) ∨ (EarliestIn w l ∧ w.tick.getD 0 < y.tick.getD 0) := by
  induction l generalizing y with
  | nil => exact .inl ⟨(Option.some.inj h).symm, by simp⟩
  | cons x l ih =>
    rw [List.foldl_cons] at h
    by_cases hx : x.tick.getD 0 < y.tick.getD 0
    · rw [earlier_lt hx] at h
      rcases ih h with ⟨rfl, hl⟩ | ⟨hl, hw⟩
      · exact .inr ⟨⟨[], l, rfl, by simp, hl⟩, hx⟩
      · exact .inr ⟨earliestIn_cons hl hw, by omega⟩
    · rw [earlier_ge hx] at h
      rcases ih h with ⟨rfl, hl⟩ | ⟨hl, hw⟩
      · exact .inl ⟨rfl, fun z hz => by rcases List.mem_cons.1 hz with rfl | hz; exacts [by omega, hl z hz]⟩
      · exact .inr ⟨earliestIn_cons hl (by omega), hw⟩

theorem foldl_earlier_none {w : PendWrite} {l : List PendWrite} (h : l.foldl earlier none = some w) : EarliestIn w l := by
  cases l with
  | nil => cases h
  | cons x l =>
    rw [List.foldl_cons, earlier_none] at h
    rcases foldl_earlier_some h with ⟨rfl, hl⟩ | ⟨hl, hw⟩
    · exact ⟨[], l, rfl, by simp, hl⟩
    · exact earliestIn_cons hl hw

/-- The due writes of an entry, in their order. -/
def dueWrites (s : State) (id : Nat) : List PendWrite := s.dx.pending.filter fun x => x.entry == id && writeDue s x

theorem pendingOf_earliest {s : State} {id : Nat} {w : PendWrite} (h : pendingOf s id = some w) : EarliestIn w (dueWrites s id) :=
  foldl_earlier_none h

theorem mem_of_earliestIn {w : PendWrite} {l : List PendWrite} (h : EarliestIn w l) : w ∈ l := by
  obtain ⟨l1, l2, rfl, -, -⟩ := h
  exact List.mem_append_right _ List.mem_cons_self

theorem le_of_earliestIn {w x : PendWrite} {l : List PendWrite} (h : EarliestIn w l) (hx : x ∈ l) : w.tick.getD 0 ≤ x.tick.getD 0 := by
  obtain ⟨l1, l2, rfl, h1, h2⟩ := h
  rcases List.mem_append.1 hx with hx | hx
  · exact (h1 x hx).le
  · rcases List.mem_cons.1 hx with rfl | hx
    exacts [le_rfl, h2 x hx]

/-- A write that `pendingOf` finds is of its entry and due. -/
theorem pendingOf_due {s : State} {id : Nat} {w : PendWrite} (h : pendingOf s id = some w) : w.entry = id ∧ writeDue s w = true := by
  have hm := mem_of_earliestIn (pendingOf_earliest h)
  simpa [dueWrites] using (List.mem_filter.1 hm).2

theorem writeDue_iff {s : State} {w : PendWrite} :
    writeDue s w = true ↔ (∃ t, w.tick = some t ∧ t ≤ s.clk.tick) ∧ s.frame = frameOf s := by
  cases h : w.tick <;> simp [writeDue, h]

/-- No write of an earlier tick of the same entry waits beside it. -/
theorem pendingOf_first {s : State} {id : Nat} {w : PendWrite} (h : pendingOf s id = some w) : earlierWaits w s = false := by
  obtain ⟨he, hd⟩ := pendingOf_due h
  obtain ⟨⟨t, ht, hl⟩, hf⟩ := writeDue_iff.1 hd
  rw [earlierWaits, Bool.eq_false_iff]
  intro ha
  obtain ⟨x, hx, hq⟩ := List.any_eq_true.1 ha
  obtain ⟨hxe, u, hu, hut⟩ : x.entry = w.entry ∧ ∃ u, x.tick = some u ∧ u < t := by
    simpa [ht, Option.any_eq_true] using hq
  have hxd : writeDue s x = true := writeDue_iff.2 ⟨⟨u, hu, by omega⟩, hf⟩
  have hm : x ∈ dueWrites s id := List.mem_filter.2 ⟨hx, by simp [hxe, he, hxd]⟩
  have := le_of_earliestIn (pendingOf_earliest h) hm
  rw [ht, hu] at this
  simp only [Option.getD_some] at this
  omega

/-- Of the writes of its tick it is the first. -/
theorem pendingOf_head {s : State} {id : Nat} {w : PendWrite} (h : pendingOf s id = some w) :
    (s.dx.pending.filter (sameWrite w)).head? = some w := by
  obtain ⟨he, hd⟩ := pendingOf_due h
  obtain ⟨l1, l2, hl, h1, -⟩ := pendingOf_earliest h
  have hs : s.dx.pending.filter (sameWrite w) = (dueWrites s id).filter (sameWrite w) := by
    rw [dueWrites, List.filter_filter]
    refine List.filter_congr fun x _ => ?_
    by_cases hx : sameWrite w x = true
    · obtain ⟨hxe, hxt⟩ : x.entry = w.entry ∧ x.tick = w.tick := by simpa [sameWrite] using hx
      have hxd : writeDue s x = true := by rw [writeDue, hxt]; exact hd
      simp [hx, hxe, he, hxd]
    · simp [hx]
  have hn : l1.filter (sameWrite w) = [] := by
    rw [List.filter_eq_nil_iff]
    intro x hx hq
    obtain ⟨-, hxt⟩ : x.entry = w.entry ∧ x.tick = w.tick := by simpa [sameWrite] using hq
    have := h1 x hx
    rw [hxt] at this
    omega
  rw [hs, hl, List.filter_append, hn, List.nil_append, List.filter_cons, if_pos (by simp [sameWrite])]
  rfl

end Sys2Proof.Machine
end
section
/-! The checkpoint's snapshot and restore (R238, R239, R252), and the statement of the host queues. -/
namespace Sys2Proof.Machine
open Sys2Proof

/-! ### The mirror leaves the checkpoints alone -/

/-- A state without the queues, the links, the tables, the reports and the mirror's log. -/
def unmirrored (s : State) : State := { calm s with fm := { s.fm with mirror := .off, log := [], outSeq := 0 } }

theorem unmirrored_of_calm {s t : State} (h : calm t = calm s) : unmirrored t = unmirrored s :=
  (congrArg (fun x : State => { x with fm := { x.fm with mirror := .off, log := [], outSeq := 0 } }) h :)
theorem of_unmirrored_copying {s t : State} (h : unmirrored t = unmirrored s) : t.fm.copying = s.fm.copying :=
  (congrArg (fun x : State => x.fm.copying) h :)
theorem of_unmirrored_pending {s t : State} (h : unmirrored t = unmirrored s) : t.dx.pending = s.dx.pending :=
  (congrArg (fun x : State => x.dx.pending) h :)

theorem unmirrored_setMirror (m : MirrorSt) (s : State) : unmirrored (setMirror m s) = unmirrored s := by
  unfold setMirror; split
  · rfl
  · rw [unmirrored_of_calm (calm_of_quiet (quiet_raise _ _ _))]; rfl

theorem unmirrored_mirrorSend (b : Bool) (w : MirrorWrite) (s : State) : unmirrored (mirrorSend b w s) = unmirrored s := by
  unfold mirrorSend; dsimp only
  refine unmirrored_of_calm ((calm_originateRouted _ _).trans (calm_of_quiet ?_))
  split
  · exact quiet_tally _ _ _ _ _ _
  · exact (quiet_occ _ _ _ _ _).trans (quiet_tally _ _ _ _ _ _)

theorem unmirrored_mirrorPump (n : Nat) (s : State) : unmirrored (mirrorPump n s) = unmirrored s := by
  induction n generalizing s with
  | zero => rfl
  | succ n ih =>
    unfold mirrorPump; dsimp only
    split
    · rfl
    · split
      · rfl
      · split
        · rfl
        · rw [ih, unmirrored_mirrorSend]; rfl

theorem unmirrored_mirrorDegrade (s : State) : unmirrored (mirrorDegrade s) = unmirrored s := by
  unfold mirrorDegrade mirrorResync; dsimp only
  rw [unmirrored_mirrorPump, unmirrored_setMirror]
  exact (rfl : _ = unmirrored (setMirror .degraded s)).trans (unmirrored_setMirror _ s)

theorem unmirrored_mirrorPut (l : List MirrorWrite) (s : State) : unmirrored (mirrorPut l s) = unmirrored s := by
  unfold mirrorPut; split
  · rfl
  · split
    · exact unmirrored_mirrorDegrade s
    · rw [unmirrored_mirrorPump]; rfl

/-! ### The snapshot (R238) -/

theorem valueEffect_checkpointStep (off : Nat) (v : Bytes) (s : State) :
    valueEffect (entryRow E.FM_CHECKPOINT_STEP) off v s = checkpointTake (beNat v) (setNum E.FM_CHECKPOINT_STEP (beNat v) s) := by
  have h : (entryRow E.FM_CHECKPOINT_STEP).id = E.FM_CHECKPOINT_STEP := rfl
  simp only [valueEffect, h]; rfl

/-- A snapshot is taken where no copy runs; the settings and the waiting writes stay. -/
theorem checkpointTake_copies {s : State} (h : s.fm.copying = none) (n : Nat) :
    (checkpointTake n s).fm.copying.map (·.step) = some n ∧ (checkpointTake n s).dx.pending = s.dx.pending
      ∧ sets (checkpointTake n s) = sets s := by
  unfold checkpointTake
  rw [if_neg (by simp [h])]
  dsimp only
  exact ⟨by rw [of_unmirrored_copying (unmirrored_mirrorPut _ _)]; rfl, by rw [of_unmirrored_pending (unmirrored_mirrorPut _ _)],
    by rw [sets_mirrorPut]; rfl⟩

/-- What CHECKPOINT_SNAPSHOT does. -/
def snapshotEffect (s : State) : State := match pendingOf s E.FM_CHECKPOINT_STEP with
  | some w => if (pendingOf s E.FM_CHECKPOINT_RESTORE).isSome then s else pendingTake w s
  | none => s

theorem findEntry_row {id : Nat} (h : (findEntry id).isSome = true) : findEntry id = some (entryRow id) := by
  rw [entryRow]
  exact (Option.some_get h).symm.trans (congrArg some (Option.get_eq_getD _))

theorem checkpointSnapshot_answers (w : PendWrite) (s : State) (hw : pendingOf s E.FM_CHECKPOINT_STEP = some w)
    (hr : pendingOf s E.FM_CHECKPOINT_RESTORE = none) (h : Alone w s) (hc : s.fm.copying = none) :
    Answers .checkpointSnapshot s fun t => t.dx.pending = s.dx.pending.filter (fun x => !sameWrite w x)
      ∧ Cfg.FM_CHECKPOINT_STEP t = beNat w.body ∧ (t.fm.copying.map (·.step)) = some (beNat w.body) := by
  obtain ⟨he, -⟩ := pendingOf_due hw
  have hs : neverSuperseded w.entry = false := by rw [he]; decide
  have hf : findEntry w.entry = some (entryRow E.FM_CHECKPOINT_STEP) := by rw [he]; exact findEntry_row rfl
  generalize hu : setNum E.FM_CHECKPOINT_STEP (beNat w.body)
    (count E.DX_SUPERSEDED 0 (withPending (s.dx.pending.filter fun x => !sameWrite w x) (start s))) = u
  have ht : pendingTake w (start s) = checkpointTake (beNat w.body) u := by
    rw [pendingTake_alone (s := start s) h.only ((actionOver_start s _).trans h.free) h.first hs hf, valueEffect_checkpointStep, ← hu]
    rfl
  have hw' : pendingOf (start s) E.FM_CHECKPOINT_STEP = some w := hw
  have hr' : pendingOf (start s) E.FM_CHECKPOINT_RESTORE = none := hr
  refine answers_run (f := snapshotEffect) rfl ?_
  simp only [snapshotEffect, hw', hr', Option.isSome_none, Bool.false_eq_true, if_false, ht]
  obtain ⟨h1, h2, h3⟩ := checkpointTake_copies (s := u) (by rw [← hu]; exact hc) (beNat w.body)
  refine ⟨h2.trans (by rw [← hu]; rfl), ?_, h1⟩
  refine (getNum_of_sets h3 (e := E.FM_CHECKPOINT_STEP) rfl 0).trans ?_
  rw [← hu, getNum_setNum_self]

/-! ### The restore (R239) -/

theorem valueEffect_checkpointRestore (off : Nat) (v : Bytes) (s : State) :
    valueEffect (entryRow E.FM_CHECKPOINT_RESTORE) off v s = checkpointBack s := by
  have h : (entryRow E.FM_CHECKPOINT_RESTORE).id = E.FM_CHECKPOINT_RESTORE := rfl
  simp only [valueEffect, h]; rfl

/-- A region begins to be restored. -/
def regionBack (s : State) (k : CkRegion) : State := regionState k.num .restoring (genBump k.num s)

/-- A state without the queues, the links, the tables, the reports and the regions. -/
def regionless (s : State) : State := { calm s with fm := { s.fm with regions := [], past := [] } }

theorem of_regionless_copying {s t : State} (h : regionless t = regionless s) : t.fm.copying = s.fm.copying :=
  (congrArg (fun x : State => x.fm.copying) h :)
theorem of_regionless_restores {s t : State} (h : regionless t = regionless s) : t.fm.restores = s.fm.restores :=
  (congrArg (fun x : State => x.fm.restores) h :)
theorem of_regionless_pending {s t : State} (h : regionless t = regionless s) : t.dx.pending = s.dx.pending :=
  (congrArg (fun x : State => x.dx.pending) h :)

theorem regionless_raise (c : Nat) (l : List Item) (s : State) : regionless (raise c l s) = regionless s :=
  (congrArg (fun x : State => { x with fm := { x.fm with regions := [], past := [] } }) (calm_of_quiet (quiet_raise c l s)) :)

theorem regionless_genBump (n : Nat) (s : State) : regionless (genBump n s) = regionless s := by
  unfold genBump; split <;> rfl

theorem regionless_regionState (n : Nat) (st : RegionSt) (s : State) : regionless (regionState n st s) = regionless s := by
  unfold regionState; split
  · rfl
  · split
    · rfl
    · rw [regionEvent, regionless_raise]; rfl

theorem regionless_regionBack (s : State) (k : CkRegion) : regionless (regionBack s k) = regionless s := by
  rw [regionBack, regionless_regionState, regionless_genBump]

/-- The state of a region, where there is one. -/
def regionStOf (s : State) (n : Nat) : Option RegionSt := (SMap.get? s.fm.regions n).map (·.state)

theorem regionStOf_genBump (n j : Nat) (s : State) : regionStOf (genBump n s) j = regionStOf s j := by
  unfold genBump regionStOf; split
  · rfl
  · rename_i r h
    by_cases e : j = n
    · subst e; simp [setRegion, h]
    · simp [setRegion, get?_set_ne _ _ e, genRetire]

theorem regionStOf_regionState (n j : Nat) (st : RegionSt) (s : State) :
    regionStOf (regionState n st s) j = if j = n then (regionStOf s j).map fun _ => st else regionStOf s j := by
  unfold regionState regionStOf; split
  · rename_i h
    by_cases e : j = n
    · subst e; simp [h]
    · simp [e]
  · rename_i r h
    split
    · rename_i hs
      by_cases e : j = n
      · subst e; simp [h, hs]
      · simp [e]
    · rw [regionEvent, raise_fm]
      by_cases e : j = n
      · subst e; simp [setRegion, h]
      · simp [setRegion, get?_set_ne _ _ e, e]

/-- A region that begins to be restored is RESTORING; the others stay as they are. -/
theorem regionStOf_regionBack (k : CkRegion) (j : Nat) (s : State) :
    regionStOf (regionBack s k) j = if j = k.num then (regionStOf s j).map fun _ => .restoring else regionStOf s j := by
  rw [regionBack, regionStOf_regionState, regionStOf_genBump]

theorem regionStOf_foldl_regionBack (l : List CkRegion) (j : Nat) (s : State) :
    regionStOf (l.foldl regionBack s) j
      = if j ∈ l.map (·.num) then (regionStOf s j).map fun _ => .restoring else regionStOf s j := by
  induction l generalizing s with
  | nil => simp
  | cons k l ih =>
    rw [List.foldl_cons, ih, regionStOf_regionBack, List.map_cons]
    by_cases h : j = k.num
    · simp [h, Option.map_map, Function.comp_def]
    · simp [h]

theorem regionless_foldl (l : List CkRegion) (s : State) : regionless (l.foldl regionBack s) = regionless s :=
  foldl_keeps regionless _ regionless_regionBack l s

/-- A copy that runs is given up. -/
def copyStops (s : State) : State := match s.fm.copying with
  | none => s
  | some d => raise Ev.FM_CHECKPOINT_SKIPPED [.u64 d.step] { s with fm := { s.fm with copying := none } }

theorem copyStops_fm (s : State) : (copyStops s).fm = { s.fm with copying := none } := by
  unfold copyStops; split
  · rename_i h; rw [← h]
  · rw [raise_fm]

theorem copyStops_pending (s : State) : (copyStops s).dx.pending = s.dx.pending := by
  unfold copyStops; split
  · rfl
  · rw [raise_dx_pending]

theorem checkpointBack_eq {k : Checkpoint} {s : State} (h : s.fm.complete = some k) :
    checkpointBack s =
      let hit := k.regions.filter (restorable (copyStops s))
      let t := hit.foldl regionBack (copyStops s)
      { t with fm := { t.fm with restores := t.fm.restores ++ [{ step := k.step, regions := hit }] } } := by
  unfold checkpointBack; rw [h]; rfl

theorem restorable_copyStops (s : State) : restorable (copyStops s) = restorable s := by
  funext k
  unfold restorable; rw [copyStops_fm]

/-- The complete checkpoint begins to be copied back. -/
theorem checkpointBack_restores {k : Checkpoint} {s : State} (h : s.fm.complete = some k) :
    (checkpointBack s).dx.pending = s.dx.pending ∧ (checkpointBack s).fm.copying = none
      ∧ (checkpointBack s).fm.restores = s.fm.restores ++ [{ step := k.step, regions := k.regions.filter (restorable s) }]
      ∧ ∀ g ∈ k.regions, restorable s g = true → regionStOf (checkpointBack s) g.num = some .restoring := by
  rw [checkpointBack_eq h]; dsimp only
  rw [restorable_copyStops]
  have hr := regionless_foldl (k.regions.filter (restorable s)) (copyStops s)
  refine ⟨(of_regionless_pending hr).trans (copyStops_pending s), (of_regionless_copying hr).trans ?_, ?_, fun g hg hs => ?_⟩
  · rw [copyStops_fm]
  · rw [of_regionless_restores hr, copyStops_fm]
  · refine (regionStOf_foldl_regionBack _ g.num _).trans ?_
    rw [if_pos (List.mem_map.2 ⟨g, List.mem_filter.2 ⟨hg, hs⟩, rfl⟩), regionStOf, copyStops_fm]
    unfold restorable at hs
    cases hq : SMap.get? s.fm.regions g.num with
    | none => rw [hq] at hs; cases hs
    | some r => rfl

/-- What CHECKPOINT_RESTORE does. -/
def restoreEffect (s : State) : State := match pendingOf s E.FM_CHECKPOINT_RESTORE with
  | some w => pendingTake w s
  | none => s

theorem checkpointRestore_answers (w : PendWrite) (k : Checkpoint) (s : State) (hw : pendingOf s E.FM_CHECKPOINT_RESTORE = some w)
    (hk : s.fm.complete = some k) :
    Answers .checkpointRestore s fun t => t.dx.pending = s.dx.pending.erase w ∧ t.fm.copying = none
      ∧ t.fm.restores = s.fm.restores ++ [{ step := k.step, regions := k.regions.filter (restorable s) }]
      ∧ ∀ g ∈ k.regions, restorable s g = true → ∃ r, SMap.get? t.fm.regions g.num = some r ∧ r.state = .restoring := by
  obtain ⟨he, -⟩ := pendingOf_due hw
  have hs : neverSuperseded w.entry = true := by rw [he]; decide
  have hf : findEntry w.entry = some (entryRow E.FM_CHECKPOINT_RESTORE) := by rw [he]; exact findEntry_row rfl
  have ht : pendingTake w (start s) = checkpointBack (withPending (s.dx.pending.erase w) (start s)) := by
    rw [pendingTake_first (s := start s) (pendingOf_head hw) (pendingOf_first hw) hs hf, valueEffect_checkpointRestore]
    rfl
  have hw' : pendingOf (start s) E.FM_CHECKPOINT_RESTORE = some w := hw
  refine answers_run (f := restoreEffect) rfl ?_
  simp only [restoreEffect, hw', ht]
  obtain ⟨h1, h2, h3, h4⟩ := checkpointBack_restores (s := withPending (s.dx.pending.erase w) (start s)) hk
  exact ⟨h1, h2, h3, fun g hg hr => Option.map_eq_some_iff.1 (h4 g hg hr)⟩

/-- Settles O27: one theorem per clause. -/
theorem hostQueues : Obligations.HostQueues :=
  ⟨sqTailDoorbell_answers, cqHeadWrite_idle, cqHeadWrite_resp, eqHeadWrite_answers, queueCtrlWrite_answers, barRegisterWrite_answers,
    msixHoldoffExpiry_answers, sessionLeaseExpiry_answers, blockIdleExpiry_xfer, blockIdleExpiry_snap,
    fun n w e s hw ⟨hd, ho, hf, hn⟩ => pendingWriteEffect_answers n w e s hw ⟨hd, ho, hf, hn⟩,
    fun w s hw hr ⟨hd, ho, hf, hn⟩ => checkpointSnapshot_answers w s hw hr ⟨hd, ho, hf, hn⟩, checkpointRestore_answers⟩

end Sys2Proof.Machine
end
section
/-! The work of a frame's boundary leaves the clock as it is: it runs at one instant (R7). -/
namespace Sys2Proof.Machine
open Sys2Proof

theorem clk_foldl {α : Type} (f : State → α → State) (h : ∀ s a, (f s a).clk = s.clk) (l : List α) (s : State) :
    (l.foldl f s).clk = s.clk := foldl_keeps State.clk f h l s

/-- A change under a condition. -/
theorem clk_ite {c : Prop} [Decidable c] {a b s : State} (ha : a.clk = s.clk) (hb : b.clk = s.clk) : (if c then a else b).clk = s.clk := by
  split
  · exact ha
  · exact hb


@[simp] theorem setSync_clk (n : SyncSt) (r : Nat) (s : State) : (setSync n r s).clk = s.clk := of_spine_clk (spine_setSync n r s)
@[simp] theorem capDrop_clk (i c : Nat) (s : State) : (capDrop i c s).clk = s.clk := of_still_clk (still_capDrop i c s)
@[simp] theorem orderIdle_clk (f : Nat) (s : State) : (orderIdle f s).clk = s.clk := rfl
@[simp] theorem nextGone_clk (n : NextState) (s : State) : (nextGone n s).clk = s.clk := rfl

/-! ### Totals, saturation and the checks of a join -/

theorem frameFlush_clk (s : State) : (frameFlush s).clk = s.clk := by
  unfold frameFlush
  exact clk_foldl _ (fun s a => raise_clk _ _ s) _ _

theorem satCheck_clk (l : List (Nat × Nat × Nat)) (s : State) : (satCheck l s).clk = s.clk := by
  unfold satCheck
  refine clk_foldl _ (fun s u => ?_) _ _
  dsimp only
  rw [raise_clk, count_clk]

theorem stageFaults_clk (l : List StageRead) (s : State) : (stageFaults l s).clk = s.clk := by
  unfold stageFaults
  refine clk_foldl _ (fun s u => ?_) _ _
  dsimp only
  exact clk_ite rfl (raise_clk _ _ _)

theorem ttRefuse_clk (l : List CheckFail) (s : State) : (ttRefuse l s).clk = s.clk := by
  unfold ttRefuse; dsimp only
  split
  · rw [raise_clk]; rfl
  · rw [raise_clk, raise_clk]; rfl

theorem joinCheck_clk (s : State) : (joinCheck s).clk = s.clk := by
  unfold joinCheck
  split
  · rfl
  · split
    · split
      · rfl
      · rw [setSync_clk]; dsimp only; rw [ttRefuse_clk]
    · rfl

/-! ### Writes to `PORT_CONFIG` (R135, R141) -/

theorem cutOff_clk (p : Nat) (s : State) : (cutOff p s).clk = s.clk := by
  unfold cutOff; dsimp only
  refine (clk_foldl _ (fun s w => ?_) _ _).trans ?_
  · rw [emit_clk]
  · rw [count_clk]

theorem lanesRetrain_clk (p : Nat) (s : State) : (lanesRetrain p s).clk = s.clk := by
  unfold lanesRetrain
  exact clk_foldl _ (fun s i => clk_ite (setLane_clk _ _ _ _ s) rfl) _ _

theorem deadlineDrop_clk (s : State) : (deadlineDrop s).clk = s.clk := by
  unfold deadlineDrop
  exact of_still_clk (still_scDrop _ _ _ (fun x s => still_of_quiet (quiet_breach _ _ _ _ s)) s)

theorem flapDrop_clk (p : Nat) (s : State) : (flapDrop p s).clk = s.clk := by
  unfold flapDrop; dsimp only
  rw [raise_clk, setPort_clk]
  refine (clk_foldl _ (fun s x => ?_) _ _).trans ?_
  · rw [openDrop_clk, tally_clk]
  refine (clk_foldl _ (fun s x => ?_) _ _).trans ?_
  · rw [orderIdle_clk]
    refine (clk_ite rfl (packetDone_clk _ _)).trans ?_
    refine (mcastLoss_clk _ _ _ _ _).trans ?_
    rw [tally_clk, capDrop_clk]
  · refine (of_still_clk (still_scDrop _ _ _ (fun x s => still_tally _ _ _ _ _ s) _)).trans (deadlineDrop_clk s)

theorem portFallsFor_clk (h p : Nat) (s : State) : (portFallsFor h p s).clk = s.clk := by
  unfold portFallsFor; dsimp only
  have h1 : (raise Ev.DP_PORT_DOWN [.u16 p, .counts (queuedFor s p)] (cutOff p s)).clk = s.clk := by rw [raise_clk, cutOff_clk]
  generalize raise Ev.DP_PORT_DOWN [.u16 p, .counts (queuedFor s p)] (cutOff p s) = u at h1
  split
  · rw [flapDrop_clk, setPort_clk, lanesRetrain_clk, h1]
  · rw [setPort_clk, lanesRetrain_clk, h1]

theorem portRetrain_clk (p : Nat) (s : State) : (portRetrain p s).clk = s.clk := by
  unfold portRetrain; dsimp only
  exact clk_ite (portFallsFor_clk _ _ s) rfl

/-- A pending write leaves the clock alone where the effect of its entry does. -/
theorem pendingTake_clk {w : PendWrite} (h : ∀ e off v s, findEntry w.entry = some e → (valueEffect e off v s).clk = s.clk) (s : State) :
    (pendingTake w s).clk = s.clk := by
  have act : ∀ (x : Option PendWrite) (t : State), (match x, findEntry w.entry with
      | some x, some e => valueEffect e x.offset x.body t
      | _, _ => t).clk = t.clk := fun x t => by
    split
    · rename_i e he; exact h _ _ _ _ he
    · rfl
  unfold pendingTake; dsimp only
  split
  · rfl
  · split
    · exact act _ _
    · split
      · rw [count_clk]
      · exact (act _ _).trans (count_clk _ _ _)

theorem putValue_clk (e : Entry) (v : Bytes) (s : State) : (putValue e v s).clk = s.clk := clk_ite rfl rfl

theorem valueEffect_portConfig_clk (off : Nat) (v : Bytes) (s : State) : (valueEffect (entryRow E.PORT_CONFIG) off v s).clk = s.clk := by
  have h : (entryRow E.PORT_CONFIG).id = E.PORT_CONFIG := rfl
  unfold valueEffect; dsimp only
  rw [if_pos h]
  exact (clk_foldl (fun s p => portRetrain p s) (fun s p => portRetrain_clk p s) _ _).trans (putValue_clk _ _ s)

theorem portWrites_clk (s : State) : (portWrites s).clk = s.clk := by
  unfold portWrites
  refine clk_foldl _ (fun s _ => ?_) _ s
  dsimp only
  split
  · rename_i w hw
    have he : w.entry = E.PORT_CONFIG := by
      have := List.find?_some hw
      simp only [Bool.and_eq_true, beq_iff_eq] at this
      exact this.1.1
    refine pendingTake_clk (fun e off v s hf => ?_) s
    rw [he] at hf
    rw [← entryRow_of_find hf]
    exact valueEffect_portConfig_clk off v s
  · rfl

/-! ### The timetable's swap -/


@[simp] theorem regionState_clk (n : Nat) (st : RegionSt) (s : State) : (regionState n st s).clk = s.clk := by
  unfold regionState; split
  · rfl
  · split
    · rfl
    · rw [regionEvent, raise_clk, setRegion_clk]

theorem regionsJoin_clk (s : State) : (regionsJoin s).clk = s.clk := by
  unfold regionsJoin
  refine clk_foldl _ (fun s n => ?_) _ _
  split
  · rw [regionState_clk, setRegion_clk]
  · rfl

theorem mirrorFromHeld_clk (s : State) : (mirrorFromHeld s).clk = s.clk := by
  unfold mirrorFromHeld; split <;> rfl

theorem becomeCurrent_clk (r : Nat) (s : State) : (becomeCurrent r s).clk = s.clk := by
  have h : (regionsJoin (setSync .current r s)).clk = s.clk := by rw [regionsJoin_clk, setSync_clk]
  unfold becomeCurrent; dsimp only
  exact clk_ite ((mirrorFromHeld_clk _).trans h) h

theorem resumeFrame_clk (s : State) : (resumeFrame s).clk = s.clk := by
  unfold resumeFrame
  split
  · rw [becomeCurrent_clk]
  · rfl

theorem epochSplit_clk (s : State) : (epochSplit s).clk = s.clk := by
  unfold epochSplit
  exact clk_ite (raise_clk _ _ s) rfl

theorem selectionSwap_clk (s : State) : (selectionSwap s).clk = s.clk := by
  unfold selectionSwap
  exact clk_ite rfl rfl

@[simp] theorem setNb_clk (p : Nat) (f : Neighbour → Neighbour) (s : State) : (setNb p f s).clk = s.clk := rfl
@[simp] theorem onRec_clk (r : Recipe) (f : RecState → RecState) (s : State) : (onRec r f s).clk = s.clk := rfl

theorem crLog_clk (b : Bytes) (s : State) : (crLog b s).clk = s.clk := by
  unfold crLog; dsimp only
  exact clk_ite (count_clk _ _ s) rfl

theorem crAbandon_clk (n : Nat) (r : Recipe) (k : Chunk) (c : Nat) (s : State) : (crAbandon n r k c s).clk = s.clk := by
  have hclose : ∀ t, (if k.complete = true then t else crClose r k.index t).clk = t.clk := fun t => clk_ite rfl rfl
  unfold crAbandon; dsimp only
  rw [crLog_clk, hclose, accum_clk, tally_clk]; dsimp only
  rw [onRec_clk]
  exact clk_foldl _ (fun s p => setNb_clk _ _ s) _ _

theorem crSwap_clk (i : Image) (s : State) : (crSwap i s).clk = s.clk := by
  unfold crSwap; split
  · rfl
  · refine clk_foldl _ (fun s x => ?_) _ s
    dsimp only
    refine (clk_foldl _ (fun s y => ?_) _ _).trans (clk_foldl _ (fun s k => ?_) _ _)
    · rw [tally_clk]
    · rw [crAbandon_clk]

theorem bindingSwap_clk (i : Image) (s : State) : (bindingSwap i s).clk = s.clk := by
  unfold bindingSwap scPurge scDropWith; dsimp only
  refine (clk_foldl _ (fun s x => ?_) _ _).trans rfl
  rw [orderIdle_clk, packetDone_clk, capDrop_clk, tally_clk]

theorem benchRetire_clk (x n : Nat) (s : State) : (benchRetire x n s).clk = s.clk := by
  unfold benchRetire rotationEvent; dsimp only
  rw [raise_clk, count_clk, setPhys_clk]

theorem leaseLaneEnd_clk (p l : Nat) (s : State) : (leaseLaneEnd p l s).clk = s.clk := by
  unfold leaseLaneEnd
  split
  · dsimp only [moveSend, moveAdd]
    exact clk_foldl _ (fun s d => by dsimp only; rw [setLane_clk]) _ _
  · refine clk_foldl _ (fun s d => ?_) _ s
    dsimp only
    split
    · exact clk_ite (by rw [setReserve_clk, setLane_clk]) (setLane_clk _ _ _ _ s)
    · rfl

theorem leaseFinish_clk (l : LeaseRec) (s : State) : (leaseFinish l s).clk = s.clk := by
  unfold leaseFinish
  split
  · exact clk_foldl _ (fun s y => benchRetire_clk y 4 s) _ s
  · exact leaseLaneEnd_clk _ _ s

theorem leasesEnd_clk (l : List LeaseRec) (s : State) : (leasesEnd l s).clk = s.clk := by
  unfold leasesEnd
  refine clk_foldl _ (fun s l => ?_) _ s
  rw [leaseFinish_clk, leaseEvent, raise_clk]

theorem leaseRenew_clk (a b : LeaseRec) (s : State) : (leaseRenew a b s).clk = s.clk := by
  unfold leaseRenew
  split
  · rfl
  · exact clk_foldl _ (fun s y => clk_ite (setPhys_clk _ _ s) rfl) _ s

theorem leaseSwap_clk (i : Image) (s : State) : (leaseSwap i s).clk = s.clk := by
  unfold leaseSwap; dsimp only
  refine (clk_foldl _ (fun s l => ?_) _ _).trans (leasesEnd_clk _ s)
  split
  · exact leaseRenew_clk _ _ s
  · rfl

theorem routeSwitch_clk (n o : Nat) (j : Bool) (s : State) : (routeSwitch n o j s).clk = s.clk := rfl
theorem buffersTurn_clk (b : Bool) (s : State) : (buffersTurn b s).clk = s.clk := rfl
theorem epochWrites_clk (s : State) : (epochWrites s).clk = s.clk := rfl

theorem swapImage_clk (i : Image) (j : Bool) (s : State) : (swapImage i j s).clk = s.clk := by
  have hs : (selectionSwap (crSwap i (bindingSwap i (leaseSwap i s)))).clk = s.clk := by
    rw [selectionSwap_clk, crSwap_clk, bindingSwap_clk, leaseSwap_clk]
  unfold swapImage; dsimp only
  generalize selectionSwap (crSwap i (bindingSwap i (leaseSwap i s))) = u at hs
  refine Eq.trans (clk_ite (raise_clk _ _ _) rfl) ?_
  rw [raise_clk, epochWrites_clk, buffersTurn_clk, routeSwitch_clk]
  exact hs

theorem swapMissed_clk (f : Nat) (s : State) : (swapMissed f s).clk = s.clk := by
  unfold swapMissed
  exact clk_ite (raise_clk _ _ _) rfl

theorem ttFrame_clk (s : State) : (ttFrame s).clk = s.clk := by
  unfold ttFrame; dsimp only
  split
  · rfl
  · split
    · split
      · exact clk_ite (nextGone_clk _ s) (swapImage_clk _ _ s)
      · exact swapMissed_clk _ s
    · exact swapMissed_clk _ s

/-! ### The checks of the frame -/

theorem withPins_clk {f : State → State} (h : ∀ s, (f s).clk = s.clk) (s : State) : (withPins f s).clk = s.clk := by
  unfold withPins
  exact (clk_foldl _ (fun t p => clk_ite rfl (emit_clk _ t)) _ _).trans (h s)

theorem cellReport_clk (w c v : Nat) (s : State) : (cellReport w c v s).clk = s.clk := by
  unfold cellReport; dsimp only
  refine clk_ite rfl ?_
  rw [raise_clk, count_clk, setWing_clk]

theorem chuteLoss_clk (s : State) : (chuteLoss s).clk = s.clk := by
  unfold chuteLoss
  refine clk_foldl _ (fun s wx => clk_foldl _ (fun s c => ?_) _ s) _ s
  dsimp only
  refine clk_ite rfl ?_
  split
  · rfl
  · exact clk_ite (raiseOnce_clk _ _ _ s) rfl

theorem movePropose_clk (p d l r : Nat) (s : State) : (movePropose p d l r s).clk = s.clk := by
  unfold movePropose; dsimp only
  exact clk_ite rfl (clk_ite (raiseOnce_clk _ _ _ s) rfl)

theorem lossPort_clk (p : Nat) (s : State) : (lossPort p s).clk = s.clk := by
  unfold lossPort
  refine clk_foldl _ (fun s i => ?_) _ s
  extract_lets d l key c was _ noted located
  have h : located.clk = s.clk := clk_ite (raiseOnce_clk _ _ _ noted) rfl
  clear_value located
  refine Eq.trans (clk_ite rfl ?_) h
  split
  · rfl
  · exact clk_ite (Eq.trans (clk_ite (movePropose_clk _ _ _ _ _) rfl) (raiseOnce_clk _ _ _ located)) rfl

theorem attn_clk (b : Nat) (s : State) : (attn b s).clk = s.clk := rfl

theorem evidenceFrame_clk (s : State) : (evidenceFrame s).clk = s.clk := by
  unfold evidenceFrame
  refine clk_foldl _ (fun s x => ?_) _ s
  unfold evidencePort; dsimp only
  refine Eq.trans (clk_ite rfl ?_) (setNb_clk _ _ _)
  rw [raise_clk, attn_clk, count_clk]

theorem setBias_clk (e k v : Nat) (s : State) : (setBias e k v s).clk = s.clk := rfl

theorem elsStart_clk (s : State) : (elsStart s).clk = s.clk := by
  unfold elsStart
  refine clk_foldl _ (fun s x => ?_) _ s
  dsimp only
  split
  · refine Eq.trans (clk_ite (clk_foldl _ (fun s i => clk_ite (setReserve_clk _ _ _ s) rfl) _ _) rfl) (setEls_clk _ _ s)
  · exact clk_foldl _ (fun s i => setBias_clk _ _ _ s) _ s

theorem searchRetry_clk (s : State) : (searchRetry s).clk = s.clk := rfl

theorem frameChecks_clk (r : FrameReadings) (s : State) : (frameChecks r s).clk = s.clk := by
  unfold frameChecks
  extract_lets _ monitored celled chuted checked
  have h1 : celled.clk = monitored.clk := clk_foldl _ (fun s x => cellReport_clk _ _ _ s) _ _
  have h2 : chuted.clk = celled.clk :=
    clk_ite ((chuteLoss_clk _).trans (clk_foldl _ (fun s p => clk_ite rfl (lossPort_clk p s)) _ _)) rfl
  have h3 : checked.clk = chuted.clk := clk_ite rfl (withPins_clk evidenceFrame_clk chuted)
  calc (elsStart (searchRetry checked)).clk = (searchRetry checked).clk := elsStart_clk _
    _ = checked.clk := searchRetry_clk _
    _ = monitored.clk := (h3.trans h2).trans h1

/-! ### What a frame ends with -/

theorem actFreeFinal_clk (s : State) : (actFreeFinal s).clk = s.clk := rfl

theorem trimGate_clk (s : State) : (trimGate s).clk = s.clk := by
  unfold trimGate; dsimp only
  exact clk_ite rfl rfl

/-- The work of a frame notes the frame of its boundary. -/
theorem frameWork_frame (r : FrameReadings) (s : State) : (frameWork r s).frame = s.clk.tick / 1024 := by
  unfold frameWork
  extract_lets flushed judged staged swapped gated _
  have h1 : flushed.clk = s.clk := frameFlush_clk _
  have h2 : judged.clk = flushed.clk := satCheck_clk _ _
  have h3 : staged.clk = judged.clk := by rw [stageFaults_clk, joinCheck_clk, portWrites_clk]
  have h4 : swapped.clk = staged.clk := by rw [epochSplit_clk, resumeFrame_clk, ttFrame_clk]
  have h5 : gated.clk = swapped.clk := by rw [trimGate_clk, actFreeFinal_clk, frameChecks_clk]
  exact congrArg (·.tick / 1024) ((h5.trans h4).trans (h3.trans (h2.trans h1)))

end Sys2Proof.Machine
end
section
/-! The tick generator's two boundaries (R7), and the CREDIT that opens a port's gap slot (R121). -/
namespace Sys2Proof.Machine
open Sys2Proof

theorem tickBoundary_answers (r : TickReadings) (s : State) :
    Answers (.tickBoundary r) s fun t => t.clk.tick = s.clk.tick + 1 ∧ t.clk.ps = 0 := ⟨_, rfl, rfl, rfl⟩

theorem frameBoundary_answers (r : FrameReadings) (s : State) (h0 : s.clk.tick % 1024 = 0) (hf : s.frame ≠ s.clk.tick / 1024) :
    Answers (.frameBoundary r) s fun t => t.frame = s.clk.tick / 1024 ∧ t.clk = s.clk := by
  have hc : ((start s).clk.tick % 1024 = 0 && (start s).frame != frameOf (start s)) = true := by
    simp [start_clk, h0, frameOf, hf]
  refine answers_run rfl ?_
  rw [if_pos hc]
  rw [settle_frame, settle_clk]
  exact ⟨frameWork_frame r (start s), rfl⟩

/-! ### The gap slot -/

/-- A link-local packet leaves on the port's lowest lane, with the launch stamp of its start. -/
theorem mem_sendLocal {p op w n : Nat} {b : Bytes} {s : State} (hl : lowLane s p = some w) (hn : localStart s p w = some n) :
    .packet p w (mkControl Vc.MC (eBit s) 0xFFFFFF op (posFa s) 0 false 0 0 p (activeEpoch s) b (n / 1000 % 2 ^ 32)) ∈ (sendLocal p op b s).out := by
  unfold sendLocal
  simp only [hl, hn]
  generalize mkControl Vc.MC (eBit s) 0xFFFFFF op (posFa s) 0 false 0 0 p (activeEpoch s) b (n / 1000 % 2 ^ 32) = k
  generalize hs : onWireFrom p w n (wirePs 64) (occSent p w Vc.MC k (emitOn p w k s)) = s1
  have h1 : .packet p w k ∈ s1.out :=
    hs ▸ grows_mem (grows_trans (grows_occSent _ _ _ _ _) (grows_onWireFrom p w n (wirePs 64) _)) (mem_emitOn p w k s)
  have h2 : .packet p w k ∈ (if (slotOf n).2 = 24 then occLane p w 36 64 {} s1 else s1).out := by
    split
    · exact grows_mem (grows_occLane _ _ _ _ _ _) h1
    · exact h1
  generalize (if (slotOf n).2 = 24 then occLane p w 36 64 {} s1 else s1) = s2 at h2 ⊢
  split
  · exact grows_mem (grows_slotUsed _ _ _ _) h2
  · exact h2

/-- What GAP_SLOT_START does at its instant. -/
def gapEffect (p : Nat) (s : State) : State :=
  (List.range 5).foldl (fun s w => openStart p w (fun x => x.expire.isSome) s) (gapLocal p s)

theorem grows_gapEffect (p : Nat) (s : State) : Grows (sendLocal p Op.CREDIT (creditBody s p) s) (gapEffect p s) :=
  grows_trans (grows_gapLocal p s) (grows_foldl _ (fun s w => grows_openStart p w _ s) _ _)

theorem gapSlotStart_effect {p : Port} {s : State} (hp : portFormat s p = 1) (hl : (lowLane s p).isNone = false) (ho : s.hl.power ≠ .off)
    (hd : darkOut s s.clk.tick p = false) :
    exec (.gapSlotStart p) s = .next (settle (atPs (24 * 40960) s) (gapEffect p (start (atPs (24 * 40960) s)))) := by
  have hp' : portFormat (start (atPs (24 * 40960) s)) p = 1 := hp
  have hl' : (lowLane (start (atPs (24 * 40960) s)) p).isNone = false := hl
  have ho' : ((start (atPs (24 * 40960) s)).hl.power == .off) = false := beq_false_of_ne ho
  have hd' : darkOut (start (atPs (24 * 40960) s)) (start (atPs (24 * 40960) s)).clk.tick p = false := hd
  refine (rfl : _ = execGapSlotStart p s).trans ?_
  unfold execGapSlotStart runAt run
  dsimp only
  rw [atPs_idem, hp', hl', ho', hd', if_neg (by decide)]
  rfl

theorem gapSlotStart_answers (p : Port) (w n : Nat) (s : State) (hp : portFormat s p = 1) (hl : lowLane s p = some w)
    (ho : s.hl.power ≠ .off) (hd : darkOut s s.clk.tick p = false) (hn : localStart (atPs (24 * 40960) s) p w = some n) :
    Answers (.gapSlotStart p) s fun t => .packet p w (mkControl Vc.MC (eBit s) 0xFFFFFF Op.CREDIT (posFa s) 0 false 0 0 p
      (activeEpoch s) (creditBody s p) (n / 1000 % 2 ^ 32)) ∈ t.out := by
  have hl' : lowLane (start (atPs (24 * 40960) s)) p = some w := hl
  have hn' : localStart (start (atPs (24 * 40960) s)) p w = some n := hn
  have he : eBit (start (atPs (24 * 40960) s)) = eBit s := rfl
  have hf : posFa (start (atPs (24 * 40960) s)) = posFa s := rfl
  have ha : activeEpoch (start (atPs (24 * 40960) s)) = activeEpoch s := rfl
  have hb : creditBody (start (atPs (24 * 40960) s)) p = creditBody s p := rfl
  refine ⟨_, gapSlotStart_effect hp (by rw [hl]; rfl) ho hd, ?_⟩
  generalize start (atPs (24 * 40960) s) = u at hl' hn' he hf ha hb
  rw [settle_out, ← he, ← hf, ← ha, ← hb]
  exact grows_mem (grows_gapEffect p u) (mem_sendLocal hl' hn')

/-- Settles O9: one theorem per boundary, and one for the gap slot. -/
theorem boundaries : Obligations.Boundaries := ⟨tickBoundary_answers, frameBoundary_answers, gapSlotStart_answers⟩

end Sys2Proof.Machine
end
section
/-! What a command leaves as it is, operation by operation: `Only` is closed under doing one thing after another, and each operation
of the model has its list of parts. Reports have the empty list. -/
namespace Sys2Proof.Machine
open Sys2Proof

/-! ### How lists of parts compose -/

theorem Part.same_refl (g : Part) (s : State) : g.same s s := by
  cases g with
  | settings => exact fun _ _ _ => ⟨fun _ => rfl, rfl⟩
  | sessions => exact ⟨rfl, rfl, rfl, rfl, rfl⟩
  | hosts => exact fun _ => rfl
  | tick => exact ⟨rfl, rfl⟩
  | health => exact ⟨rfl, fun _ => rfl⟩
  | _ => exact Eq.refl _

theorem Part.same_trans {g : Part} {s t u : State} (h : g.same s t) (k : g.same t u) : g.same s u := by
  cases g with
  | settings => exact fun e he ha => ⟨fun d => ((k e he ha).1 d).trans ((h e he ha).1 d), (k e he ha).2.trans (h e he ha).2⟩
  | sessions =>
    obtain ⟨h1, h2, h3, h4, h5⟩ := h
    obtain ⟨k1, k2, k3, k4, k5⟩ := k
    exact ⟨k1.trans h1, k2.trans h2, k3.trans h3, k4.trans h4, k5.trans h5⟩
  | hosts => exact fun x => (k x).trans (h x)
  | tick => exact ⟨k.1.trans h.1, k.2.trans h.2⟩
  | health => exact ⟨k.1.trans h.1, fun d => (k.2 d).trans (h.2 d)⟩
  | _ => exact Eq.trans k h

section
variable {l : List Part} {s t u : State}

theorem Only.refl (s : State) : Only l s s := fun g _ => Part.same_refl g s

theorem Only.trans (h : Only l s t) (k : Only l t u) : Only l s u := fun g hg => Part.same_trans (h g hg) (k g hg)

theorem only_ite {c : Prop} [Decidable c] {a b : State} (ha : Only l s a) (hb : Only l s b) : Only l s (if c then a else b) := by
  split
  · exact ha
  · exact hb

theorem only_foldl {α : Type} {f : State → α → State} (h : ∀ s a, Only l s (f s a)) (as : List α) (s : State) :
    Only l s (as.foldl f s) := by
  induction as generalizing s with
  | nil => exact Only.refl s
  | cons a as ih => exact (h s a).trans (ih _)

/-! ### Commands -/

/-- The clock inside the tick, the queue and what leaves the part belong to no part. -/
theorem only_settle (h : Only l (start s) t) : Only l s (settle s t) := fun g hg => by
  have k := h g hg
  cases g with
  | tick => exact ⟨rfl, k.2⟩
  | _ => exact k

theorem changes_run {i : Instr} {f : State → State} (he : ∀ s, exec i s = run f s) (hf : ∀ s, Only l s (f s)) : Changes i l := by
  intro s t ht
  rw [he] at ht
  cases ht
  exact only_settle (hf _)

theorem only_atPs (a : Nat) (s : State) : Only l s (atPs a s) := fun g _ => by
  have k := Part.same_refl g s
  cases g with
  | _ => exact k

theorem changes_runAt {i : Instr} {a : Nat} {f : State → State} (he : ∀ s, exec i s = runAt a f s) (hf : ∀ s, Only l s (f s)) :
    Changes i l := by
  intro s t ht
  rw [he] at ht
  cases ht
  exact (only_atPs a s).trans (only_settle (hf _))

/-- A timer's row runs at its instant or does nothing. -/
theorem changes_due {i : Instr} {d : State → Option Nat} {f : State → State} (he : ∀ s, exec i s = runDue (d s) f s)
    (hf : ∀ s, Only l s (f s)) : Changes i l := by
  intro s t ht
  rw [he] at ht
  unfold runDue at ht
  split at ht
  · split at ht
    · cases ht; exact (only_atPs _ s).trans (only_settle (hf _))
    · cases ht; exact only_settle (Only.refl _)
  · cases ht; exact only_settle (Only.refl _)

/-! ### One field of the state -/

theorem only_ev (x : EvState) (s : State) : Only l s { s with ev := x } := fun g _ => by
  have k := Part.same_refl g s
  cases g with
  | _ => exact k
theorem only_emit (o : Output) (s : State) : Only l s (emit o s) := fun g _ => by
  have k := Part.same_refl g s
  cases g with
  | _ => exact k
theorem only_ft (x : FtState) (s : State) (hl : .time ∈ l) : Only l s { s with ft := x } := fun g hg => by
  have k := Part.same_refl g s
  cases g with
  | time => exact absurd hl hg
  | _ => exact k
theorem only_tt (x : TtState) (s : State) (hl : .timetable ∈ l) : Only l s { s with tt := x } := fun g hg => by
  have k := Part.same_refl g s
  cases g with
  | timetable => exact absurd hl hg
  | _ => exact k
theorem only_dp (x : DpState) (s : State) (hl : .queues ∈ l) : Only l s { s with dp := x } := fun g hg => by
  have k := Part.same_refl g s
  cases g with
  | queues => exact absurd hl hg
  | _ => exact k
theorem only_cr (x : CrState) (s : State) (hl : .crusher ∈ l) : Only l s { s with cr := x } := fun g hg => by
  have k := Part.same_refl g s
  cases g with
  | crusher => exact absurd hl hg
  | _ => exact k
theorem only_tb (x : TbState) (s : State) (hl : .tables ∈ l) : Only l s { s with tb := x } := fun g hg => by
  have k := Part.same_refl g s
  cases g with
  | tables => exact absurd hl hg
  | _ => exact k
theorem only_op (x : OpState) (s : State) (hl : .optics ∈ l) : Only l s { s with op := x } := fun g hg => by
  have k := Part.same_refl g s
  cases g with
  | optics => exact absurd hl hg
  | _ => exact k
theorem only_rp (x : RpState) (s : State) (hl : .repair ∈ l) : Only l s { s with rp := x } := fun g hg => by
  have k := Part.same_refl g s
  cases g with
  | repair => exact absurd hl hg
  | _ => exact k
theorem only_hl (x : HlState) (s : State) (hl : .health ∈ l) : Only l s { s with hl := x } := fun g hg => by
  have k := Part.same_refl g s
  cases g with
  | health => exact absurd hl hg
  | _ => exact k
theorem only_tm (x : TmState) (s : State) (hl : .captures ∈ l) : Only l s { s with tm := x } := fun g hg => by
  have k := Part.same_refl g s
  cases g with
  | captures => exact absurd hl hg
  | _ => exact k
/-- Counts and the event ring of Rest are reports. -/
theorem only_counts {x : TmState} {s : State}
    (h : { x with fixed := [], prog := [], mothRing := [] } = { s.tm with fixed := [], prog := [], mothRing := [] }) :
    Only l s { s with tm := x } := fun g _ => by
  have k := Part.same_refl g s
  cases g with
  | captures => exact h
  | _ => exact k
theorem only_waiting (x : List PendWrite) (s : State) (hl : .waiting ∈ l) : Only l s { s with dx := { s.dx with pending := x } } :=
  fun g hg => by
    have k := Part.same_refl g s
    cases g with
    | waiting => exact absurd hl hg
    | _ => exact k
theorem only_inbox (x : List (Nat × Packet)) (s : State) (hl : .inbox ∈ l) : Only l s { s with dx := { s.dx with inbox := x } } :=
  fun g hg => by
    have k := Part.same_refl g s
    cases g with
    | inbox => exact absurd hl hg
    | _ => exact k
/-- The events that wait for a subscription are reports. -/
theorem only_subs {x : List Sub} {s : State} (h : (x.map fun b => { b with queue := [] }) = s.dx.subs.map fun b => { b with queue := [] }) :
    Only l s { s with dx := { s.dx with subs := x } } := fun g _ => by
  have k := Part.same_refl g s
  cases g with
  | sessions => exact ⟨rfl, rfl, rfl, rfl, h⟩
  | _ => exact k
theorem only_setLink (p : Nat) (f : Link → Link) (s : State) (hl : .links ∈ l) : Only l s (setLink p f s) := fun g hg => by
  have k := Part.same_refl g s
  cases g with
  | links => exact absurd hl hg
  | _ => exact k

/-! ### Numbers of the dictionary -/

theorem setting_of_mem {e : Entry} (h : e ∈ catalog) (ha : e.acc ≠ 1) : setting e.id = true := by
  have k : (catalog.all fun e => e.acc == 1 || setting e.id) = true := by decide +kernel
  have := List.all_eq_true.1 k e h
  simpa [ha] using this

/-- A number that no one can write is a report. -/
theorem only_setNum {e : Nat} (he : setting e = false) (v : Nat) (s : State) : Only l s (setNum e v s) := fun g _ => by
  have k := Part.same_refl g s
  cases g with
  | settings => exact fun f hf ha => ⟨fun d => getNum_setNum_ne v d s (ne_of_setting (setting_of_mem hf ha) he), rfl⟩
  | _ => exact k
theorem only_count {e : Nat} (he : setting e = false) (n : Nat) (s : State) : Only l s (count e n s) := only_setNum he _ s
theorem only_setting (e v : Nat) (s : State) (hl : .settings ∈ l) : Only l s (setNum e v s) := fun g hg => by
  have k := Part.same_refl g s
  cases g with
  | settings => exact absurd hl hg
  | _ => exact k

end
end Sys2Proof.Machine
end
section
/-! Reports change no part (R399 to R401, R512, R577). -/
namespace Sys2Proof.Machine
open Sys2Proof

section
variable {l : List Part}

/-- A host's function without what an event moves in it. -/
def hostRest (f : PcieFn) : PcieFn := { f with eqTail := 0, eqOverflow := false, vectors := [] }
/-- A controller without the events it holds. -/
def ctlRest (c : Controller) : Controller := { c with heldEvents := [] }

theorem only_setPc (h : Nat) {f : PcieFn → PcieFn} (hf : ∀ x, hostRest (f x) = hostRest x) (s : State) : Only l s (setPc h f s) :=
  fun g _ => by
    have k := Part.same_refl g s
    cases g with
    | hosts =>
      intro j
      change hostRest (pcOf (setPc h f s) j) = hostRest (pcOf s j)
      by_cases hj : j = h
      · rw [hj, pcOf_setPc, hf]
      · rw [pcOf, setPc, getD_set_ne _ _ _ hj, pcOf]
    | _ => exact k

theorem only_setController (d : Nat) {f : Controller → Controller} (hf : ∀ x, ctlRest (f x) = ctlRest x) (s : State) :
    Only l s (setController d f s) := fun g _ => by
  have k := Part.same_refl g s
  cases g with
  | health =>
    refine ⟨rfl, fun j => ?_⟩
    change ctlRest (controllerOf (setController d f s) j) = ctlRest (controllerOf s j)
    by_cases hj : j = d
    · rw [hj, controllerOf, setController, getD_set_self, hf]
    · rw [controllerOf, setController, getD_set_ne _ _ _ hj, controllerOf]
  | _ => exact k

theorem only_accum (c k : Nat) (i : List Item) (n : List Nat) (m : Option Nat) (s : State) : Only l s (accum c k i n m s) := by
  unfold accum; dsimp only
  split <;> exact only_ev _ s

theorem only_signal (h v : Nat) (s : State) : Only l s (signal h v s) := by
  unfold signal; dsimp only
  split
  · exact only_setPc h (by exact fun _ => rfl) s
  · exact (only_setPc h (by exact fun _ => rfl) s).trans (only_emit _ _)

theorem only_dropEvent (k : Nat) (s : State) : Only l s (dropEvent k s) :=
  (only_accum _ _ _ _ _ s).trans (only_count (by decide +kernel) 1 _)

theorem only_hostQueue (e : EventRec) (h : Nat) (s : State) : Only l s (hostQueue e h s) := by
  unfold hostQueue; dsimp only
  split
  · exact Only.refl s
  · split
    · exact (only_setPc h (by exact fun _ => rfl) s).trans (only_dropEvent _ _)
    · exact ((only_setPc h (by exact fun _ => rfl) s).trans (only_emit _ _)).trans (only_signal _ _ _)

theorem only_toHost (e : EventRec) (h : Nat) (s : State) : Only l s (toHost e h s) := by
  unfold toHost
  exact only_ite (only_setController _ (by exact fun _ => rfl) s) (only_hostQueue e h s)

theorem only_toSub (e : EventRec) (n : Nat) (s : State) : Only l s (toSub e n s) := by
  unfold toSub
  split
  · exact Only.refl s
  · refine only_ite (Only.refl s) (only_ite (only_dropEvent n s) (only_subs ?_))
    rw [List.map_map]
    refine List.map_congr_left fun x _ => ?_
    dsimp only [Function.comp]
    split <;> rfl

theorem only_raise (c : Nat) (i : List Item) (s : State) : Only l s (raise c i s) := by
  unfold raise; dsimp only
  refine Only.trans ?_ (only_foldl (fun s n => only_toSub _ n s) _ _)
  refine Only.trans (Only.trans ?_ (only_toHost _ 0 _)) (only_toHost _ 1 _)
  exact (only_ev { s.ev with next := (s.ev.next + 1) % 2 ^ 32 } s).trans (only_ite (only_counts (by rfl)) (only_ev _ _))

theorem only_raiseOnce (c k : Nat) (i : List Item) (s : State) : Only l s (raiseOnce c k i s) := by
  unfold raiseOnce
  exact only_ite (Only.refl s) ((only_ev _ s).trans (only_raise c i _))

theorem only_progAdd (b k n : Nat) (s : State) : Only l s (progAdd b k n s) := by
  unfold progAdd; dsimp only
  exact only_ite (only_counts (by rfl)) (only_ite (only_counts (by rfl)) ((only_counts (by rfl)).trans (only_count (by decide +kernel) _ _)))

theorem only_occ (b v n : Nat) (a : OccAttr) (s : State) : Only l s (occ b v n a s) := by
  have hf : Only l s (if v < 256 then
      { s with tm := { s.tm with fixed := SMap.set s.tm.fixed (b * 256 + v) ((SMap.getD s.tm.fixed (b * 256 + v) 0 + n) % 2 ^ 96) } }
    else s) := only_ite (only_counts (by rfl)) (Only.refl s)
  unfold occ; dsimp only
  split
  · exact hf
  · refine hf.trans (only_foldl (fun s k => ?_) _ _)
    exact only_ite (only_ite ((only_progAdd b k n s).trans (only_raiseOnce _ _ _ _)) (only_progAdd b k n s)) (Only.refl s)

theorem only_tally {e : Nat} (he : setting e = false) (b v n : Nat) (a : OccAttr) (s : State) : Only l s (tally e b v n a s) :=
  (only_count he n s).trans (only_occ b v n a _)

theorem only_tallyPort {e : Nat} (he : setting e = false) (v p : Nat) (k : Packet) (s : State) : Only l s (tallyPort e v p k s) := by
  unfold tallyPort
  exact only_ite (only_tally he _ _ _ _ s) (only_count he _ s)

end
end Sys2Proof.Machine
end
section
/-! What queues a packet, drops it or lets it go changes the queues, the links and the captures. -/
namespace Sys2Proof.Machine
open Sys2Proof

section
variable {l : List Part}

/-! ### Captures and copies -/

theorem only_capForget (i : Nat) (s : State) (hl : .captures ∈ l) : Only l s (capForget i s) := only_tm _ s hl
theorem only_capDepth (i a b : Nat) (s : State) (hl : .captures ∈ l) : Only l s (capDepth i a b s) := only_tm _ s hl

theorem only_capStage (r : Bytes) (s : State) (hl : .captures ∈ l) : Only l s (capStage r s) := by
  unfold capStage; dsimp only
  exact only_ite (Only.refl s) (only_ite ((only_count (by decide +kernel) _ s).trans (only_accum _ _ _ _ _ _)) (only_tm _ s hl))

theorem only_capDrop (i c : Nat) (s : State) (hl : .captures ∈ l) : Only l s (capDrop i c s) := by
  unfold capDrop
  exact only_foldl (fun s a => only_ite (only_capStage _ s hl) (Only.refl s)) _ s

theorem only_mcastReport (i : Nat) (s : State) (hl : .queues ∈ l) : Only l s (mcastReport i s) := by
  unfold mcastReport
  split
  · exact Only.refl s
  · exact ((only_dp _ s hl).trans (only_count (by decide +kernel) _ _)).trans (only_raiseOnce _ _ _ _)

theorem only_packetDone (i : Nat) (s : State) (hq : .queues ∈ l) (hc : .captures ∈ l) : Only l s (packetDone i s) := by
  unfold packetDone; dsimp only
  exact ((only_ite (Only.refl s) (only_mcastReport i s hq)).trans (only_dp _ _ hq)).trans (only_capForget i _ hc)

theorem only_mcastLoss (i k q : Nat) (ps : List Nat) (s : State) (hl : .queues ∈ l) : Only l s (mcastLoss i k q ps s) := by
  unfold mcastLoss
  exact only_ite (Only.refl s) ((only_foldl (fun s p => only_tally (by decide +kernel) _ _ _ _ s) ps s).trans (only_dp _ _ hl))

/-! ### Queues -/

theorem only_setPort (p : Nat) (v : PortDp) (s : State) (hl : .queues ∈ l) : Only l s (setPort p v s) := only_dp _ s hl
theorem only_orderIdle (f : Nat) (s : State) (hl : .queues ∈ l) : Only l s (orderIdle f s) := only_dp _ s hl
theorem only_orderUnset (f : Nat) (s : State) (hl : .queues ∈ l) : Only l s (orderUnset f s) := only_dp _ s hl

/-- Packets that the timetable unit purges are counted, and their records and captures go. -/
theorem only_scPurge {w : ScPkt → Bool} {n : ScPkt → State → State} (hn : ∀ x s, Only l s (n x s)) (s : State)
    (hq : .queues ∈ l) (hc : .captures ∈ l) : Only l s (scPurge w n s) := by
  unfold scPurge scDropWith; dsimp only
  refine (only_dp _ s hq).trans (only_foldl (fun s x => ?_) _ _)
  exact (((hn x s).trans (only_capDrop _ _ _ hc)).trans (only_packetDone _ _ hq hc)).trans (only_orderIdle _ _ hq)

theorem only_freeCredit (p n v : Nat) (k : Packet) (s : State) (hl : .links ∈ l) : Only l s (freeCredit p n v k s) := by
  unfold freeCredit; dsimp only
  exact only_ite (Only.refl s) (only_setLink _ _ s hl)

theorem only_voqTouch (p v : Nat) (s : State) (hq : .queues ∈ l) (hk : .links ∈ l) : Only l s (voqTouch p v s) := by
  unfold voqTouch; dsimp only
  refine Only.trans (Only.trans ?_ (only_dp _ _ hq)) (only_setLink _ _ _ hk)
  exact only_ite (Only.refl s) (only_foldl (fun s _ => only_tally (by decide +kernel) _ _ _ _ s) _ s)

theorem only_portTouch (p : Nat) (s : State) (hq : .queues ∈ l) (hk : .links ∈ l) : Only l s (portTouch p s) :=
  ((only_voqTouch _ _ s hq hk).trans (only_voqTouch _ _ _ hq hk)).trans (only_voqTouch _ _ _ hq hk)

theorem only_openLeave (x : OpenPkt) (s : State) (hq : .queues ∈ l) (hk : .links ∈ l) (hc : .captures ∈ l) :
    Only l s (openLeave x s) := by
  unfold openLeave; dsimp only
  refine Only.trans (Only.trans (only_dp { s.dp with openq := s.dp.openq.filter fun y => y.id != x.id } s hq) ?_)
    (only_voqTouch _ _ _ hq hk)
  exact only_ite ((only_freeCredit _ _ _ _ _ hk).trans (only_packetDone _ _ hq hc)) (Only.refl _)

theorem only_openDrop (c : Nat) (x : OpenPkt) (s : State) (hq : .queues ∈ l) (hk : .links ∈ l) (hc : .captures ∈ l) :
    Only l s (openDrop c x s) := by
  unfold openDrop; dsimp only
  refine Only.trans (Only.trans (only_capDrop (x.parent.getD x.id) c s hc) ?_) (only_openLeave x _ hq hk hc)
  split
  · exact Only.refl _
  · exact only_mcastLoss _ _ _ _ _ hq

theorem only_noCell (p : Nat) (s : State) : Only l s (noCell p s) :=
  (only_count (by decide +kernel) _ s).trans (only_raiseOnce _ _ _ _)

theorem only_openEnqueue (x : OpenPkt) (s : State) (hq : .queues ∈ l) (hk : .links ∈ l) (hc : .captures ∈ l) :
    Only l s (openEnqueue x s) := by
  unfold openEnqueue; dsimp only
  split
  · exact (only_noCell _ s).trans (only_openDrop _ _ _ hq hk hc)
  · refine Only.trans (Only.trans (Only.trans ?_ (only_capDepth _ _ _ _ hc)) (only_dp _ _ hq)) (only_voqTouch _ _ _ hq hk)
    exact only_ite (only_tally (by decide +kernel) _ _ _ _ s) (Only.refl s)

theorem only_originate (p v : Nat) (k : Packet) (s : State) (hq : .queues ∈ l) (hk : .links ∈ l) (hc : .captures ∈ l) :
    Only l s (originate p v k s) := by
  unfold originate; dsimp only
  exact (only_dp _ s hq).trans (only_openEnqueue _ _ hq hk hc)

/-! ### Route look-ups -/

theorem only_eccRead (w : TableWord) (e : EccErr) (s : State) (hl : .tables ∈ l) : Only l s (eccRead w e s) := by
  have h0 := only_tb { s.tb with upset := s.tb.upset.filter fun u => u.1 != w } s hl
  unfold eccRead; dsimp only
  split
  · exact h0
  · exact h0.trans (only_tally (by decide +kernel) _ _ _ _ _)
  · have h1 := fun c k i => (h0.trans (only_tally (e := E.TB_ECC_UNCORRECTED) (by decide +kernel)
      (32 * w.die.val + wordSlice w) 110 1 {} _)).trans (only_raiseOnce c k i _)
    split
    · exact (h1 _ _ _).trans (only_tb _ _ hl)
    · exact (h1 _ _ _).trans (only_tb _ _ hl)

theorem only_readWords (d : Nat) (ws : List (TableKind × WordPlace)) (s : State) (hl : .tables ∈ l) :
    Only l s (readWords d ws s).1 := only_foldl (fun s (u : TableWord × EccErr) => only_eccRead u.1 u.2 s hl) _ s

theorem only_selectPort (h : Hop) (p : Nat) (k : Packet) (s : State) : Only l s (selectPort h p k s).1 := by
  unfold selectPort; dsimp only
  split
  · exact only_tallyPort (by decide +kernel) _ _ _ s
  · split
    · split
      · exact only_tallyPort (by decide +kernel) _ _ _ s
      · exact only_tallyPort (by decide +kernel) _ _ _ s
    · exact Only.refl s

theorem only_countProbes (b n : Nat) (a : OccAttr) (s : State) (hl : .queues ∈ l) : Only l s (countProbes b n a s) :=
  (only_occ _ _ _ _ s).trans (only_dp _ _ hl)

theorem only_routeLookup (p : Nat) (k : Packet) (v : Nat) (r : RouteSet) (s : State) (hq : .queues ∈ l) (ht : .tables ∈ l) :
    Only l s (routeLookup p k v r s).1 := by
  have rd : ∀ {d ws} {u w : State} {b : Bool}, readWords d ws u = (w, b) → Only l u w := fun {d ws u w b} e => by
    have := only_readWords d ws u ht
    rwa [e] at this
  unfold routeLookup; dsimp only
  generalize hu : (if p < 512 then _ else s) = u
  have h0 : Only l s u := hu ▸ only_ite ((only_occ _ _ _ _ s).trans (only_countProbes _ _ _ _ hq)) (Only.refl s)
  split
  · next e => exact (h0.trans (rd e)).trans (only_tallyPort (by decide +kernel) _ _ _ _)
  · next e =>
    split
    · exact ((h0.trans (rd e)).trans (only_tallyPort (by decide +kernel) _ _ _ _)).trans (only_raiseOnce _ _ _ _)
    · split
      · next e2 => exact ((h0.trans (rd e)).trans (rd e2)).trans (only_tallyPort (by decide +kernel) _ _ _ _)
      · next e2 =>
        split
        · exact ((h0.trans (rd e)).trans (rd e2)).trans (only_tallyPort (by decide +kernel) _ _ _ _)
        · exact ((h0.trans (rd e)).trans (rd e2)).trans (only_selectPort _ _ _ _)

theorem only_originateRouted (k : Packet) (s : State) (hq : .queues ∈ l) (hk : .links ∈ l) (hc : .captures ∈ l) (ht : .tables ∈ l) :
    Only l s (originateRouted k s) := by
  have h := only_routeLookup 512 k (pkVc k) s.tb.active s hq ht
  unfold originateRouted; dsimp only
  split
  · exact h
  · exact (h.trans (only_dp _ _ hq)).trans (only_openEnqueue _ _ hq hk hc)

end
end Sys2Proof.Machine
end
section
/-! What the operations of fabric time and of the timetable leave as they are. -/
namespace Sys2Proof.Machine
open Sys2Proof

section
variable {l : List Part}

/-! ### Servos, the generator and the table of actions -/

theorem only_setServo (d : Nat) (f : Servo → Servo) (s : State) (ht : .time ∈ l) : Only l s (setServo d f s) := by
  unfold setServo
  exact only_ite (only_ft _ s ht) (only_ft _ s ht)

theorem only_setPdelay (p : Nat) (f : Pdelay → Pdelay) (s : State) (ht : .time ∈ l) : Only l s (setPdelay p f s) := only_ft _ s ht

theorem only_genJudge (s : State) (ht : .time ∈ l) : Only l s (genJudge s) := by
  unfold genJudge setGen; dsimp only
  exact only_ite ((only_ft _ s ht).trans (only_raise _ _ _)) (only_ite ((only_ft _ s ht).trans (only_raise _ _ _)) (Only.refl s))

theorem only_servoGo (d : Nat) (n : ServoSt) (s : State) (ht : .time ∈ l) : Only l s (servoGo d n s) := by
  unfold servoGo; dsimp only
  exact only_ite (Only.refl s) (((only_setServo d _ s ht).trans (only_raise _ _ _)).trans (only_genJudge _ ht))

theorem only_setAct (n : Nat) (a : ActEntry) (s : State) (ht : .time ∈ l) : Only l s (setAct n a s) := only_ft _ s ht

theorem only_actEndWith (m : List Item) (n : Nat) (a : ActEntry) (st : ActSt) (s : State) (ht : .time ∈ l) :
    Only l s (actEndWith m n a st s) := (only_setAct n _ s ht).trans (only_raise _ _ _)

theorem only_actEnd (n : Nat) (a : ActEntry) (st : ActSt) (s : State) (ht : .time ∈ l) : Only l s (actEnd n a st s) :=
  only_actEndWith [] n a st s ht

/-- An action that fires changes what its code changes, and its entry. -/
theorem only_actFire (n c : Nat) {f : ActEntry → State → State} (hf : ∀ a s, Only l s (f a s)) (s : State) (ht : .time ∈ l) :
    Only l s (actFire n c f s) := by
  unfold actFire
  split
  · exact Only.refl s
  · exact (only_actEnd n _ _ s ht).trans (hf _ _)

theorem only_switchDecide (d : Nat) (s : State) (ht : .time ∈ l) : Only l s (switchDecide d s) := only_ft _ s ht

theorem only_fromInbox (p : Nat) (k : Packet) (s : State) (hi : .inbox ∈ l) : Only l s (fromInbox p k s) := only_inbox _ s hi

theorem only_ptpTake (p : Nat) (k : Packet) (s : State) (ht : .time ∈ l) (hi : .inbox ∈ l) : Only l s (ptpTake p k s) :=
  (only_fromInbox p k s hi).trans (only_ft _ _ ht)

/-! ### Packets of the part -/

theorem only_ptpLeaves (p : Nat) (k : Packet) (s : State) (ht : .time ∈ l) : Only l s (ptpLeaves p k s).2 := by
  unfold ptpLeaves; dsimp only
  split
  · exact Only.refl s
  · split
    · dsimp only; exact only_setServo _ _ s ht
    · dsimp only; exact only_setPdelay _ _ s ht
    · exact Only.refl s
    · exact Only.refl s

theorem only_mcSend (p : Nat) (k : Packet) (s : State) (ht : .time ∈ l) (hq : .queues ∈ l) (hk : .links ∈ l) (hc : .captures ∈ l) :
    Only l s (mcSend p k s) := by
  unfold mcSend; dsimp only
  split
  · split
    · exact Only.refl s
    · exact (only_ptpLeaves p _ s ht).trans (only_emit _ _)
  · exact only_originate _ _ _ s hq hk hc

theorem only_answerBy (p : Option Nat) (k : Packet) (s : State) (ht : .time ∈ l) (hq : .queues ∈ l) (hk : .links ∈ l)
    (hc : .captures ∈ l) (hb : .tables ∈ l) : Only l s (answerBy p k s) := by
  unfold answerBy
  split
  · exact only_originateRouted k s hq hk hc hb
  · split
    · exact only_mcSend _ k s ht hq hk hc
    · exact Only.refl s

/-! ### Launches (R94 to R97) -/

theorem only_launchApply (b : Bool) (n fa : Nat) (ms : List (Nat × ActEntry)) (s : State) (ht : .time ∈ l) :
    Only l s (launchApply b n fa ms s) := by
  unfold launchApply
  refine only_foldl (fun s m => ?_) ms s
  exact only_ite (only_ite (only_setAct _ _ s ht) (Only.refl s)) (only_ite (only_actEnd _ _ _ s ht) (Only.refl s))

theorem only_launchJudge (b : Bool) (n i fa : Nat) (ms : List (Nat × ActEntry)) (s : State) (ht : .time ∈ l) :
    Only l s (launchJudge b n i fa ms s).1 := by
  have h := only_ite (c := launchStatus b s.clk.tick n ms = 0) (only_launchApply b i fa ms s ht) (Only.refl s)
  unfold launchJudge; dsimp only
  exact only_ite (h.trans (only_raise _ _ _)) h

theorem only_launchMessage (b : Bool) (p : Nat) (k : Packet) (s : State) (ht : .time ∈ l) (hq : .queues ∈ l) (hk : .links ∈ l)
    (hc : .captures ∈ l) (hb : .tables ∈ l) : Only l s (launchMessage b p k s) := by
  unfold launchMessage; dsimp only
  refine only_ite (Only.refl s) (only_ite (only_count (by decide +kernel) 1 s) ?_)
  exact (only_launchJudge _ _ _ _ _ s ht).trans (only_answerBy _ _ _ ht hq hk hc hb)

/-! ### Jobs (R43) -/

theorem only_onRec (r : Recipe) (f : RecState → RecState) (s : State) (hr : .crusher ∈ l) : Only l s (onRec r f s) := only_cr _ s hr

theorem only_crOpenJob (j : Nat) (s : State) (hr : .crusher ∈ l) : Only l s (crOpenJob j s) := by
  unfold crOpenJob
  split
  · exact Only.refl s
  · exact only_foldl (fun s x => only_onRec _ _ s hr) _ s

theorem only_crLog (b : Bytes) (s : State) (hr : .crusher ∈ l) : Only l s (crLog b s) := by
  unfold crLog; dsimp only
  exact (only_ite (only_count (by decide +kernel) 1 s) (Only.refl s)).trans (only_cr _ _ hr)

theorem only_crAbandon (n : Nat) (r : Recipe) (k : Chunk) (c : Nat) (s : State) (hr : .crusher ∈ l) (hh : .health ∈ l) :
    Only l s (crAbandon n r k c s) := by
  unfold crAbandon; dsimp only
  refine Only.trans ?_ (only_crLog _ _ hr)
  refine Only.trans ?_ (only_ite (Only.refl _) (only_onRec r _ _ hr))
  refine Only.trans ?_ (only_accum _ _ _ _ _ _)
  refine Only.trans ?_ (only_tally (by decide +kernel) _ _ _ _ _)
  refine Only.trans ?_ (only_cr _ _ hr)
  exact (only_foldl (fun s p => only_hl _ s hh) _ s).trans (only_onRec r _ _ hr)

theorem only_crCloseJob (j : Nat) (s : State) (hr : .crusher ∈ l) (hh : .health ∈ l) : Only l s (crCloseJob j s) := by
  unfold crCloseJob
  split
  · exact Only.refl s
  · refine only_foldl (fun s x => ?_) _ s
    dsimp only
    refine Only.trans ?_ (only_onRec _ _ _ hr)
    refine Only.trans ?_ (only_count (by decide +kernel) _ _)
    exact (only_foldl (fun s k => only_crAbandon _ _ _ _ s hr hh) _ s).trans (only_cr _ _ hr)

theorem only_crRotate (b : Nat) (s : State) (hr : .crusher ∈ l) (hh : .health ∈ l) : Only l s (crRotate b s) := by
  unfold crRotate
  split
  · exact Only.refl s
  · exact only_foldl (fun s x => only_foldl (fun s k => only_crAbandon _ _ _ _ s hr hh) _ s) _ s

/-! ### The dump of a latch (R517) -/

theorem only_latch (c : Nat) (s : State) (hc : .captures ∈ l) : Only l s (latch c s) := by
  unfold latch; dsimp only
  refine only_ite (only_tm _ s hc) (only_ite (only_ite (Only.refl s) ?_) ?_)
  · exact (only_count (by decide +kernel) 1 s).trans (only_raiseOnce _ _ _ _)
  · exact (only_tm _ s hc).trans (only_count (by decide +kernel) 1 _)

/-! ### The next image (R51, R52, R60) -/

theorem only_nextGone (st : NextState) (s : State) (ht : .time ∈ l) (hn : .timetable ∈ l) : Only l s (nextGone st s) :=
  (only_tt (nextGone st s).tt s hn).trans (only_ft (nextGone st s).ft _ ht)

theorem only_ttRefuse (f : List CheckFail) (s : State) (ht : .time ∈ l) (hn : .timetable ∈ l) : Only l s (ttRefuse f s) := by
  have h := ((only_tt { s.tt with log := f.take 16 } s hn).trans (only_nextGone .refused _ ht hn)).trans
    (only_raise Ev.TT_REFUSED [.u16 ((f.head?.map (·.code)).getD 0)] _)
  unfold ttRefuse; dsimp only
  split
  · exact h
  · exact h.trans (only_raise _ _ _)

theorem only_actLoad (r : ActionRec) (c n : Bool) (e : Nat) (s : State) (ht : .time ∈ l) : Only l s (actLoad r c n e s) := by
  unfold actLoad
  split
  · exact Only.refl s
  · exact only_setAct _ _ s ht

theorem only_setSync (n : SyncSt) (r : Nat) (s : State) (hp : .repair ∈ l) : Only l s (setSync n r s) := by
  unfold setSync
  exact only_ite (Only.refl s) ((only_rp _ s hp).trans (only_raise _ _ _))

/-- The next image READY, before its actions are loaded. -/
def readied (i : Image) (s : State) : State := { s with tt := { s.tt with next := .ready, nextImage := some i, log := [] } }

theorem only_readied (i : Image) (s : State) (ht : .time ∈ l) (hp : .repair ∈ l) : Only l (readied i s) (ttReady i s) := by
  have h := (only_foldl (fun s a => only_actLoad a false true i.epoch s ht) i.actions (readied i s)).trans (only_raise Ev.TT_READY [] _)
  unfold ttReady; dsimp only
  exact only_ite ((h.trans (only_rp _ _ hp)).trans (only_setSync _ _ _ hp)) h

theorem only_ttReady (i : Image) (s : State) (ht : .time ∈ l) (hn : .timetable ∈ l) (hp : .repair ∈ l) : Only l s (ttReady i s) :=
  (only_tt _ s hn).trans (only_readied i s ht hp)

theorem only_reselect (s : State) (hn : .timetable ∈ l) : Only l s (reselect s) := only_tt _ s hn

theorem only_selectionsDone (n : Nat) (s : State) (hn : .timetable ∈ l) (hw : .waiting ∈ l) : Only l s (selectionsDone n s) :=
  ((only_waiting _ s hw).trans (only_count (by decide +kernel) _ _)).trans (only_reselect _ hn)

/-! ### Leases and rotations (R46 to R48, R463 to R466) -/

theorem only_setPhys (x : Nat) (v : PhysSlot) (s : State) (hp : .repair ∈ l) : Only l s (setPhys x v s) := only_rp _ s hp
theorem only_setLease (n st : Nat) (s : State) (hn : .timetable ∈ l) : Only l s (setLease n st s) := only_tt _ s hn
theorem only_leaseEvent (x : LeaseRec) (st : Nat) (s : State) : Only l s (leaseEvent x st s) := only_raise _ _ s
theorem only_setLane (p d n : Nat) (v : LaneSt) (s : State) (ho : .optics ∈ l) : Only l s (setLane p d n v s) := only_op _ s ho
theorem only_setReserve (p d : Nat) (v : Reserve) (s : State) (ho : .optics ∈ l) : Only l s (setReserve p d v s) := only_op _ s ho

/-- A bench that comes back to service takes its ports with it. -/
theorem only_portsUp (b : Nat) (s : State) (hq : .queues ∈ l) (hk : .links ∈ l) :
    Only l s ((List.range 4).foldl (fun s q =>
      let p := 4 * b + q
      if portState s p = .down || portState s p = .held then
        raise Ev.DP_PORT_UP [.u16 p] (portTouch p (setPort p { portOf s p with state := .inService, holdEnd := 0 } s))
      else s) s) := by
  refine only_foldl (fun s q => ?_) _ s
  exact only_ite (((only_setPort _ _ s hq).trans (only_portTouch _ _ hq hk)).trans (only_raise _ _ _)) (Only.refl s)

/-- A spare in the place of the bench that served, which goes to test or stays retired. -/
def rotated (b x ends : Nat) (s : State) : State :=
  let left := { state := if (physSlot s (physBench s b)).state = .retired then .retired else .testing, result := 0,
                frame := frameOf s, leaseEnd := ends }
  let t := setPhys x { state := .serving, result := (physSlot s x).result, frame := frameOf s, leaseEnd := 0 } (setPhys (physBench s b) left s)
  { t with rp := { t.rp with benchMap := SMap.set t.rp.benchMap b x } }

/-- What follows a rotation leaves the repair state. -/
theorem only_rotated {b x : Nat} (e : Nat) {s : State} (h : (physSlot s x).state = .spare) (hr : .crusher ∈ l) (hh : .health ∈ l)
    (hq : .queues ∈ l) (hk : .links ∈ l) : Only l (rotated b x e s) (rotate b x e s) := by
  have hc := ((only_count (e := E.RP_ROTATIONS) (by decide +kernel) 1 (rotated b x e s)).trans (only_crRotate b _ hr hh)).trans
    (only_raise Ev.RP_ROTATION [.u16 b, .u16 x, .u8 (Config.openFn 22 [0] % 256)] _)
  have hs : ¬ ((physSlot s x).state != .spare) = true := by simp [h]
  unfold rotate rotationEvent; dsimp only
  rw [if_neg hs]
  exact only_ite (hc.trans (only_portsUp b _ hq hk)) hc

theorem only_rotate (b x e : Nat) (s : State) (hp : .repair ∈ l) (hr : .crusher ∈ l) (hh : .health ∈ l) (hq : .queues ∈ l)
    (hk : .links ∈ l) : Only l s (rotate b x e s) := by
  by_cases h : (physSlot s x).state = .spare
  · exact (only_rp (rotated b x e s).rp s hp).trans (only_rotated e h hr hh hq hk)
  · unfold rotate rotationEvent
    rw [if_pos (by simp [h])]
    exact (only_count (by decide +kernel) 1 s).trans (only_raise _ _ _)

theorem only_laneHand (p n : Nat) (st : LaneSt) (s : State) (ho : .optics ∈ l) : Only l s (laneHand p n st s) := by
  unfold laneHand
  refine only_foldl (fun s d => ?_) _ s
  exact (only_setLane _ _ _ _ s ho).trans (only_ite (Only.refl _) (only_setReserve _ _ _ _ ho))

theorem only_leaseLaneStart (k p n : Nat) (s : State) (ho : .optics ∈ l) : Only l s (leaseLaneStart k p n s) := by
  unfold leaseLaneStart; dsimp only
  split
  · refine only_ite ((only_op _ s ho).trans (only_laneHand _ _ _ _ ho)) ?_
    exact (only_count (by decide +kernel) 1 s).trans (only_raiseOnce _ _ _ _)
  · have h := fun st => only_laneHand p n st s ho
    exact only_ite ((h _).trans (only_foldl (fun s d => only_op _ s ho) _ _)) (h _)

theorem only_benchRetire (x n : Nat) (s : State) (hp : .repair ∈ l) : Only l s (benchRetire x n s) :=
  ((only_setPhys x _ s hp).trans (only_count (by decide +kernel) 1 _)).trans (only_raise _ _ _)

theorem only_leaseLaneEnd (p n : Nat) (s : State) (ho : .optics ∈ l) : Only l s (leaseLaneEnd p n s) := by
  unfold leaseLaneEnd; dsimp only
  split
  · refine Only.trans ?_ (only_op _ _ ho)
    exact (only_op _ s ho).trans (only_foldl (fun s d => (only_setLane _ _ _ _ s ho).trans (only_op _ _ ho)) _ _)
  · refine only_foldl (fun s d => only_ite ?_ (Only.refl s)) _ s
    have h := fun v => only_setLane p d n v s ho
    exact only_ite ((h _).trans (only_setReserve _ _ _ _ ho)) (h _)

theorem only_leasesEnd (ls : List LeaseRec) (s : State) (ho : .optics ∈ l) (hp : .repair ∈ l) : Only l s (leasesEnd ls s) := by
  unfold leasesEnd leaseFinish
  refine only_foldl (fun s x => (only_leaseEvent x 2 s).trans (only_ite ?_ (only_leaseLaneEnd _ _ _ ho))) ls s
  exact only_foldl (fun s y => only_benchRetire y 4 s hp) _ _

end
end Sys2Proof.Machine
end
section
/-! What the rows of time and of the timetable leave as it is: one theorem per row, and the statement from them. -/
namespace Sys2Proof.Machine
open Sys2Proof

/-! ### Servos, pulses and domains (R81, R84, R86, R87) -/

theorem servoSyncTimeout_frame (d : Domain) : Changes (.servoSyncTimeout d) [.time] :=
  changes_due (fun _ => rfl) fun s => only_servoGo d .holdover s (by decide)

theorem ppsPulse_frame (d : Domain) (a : At) (n : Nat) : Changes (.ppsPulse d a n) [.time] := by
  refine changes_runAt (fun s => Eq.refl (execPpsPulse d a n s)) fun s => ?_
  split
  · exact Only.refl s
  · split
    · exact Only.refl s
    · exact only_ite (only_count (by decide +kernel) 1 s) (only_setServo _ _ s (by decide))

theorem ppsMissing_frame (d : Domain) : Changes (.ppsMissing d) [.time] :=
  changes_due (fun _ => rfl) fun s => (only_setServo d _ s (by decide)).trans (only_raise _ _ _)

theorem ppsOutPulse_frame : Changes .ppsOutPulse [.health] := by
  refine changes_due (fun _ => rfl) fun s => ?_
  split
  · exact Only.refl s
  · exact (only_hl _ s (by decide)).trans (only_emit _ _)

theorem domainLossHold_frame (d : Domain) : Changes (.domainLossHold d) [.time] :=
  changes_due (fun _ => rfl) fun s => only_switchDecide _ s (by decide)

theorem domainReturnHold_frame (d : Domain) : Changes (.domainReturnHold d) [.time] :=
  changes_due (fun _ => rfl) fun s => only_switchDecide _ s (by decide)

theorem slewDone_frame : Changes .slewDone [.time] := by
  refine changes_run (fun s => Eq.refl (execSlewDone s)) fun s => only_ite ?_ (Only.refl s)
  exact ((only_ft _ s (by decide)).trans (only_raise _ _ _)).trans (only_genJudge _ (by decide))

/-! ### Time messages (R78, R80, R81) -/

theorem ptpDelayResp_frame (p : Port) (k : Packet) (a : At) : Changes (.ptpDelayResp p k a) [.time, .inbox] := by
  refine changes_runAt (fun s => Eq.refl (execPtpDelayResp p k a s)) fun s => (only_fromInbox p k s (by decide)).trans ?_
  dsimp only
  split
  · exact Only.refl _
  · split
    · exact only_ite (Only.refl _) (only_setServo _ _ _ (by decide))
    · exact Only.refl _

theorem ptpAnnounce_frame (p : Port) (k : Packet) (a : At) : Changes (.ptpAnnounce p k a) [.time, .inbox] := by
  refine changes_runAt (fun s => Eq.refl (execPtpAnnounce p k a s)) fun s => (only_fromInbox p k s (by decide)).trans ?_
  dsimp only
  split
  · exact Only.refl _
  · exact only_ite (Only.refl _) (only_servoGo _ _ _ (by decide))

theorem ptpPdelayResp_frame (p : Port) (k : Packet) (a : At) : Changes (.ptpPdelayResp p k a) [.time, .inbox] := by
  refine changes_runAt (fun s => Eq.refl (execPtpPdelayResp p k a s)) fun s => (only_ptpTake p k s (by decide) (by decide)).trans ?_
  dsimp only
  split
  · refine only_ite (Only.refl _) ?_
    exact only_ite (only_setPdelay _ _ _ (by decide)) (only_setPdelay _ _ _ (by decide))
  · exact Only.refl _

theorem ptpPdelayReq_frame (p : Port) (k : Packet) (a : At) :
    Changes (.ptpPdelayReq p k a) [.time, .inbox, .links, .queues, .captures] := by
  refine changes_runAt (fun s => Eq.refl (execPtpPdelayReq p k a s)) fun s => (only_ptpTake p k s (by decide) (by decide)).trans ?_
  dsimp only
  split
  · exact Only.refl _
  · exact only_ite (Only.refl _) (only_mcSend _ _ _ (by decide) (by decide) (by decide) (by decide))

theorem pdelayMeasure_frame (p : Port) : Changes (.pdelayMeasure p) [.time, .links, .queues, .captures] := by
  refine changes_due (fun _ => rfl) fun s => ?_
  split
  · exact Only.refl s
  · exact (only_setPdelay _ _ s (by decide)).trans (only_mcSend _ _ _ (by decide) (by decide) (by decide) (by decide))

theorem launchArm_frame (p : Port) (k : Packet) :
    Changes (.launchArm p k) [.time, .inbox, .links, .queues, .captures, .tables] :=
  changes_run (fun _ => rfl) fun s => (only_fromInbox p k s (by decide)).trans
    (only_launchMessage true p k _ (by decide) (by decide) (by decide) (by decide) (by decide))

theorem launchCancel_frame (p : Port) (k : Packet) :
    Changes (.launchCancel p k) [.time, .inbox, .links, .queues, .captures, .tables] :=
  changes_run (fun _ => rfl) fun s => (only_fromInbox p k s (by decide)).trans
    (only_launchMessage false p k _ (by decide) (by decide) (by decide) (by decide) (by decide))

/-! ### Timed actions (R43, R90, R93, R517) -/

theorem userEvent_frame (n : Nat) : Changes (.userEvent n) [.time] :=
  changes_run (fun _ => rfl) fun s => only_actFire n 4 (fun _ s => only_raise _ _ s) s (by decide)

theorem actionExpire_frame (n : Nat) : Changes (.actionExpire n) [.time] := by
  refine changes_run (fun s => Eq.refl (execActionExpire n s)) fun s => ?_
  split
  · exact Only.refl s
  · exact only_ite (only_actEnd _ _ _ s (by decide)) (Only.refl s)

theorem counterLatch_frame (n : Nat) : Changes (.counterLatch n) [.time, .captures] :=
  changes_run (fun _ => rfl) fun s => only_actFire n 3 (fun _ s => only_latch 2 s (by decide)) s (by decide)

theorem jobOpen_frame (n : Nat) : Changes (.jobOpen n) [.time, .crusher, .timetable] :=
  changes_run (fun _ => rfl) fun s => only_actFire n 1
    (fun _ s => (only_tt _ s (by decide)).trans (only_crOpenJob _ _ (by decide))) s (by decide)

theorem jobClose_frame (n : Nat) : Changes (.jobClose n) [.time, .crusher, .timetable, .queues, .health, .captures] := by
  refine changes_run (fun _ => rfl) fun s => only_actFire n 2 (fun a s => ?_) s (by decide)
  refine Only.trans ?_ (only_crCloseJob _ _ (by decide) (by decide))
  refine Only.trans ?_ (only_foldl (fun s b => only_orderUnset _ s (by decide)) _ _)
  exact (only_tt _ s (by decide)).trans
    (only_scPurge (fun _ s => only_count (by decide +kernel) 1 s) _ (by decide) (by decide))

/-! ### The timetable's sequencers (R47, R50, R52, R54, R60, R467) -/

theorem ttChecksDone_frame : Changes .ttChecksDone [.time, .timetable, .repair] := by
  refine changes_run (fun s => Eq.refl (execTtChecksDone s)) fun s => only_ite (Only.refl s) ?_
  split
  · exact only_ttReady _ s (by decide) (by decide) (by decide)
  · exact only_ttRefuse _ s (by decide) (by decide)

theorem ttCrossRecheck_frame : Changes .ttCrossRecheck [.time, .timetable, .settings] := by
  refine changes_run (fun s => Eq.refl (execTtCrossRecheck s)) fun s => ?_
  split
  · split
    · exact Only.refl s
    · exact only_ttRefuse _ s (by decide) (by decide)
  · exact Only.refl s

theorem variantTakesEffect_frame : Changes .variantTakesEffect [.timetable, .waiting, .settings] := by
  refine changes_run (fun s => Eq.refl (execVariantTakesEffect s)) fun s => ?_
  split
  · exact Only.refl s
  · refine only_ite (Only.refl s) ?_
    exact (((only_tt _ s (by decide)).trans (only_selectionsDone 1 _ (by decide) (by decide))).trans
      (only_setting _ _ _ (by decide))).trans (only_raise _ _ _)

theorem leaseStart_frame (n : Nat) :
    Changes (.leaseStart n) [.crusher, .health, .links, .optics, .queues, .repair, .timetable] := by
  refine changes_run (fun s => Eq.refl (execLeaseStart n s)) fun s => ?_
  split
  · exact Only.refl s
  · next x _ =>
    refine only_ite (Only.refl s) (only_ite (only_setLease _ _ s (by decide)) ?_)
    refine ((only_setLease n 1 s (by decide)).trans (only_leaseEvent x.record 1 _)).trans (only_ite ?_ ?_)
    · exact only_rotate _ _ _ _ (by decide) (by decide) (by decide) (by decide) (by decide)
    · exact only_leaseLaneStart _ _ _ _ (by decide)

theorem leaseEnd_frame (n : Nat) : Changes (.leaseEnd n) [.optics, .repair, .timetable] := by
  refine changes_run (fun s => Eq.refl (execLeaseEnd n s)) fun s => ?_
  split
  · exact Only.refl s
  · exact only_ite (Only.refl s) ((only_setLease n 2 s (by decide)).trans (only_leasesEnd _ _ (by decide) (by decide)))

/-- Settles O36: one theorem per row. -/
theorem timeFrames : Obligations.TimeFrames :=
  ⟨userEvent_frame, actionExpire_frame, servoSyncTimeout_frame, ppsPulse_frame, ppsMissing_frame, domainLossHold_frame,
    domainReturnHold_frame, slewDone_frame, ptpDelayResp_frame, ptpAnnounce_frame, ptpPdelayResp_frame, counterLatch_frame,
    jobOpen_frame, jobClose_frame, pdelayMeasure_frame, launchArm_frame, launchCancel_frame, ptpPdelayReq_frame, ppsOutPulse_frame,
    ttChecksDone_frame, ttCrossRecheck_frame, variantTakesEffect_frame, leaseStart_frame, leaseEnd_frame⟩

end Sys2Proof.Machine
end
section
/-! Timed actions in their turn (R90, R91, R93): what each code does when its entry fires. -/
namespace Sys2Proof.Machine
open Sys2Proof

/-! ### The turn of an entry -/

theorem actTurn_some {n c : Nat} {a : ActEntry} {s : State} (h : actTurn n c s = some a) :
    SMap.get? s.ft.acts n = some a ∧ actLive s = true := by
  obtain ⟨hg, hp⟩ := Option.filter_eq_some_iff.1 h
  simp only [Bool.and_eq_true] at hp
  obtain ⟨⟨⟨hl, -⟩, -⟩, -⟩ := hp
  exact ⟨hg, hl⟩

/-- The table does not fire in Rest. -/
theorem not_rest_of_actLive {s : State} (h : actLive s = true) : s.hl.power ≠ .rest := by
  intro e
  simp [actLive, e] at h

theorem actEnd_only (n : Nat) (a : ActEntry) (st : ActSt) (s : State) : Only [.time] s (actEnd n a st s) :=
  only_actEnd n a st s (by decide)
theorem actEnd_pending (n : Nat) (a : ActEntry) (st : ActSt) (s : State) : (actEnd n a st s).dx.pending = s.dx.pending :=
  actEnd_only n a st s .waiting (by decide)

theorem actStateOf_settle (n : Nat) (s t : State) : actStateOf (settle s t) n = actStateOf t n := rfl

/-- A state in which entry `n` of the table of `s` has fired and nothing else has come about, reports apart. -/
structure Fired (n : Nat) (s u : State) : Prop where
  ended : actStateOf u n = some .fired
  only : Only [.time] (start s) u

theorem fired_actEnd (n : Nat) (a : ActEntry) (s : State) : Fired n s (actEnd n a .fired (start s)) :=
  ⟨actState_actEnd n a .fired (start s), actEnd_only n a .fired (start s)⟩

theorem Fired.tt {n : Nat} {s u : State} (h : Fired n s u) : u.tt = s.tt := h.only .timetable (by decide)

/-- An effect that leaves fabric time as it is leaves the entry in its final state. -/
theorem Fired.of_time {n : Nat} {s u t : State} (h : Fired n s u) (ht : t.ft = u.ft) : actStateOf (settle s t) n = some .fired := by
  rw [actStateOf_settle, actStateOf, ht]
  exact h.ended

/-- An action whose turn has come fires, and has the effect of its code. -/
theorem answers_action {i : Instr} {n c : Nat} {f : ActEntry → State → State} {a : ActEntry} {s : State} {P : State → Prop}
    (he : exec i s = run (actFire n c f) s) (h : actTurn n c s = some a) (hp : ∀ u, Fired n s u → P (settle s (f a u))) :
    Answers i s P := by
  refine answers_run he ?_
  rw [actFire_of_turn (s := start s) h]
  exact hp _ (fired_actEnd n a s)

/-! ### Jobs (R43, R169) -/

/-- What a look-up finds after a value has been set at several keys. -/
theorem getD_foldl_set {α β : Type} (k : β → Nat) (v d : α) (bs : List β) (m : SMap α) (j : Nat) :
    SMap.getD (bs.foldl (fun m b => SMap.set m (k b) v) m) j d = if j ∈ bs.map k then v else SMap.getD m j d := by
  induction bs generalizing m with
  | nil => simp
  | cons b bs ih =>
    rw [List.foldl_cons, ih, List.map_cons]
    by_cases h : j = k b
    · subst h; simp
    · simp [h, getD_set_ne _ _ _ h]

/-- The bindings of a job in the active image. -/
def jobBinds (j : Nat) (s : State) : List Binding := ((s.tt.active.map (·.binds)).getD []).filter fun b => b.job == j

theorem mem_jobBinds {j : Nat} {s : State} {i : Image} {b : Binding} (hi : s.tt.active = some i) (hb : b ∈ i.binds) (hj : b.job = j) :
    b ∈ jobBinds j s := by simp [jobBinds, hi, hb, hj]

/-- All gates of a job in one state. -/
def jobGates (v : Gate) (j : Nat) (s : State) : State :=
  { s with tt := { s.tt with gates := (jobBinds j s).foldl (fun m b => SMap.set m b.flow v) s.tt.gates } }

/-- A gate of the job stands as it was set in every state with these gates. -/
theorem gateOf_jobGates {v : Gate} {j : Nat} {s t : State} {b : Binding} (hb : b ∈ jobBinds j s) (ht : t.tt = (jobGates v j s).tt) :
    gateOf t b = v := by
  rw [gateOf, ht]
  exact (getD_foldl_set (·.flow) v _ (jobBinds j s) s.tt.gates b.flow).trans (if_pos (List.mem_map_of_mem hb))

/-- What JOB_OPEN does. -/
def jobOpens (a : ActEntry) (s : State) : State := crOpenJob a.record.job (jobGates .openn a.record.job s)

theorem crOpenJob_only (j : Nat) (s : State) : Only [.crusher] s (crOpenJob j s) := only_crOpenJob j s (by decide)

theorem jobOpens_binding {a : ActEntry} {i : Image} {b : Binding} {s : State} (hi : s.tt.active = some i) (hb : b ∈ i.binds)
    (hj : b.job = a.record.job) : gateOf (jobOpens a s) b = .openn :=
  gateOf_jobGates (mem_jobBinds hi hb hj) (crOpenJob_only _ _ .timetable (by decide))

theorem jobOpens_time (a : ActEntry) (s : State) : (jobOpens a s).ft = s.ft := crOpenJob_only _ _ .time (by decide)

theorem jobOpen_answers (n : Nat) (a : ActEntry) (s : State) (h : actTurn n 1 s = some a) :
    Answers (.jobOpen n) s fun t => actStateOf t n = some .fired
      ∧ ∀ i, s.tt.active = some i → ∀ b ∈ i.binds, b.job = a.record.job → gateOf t b = .openn :=
  answers_action (f := jobOpens) (Eq.refl (execJobOpen n s)) h fun u hu =>
    ⟨hu.of_time (jobOpens_time a u), fun i hi b hb hj => jobOpens_binding (s := u) (by rw [hu.tt]; exact hi) hb hj⟩

theorem packetDone_sc (i : Nat) (s : State) : (packetDone i s).dp.sc = s.dp.sc := by
  have h : (mcastReport i s).dp.sc = s.dp.sc := by
    unfold mcastReport; split
    · rfl
    · rw [raiseOnce_dp]; rfl
  unfold packetDone; dsimp only
  split
  · rfl
  · exact h

theorem capDrop_dp (i c : Nat) (s : State) : (capDrop i c s).dp = s.dp :=
  only_capDrop (l := [.captures]) i c s (by decide) .queues (by decide)

/-- What is purged leaves the scheduled queue. -/
theorem scPurge_sc {w : ScPkt → Bool} {f : ScPkt → State → State} (hf : ∀ x s, (f x s).dp = s.dp) (s : State) :
    (scPurge w f s).dp.sc = s.dp.sc.filter fun x => !w x := by
  unfold scPurge scDropWith; dsimp only
  refine (foldl_keeps (fun s => s.dp.sc) _ (fun s x => ?_) _ _).trans rfl
  exact (packetDone_sc _ _).trans (congrArg DpState.sc ((capDrop_dp _ _ _).trans (hf x s)))

/-- The packets of a job's flows go, and their order states. -/
def jobPurge (j : Nat) (s : State) : State :=
  (jobBinds j s).foldl (fun s b => orderUnset b.flow s)
    (scPurge (fun x => (jobBinds j s).any fun b => b.flow == x.flow) (fun _ s => count E.DP_CLOSE_DROPS 1 s) (jobGates .closed j s))

theorem jobPurge_only (j : Nat) (s : State) : Only [.queues, .captures] (jobGates .closed j s) (jobPurge j s) :=
  (only_scPurge (fun _ s => only_count (by decide +kernel) 1 s) _ (by decide) (by decide)).trans
    (only_foldl (fun s b => only_orderUnset _ s (by decide)) _ _)

theorem jobPurge_sc (j : Nat) (s : State) :
    (jobPurge j s).dp.sc = s.dp.sc.filter fun x => !(jobBinds j s).any fun b => b.flow == x.flow :=
  (foldl_keeps (fun s => s.dp.sc) (fun s (b : Binding) => orderUnset b.flow s) (fun _ _ => rfl) _ _).trans
    (scPurge_sc (f := fun _ s => count E.DP_CLOSE_DROPS 1 s) (fun _ _ => rfl) (jobGates .closed j s))

/-- What JOB_CLOSE does. -/
def jobCloses (a : ActEntry) (s : State) : State := crCloseJob a.record.job (jobPurge a.record.job s)

theorem crCloseJob_only (j : Nat) (s : State) : Only [.crusher, .health] s (crCloseJob j s) :=
  only_crCloseJob j s (by decide) (by decide)

theorem jobCloses_time (a : ActEntry) (s : State) : (jobCloses a s).ft = s.ft :=
  (crCloseJob_only _ _ .time (by decide)).trans (jobPurge_only _ _ .time (by decide))

/-- The gates of the job stand closed, and none of its packets is queued. -/
theorem jobCloses_binding {a : ActEntry} {i : Image} {b : Binding} {s : State} (hi : s.tt.active = some i) (hb : b ∈ i.binds)
    (hj : b.job = a.record.job) : gateOf (jobCloses a s) b = .closed ∧ ∀ x ∈ (jobCloses a s).dp.sc, x.flow ≠ b.flow := by
  have hm := mem_jobBinds hi hb hj
  have hc := crCloseJob_only a.record.job (jobPurge a.record.job s)
  have hd : (jobCloses a s).dp = (jobPurge a.record.job s).dp := hc .queues (by decide)
  refine ⟨gateOf_jobGates hm ((hc .timetable (by decide)).trans (jobPurge_only _ s .timetable (by decide))), fun x hx e => ?_⟩
  rw [hd, jobPurge_sc, List.mem_filter] at hx
  have hn : ∀ y ∈ jobBinds a.record.job s, ¬ y.flow = x.flow := by simpa using hx.2
  exact hn b hm e.symm

theorem jobClose_answers (n : Nat) (a : ActEntry) (s : State) (h : actTurn n 2 s = some a) :
    Answers (.jobClose n) s fun t => actStateOf t n = some .fired
      ∧ ∀ i, s.tt.active = some i → ∀ b ∈ i.binds, b.job = a.record.job → gateOf t b = .closed ∧ ∀ x ∈ t.dp.sc, x.flow ≠ b.flow :=
  answers_action (f := jobCloses) (Eq.refl (execJobClose n s)) h fun u hu =>
    ⟨hu.of_time (jobCloses_time a u), fun i hi b hb hj => jobCloses_binding (s := u) (by rw [hu.tt]; exact hi) hb hj⟩

/-! ### Latches and user events (R43, R517) -/

/-- A latch with a free buffer and none before it at this boundary makes the next dump. -/
theorem latch_next {c : Nat} {s : State} (h : s.tm.latched = []) (hb : s.tm.buffers.length < 2) :
    (latch c s).tm.dumpSeq = s.tm.dumpSeq + 1
      ∧ (latch c s).tm.buffers = s.tm.buffers ++ [{ seq := s.tm.dumpSeq + 1, bytes := dumpBytes s c (s.tm.dumpSeq + 1) }]
      ∧ (latch c s).tm.latched = dumpBytes s c (s.tm.dumpSeq + 1) := by
  have h1 : ¬ ((s.tm.latched != [] && beAt s.tm.latched 16 8 = s.clk.tick && beAt s.tm.latched 8 8 = s.tm.dumpSeq) = true) := by simp [h]
  unfold latch
  rw [if_neg h1, if_neg (Nat.not_le.2 hb)]
  exact ⟨rfl, rfl, rfl⟩

theorem latch_time (c : Nat) (s : State) : (latch c s).ft = s.ft := only_latch (l := [.captures]) c s (by decide) .time (by decide)

theorem counterLatch_answers (n : Nat) (a : ActEntry) (s : State) (h : actTurn n 3 s = some a) (hl : s.tm.latched = [])
    (hb : s.tm.buffers.length < 2) :
    Answers (.counterLatch n) s fun t => actStateOf t n = some .fired ∧ t.tm.dumpSeq = s.tm.dumpSeq + 1
      ∧ ∃ d, t.tm.buffers = s.tm.buffers ++ [{ seq := s.tm.dumpSeq + 1, bytes := d }] ∧ t.tm.latched = d := by
  refine answers_action (f := fun _ => latch 2) (Eq.refl (execCounterLatch n s)) h fun u hu => ?_
  have hc : { u.tm with fixed := [], prog := [], mothRing := [] } = { s.tm with fixed := [], prog := [], mothRing := [] } :=
    hu.only .captures (by decide)
  have e1 : u.tm.latched = s.tm.latched := (congrArg TmState.latched hc :)
  have e2 : u.tm.buffers = s.tm.buffers := (congrArg TmState.buffers hc :)
  have e3 : u.tm.dumpSeq = s.tm.dumpSeq := (congrArg TmState.dumpSeq hc :)
  obtain ⟨h1, h2, h3⟩ := latch_next (c := 2) (e1.trans hl) (e2 ▸ hb)
  rw [e3] at h1 h3
  rw [e2, e3] at h2
  exact ⟨hu.of_time (latch_time 2 u), h1, _, h2, h3⟩

/-- An event raised outside Rest is the newest of the ring. -/
theorem newestEvent_raise {c : Nat} {i : List Item} {s u : State} (hp : u.hl.power ≠ .rest) (hk : u.clk.tick = s.clk.tick) :
    NewestEvent (settle s (raise c i u)) c i := ⟨_, head_raise c i u hp, rfl, hk, rfl⟩

theorem userEvent_answers (n : Nat) (a : ActEntry) (s : State) (h : actTurn n 4 s = some a) :
    Answers (.userEvent n) s fun t => actStateOf t n = some .fired
      ∧ NewestEvent t Ev.TT_USER_ACTION [.u16 (a.record.operand >>> 112)] := by
  refine answers_action (f := fun a s => raise Ev.TT_USER_ACTION [.u16 (a.record.operand >>> 112)] s) (Eq.refl (execUserEvent n s)) h
    fun u hu => ⟨hu.of_time (raise_ft _ _ _), newestEvent_raise ?_ ?_⟩
  · have hp : u.hl.power = s.hl.power := (congrArg HlState.power (hu.only .health (by decide)).1 :)
    rw [hp]
    exact not_rest_of_actLive (actTurn_some h).2
  · exact (hu.only .tick (by decide)).1

/-! ### Expiry (R90, R93) -/

theorem actionExpire_answers (n : Nat) (a : ActEntry) (s : State) (hg : SMap.get? s.ft.acts n = some a) (hf : a.record.fire ≤ s.clk.tick)
    (hp : s.hl.power ≠ .off)
    (hs : a.state = .pending ∧ a.record.arm = true ∨ (a.state = .pending ∨ a.state = .armed) ∧ s.hl.power = .rest) :
    Answers (.actionExpire n) s fun t => actStateOf t n = some .expired := by
  have hc : (decide (a.record.fire ≤ (start s).clk.tick) && (a.state == .pending || a.state == .armed) && (start s).hl.power != .off
      && ((a.state == .pending && a.record.arm) || (start s).hl.power == .rest)) = true := by
    obtain ⟨h1, h2⟩ | ⟨h1 | h1, h2⟩ := hs <;> simp [h1, h2, hf, hp]
  have hg' : SMap.get? (start s).ft.acts n = some a := hg
  refine ⟨_, Eq.refl (execActionExpire n s), ?_⟩
  dsimp only
  rw [hg']
  dsimp only
  rw [if_pos hc, actStateOf_settle, actState_actEnd]

end Sys2Proof.Machine
end
section
/-! DICT_WRITE (R382, R575): the action's value supersedes the writes of its entry that are past, and what they leave of the rule of
the credit limits (R148) is what it was. -/
namespace Sys2Proof.Machine
open Sys2Proof

/-! ### The write in force -/

/-- The later of the write found so far and the next one, the next one where they name one tick. -/
def laterOf (m : Option PendWrite) (w : PendWrite) : Option PendWrite := match m with
  | some x => if x.tick.getD 0 ≤ w.tick.getD 0 then some w else m
  | none => some w

/-- Nothing found so far is after a tick. -/
def NotAfter (n : Nat) (m : Option PendWrite) : Prop := ∀ x, m = some x → x.tick.getD 0 ≤ n

/-- Two searches that agree, but for what is not after a tick. -/
def AgreeAfter (n : Nat) (m k : Option PendWrite) : Prop := m = k ∨ NotAfter n m ∧ NotAfter n k

theorem notAfter_laterOf {n : Nat} {m : Option PendWrite} {w : PendWrite} (h : NotAfter n m) (hw : w.tick.getD 0 ≤ n) :
    NotAfter n (laterOf m w) := by
  intro x hx
  cases m with
  | none => cases hx; exact hw
  | some y =>
    unfold laterOf at hx; dsimp only at hx
    split at hx
    · cases hx; exact hw
    · exact h x hx

theorem laterOf_notAfter {n : Nat} {m : Option PendWrite} {w : PendWrite} (h : NotAfter n m) (hw : n ≤ w.tick.getD 0) :
    laterOf m w = some w := by
  cases m with
  | none => rfl
  | some y => exact if_pos (Nat.le_trans (h y rfl) hw)

theorem agreeAfter_laterOf {n : Nat} {m k : Option PendWrite} (h : AgreeAfter n m k) (w : PendWrite) :
    AgreeAfter n (laterOf m w) (laterOf k w) := by
  obtain rfl | ⟨hm, hk⟩ := h
  · exact .inl rfl
  · obtain hw | hw := Nat.le_total (w.tick.getD 0) n
    · exact .inr ⟨notAfter_laterOf hm hw, notAfter_laterOf hk hw⟩
    · exact .inl ((laterOf_notAfter hm hw).trans (laterOf_notAfter hk hw).symm)

/-- A write that is not after the tick may be left out. -/
theorem agreeAfter_skip {n : Nat} {m k : Option PendWrite} {w : PendWrite} (h : AgreeAfter n m k) (hw : w.tick.getD 0 ≤ n) :
    AgreeAfter n (laterOf m w) k := by
  obtain rfl | ⟨hm, hk⟩ := h
  · cases m with
    | none => exact .inr ⟨notAfter_laterOf (fun _ e => nomatch e) hw, fun _ e => nomatch e⟩
    | some y =>
      by_cases hy : y.tick.getD 0 ≤ w.tick.getD 0
      · have hn : NotAfter n (some y) := fun x e => by cases e; exact Nat.le_trans hy hw
        exact .inr ⟨notAfter_laterOf hn hw, hn⟩
      · exact .inl (if_neg hy)
  · exact .inr ⟨notAfter_laterOf hm hw, hk⟩

theorem agreeAfter_foldl {n : Nat} {p : PendWrite → Bool} (hp : ∀ w, p w = true → w.tick.getD 0 ≤ n) (ws : List PendWrite)
    {m k : Option PendWrite} (h : AgreeAfter n m k) :
    AgreeAfter n (ws.foldl laterOf m) ((ws.filter fun w => !p w).foldl laterOf k) := by
  induction ws generalizing m k with
  | nil => exact h
  | cons w ws ih =>
    by_cases hw : p w = true
    · simpa [hw] using ih (agreeAfter_skip h (hp w hw))
    · simpa [hw] using ih (agreeAfter_laterOf h w)

/-! ### Past writes of an entry -/

/-- A write of an entry whose tick has come by `n`. -/
def pastWrite (id n : Nat) (w : PendWrite) : Bool := w.entry == id && w.tick.any (· ≤ n)

theorem tick_of_pastWrite {id n : Nat} {w : PendWrite} (h : pastWrite id n w = true) : w.entry = id ∧ ∃ t, w.tick = some t ∧ t ≤ n := by
  obtain ⟨he, ht⟩ := Bool.and_eq_true_iff.1 h
  obtain ⟨t, h1, h2⟩ := (Option.any_eq_true _ _).1 ht
  exact ⟨by simpa using he, t, h1, by simpa using h2⟩

/-- The value in force at a tick does not see the past writes of the entry of a write of that tick or before it. -/
theorem pendingBy_past {id c n t : Nat} {x : PendWrite} (ws : List PendWrite) (hx : x.entry = id) (ht : x.tick = some n) (hn : n ≤ t) :
    pendingBy ((ws.filter fun w => !pastWrite id n w) ++ [x]) c t = pendingBy (ws ++ [x]) c t := by
  let q := fun (w : PendWrite) => w.entry == c && w.tick.any (· ≤ t)
  have hf : (ws.filter fun w => !pastWrite id n w).filter q = (ws.filter q).filter fun w => !pastWrite id n w := List.filter_comm ..
  have e : ∀ us : List PendWrite, pendingBy us c t = ((us.filter q).foldl laterOf none).map fun w => beNat w.body := fun _ => rfl
  rw [e, e, List.filter_append, List.filter_append, hf]
  by_cases hc : c = id
  · have hq : q x = true := by simp [q, hx, ht, hc, hn]
    have hg : x.tick.getD 0 = n := by rw [ht]; rfl
    simp only [List.filter_cons, hq, if_true, List.filter_nil, List.foldl_append, List.foldl_cons, List.foldl_nil]
    have ha : AgreeAfter n ((ws.filter q).foldl laterOf none) (((ws.filter q).filter fun w => !pastWrite id n w).foldl laterOf none) :=
      agreeAfter_foldl (fun w hw => by obtain ⟨-, s, hs, hl⟩ := tick_of_pastWrite hw; simpa [hs] using hl) _ (.inl rfl)
    obtain h | ⟨h1, h2⟩ := ha
    · rw [h]
    · rw [laterOf_notAfter h1 hg.ge, laterOf_notAfter h2 hg.ge]
  · have hk : ((ws.filter q).filter fun w => !pastWrite id n w) = ws.filter q := by
      refine List.filter_eq_self.2 fun w hw => ?_
      have hw' : w.entry = c := by simpa using (Bool.and_eq_true_iff.1 (List.mem_filter.1 hw).2).1
      simp [pastWrite, hw', hc]
    rw [hk]

/-! ### The rule of the credit limits -/

/-- The ticks from `n` on at which a write of `ws` moves a credit limit. -/
def creditTicks (n : Nat) (ws : List PendWrite) : List Nat :=
  (ws.filter fun w => creditEntries.any fun c => c.1 == w.entry).filterMap fun w => w.tick.filter (n ≤ ·)

theorem mem_creditTicks {n t : Nat} {ws : List PendWrite} :
    t ∈ creditTicks n ws ↔ n ≤ t ∧ ∃ w ∈ ws, (creditEntries.any fun c => c.1 == w.entry) = true ∧ w.tick = some t := by
  simp only [creditTicks, List.mem_filterMap, List.mem_filter, Option.filter_eq_some_iff, decide_eq_true_eq]
  constructor
  · rintro ⟨w, ⟨hw, hc⟩, ht, hn⟩
    exact ⟨hn, w, hw, hc, ht⟩
  · rintro ⟨hn, w, hw, hc, ht⟩
    exact ⟨w, ⟨hw, hc⟩, ht, hn⟩

/-- Past writes of the entry of a write of tick `n` add no tick to its own. -/
theorem mem_creditTicks_past {id n t : Nat} {x : PendWrite} (ws : List PendWrite) (hx : x.entry = id) (ht : x.tick = some n) :
    t ∈ creditTicks n ((ws.filter fun w => !pastWrite id n w) ++ [x]) ↔ t ∈ creditTicks n (ws ++ [x]) := by
  rw [mem_creditTicks, mem_creditTicks]
  refine and_congr_right fun hn => ⟨?_, ?_⟩
  · rintro ⟨w, hw, h⟩
    refine ⟨w, ?_, h⟩
    rw [List.mem_append, List.mem_filter] at hw
    exact List.mem_append.2 (hw.imp_left And.left)
  · rintro ⟨w, hw, hc, hwt⟩
    obtain hw | hw := List.mem_append.1 hw
    · by_cases hp : pastWrite id n w = true
      · obtain ⟨he, s, hs, hl⟩ := tick_of_pastWrite hp
        have hst : s = t := Option.some.inj (hs.symm.trans hwt)
        have htn : t = n := Nat.le_antisymm (hst ▸ hl) hn
        exact ⟨x, List.mem_append_right _ List.mem_cons_self, by rw [hx, ← he]; exact hc, by rw [ht, htn]⟩
      · exact ⟨w, List.mem_append_left _ (List.mem_filter.2 ⟨hw, by simpa using hp⟩), hc, hwt⟩
    · exact ⟨w, List.mem_append_right _ hw, hc, hwt⟩

/-- A write of an entry that takes effect at tick `n`. -/
def writeAt (id v n : Nat) : PendWrite := { entry := id, session := 0, tick := some n, offset := 0, body := beBytes 4 v }

/-- Past writes of an entry do not count against a write of it that takes effect now. -/
theorem creditSumBad_past {id n v : Nat} {s t : State} (hp : t.dx.pending = s.dx.pending.filter fun w => !pastWrite id n w)
    (hc : ∀ c ∈ creditEntries, getNum t c.1 c.2 = getNum s c.1 c.2) : creditSumBad t id v n = creditSumBad s id v n := by
  have hs : ∀ u, creditSumBad u id v n = (creditTicks n (u.dx.pending ++ [writeAt id v n])).any fun m =>
      sumNat (creditEntries.map fun c => (pendingBy (u.dx.pending ++ [writeAt id v n]) c.1 m).getD (getNum u c.1 c.2)) > 32768 := fun _ => rfl
  rw [Bool.eq_iff_iff, hs, hs, List.any_eq_true, List.any_eq_true, hp]
  refine exists_congr fun m => ?_
  rw [mem_creditTicks_past (id := id) (x := writeAt id v n) _ rfl rfl]
  refine and_congr_right fun hm => ?_
  have hn : n ≤ m := (mem_creditTicks.1 hm).1
  have he : (creditEntries.map fun c =>
      (pendingBy ((s.dx.pending.filter fun w => !pastWrite id n w) ++ [writeAt id v n]) c.1 m).getD (getNum t c.1 c.2))
      = creditEntries.map fun c => (pendingBy (s.dx.pending ++ [writeAt id v n]) c.1 m).getD (getNum s c.1 c.2) :=
    List.map_congr_left fun c h => by rw [pendingBy_past (id := id) (x := writeAt id v n) _ rfl rfl hn, hc c h]
  rw [he]

/-! ### Whether another action stands over the entry -/

/-- The four plain settings are refused for the sum of the credit limits alone. -/
theorem ownerRefuses_plainWrites {id : Nat} (h : id ∈ plainWrites) (s : State) (off tick : Nat) (v : Bytes) :
    ownerRefuses s (entryRow id) off tick v
      = if (creditEntries.any fun c => c.1 == id) && creditSumBad s id (beNat v) tick then some (St.REFUSED, 0) else none := by
  have hc : ∀ i, (entryRow i).id = i → scalarType (entryRow i).ty = true → i ≠ E.BI_STRATA_TEST_NOW →
      scalarRefused s i (beNat v) tick = ((creditEntries.any fun c => c.1 == i) && creditSumBad s i (beNat v) tick) →
      ownerRefuses s (entryRow i) off tick v
        = if (creditEntries.any fun c => c.1 == i) && creditSumBad s i (beNat v) tick then some (St.REFUSED, 0) else none :=
    fun i hi ht hb hr => by rw [ownerRefuses_scalar ht (by rwa [hi]), hi, hr]
  simp only [plainWrites, List.mem_cons, List.not_mem_nil, or_false] at h
  obtain rfl | rfl | rfl | rfl := h
  · exact hc _ rfl rfl (by decide) rfl
  · exact hc _ rfl rfl (by decide) rfl
  · exact hc _ rfl rfl (by decide) rfl
  · exact hc _ rfl rfl (by decide) rfl

theorem actionOver_plainWrites {id : Nat} {s t : State} (h : id ∈ plainWrites) (hl : actLive t = actLive s) (ha : t.ft.acts = s.ft.acts)
    (hk : t.clk.tick = s.clk.tick) (hc : ∀ v, creditSumBad t id v s.clk.tick = creditSumBad s id v s.clk.tick) :
    actionOver t id = actionOver s id := by
  have hr : ∀ a : ActEntry, actReady t a = actReady s a := fun a => by rw [actReady, actReady, hk]
  have hd : ∀ a : ActEntry, (dictEntry a.record == id) = true → dictRefused a t = dictRefused a s := fun a e => by
    unfold dictRefused
    split
    · rfl
    · next x hx =>
      have hid : dictEntry a.record = id := by simpa using e
      rw [← entryRow_of_find hx, hid, ownerRefuses_plainWrites h, ownerRefuses_plainWrites h, hk, hc]
  unfold actionOver
  rw [hl, ha]
  congr 2
  funext x
  rw [hr]
  cases e : dictEntry x.2.record == id with
  | false => simp
  | true => rw [hd x.2 e]

end Sys2Proof.Machine
end
section
/-! DICT_WRITE's completion, and the family of the timed actions. -/
namespace Sys2Proof.Machine
open Sys2Proof

/-! ### Numbers and their bytes -/

theorem beNat_beBytes (n v : Nat) (h : v < 256 ^ n) : beNat (beBytes n v) = v := by
  unfold beNat beBytes
  rw [List.foldl_reverse]
  induction n generalizing v with
  | zero => rw [Nat.pow_zero, Nat.lt_one_iff] at h; exact h.symm
  | succ n ih =>
    have hd : v / 256 < 256 ^ n := Nat.div_lt_of_lt_mul (by rwa [Nat.pow_succ'] at h)
    rw [leBytes, List.foldr_cons, ih _ hd, BitVec.toNat_ofNat]
    omega

/-! ### DICT_WRITE (R382, R575) -/

/-- The state with the past writes of an entry superseded. -/
def supersede (id : Nat) (s : State) : State :=
  count E.DX_SUPERSEDED (s.dx.pending.filter (pastWrite id s.clk.tick)).length
    (withPending (s.dx.pending.filter fun w => !pastWrite id s.clk.tick w) s)

theorem supersede_ft (id : Nat) (s : State) : (supersede id s).ft = s.ft := rfl

theorem dictApply_plainWrites {a : ActEntry} {e : Entry} {s : State} (he : findEntry (dictEntry a.record) = some e) (h : e.id ∈ plainWrites)
    (hv : dictValue a.record < 256 ^ e.size) (ho : actionOver (supersede e.id s) e.id = false) :
    dictApply a s = setNum e.id (dictValue a.record) (supersede e.id s) := by
  have hn := (plainWrites_rows h).2
  have hp : e.id ≠ E.PS_REQUEST := fun e => absurd (e ▸ h) (by decide)
  have ht : e.id ≠ E.TT_VARIANT_SELECT := fun e => absurd (e ▸ h) (by decide)
  have hf : (s.dx.pending.filter fun w => !(s.dx.pending.filter (pastWrite e.id s.clk.tick)).contains w)
      = s.dx.pending.filter fun w => !pastWrite e.id s.clk.tick w :=
    List.filter_congr fun w hw => by simp [List.contains_eq_mem, List.mem_filter, hw]
  have hs : count E.DX_SUPERSEDED (s.dx.pending.filter (pastWrite e.id s.clk.tick)).length
      (withPending (s.dx.pending.filter fun w => !(s.dx.pending.filter (pastWrite e.id s.clk.tick)).contains w) s) = supersede e.id s := by
    rw [hf]; rfl
  have hr : entryRow e.id = e := entryRow_of_find (by rwa [findEntry_id he])
  have hb := valueEffect_plainWrites h 0 (beBytes e.size (dictValue a.record)) (supersede e.id s)
  rw [hr, beNat_beBytes _ _ hv] at hb
  have hd : dictApply a s = if !neverSuperseded e.id && actionOver (supersede e.id s) e.id then count E.DX_SUPERSEDED 1 (supersede e.id s)
      else valueEffect e 0 (beBytes e.size (dictValue a.record)) (supersede e.id s) := by
    rw [← hs]
    unfold dictApply
    simp only [he, hn, hp, ht, decide_false, Bool.false_and, Bool.false_eq_true, if_false]
    rfl
  rw [hd, ho, Bool.and_false, if_neg Bool.false_ne_true, hb]

theorem dictRefused_start (a : ActEntry) (s : State) : dictRefused a (start s) = dictRefused a s := by
  unfold dictRefused
  simp only [ownerRefuses_start]
  rfl

theorem getNum_actEnd {e : Nat} (he : reportCounter e = false) (n : Nat) (a : ActEntry) (st : ActSt) (s : State) (d : Nat) :
    getNum (actEnd n a st s) e d = getNum s e d := getNum_raise he _ _ _ _

theorem actEnd_tick (n : Nat) (a : ActEntry) (st : ActSt) (s : State) : (actEnd n a st s).clk.tick = s.clk.tick :=
  (actEnd_only n a st s .tick (by decide)).1

theorem actEnd_ft (n : Nat) (a : ActEntry) (st : ActSt) (s : State) : (actEnd n a st s).ft = (setAct n { a with state := st } s).ft :=
  raise_ft _ _ _

theorem actLive_actEnd (n : Nat) (a : ActEntry) (st : ActSt) (s : State) : actLive (actEnd n a st s) = actLive s := by
  have h := actEnd_only n a st s
  have hp : (actEnd n a st s).hl.power = s.hl.power := (congrArg HlState.power (h .health (by decide)).1 :)
  have hr : (actEnd n a st s).rp = s.rp := h .repair (by decide)
  obtain ⟨hk, hf⟩ : (actEnd n a st s).clk.tick = s.clk.tick ∧ (actEnd n a st s).frame = s.frame := h .tick (by decide)
  unfold actLive frameOf
  rw [hp, hr, hk, hf]

/-- Superseding the past writes of an entry does not change whether another action stands over it. -/
theorem actionOver_supersede {id : Nat} {s u : State} (h : id ∈ plainWrites) (hl : actLive u = actLive s) (ha : u.ft.acts = s.ft.acts)
    (hk : u.clk.tick = s.clk.tick) (hp : u.dx.pending = s.dx.pending)
    (hc : ∀ c ∈ creditEntries, getNum u c.1 c.2 = getNum s c.1 c.2) : actionOver (supersede id u) id = actionOver s id := by
  have hw : (supersede id u).dx.pending = s.dx.pending.filter fun w => !pastWrite id s.clk.tick w := by rw [← hp, ← hk]; rfl
  have hn : ∀ c ∈ creditEntries, c.1 ≠ E.DX_SUPERSEDED := by decide
  have hg : ∀ c ∈ creditEntries, getNum (supersede id u) c.1 c.2 = getNum s c.1 c.2 := fun c m =>
    (getNum_count_ne _ _ _ (hn c m)).trans (hc c m)
  exact actionOver_plainWrites h hl ha hk fun v => creditSumBad_past hw hg

/-- The end of an action does not change whether another one stands over an entry, from the start of a command on. -/
theorem actionOver_supersede_actEnd (n : Nat) (a : ActEntry) {id : Nat} (s : State) (h : id ∈ plainWrites) :
    actionOver (supersede id (actEnd n a .fired (start s))) id = actionOver (actEnd n a .fired s) id := by
  have hr : ∀ c ∈ creditEntries, reportCounter c.1 = false := by decide
  refine actionOver_supersede h ?_ ?_ ?_ ?_ fun c hc => ?_
  · rw [actLive_actEnd, actLive_actEnd]; rfl
  · rw [actEnd_ft, actEnd_ft]; rfl
  · rw [actEnd_tick, actEnd_tick]; rfl
  · rw [actEnd_pending, actEnd_pending]; rfl
  · rw [getNum_actEnd (hr c hc), getNum_actEnd (hr c hc)]; rfl

theorem dictWrite_answers (n : Nat) (a : ActEntry) (e : Entry) (s : State) (h : actTurn n 5 s = some a)
    (he : findEntry (dictEntry a.record) = some e) (hm : e.id ∈ plainWrites) (hr : dictRefused a s = none)
    (hv : dictValue a.record < 256 ^ e.size) (ho : actionOver (actEnd n a .fired s) e.id = false) :
    Answers (.dictWrite n) s fun t => actStateOf t n = some .fired ∧ getNum t e.id 0 = dictValue a.record := by
  have hd : dictRefused a (start s) = none := (dictRefused_start a s).trans hr
  have ht : actTurn n 5 (start s) = some a := h
  refine ⟨_, Eq.refl (execDictWrite n s), ?_⟩
  dsimp only
  rw [ht]
  dsimp only
  rw [hd]
  dsimp only
  rw [dictApply_plainWrites he hm hv (by rwa [actionOver_supersede_actEnd n a s hm])]
  exact ⟨(fired_actEnd n a s).of_time ((setNum_ft ..).trans (supersede_ft ..)), getNum_setNum_self e.id _ 0 (supersede e.id _)⟩

/-- Settles O12: each row's completion on its own; a write's check of the other actions is not moved by the writes it supersedes. -/
theorem timedActions : Obligations.TimedActions :=
  ⟨jobOpen_answers, jobClose_answers, counterLatch_answers, userEvent_answers, dictWrite_answers, actionExpire_answers⟩

end Sys2Proof.Machine
end
section
/-! Writes of the timetable, of time and of the crusher's log: `commandEffect` and `valueEffect` at their entries, and the value of an
entry that takes effect at a tick (R382). -/
namespace Sys2Proof.Machine
open Sys2Proof

/-! ### What a command of an entry does -/

section
variable (c : Cmd) (off : Nat) (v : Bytes) (s : State)

theorem commandEffect_ttNextDiscard :
    commandEffect c (entryRow E.TT_NEXT_DISCARD) off v s = (if beNat v = 1 then nextGone .empty s else s, answerDone) := by
  have h : (entryRow E.TT_NEXT_DISCARD).id = E.TT_NEXT_DISCARD := rfl
  simp only [commandEffect, h]; rfl
theorem commandEffect_ftServoRestart : commandEffect c (entryRow E.FT_SERVO_RESTART) off v s = (servoRestart (beNat v) s, answerDone) := by
  have h : (entryRow E.FT_SERVO_RESTART).id = E.FT_SERVO_RESTART := rfl
  simp only [commandEffect, h]; rfl
theorem commandEffect_ftActionAdd :
    commandEffect c (entryRow E.FT_ACTION_ADD) off v s = ((actAdd v s).1, if (actAdd v s).2 then answerDone else answerRefused 0) := by
  have h : (entryRow E.FT_ACTION_ADD).id = E.FT_ACTION_ADD := rfl
  simp only [commandEffect, h]
  rcases hx : actAdd v s with ⟨t, _ | _⟩ <;> rfl
theorem commandEffect_ftActionArm {t : State} (ht : actCommand true (beNat v) (srcFa c.src) s = (t, 0)) :
    commandEffect c (entryRow E.FT_ACTION_ARM) off v s = (t, answerDone) := by
  have h : (entryRow E.FT_ACTION_ARM).id = E.FT_ACTION_ARM := rfl
  have he : (E.FT_ACTION_ARM == E.FT_ACTION_ARM) = true := rfl
  simp only [commandEffect, h, he, ht]; rfl
theorem commandEffect_ftActionCancel {t : State} (ht : actCommand false (beNat v) (srcFa c.src) s = (t, 0)) :
    commandEffect c (entryRow E.FT_ACTION_CANCEL) off v s = (t, answerDone) := by
  have h : (entryRow E.FT_ACTION_CANCEL).id = E.FT_ACTION_CANCEL := rfl
  have he : (E.FT_ACTION_CANCEL == E.FT_ACTION_ARM) = false := rfl
  simp only [commandEffect, h, he, ht]; rfl
theorem commandEffect_crMissingLogClear :
    commandEffect c (entryRow E.CR_MISSING_LOG_CLEAR) off v s
      = (if beNat v = 1 then { s with cr := { s.cr with log := [], written := 0 } } else s, answerDone) := by
  have h : (entryRow E.CR_MISSING_LOG_CLEAR).id = E.CR_MISSING_LOG_CLEAR := rfl
  simp only [commandEffect, h]; rfl

theorem valueEffect_ftDomainSelect : valueEffect (entryRow E.FT_DOMAIN_SELECT) off v s = (domainSelect (beNat v) s).getD s := by
  have h : (entryRow E.FT_DOMAIN_SELECT).id = E.FT_DOMAIN_SELECT := rfl
  simp only [valueEffect, h]; rfl
end

/-! ### When the owning chapter refuses a value -/

section
variable (s : State) (n tick : Nat)

theorem scalarRefused_ftDomainSelect : scalarRefused s (entryRow E.FT_DOMAIN_SELECT).id n tick = (domainSelect n s).isNone := by
  have h : (entryRow E.FT_DOMAIN_SELECT).id = E.FT_DOMAIN_SELECT := rfl
  simp only [scalarRefused, h]; rfl
theorem scalarRefused_ttVariantNext : scalarRefused s (entryRow E.TT_VARIANT_NEXT).id n tick = !variantHeld (nextHeld s) n := by
  have h : (entryRow E.TT_VARIANT_NEXT).id = E.TT_VARIANT_NEXT := rfl
  simp only [scalarRefused, h]; rfl
theorem scalarRefused_ttVariantSelect : scalarRefused s (entryRow E.TT_VARIANT_SELECT).id n tick = !variantHeld s.tt.active n := by
  have h : (entryRow E.TT_VARIANT_SELECT).id = E.TT_VARIANT_SELECT := rfl
  simp only [scalarRefused, h]; rfl
end

/-! ### A value that takes effect at a tick -/

theorem takeWrite_atTick {c : Cmd} {e : Entry} {off tick : Nat} {v : Bytes} {s : State} (hc : commandEntry e.id = false) (he : e.eff = 2)
    (hw : e.id ≠ E.PS_REQUEST) (hr : ownerRefuses s e off tick v = none) (hl : s.dx.pending.length < 1024) :
    takeWrite c e off tick v false s = (pend e c.session.toNat off tick v s, answerDone) := by
  unfold takeWrite
  simp [hc, he, hr, wakesNow, hw, Nat.not_le.2 hl]

/-- A waiting write is appended, whatever else its entry brings about. -/
theorem pend_pending (e : Entry) (session off tick : Nat) (v : Bytes) (s : State) (hw : e.id ≠ E.PS_REQUEST) :
    (pend e session off tick v s).dx.pending
      = s.dx.pending ++ [{ entry := e.id, session := session, tick := if e.eff = 2 then some tick else none, offset := off, body := v }] := by
  unfold pend
  rw [decide_eq_false hw, Bool.false_and, if_neg Bool.false_ne_true]
  split <;> rfl

end Sys2Proof.Machine
end
section
/-! Commands of the timetable, of time and of the crusher's log (R59, R60, R81, R89, R92, R212): one theorem per row, and the
statement from them. -/
namespace Sys2Proof.Machine
open Sys2Proof

/-! ### The timetable (R59, R60) -/

theorem ttNextDiscard_does (c : Cmd) (s : State) :
    Does (.ttNextDiscard c) Dx.WRITE (onEntry E.TT_NEXT_DISCARD c) s (fun _ => beNat (dxValue Dx.WRITE (onEntry E.TT_NEXT_DISCARD c)) = 1)
      fun _ u a => a = answerDone ∧ u.tt.next = .empty ∧ u.tt.nextImage = none ∧ u.tt.nextBytes = [] := by
  refine does_command rfl (.inl rfl) (row_onEntry (by decide) c) rfl fun v h1 => ?_
  rw [commandEffect_ttNextDiscard, if_pos h1]
  exact ⟨rfl, rfl, rfl, rfl⟩

theorem ttVariantSelect_does (c : Cmd) (s : State) :
    Does (.ttVariantSelect c) Dx.WRITE (onEntry E.TT_VARIANT_SELECT c) s
      (fun v => variantHeld v.tt.active (beNat (dxValue Dx.WRITE (onEntry E.TT_VARIANT_SELECT c))) = true ∧ v.dx.pending.length < 1024)
      fun v u a => a = answerDone ∧ u.dx.pending = v.dx.pending
        ++ [{ entry := E.TT_VARIANT_SELECT, session := cmdSession c, tick := some (cmdTick c), offset := cmdOff c,
              body := dxValue Dx.WRITE (onEntry E.TT_VARIANT_SELECT c) }] := by
  refine does_of_effect rfl fun v ⟨hv, hp⟩ => ?_
  have hr : ownerRefuses v (entryRow E.TT_VARIANT_SELECT) (cmdOff (onEntry E.TT_VARIANT_SELECT c)) (cmdTick (onEntry E.TT_VARIANT_SELECT c))
      (dxValue Dx.WRITE (onEntry E.TT_VARIANT_SELECT c)) = none := by
    rw [ownerRefuses_scalar rfl (by decide), scalarRefused_ttVariantSelect, hv]; rfl
  rw [dxEffect_write (.inl rfl), row_onEntry (by decide), takeWrite_atTick rfl rfl (by decide) hr hp]
  exact ⟨rfl, pend_pending _ _ _ _ _ _ (by decide)⟩

theorem ttVariantNext_does (c : Cmd) (s : State) :
    Does (.ttVariantNext c) Dx.WRITE (onEntry E.TT_VARIANT_NEXT c) s
      (fun v => variantHeld (nextHeld v) (beNat (dxValue Dx.WRITE (onEntry E.TT_VARIANT_NEXT c))) = true ∧ v.dx.pending.length < 1024)
      fun v u a => a = answerDone ∧ u.dx.pending = v.dx.pending
        ++ [{ entry := E.TT_VARIANT_NEXT, session := cmdSession c, tick := none, offset := cmdOff c,
              body := dxValue Dx.WRITE (onEntry E.TT_VARIANT_NEXT c) }] := by
  refine does_of_effect rfl fun v ⟨hv, hp⟩ => ?_
  have hr : ownerRefuses v (entryRow E.TT_VARIANT_NEXT) (cmdOff (onEntry E.TT_VARIANT_NEXT c)) v.clk.tick
      (dxValue Dx.WRITE (onEntry E.TT_VARIANT_NEXT c)) = none := by
    rw [ownerRefuses_scalar rfl (by decide), scalarRefused_ttVariantNext, hv]; rfl
  rw [dxEffect_write (.inl rfl), row_onEntry (by decide), takeWrite_waits rfl rfl (by decide) hr hp]
  exact ⟨rfl, pend_pending _ _ _ _ _ _ (by decide)⟩

/-! ### Timed actions by command (R89, R92) -/

theorem get?_actLoad {n : Nat} {s : State} (r : ActionRec) (k o : Bool) (e : Nat) (h : actFreeSlot s = some n) :
    SMap.get? (actLoad r k o e s).ft.acts n
      = some { record := r, state := .pending, command := k, epoch := e, launch := 0, armFa := 0, ofNext := o } := by
  unfold actLoad
  rw [h]
  exact get?_set_self _ _ _

theorem actAdd_done {b : Bytes} {n : Nat} {s : State} (ht : s.clk.tick + 16 ≤ (parseAction b).fire)
    (hr : actionRuleOk s ((imageAt s (parseAction b).fire).map (·.1)) (parseAction b) = true) (hz : fld b 0x0C 1 31 = 0)
    (hn : actFreeSlot s = some n) : actAdd b s = (actLoad (parseAction b) true false (activeEpoch s) s, true) := by
  unfold actAdd
  simp [Nat.not_lt.2 ht, hr, hz, hn]

theorem ftActionAdd_does (c : Cmd) (n : Nat) (s : State) :
    Does (.ftActionAdd c) Dx.WRITE (onEntry E.FT_ACTION_ADD c) s
      (fun v => v.clk.tick + 16 ≤ (parseAction (dxValue Dx.WRITE (onEntry E.FT_ACTION_ADD c))).fire
        ∧ actionRuleOk v ((imageAt v (parseAction (dxValue Dx.WRITE (onEntry E.FT_ACTION_ADD c))).fire).map (·.1))
            (parseAction (dxValue Dx.WRITE (onEntry E.FT_ACTION_ADD c))) = true
        ∧ fld (dxValue Dx.WRITE (onEntry E.FT_ACTION_ADD c)) 0x0C 1 31 = 0 ∧ actFreeSlot v = some n)
      fun v u a => a = answerDone ∧ SMap.get? u.ft.acts n
        = some { record := parseAction (dxValue Dx.WRITE (onEntry E.FT_ACTION_ADD c)), state := .pending, command := true,
                 epoch := activeEpoch v, launch := 0, armFa := 0, ofNext := false } := by
  refine does_command rfl (.inl rfl) (row_onEntry (by decide) c) rfl fun v ⟨ht, hr, hz, hn⟩ => ?_
  rw [commandEffect_ftActionAdd, actAdd_done ht hr hz hn]
  refine ⟨rfl, ?_⟩
  rw [get?_actLoad _ _ _ _ hn]

/-- One entry that requires arming is armed 256 ticks ahead at the latest, and cancelled 64 ticks ahead. -/
theorem launchStatus_done {arm : Bool} {t n : Nat} {a : ActEntry} (ht : t + (if arm then 256 else 64) ≤ a.record.fire)
    (ha : arm = true → a.state ≠ .cancelled) : launchStatus arm t a.record.fire [(n, a)] = 0 := by
  unfold launchStatus
  rw [List.isEmpty_cons, if_neg Bool.false_ne_true, if_neg (Nat.not_lt.2 ht)]
  cases arm with
  | false => rfl
  | true => simp [ha rfl]

theorem actCommand_done {arm : Bool} {n fa : Nat} {a : ActEntry} {s : State} (hg : SMap.get? s.ft.acts n = some a) (hr : a.record.arm = true)
    (ht : s.clk.tick + (if arm then 256 else 64) ≤ a.record.fire) (ha : arm = true → a.state ≠ .cancelled) :
    actCommand arm n fa s = (launchApply arm 0 fa [(n, a)] s, 0) := by
  have hf : (SMap.get? s.ft.acts n).filter (fun a => a.record.arm) = some a := by rw [hg]; simp [hr]
  unfold actCommand launchJudge
  rw [hf]
  dsimp only
  rw [launchStatus_done ht ha]
  rfl

theorem launchApply_arms {n fa : Nat} {a : ActEntry} {s : State} (ha : a.state = .pending) :
    actStateOf (launchApply true 0 fa [(n, a)] s) n = some .armed := by
  have h : launchApply true 0 fa [(n, a)] s = setAct n { a with state := .armed, launch := 0, armFa := fa } s := if_pos ha
  rw [h]
  exact congrArg (Option.map ActEntry.state) (get?_set_self _ _ _)

theorem launchApply_cancels {n fa : Nat} {a : ActEntry} {s : State} (ha : a.state = .pending ∨ a.state = .armed) :
    actStateOf (launchApply false 0 fa [(n, a)] s) n = some .cancelled := by
  have h : launchApply false 0 fa [(n, a)] s = actEnd n a .cancelled s := if_pos (by simpa using ha)
  rw [h, actState_actEnd]

theorem ftActionArm_does (c : Cmd) (b : ActEntry) (s : State) :
    Does (.ftActionArm c) Dx.WRITE (onEntry E.FT_ACTION_ARM c) s
      (fun v => (SMap.get? v.ft.acts (beNat (dxValue Dx.WRITE (onEntry E.FT_ACTION_ARM c))) = some b ∧ b.record.arm = true)
        ∧ b.state = .pending ∧ v.clk.tick + 256 ≤ b.record.fire)
      fun _ u a => a = answerDone ∧ actStateOf u (beNat (dxValue Dx.WRITE (onEntry E.FT_ACTION_ARM c))) = some .armed := by
  refine does_command rfl (.inl rfl) (row_onEntry (by decide) c) rfl fun v ⟨⟨hg, hr⟩, hs, ht⟩ => ?_
  rw [commandEffect_ftActionArm _ _ _ _ (actCommand_done hg hr ht fun _ => by rw [hs]; decide)]
  exact ⟨rfl, launchApply_arms hs⟩

theorem ftActionCancel_does (c : Cmd) (b : ActEntry) (s : State) :
    Does (.ftActionCancel c) Dx.WRITE (onEntry E.FT_ACTION_CANCEL c) s
      (fun v => (SMap.get? v.ft.acts (beNat (dxValue Dx.WRITE (onEntry E.FT_ACTION_CANCEL c))) = some b ∧ b.record.arm = true)
        ∧ (b.state = .pending ∨ b.state = .armed) ∧ v.clk.tick + 64 ≤ b.record.fire)
      fun _ u a => a = answerDone ∧ actStateOf u (beNat (dxValue Dx.WRITE (onEntry E.FT_ACTION_CANCEL c))) = some .cancelled := by
  refine does_command rfl (.inl rfl) (row_onEntry (by decide) c) rfl fun v ⟨⟨hg, hr⟩, hs, ht⟩ => ?_
  rw [commandEffect_ftActionCancel _ _ _ _ (actCommand_done hg hr ht nofun)]
  exact ⟨rfl, launchApply_cancels (fa := srcFa (onEntry E.FT_ACTION_CANCEL c).src) hs⟩

/-! ### Servos (R81) -/

/-- A change of one domain's servo leaves the other domain's. -/
theorem servoOf_setServo_ne {d k : Nat} (f : Servo → Servo) (s : State) (h : ¬(d = 0 ↔ k = 0)) : servoOf (setServo k f s) d = servoOf s d := by
  unfold servoOf setServo
  by_cases hk : k = 0
  · have hd : d ≠ 0 := fun hd => h ⟨fun _ => hk, fun _ => hd⟩
    rw [if_pos hk, if_neg hd, if_neg hd]
  · have hd : d = 0 := by omega
    rw [if_neg hk, if_pos hd, if_pos hd]

theorem servoOf_servoGo_ne {d k : Nat} (n : ServoSt) (s : State) (h : ¬(d = 0 ↔ k = 0)) : servoOf (servoGo k n s) d = servoOf s d := by
  unfold servoGo; dsimp only; split
  · rfl
  · rw [servoOf_genJudge, servoOf_raise, servoOf_setServo_ne _ _ h]

/-- A restart of one domain's servo. -/
def servoBack (m d : Nat) (s : State) : State :=
  if bit m d && (servoOf s d).state != .disabled then servoGo d .acquiring (setServo d (fun v => { v with good := 0 }) s) else s

theorem servoRestart_eq (m : Nat) (s : State) : servoRestart m s = servoBack m 1 (servoBack m 0 s) := rfl

theorem servoBack_state {m d : Nat} {s : State} (hb : bit m d = true) (hs : (servoOf s d).state ≠ .disabled) :
    (servoOf (servoBack m d s) d).state = .acquiring := by
  unfold servoBack
  rw [if_pos (by simp [hb, hs]), servoGo_state]

theorem servoOf_servoBack_ne {m d k : Nat} (s : State) (h : ¬(d = 0 ↔ k = 0)) : servoOf (servoBack m k s) d = servoOf s d := by
  unfold servoBack; split
  · rw [servoOf_servoGo_ne _ _ h, servoOf_setServo_ne _ _ h]
  · rfl

theorem servoRestart_state {m : Nat} {d : Domain} {s : State} (hb : bit m d = true) (hs : (servoOf s d).state ≠ .disabled) :
    (servoOf (servoRestart m s) d).state = .acquiring := by
  rw [servoRestart_eq]
  match d with
  | 0 => rw [servoOf_servoBack_ne _ (by decide)]; exact servoBack_state hb hs
  | 1 => exact servoBack_state hb (by rwa [servoOf_servoBack_ne _ (by decide)])

theorem ftServoRestart_does (c : Cmd) (s : State) :
    Does (.ftServoRestart c) Dx.WRITE (onEntry E.FT_SERVO_RESTART c) s (fun _ => True)
      fun v u a => a = answerDone ∧ ∀ d : Domain, bit (beNat (dxValue Dx.WRITE (onEntry E.FT_SERVO_RESTART c))) d = true →
        (servoOf v d).state ≠ .disabled → (servoOf u d).state = .acquiring := by
  refine does_command rfl (.inl rfl) (row_onEntry (by decide) c) rfl fun v _ => ?_
  rw [commandEffect_ftServoRestart]
  exact ⟨rfl, fun d => servoRestart_state⟩

/-! ### Selection of the domain (R89) -/

theorem domainSelect_taken {n : Nat} {s : State} (h : n = 2 ∨ n = 3 ∨ servoLocked s n = true) :
    ∃ t, domainSelect n s = some t ∧ Cfg.FT_DOMAIN_SELECT t = n := by
  have hn : (decide (n ≤ 1) && !servoLocked s n) = false := by
    obtain rfl | rfl | h := h
    · rfl
    · rfl
    · rw [h, Bool.not_true, Bool.and_false]
  unfold domainSelect
  rw [hn, if_neg Bool.false_ne_true]
  refine ⟨_, rfl, ?_⟩
  split <;> exact getNum_setNum_self _ _ _ _

theorem ftDomainSelect_does (c : Cmd) (s : State) :
    Does (.ftDomainSelect c) Dx.WRITE (onEntry E.FT_DOMAIN_SELECT c) s
      (fun v => beNat (dxValue Dx.WRITE (onEntry E.FT_DOMAIN_SELECT c)) = 2 ∨ beNat (dxValue Dx.WRITE (onEntry E.FT_DOMAIN_SELECT c)) = 3
        ∨ servoLocked v (beNat (dxValue Dx.WRITE (onEntry E.FT_DOMAIN_SELECT c))) = true)
      fun _ u a => a = answerDone ∧ Cfg.FT_DOMAIN_SELECT u = beNat (dxValue Dx.WRITE (onEntry E.FT_DOMAIN_SELECT c)) := by
  refine does_scalar rfl (.inl rfl) (row_onEntry (by decide) c) rfl rfl rfl (by decide) (fun v hv => ?_) fun v hv => ?_
  all_goals obtain ⟨t, ht, hs⟩ := domainSelect_taken hv
  · rw [scalarRefused_ftDomainSelect, ht]; rfl
  · rw [valueEffect_ftDomainSelect, ht]
    exact ⟨rfl, hs⟩

/-! ### The log of missing contributions (R212) -/

theorem crMissingLogClear_does (c : Cmd) (s : State) :
    Does (.crMissingLogClear c) Dx.WRITE (onEntry E.CR_MISSING_LOG_CLEAR c) s
      (fun _ => beNat (dxValue Dx.WRITE (onEntry E.CR_MISSING_LOG_CLEAR c)) = 1)
      fun _ u a => a = answerDone ∧ u.cr.log = [] ∧ u.cr.written = 0 := by
  refine does_command rfl (.inl rfl) (row_onEntry (by decide) c) rfl fun v h1 => ?_
  rw [commandEffect_crMissingLogClear, if_pos h1]
  exact ⟨rfl, rfl, rfl⟩

/-- Settles O11: one theorem per row, from what a write of its entry comes to. -/
theorem timetableCommands : Obligations.TimetableCommands :=
  ⟨ttNextDiscard_does, ttVariantSelect_does, ttVariantNext_does, ftActionAdd_does, ftActionArm_does, ftActionCancel_does,
    ftServoRestart_does, ftDomainSelect_does, crMissingLogClear_does⟩

end Sys2Proof.Machine
end
section
/-! Sequencers of the timetable (R47, R50, R52, R54, R57, R466): the checks of an image, the loss set in force, and leases. -/
namespace Sys2Proof.Machine
open Sys2Proof

/-! ### The checks do not see the outputs of a command -/

theorem configAt_start (t : Nat) (s : State) : configAt t (start s) = start (configAt t s) := by
  unfold configAt; dsimp only
  rw [apply_ite start]
  rfl
theorem checkHeader_start (s : State) (b : Bytes) : checkHeader (start s) b = checkHeader s b := rfl
theorem checkPosition_start (s : State) (i : Image) : checkPosition (start s) i = checkPosition s i := rfl
theorem checkEpoch_start (s : State) (i : Image) : checkEpoch (start s) i = checkEpoch s i := rfl
theorem checkLate_start (s : State) (i : Image) : checkLate (start s) i = checkLate s i := rfl
theorem checkLaneState_start (c n v : Nat) (s : State) (i : Image) : checkLaneState c n (start s) i v = checkLaneState c n s i v := rfl
theorem checkRecipe_start (s : State) (n : Nat) (r : Recipe) : checkRecipe (start s) n r = checkRecipe s n r := rfl
theorem checkSlew_start (s : State) (i : Image) : checkSlew (start s) i = checkSlew s i := rfl
theorem checkChute_start (s : State) (i : Image) : checkChute (start s) i = checkChute s i := rfl
theorem checkLease_start (s : State) (i : Image) : checkLease (start s) i = checkLease s i := rfl
theorem checkActions_start (s : State) (i : Image) : checkActions (start s) i = checkActions s i := rfl
theorem checkVariants_start (s : State) (i : Image) : checkVariants (start s) i = checkVariants s i := rfl

theorem imageFails_start (s : State) (b d : Bytes) : imageFails (start s) b d = imageFails s b d := by
  unfold imageFails
  simp only [configAt_start, checkHeader_start, checkPosition_start, checkEpoch_start, checkLate_start, checkLaneState_start,
    checkRecipe_start, checkSlew_start, checkChute_start, checkLease_start, checkActions_start, checkVariants_start]

theorem crossChecks_start (t : Nat) (i : Image) (s : State) : crossChecks (configAt t (start s)) i = crossChecks (configAt t s) i := by
  rw [configAt_start]; rfl

/-! ### The checks of an image (R50, R52, R54) -/

theorem ttReady_tt (i : Image) (s : State) : (ttReady i s).tt = (readied i s).tt :=
  only_readied (l := [.time, .repair]) i s (by decide) (by decide) .timetable (by decide)

theorem ttRefuse_tt (f : List CheckFail) (s : State) : (ttRefuse f s).tt.next = .refused ∧ (ttRefuse f s).tt.log = f.take 16 := by
  have h : (ttRefuse f s).tt = (nextGone .refused { s with tt := { s.tt with log := f.take 16 } }).tt := by
    unfold ttRefuse; dsimp only
    split <;> simp
  rw [h]
  exact ⟨rfl, rfl⟩

theorem exec_ttChecksDone_ready {s : State} (hn : s.tt.next = .checking) (hf : imageFails s s.tt.nextBytes s.tt.nextDigest = []) :
    exec .ttChecksDone s = .next (settle s (ttReady (parseImage s.tt.nextBytes s.tt.nextDigest) (start s))) := by
  have hc : ¬ ((start s).tt.next != .checking) = true := by rw [start_tt, hn]; decide
  have hi : imageFails (start s) (start s).tt.nextBytes (start s).tt.nextDigest = [] := (imageFails_start s _ _).trans hf
  refine (Eq.refl (execTtChecksDone s)).trans ?_
  unfold execTtChecksDone run
  dsimp only
  rw [if_neg hc, hi]
  rfl

theorem exec_ttChecksDone_refused {s : State} (hn : s.tt.next = .checking) (hf : imageFails s s.tt.nextBytes s.tt.nextDigest ≠ []) :
    exec .ttChecksDone s = .next (settle s (ttRefuse (imageFails s s.tt.nextBytes s.tt.nextDigest) (start s))) := by
  have hc : ¬ ((start s).tt.next != .checking) = true := by rw [start_tt, hn]; decide
  have hi : imageFails (start s) (start s).tt.nextBytes (start s).tt.nextDigest = imageFails s s.tt.nextBytes s.tt.nextDigest :=
    imageFails_start s _ _
  refine (Eq.refl (execTtChecksDone s)).trans ?_
  unfold execTtChecksDone run
  dsimp only
  rw [if_neg hc, hi]
  split
  · contradiction
  · rfl

theorem ttChecksDone_ready (s : State) (hn : s.tt.next = .checking) (hf : imageFails s s.tt.nextBytes s.tt.nextDigest = []) :
    Answers .ttChecksDone s fun t => t.tt.next = .ready ∧ t.tt.nextImage = some (parseImage s.tt.nextBytes s.tt.nextDigest) ∧ t.tt.log = [] := by
  refine ⟨_, exec_ttChecksDone_ready hn hf, ?_⟩
  dsimp only
  rw [settle_tt, ttReady_tt]
  exact ⟨rfl, rfl, rfl⟩

theorem ttChecksDone_refused (s : State) (hn : s.tt.next = .checking) (hf : imageFails s s.tt.nextBytes s.tt.nextDigest ≠ []) :
    Answers .ttChecksDone s fun t => t.tt.next = .refused ∧ t.tt.log = (imageFails s s.tt.nextBytes s.tt.nextDigest).take 16 := by
  refine ⟨_, exec_ttChecksDone_refused hn hf, ?_⟩
  dsimp only
  rw [settle_tt]
  exact ttRefuse_tt _ _

/-- The check against the active image ends at the failures it finds in a READY one. -/
theorem exec_ttCrossRecheck {i : Image} {s : State} (hn : s.tt.next = .ready) (hi : s.tt.nextImage = some i) :
    exec .ttCrossRecheck s = .next (settle s (if crossChecks (configAt (1024 * i.frame) s) i = [] then start s
      else ttRefuse (crossChecks (configAt (1024 * i.frame) s) i) (start s))) := by
  refine (Eq.refl (execTtCrossRecheck s)).trans ?_
  unfold execTtCrossRecheck run
  dsimp only
  rw [start_tt, hn, hi]
  dsimp only
  rw [crossChecks_start]
  cases crossChecks (configAt (1024 * i.frame) s) i with
  | nil => rw [if_pos rfl]
  | cons f fs => rw [if_neg (List.cons_ne_nil f fs)]

theorem ttCrossRecheck_answers (i : Image) (s : State) (hn : s.tt.next = .ready) (hi : s.tt.nextImage = some i) :
    Answers .ttCrossRecheck s fun t =>
      let fails := crossChecks (configAt (1024 * i.frame) s) i
      if fails = [] then t.tt = s.tt else t.tt.next = .refused ∧ t.tt.log = fails.take 16 := by
  refine ⟨_, exec_ttCrossRecheck hn hi, ?_⟩
  dsimp only
  split
  · rfl
  · exact ttRefuse_tt _ _

/-! ### The loss set in force (R57) -/

theorem selectionsDone_variant (n : Nat) (s : State) : (selectionsDone n s).tt.variant = s.tt.variant := rfl

/-- The loss set of a selection in force; one that the active image lacks leaves what is (log 27, DESIGN CHOICE). -/
def putVariant (v : Nat) (s : State) : State :=
  { s with tt := { s.tt with variant := if variantHeld s.tt.active v then v else s.tt.variant } }

theorem exec_variantTakesEffect {x v : Nat} {s : State} (hs : s.tt.selected = some (x, v)) (hx : x ≤ s.clk.tick)
    (hf : s.frame = frameOf s) (hj : joinWaits s = false) :
    exec .variantTakesEffect s = .next (settle s (raise Ev.TT_VARIANT [.u16 (putVariant v (start s)).tt.variant]
      (setNum E.TT_VARIANT_SELECT v (selectionsDone 1 (putVariant v (start s)))))) := by
  have hc : ¬ (decide ((start s).clk.tick < x) || (start s).frame != frameOf (start s) || joinWaits (start s)) = true := by
    have hf' : frameOf (start s) = s.frame := hf.symm
    have hj' : joinWaits (start s) = false := hj
    rw [hf', hj']
    simp [Nat.not_lt.2 hx]
  refine (Eq.refl (execVariantTakesEffect s)).trans ?_
  unfold execVariantTakesEffect run
  dsimp only
  rw [start_tt, hs]
  dsimp only
  rw [if_neg hc]
  rfl

theorem getNum_settle (s t : State) (e d : Nat) : getNum (settle s t) e d = getNum t e d := rfl

theorem variantTakesEffect_answers (x v : Nat) (s : State) (hs : s.tt.selected = some (x, v)) (hx : x ≤ s.clk.tick)
    (hf : s.frame = frameOf s) (hj : joinWaits s = false) :
    Answers .variantTakesEffect s fun t => t.tt.variant = (if variantHeld s.tt.active v then v else s.tt.variant)
      ∧ getNum t E.TT_VARIANT_SELECT 0 = v := by
  refine ⟨_, exec_variantTakesEffect hs hx hf hj, ?_, ?_⟩
  · rw [settle_tt, raise_tt, setNum_tt, selectionsDone_variant]
    rfl
  · rw [getNum_settle, getNum_raise (by decide), getNum_setNum_self]

/-! ### Leases (R47, R466) -/

/-- A lease that is set is in the state it is set to. -/
theorem setLease_state {n v : Nat} {x : LeaseState} {s : State} (h : (s.tt.leases.drop n).head? = some x) :
    ((setLease n v s).tt.leases.drop n).head?.map (·.state) = some v := by
  rw [List.head?_drop] at h ⊢
  have hl : n < s.tt.leases.length := (List.getElem?_eq_some_iff.1 h).1
  unfold setLease numbered
  simp [hl]

/-- A rotation lease gives the logical bench the spare. -/
theorem rotate_serves {b x e : Nat} {s : State} (h : (physSlot s x).state = .spare) :
    physBench (rotate b x e s) b = x ∧ (physSlot (rotate b x e s) x).state = .serving := by
  have hr : (rotate b x e s).rp = (rotated b x e s).rp :=
    only_rotated (l := [.crusher, .health, .queues, .links]) e h (by decide) (by decide) (by decide) (by decide) .repair (by decide)
  unfold physBench physSlot
  rw [hr]
  exact ⟨getD_set_self _ _ _ _, congrArg PhysSlot.state (getD_set_self _ _ _ _)⟩

/-- What a lease does once it is marked begun. -/
def leaseBegun (x : LeaseRec) (s : State) : State :=
  if x.kind = 3 then rotate x.subject x.unit (x.start + x.len) s else leaseLaneStart x.kind x.subject x.unit s

theorem leaseBegun_tt (x : LeaseRec) (s : State) : (leaseBegun x s).tt = s.tt := by
  have h : Only [.crusher, .health, .links, .optics, .queues, .repair] s (leaseBegun x s) :=
    only_ite (only_rotate _ _ _ s (by decide) (by decide) (by decide) (by decide) (by decide))
      (only_leaseLaneStart _ _ _ s (by decide))
  exact h .timetable (by decide)

theorem exec_leaseStart {n : Nat} {x : LeaseState} {s : State} (hx : (s.tt.leases.drop n).head? = some x) (hl : leaseLive s = true)
    (h0 : x.state = 0) (hf : x.record.start ≤ frameOf s) (he : x.record.len = 0 ∨ frameOf s < x.record.start + x.record.len) :
    exec (.leaseStart n) s = .next (settle s (leaseBegun x.record (leaseEvent x.record 1 (setLease n 1 (start s))))) := by
  have hl' : leaseLive (start s) = true := hl
  have hk : frameOf (start s) = frameOf s := rfl
  refine (Eq.refl (execLeaseStart n s)).trans ?_
  unfold execLeaseStart run
  dsimp only
  rw [start_tt, hx]
  dsimp only
  rw [hl', hk, if_neg (by simp [h0, Nat.not_lt.2 hf]), if_neg (by simp; omega)]
  rfl

theorem leaseBegun_serves {x : LeaseRec} {s : State} (hk : x.kind = 3) (hs : (physSlot s x.unit).state = .spare) :
    physBench (leaseBegun x s) x.subject = x.unit ∧ (physSlot (leaseBegun x s) x.unit).state = .serving := by
  unfold leaseBegun
  rw [if_pos hk]
  exact rotate_serves hs

theorem physSlot_of_rp {s t : State} (h : t.rp = s.rp) (x : Nat) : physSlot t x = physSlot s x := by unfold physSlot; rw [h]

theorem leaseStart_answers (n : Nat) (x : LeaseState) (s : State) (hx : (s.tt.leases.drop n).head? = some x) (hl : leaseLive s = true)
    (h0 : x.state = 0) (hf : x.record.start ≤ frameOf s) (he : x.record.len = 0 ∨ frameOf s < x.record.start + x.record.len) :
    Answers (.leaseStart n) s fun t => ((t.tt.leases.drop n).head?.map (·.state)) = some 1
      ∧ (x.record.kind = 3 → (physSlot s x.record.unit).state = .spare →
        physBench t x.record.subject = x.record.unit ∧ (physSlot t x.record.unit).state = .serving) := by
  refine ⟨_, exec_leaseStart hx hl h0 hf he, ?_, fun hk hs => ?_⟩
  · have ht : (leaseBegun x.record (leaseEvent x.record 1 (setLease n 1 (start s)))).tt = (setLease n 1 (start s)).tt :=
      (leaseBegun_tt ..).trans (raise_tt ..)
    rw [settle_tt, ht]
    exact setLease_state (s := start s) hx
  · have hp : (leaseEvent x.record 1 (setLease n 1 (start s))).rp = s.rp := raise_rp ..
    exact leaseBegun_serves hk ((physSlot_of_rp hp _).symm ▸ hs)

theorem exec_leaseEnd {n : Nat} {x : LeaseState} {s : State} (hx : (s.tt.leases.drop n).head? = some x) (hl : leaseLive s = true)
    (h1 : x.state = 1) (h0 : x.record.len ≠ 0) (hf : x.record.start + x.record.len ≤ frameOf s) :
    exec (.leaseEnd n) s = .next (settle s (leasesEnd [x.record] (setLease n 2 (start s)))) := by
  have hl' : leaseLive (start s) = true := hl
  have hk : frameOf (start s) = frameOf s := rfl
  refine (Eq.refl (execLeaseEnd n s)).trans ?_
  unfold execLeaseEnd run
  dsimp only
  rw [start_tt, hx]
  dsimp only
  rw [hl', hk, if_neg (by simp [h1, h0, Nat.not_lt.2 hf])]

theorem leasesEnd_tt (ls : List LeaseRec) (s : State) : (leasesEnd ls s).tt = s.tt :=
  only_leasesEnd (l := [.optics, .repair]) ls s (by decide) (by decide) .timetable (by decide)

theorem leaseEnd_answers (n : Nat) (x : LeaseState) (s : State) (hx : (s.tt.leases.drop n).head? = some x) (hl : leaseLive s = true)
    (h1 : x.state = 1) (h0 : x.record.len ≠ 0) (hf : x.record.start + x.record.len ≤ frameOf s) :
    Answers (.leaseEnd n) s fun t => ((t.tt.leases.drop n).head?.map (·.state)) = some 2 := by
  refine ⟨_, exec_leaseEnd hx hl h1 h0 hf, ?_⟩
  dsimp only
  rw [settle_tt, leasesEnd_tt]
  exact setLease_state (s := start s) hx

/-- Settles O10. A selected variant that the active image lacks leaves the one in force (log 27, a design choice of the model). -/
theorem timetableRows : Obligations.TimetableRows :=
  ⟨ttChecksDone_ready, ttChecksDone_refused, ttCrossRecheck_answers, variantTakesEffect_answers, leaseStart_answers, leaseEnd_answers⟩

end Sys2Proof.Machine
end
section
/-! What a message that the part sends of its own moves of the time unit: the stamps it keeps of what has left, and no more (R78). -/
namespace Sys2Proof.Machine
open Sys2Proof

/-! ### The clock -/

theorem ptpLeaves_clk (p : Nat) (k : Packet) (s : State) : (ptpLeaves p k s).2.clk = s.clk := by
  unfold ptpLeaves; dsimp only
  split
  · rfl
  · split
    · exact setServo_clk _ _ s
    · exact setPdelay_clk _ _ s
    · rfl
    · rfl

theorem mcSend_clk (p : Nat) (k : Packet) (s : State) : (mcSend p k s).clk = s.clk := by
  unfold mcSend; dsimp only
  split
  · split
    · rfl
    · exact ptpLeaves_clk _ _ s
  · exact of_still_clk (still_originate _ _ _ s)

theorem answerBy_clk (p : Option Nat) (k : Packet) (s : State) : (answerBy p k s).clk = s.clk := by
  unfold answerBy
  split
  · exact of_spine_clk (spine_of_calm (calm_originateRouted k s))
  · split
    · exact mcSend_clk _ k s
    · rfl

/-! ### The servos, the generator and the timed actions -/

/-- A servo without the stamp of its outstanding Delay_Req. -/
def reqless (v : Servo) : Servo := { v with req := none }

/-- A port's peer delay without the stamp of its outstanding Pdelay_Req. -/
def sentless (v : Pdelay) : Pdelay := { v with sent := none }

/-- The time unit without the stamps of requests that have left, and without peer delays. -/
def timeRest (s : State) : FtState :=
  { s.ft with servoA := reqless s.ft.servoA, servoB := reqless s.ft.servoB, pdelay := [] }

theorem timeRest_of_ft {s t : State} (h : t.ft = s.ft) : timeRest t = timeRest s := by unfold timeRest; rw [h]

theorem timeRest_setServo (d : Nat) {f : Servo → Servo} (hf : ∀ v, reqless (f v) = reqless v) (s : State) :
    timeRest (setServo d f s) = timeRest s := by
  unfold timeRest setServo
  split
  · dsimp only; rw [hf]
  · dsimp only; rw [hf]

theorem timeRest_ptpLeaves (p : Nat) (k : Packet) (s : State) : timeRest (ptpLeaves p k s).2 = timeRest s := by
  unfold ptpLeaves; dsimp only
  split
  · rfl
  · split
    · refine timeRest_setServo _ ?_ s
      exact fun _ => rfl
    · rfl
    · rfl
    · rfl

theorem timeRest_mcSend (p : Nat) (k : Packet) (s : State) : timeRest (mcSend p k s) = timeRest s := by
  unfold mcSend; dsimp only
  split
  · split
    · rfl
    · exact timeRest_ptpLeaves _ _ s
  · exact timeRest_of_ft (of_still_ft (still_originate _ _ _ s))

theorem of_calm_ft {s t : State} (h : calm t = calm s) : t.ft = s.ft := (congrArg State.ft h :)

theorem timeRest_answerBy (p : Option Nat) (k : Packet) (s : State) : timeRest (answerBy p k s) = timeRest s := by
  unfold answerBy
  split
  · exact timeRest_of_ft (of_calm_ft (calm_originateRouted k s))
  · split
    · exact timeRest_mcSend _ k s
    · rfl

theorem of_timeRest_gen {s t : State} (h : timeRest t = timeRest s) : t.ft.gen = s.ft.gen := (congrArg FtState.gen h :)
theorem of_timeRest_acts {s t : State} (h : timeRest t = timeRest s) : t.ft.acts = s.ft.acts := (congrArg FtState.acts h :)

theorem of_timeRest_servo (d : Nat) {s t : State} (h : timeRest t = timeRest s) : reqless (servoOf t d) = reqless (servoOf s d) := by
  unfold servoOf
  split
  · exact (congrArg FtState.servoA h :)
  · exact (congrArg FtState.servoB h :)

/-! ### Peer delays -/

theorem pdelayOf_of_ft {s t : State} (h : t.ft = s.ft) (p : Nat) : pdelayOf t p = pdelayOf s p := by unfold pdelayOf; rw [h]

@[simp] theorem pdelayOf_setPdelay (p : Nat) (f : Pdelay → Pdelay) (s : State) : pdelayOf (setPdelay p f s) p = f (pdelayOf s p) :=
  getD_set_self _ _ _ _

theorem pdelayOf_setServo (p d : Nat) (f : Servo → Servo) (s : State) : pdelayOf (setServo d f s) p = pdelayOf s p := by
  unfold setServo
  split
  · rfl
  · rfl

/-- A message that leaves on a port moves at most the stamp of what the port has sent. -/
theorem sentless_ptpLeaves (p : Nat) (k : Packet) (s : State) : sentless (pdelayOf (ptpLeaves p k s).2 p) = sentless (pdelayOf s p) := by
  unfold ptpLeaves; dsimp only
  split
  · rfl
  · split
    · dsimp only; rw [pdelayOf_setServo]
    · dsimp only; rw [pdelayOf_setPdelay]; rfl
    · rfl
    · rfl

theorem sentless_mcSend (p : Nat) (k : Packet) (s : State) : sentless (pdelayOf (mcSend p k s) p) = sentless (pdelayOf s p) := by
  unfold mcSend; dsimp only
  split
  · split
    · rfl
    · exact sentless_ptpLeaves p _ s
  · exact congrArg sentless (pdelayOf_of_ft (of_still_ft (still_originate _ _ _ s)) p)

end Sys2Proof.Machine
end
section
/-! The instant stays inside its tick (R68, R70). -/
namespace Sys2Proof.Machine
open Sys2Proof

/-- An outcome is a next state whose instant lies inside its tick. -/
def InTime (o : Out) : Prop := ∃ t, o = .next t ∧ Timed t

/-! ### How a row runs -/

theorem timed_of_clk {s t : State} (h : t.clk = s.clk) (hs : Timed s) : Timed t := by
  unfold Timed; rw [h]; exact hs

/-- An instant that a row carries is cut off at the tick's end. -/
theorem timed_atPs (a : Nat) {s : State} (hs : Timed s) : Timed (atPs a s) := by
  unfold Timed tickPs at *
  simp only [atPs, tickPs]
  omega

section
variable {s : State} (h : Timed s)
include h

theorem inTime_run (f : State → State) : InTime (run f s) := ⟨_, rfl, h⟩

theorem inTime_runAt (a : Nat) (f : State → State) : InTime (runAt a f s) := inTime_run (timed_atPs a h) f

/-- A timer's row runs at its instant or does nothing; either way the instant stays inside the tick. -/
theorem inTime_runDue (d : Option Nat) (f : State → State) : InTime (runDue d f s) := by
  unfold runDue
  split
  · split
    · exact inTime_runAt h _ _
    · exact inTime_run h _
  · exact inTime_run h _

/-- An effect that may step time leaves an instant inside a tick. -/
theorem inTime_runStep (a : Nat) {f : State → State} (hf : ∀ s, Timed s → Timed (f s)) : InTime (runStep a f s) :=
  ⟨_, rfl, hf (start (atPs a s)) (timed_atPs a h)⟩

end

/-! ### Fabric time steps at the first lock (R83) -/

/-- A step lands inside a tick, wherever it started. -/
theorem timed_stepTime (d : Int) (s : State) : Timed (stepTime d s) := Nat.mod_lt _ (by decide)

theorem timed_firstLock (d : Nat) {s : State} (hs : Timed s) : Timed (firstLock d s) := by
  unfold firstLock; dsimp only
  split
  · exact hs
  · exact timed_stepTime _ s

/-! ### Nothing else of a sample moves the clock -/

theorem genJudge_clk (s : State) : (genJudge s).clk = s.clk := by
  unfold genJudge; dsimp only
  exact clk_ite (raise_clk _ _ _) (clk_ite (raise_clk _ _ _) rfl)

@[simp] theorem servoGo_clk (d : Nat) (n : ServoSt) (s : State) : (servoGo d n s).clk = s.clk := by
  unfold servoGo; dsimp only
  refine clk_ite rfl ?_
  rw [genJudge_clk, raise_clk, setServo_clk]

theorem alignJudge_clk (d : Nat) (s : State) : (alignJudge d s).clk = s.clk := by
  unfold alignJudge; dsimp only
  refine clk_ite rfl (clk_ite (Eq.trans (clk_ite ?_ rfl) (setServo_clk _ _ s)) (setServo_clk _ _ s))
  rw [raise_clk, count_clk]

theorem splitJudge_clk (s : State) : (splitJudge s).clk = s.clk := clk_ite (raiseOnce_clk _ _ _ s) rfl

theorem timed_lockJudge (d : Nat) {s : State} (hs : Timed s) : Timed (lockJudge d s) := by
  unfold lockJudge; dsimp only
  split
  · generalize (if absInt (servoOf s d).last ≤ ftLock s d then (servoOf s d).good + 1 else 0) = g
    split
    · exact timed_firstLock d (timed_of_clk (s := s) (by simp) hs)
    · exact timed_of_clk (setServo_clk _ _ s) hs
  · exact timed_of_clk (s := s) (clk_ite (by simp) (setServo_clk _ _ s)) hs
  · exact hs

theorem timed_sample (d : Nat) (raw : Int) {s : State} (hs : Timed s) : Timed (sample d raw s) := by
  unfold sample; dsimp only
  split
  · exact hs
  split
  · exact timed_of_clk (s := s) (clk_ite (by simp) (by simp)) hs
  refine timed_of_clk (splitJudge_clk _) (timed_of_clk (alignJudge_clk _ _) (timed_lockJudge _ (timed_of_clk (s := s) ?_ hs)))
  split
  · rw [servoGo_clk]; exact clk_ite (by simp) (by simp)
  · refine clk_ite ((servoGo_clk _ _ _).trans ?_) ?_
    all_goals exact clk_ite (by simp) (by simp)
  · exact clk_ite (by simp) (by simp)

/-! ### Sync and Follow_Up (R80) -/

theorem timed_ptpSample (d : Nat) (raw : Int) {s : State} (hs : Timed s) : Timed (ptpSample d raw s) :=
  timed_sample _ _ (timed_of_clk (setServo_clk _ _ s) hs)

theorem timed_syncSample (d p : Nat) (k : Packet) (t1 t2 : Int) {s : State} (hs : Timed s) : Timed (syncSample d p k t1 t2 s) := by
  refine timed_ptpSample _ _ (timed_of_clk (clk_ite rfl ?_) hs)
  dsimp only
  rw [answerBy_clk, setServo_clk]

theorem inTime_execPtpSync (p : Port) (k : Packet) (a : At) {s : State} (h : Timed s) : InTime (execPtpSync p k a s) := by
  refine inTime_runStep h a fun s hs => ?_
  dsimp only
  split
  · exact hs
  · split
    · exact hs
    · split
      · exact timed_of_clk (setServo_clk _ _ _) hs
      · exact timed_syncSample _ _ _ _ _ hs

theorem inTime_execPtpFollowUp (p : Port) (k : Packet) (a : At) {s : State} (h : Timed s) : InTime (execPtpFollowUp p k a s) := by
  refine inTime_runStep h a fun s hs => ?_
  dsimp only
  split
  · split
    · split
      · exact hs
      · exact timed_syncSample _ _ _ _ _ (timed_of_clk (setServo_clk _ _ _) hs)
    · exact hs
  · split
    · split
      · exact hs
      · exact hs
    · exact hs
  · exact hs

/-! ### Rows that look for the object of their timer -/

section
variable {s : State} (h : Timed s)
include h

theorem inTime_execTimeMsgExpire (n : Nat) : InTime (execTimeMsgExpire n s) := by
  unfold execTimeMsgExpire
  split
  · exact inTime_run h _
  · exact inTime_runDue h _ _

theorem inTime_execEscapeMove (n : Nat) : InTime (execEscapeMove n s) := by
  unfold execEscapeMove
  split
  · exact inTime_run h _
  · split
    · split
      · exact inTime_runDue h _ _
      · exact inTime_run h _
    · exact inTime_run h _

theorem inTime_execHeadDrop (n : Nat) : InTime (execHeadDrop n s) := by
  unfold execHeadDrop
  split
  · exact inTime_run h _
  · exact inTime_runDue h _ _

theorem inTime_execChunkTimeout (coll chunk : Nat) : InTime (execChunkTimeout coll chunk s) := by
  unfold execChunkTimeout
  split
  · exact inTime_run h _
  · split
    · exact inTime_run h _
    · exact inTime_runDue h _ _

theorem inTime_execResultDwellExpiry (n : Nat) : InTime (execResultDwellExpiry n s) := by
  unfold execResultDwellExpiry
  split
  · exact inTime_run h _
  · split
    · exact inTime_run h _
    · exact inTime_runDue h _ _

theorem inTime_streamResend (n : Nat) : InTime (streamResend n s) := by
  unfold streamResend
  split
  · exact inTime_run h _
  · split
    · exact inTime_run h _
    · exact inTime_runDue h _ _

theorem inTime_execMirrorAckTimeout (n : Nat) : InTime (execMirrorAckTimeout n s) := by
  unfold execMirrorAckTimeout
  split
  · exact inTime_streamResend h _
  · exact inTime_runDue h _ _

theorem inTime_execElsAccessTimeout (pos n : Nat) : InTime (execElsAccessTimeout pos n s) := by
  unfold execElsAccessTimeout
  split
  · exact inTime_run h _
  · exact inTime_runDue h _ _

theorem inTime_moveAt (n : Nat) (st : MoveSt) (tick : Move → Nat) (f : Move → State → State) : InTime (moveAt n st tick f s) := by
  unfold moveAt
  split
  · exact inTime_run h _
  · exact inTime_runDue h _ _

theorem inTime_execBlockIdleExpiry (n : Nat) : InTime (execBlockIdleExpiry n s) := by
  unfold execBlockIdleExpiry
  dsimp only
  split
  · split
    · exact inTime_runDue h _ _
    · exact inTime_run h _
  · split
    · exact inTime_runDue h _ _
    · exact inTime_run h _

/-! ### Every row -/

/-- Every row leaves the instant inside its tick: the next tick starts at 0, the two messages that may step time land inside a
tick, timers and rows that carry an instant move to one inside the tick, and every other row leaves the clock as it is. -/
theorem inTime_exec (i : Instr) : InTime (exec i s) := by
  cases i with
  | tickBoundary r => exact inTime_run (s := nextTick s) (f := fun s => tickWork r (upsetWords r s)) (by decide : 0 < tickPs)
  | ptpSync p k a => exact inTime_execPtpSync p k a h
  | ptpFollowUp p k a => exact inTime_execPtpFollowUp p k a h
  | timeMsgExpire n => exact inTime_execTimeMsgExpire h n
  | escapeMove n => exact inTime_execEscapeMove h n
  | headDrop n => exact inTime_execHeadDrop h n
  | chunkTimeout coll chunk => exact inTime_execChunkTimeout h coll chunk
  | resultDwellExpiry n => exact inTime_execResultDwellExpiry h n
  | mirrorAckTimeout n => exact inTime_execMirrorAckTimeout h n
  | elsAccessTimeout pos n => exact inTime_execElsAccessTimeout h pos n
  | blockIdleExpiry n => exact inTime_execBlockIdleExpiry h n
  | moveDuplicateTick | moveSwitch | moveAbandon => exact inTime_moveAt h _ _ _ _
  | pdelayMeasure | servoSyncTimeout | ppsMissing | ppsOutPulse | domainLossHold | domainReturnHold | creditStall
  | shaperWheelExpiry | flapHoldExpiry | reseqIdleExpiry | gapTimerExpiry | sourceYoungExpiry | graceEnd | partnerSilent
  | chuteSettleCheck | sessionLeaseExpiry | msixHoldoffExpiry | diStuckExpiry | wdtChallenge | streamSend | streamTimeout =>
    exact inTime_runDue h _ _
  | laneSlotStart | gapSlotStart | recipeResultEntry | ptpDelayResp | ptpAnnounce | ptpPdelayReq | ptpPdelayResp
  | ptpEventForward | ppsPulse | packetArrival | packetTail | slotMarker | cellReceived | cellCreditReceived | egressStart
  | chuteDrive | discreteInputChange
  | read | write | readBlockOpen | readBlockSegment | readBlockClose | writeBlockBegin | writeBlockSegment | writeBlockCommit
  | writeBlockAbort | subscribeEvents | subscribeEntry | subscribeEnd | signedWrite
  | openSession | closeSession | renew | claim | release | handover
  | ttNextDiscard | ttVariantSelect | ttVariantNext | ftActionAdd | ftActionArm | ftActionCancel | ftServoRestart
  | ftDomainSelect | crMissingLogClear | regionCreate | regionRetire | regionRekey | regionReinitialise | fmCheckpointStep
  | fmCheckpointRestore | tbLpmWrite | tbExactWrite | tbNexthopWrite | tbGroupWrite | tbSeedNext | tbSubstitute
  | laneCommandMove | laneCommandReturn | opElsReplacePrepare | chuteLoopSet | chuteLoopClear | behaviourLevelSet | portConfig
  | psRequestActive | psRequestTrim | psRequestRest | hlDiUnmask | hlFaultClear | hlAttnClear | hlCertSubmit | rpPositionFa
  | rpWithdraw | rpResetWarm | rpResetCold | rpBenchReset | rpStreamAccept | rpStreamStart | rpStreamAbort | seFwActivate
  | seRollbackCommit | seOwnerEnrol | seOwnerRevoke | seManagerKeys | seQuorum | seAttestRequest | tmClearFixed | tmClearProg
  | tmLatchNow | tmCaptureRestart | biStrataTestNow =>
    exact ⟨_, rfl, timed_atPs _ h⟩
  | _ => exact ⟨_, rfl, h⟩

end

/-- Settles O6: a step runs the front command or idles, and every row leaves the instant inside its tick. -/
theorem stepKeepsTime : Obligations.StepKeepsTime := by
  intro s t hs ht
  unfold step at ht
  split at ht
  · cases ht; exact hs
  · rename_i c rest _
    obtain ⟨u, hu, hk⟩ := inTime_exec (s := { s with pending := rest }) hs c
    rw [hu] at ht
    cases ht
    exact hk

end Sys2Proof.Machine
end
section
/-! Serial order and the launch stamp (R98, R99). -/
namespace Sys2Proof.Machine
open Sys2Proof

/-! ### Serial order -/

theorem serialAfter_iff (w a b : Nat) :
    serialAfter w a b = true ↔ 0 < serialDist w a b ∧ serialDist w a b < 2 ^ (w - 1) := by
  simp [serialAfter, serialDist]

theorem serialDist_lt (w a b : Nat) : serialDist w a b < 2 ^ w := Nat.mod_lt _ (Nat.two_pow_pos w)

/-- The way forward to a value that is not smaller needs no turn. -/
theorem serialDist_of_le {w a b : Nat} (h : b ≤ a) (ha : a < 2 ^ w) : serialDist w a b = a - b := by
  unfold serialDist
  rw [Nat.mod_eq_of_lt ha, Nat.mod_eq_of_lt (h.trans_lt ha), show a + 2 ^ w - b = a - b + 2 ^ w by omega, Nat.add_mod_right,
    Nat.mod_eq_of_lt (by omega)]

/-- The way forward to a smaller value goes through the turn. -/
theorem serialDist_of_lt {w a b : Nat} (h : a < b) (hb : b < 2 ^ w) : serialDist w a b = a + 2 ^ w - b := by
  unfold serialDist
  rw [Nat.mod_eq_of_lt (h.trans hb), Nat.mod_eq_of_lt hb, Nat.mod_eq_of_lt (by omega)]

theorem serialDist_self {w a : Nat} (ha : a < 2 ^ w) : serialDist w a a = 0 := by
  rw [serialDist_of_le (Nat.le_refl a) ha, Nat.sub_self]

/-- The ways forward between two values that differ make one turn together. -/
theorem serialDist_add {w a b : Nat} (h : a ≠ b) (ha : a < 2 ^ w) (hb : b < 2 ^ w) : serialDist w a b + serialDist w b a = 2 ^ w := by
  obtain h | h := Nat.lt_or_gt_of_ne h
  · rw [serialDist_of_lt h hb, serialDist_of_le h.le hb]; omega
  · rw [serialDist_of_le h.le ha, serialDist_of_lt h ha]; omega

/-- A value that lies `n` further on is `n` away. -/
theorem serialDist_forward {w a n : Nat} (ha : a < 2 ^ w) (hn : n < 2 ^ w) : serialDist w ((a + n) % 2 ^ w) a = n := by
  obtain h | h := Nat.lt_or_ge (a + n) (2 ^ w)
  · rw [Nat.mod_eq_of_lt h, serialDist_of_le (Nat.le_add_right a n) h, Nat.add_sub_cancel_left]
  · have hm : (a + n) % 2 ^ w = a + n - 2 ^ w := by rw [Nat.mod_eq_sub_mod h, Nat.mod_eq_of_lt (by omega)]
    rw [hm, serialDist_of_lt (by omega) ha]; omega

/-- Settles O50: of two values that differ the two ways forward add up to a whole turn, and the shorter one decides. -/
theorem serialOrder : Obligations.SerialOrder := by
  intro w a b hw ha hb
  have half : 2 ^ w = 2 * 2 ^ (w - 1) := by rw [← Nat.pow_succ', Nat.succ_eq_add_one, Nat.sub_add_cancel hw]
  have turn : a ≠ b → serialDist w a b + serialDist w b a = 2 ^ w := fun h => serialDist_add h ha hb
  have self : a = b → serialDist w a b = 0 := fun h => by rw [h, serialDist_self hb]
  have pos : 0 < 2 ^ (w - 1) := Nat.two_pow_pos _
  simp only [← Bool.not_eq_true, serialAfter_iff]
  refine ⟨fun h => ?_, fun h k => ?_, fun k => ?_, fun n h0 hn => ?_, ?_⟩
  · have := turn fun e => by have := self e; omega
    omega
  · have := turn h
    have := serialDist_lt w a b
    have := serialDist_lt w b a
    omega
  · have := turn fun e => by have := self e; omega
    omega
  · rw [serialDist_forward ha (by omega)]
    exact ⟨h0, hn⟩
  · rw [serialDist_self ha]; omega

/-! ### The launch stamp -/

/-- Settles O51: the difference of stamp and fabric time modulo 2^32, read as a signed number, is the way to the launch instant. -/
theorem launchUnwrap : Obligations.LaunchUnwrap := by
  intro ns stamp hs
  unfold unwrapLaunch
  dsimp only
  refine ⟨by norm_num, ?_, fun x hx h1 h2 => ?_⟩
  · split <;> omega
  · split <;> omega

end Sys2Proof.Machine
end
section
/-! LAUNCH messages (R94 to R97). -/
namespace Sys2Proof.Machine
open Sys2Proof

/-- A fold of steps that keep a property has it at the end, where the step of one element gives it. -/
theorem foldl_reaches {α β : Type} {P : β → Prop} {f : β → α → β} (keep : ∀ s x, P s → P (f s x)) {a : α} (gives : ∀ s, P (f s a))
    {l : List α} (h : a ∈ l) (s : β) : P (l.foldl f s) := by
  induction l generalizing s with
  | nil => exact absurd h List.not_mem_nil
  | cons b l ih =>
    obtain rfl | h := List.mem_cons.1 h
    · exact List.foldlRecOn l f (gives s) fun t ht x _ => keep t x ht
    · exact ih h _

/-! ### The entries -/

theorem actStateOf_setAct (n m : Nat) (a : ActEntry) (s : State) :
    actStateOf (setAct m a s) n = if n = m then some a.state else actStateOf s n := by
  unfold actStateOf setAct
  split
  · rename_i h; subst h; rw [get?_set_self]; rfl
  · rename_i h; rw [get?_set_ne _ _ h]

theorem actStateOf_actEnd (n m : Nat) (a : ActEntry) (st : ActSt) (s : State) :
    actStateOf (actEnd m a st s) n = if n = m then some st else actStateOf s n := by
  rw [← actStateOf_setAct n m { a with state := st } s]
  unfold actStateOf actEnd actEndWith
  dsimp only
  rw [raise_ft]

section
variable {ms : List (Nat × ActEntry)} {m : Nat × ActEntry} (hm : m ∈ ms)
include hm

/-- An ARM that is carried out leaves every PENDING entry it names ARMED. -/
theorem launchApply_armed (i fa : Nat) (hp : m.2.state = .pending) (s : State) :
    actStateOf (launchApply true i fa ms s) m.1 = some .armed := by
  refine foldl_reaches (P := fun s => actStateOf s m.1 = some .armed) (fun s x hs => ?_) (fun s => ?_) hm s
  · dsimp only
    rw [if_pos rfl]
    split
    · rw [actStateOf_setAct, hs, ite_self]
    · exact hs
  · dsimp only
    rw [if_pos rfl, if_pos hp, actStateOf_setAct, if_pos rfl]

/-- A CANCEL that is carried out leaves every PENDING or ARMED entry it names CANCELLED. -/
theorem launchApply_cancelled (i fa : Nat) (hp : m.2.state = .pending ∨ m.2.state = .armed) (s : State) :
    actStateOf (launchApply false i fa ms s) m.1 = some .cancelled := by
  refine foldl_reaches (P := fun s => actStateOf s m.1 = some .cancelled) (fun s x hs => ?_) (fun s => ?_) hm s
  · dsimp only
    rw [if_neg Bool.false_ne_true]
    split
    · rw [actStateOf_actEnd, hs, ite_self]
    · exact hs
  · dsimp only
    rw [if_neg Bool.false_ne_true, if_pos (by simpa using hp), actStateOf_actEnd, if_pos rfl]

/-- A message in time that names an entry it can act on is carried out. -/
theorem launchStatus_of_mem {arm : Bool} {t l : Nat} (ht : t + (if arm then 256 else 64) ≤ l) (ha : arm = true → m.2.state ≠ .cancelled) :
    launchStatus arm t l ms = 0 := by
  have hc : (arm && ms.all fun m => m.2.state == .cancelled) = false := by
    rw [Bool.and_eq_false_imp]
    intro h
    rw [List.all_eq_false]
    exact ⟨m, hm, by simpa using ha h⟩
  unfold launchStatus
  rw [if_neg (by simpa using List.ne_nil_of_mem hm), if_neg (Nat.not_lt.2 ht), hc, if_neg Bool.false_ne_true]

theorem launchJudge_of_mem {arm : Bool} {l : Nat} {s : State} (i fa : Nat) (ht : s.clk.tick + (if arm then 256 else 64) ≤ l)
    (ha : arm = true → m.2.state ≠ .cancelled) : launchJudge arm l i fa ms s = (launchApply arm i fa ms s, 0) := by
  unfold launchJudge
  rw [launchStatus_of_mem hm ht ha]
  rfl

end

/-! ### The message -/

/-- The message is of its kind, whole, and for the part. -/
def LaunchTaken (arm : Bool) (k : Packet) (s : State) : Prop :=
  dpLive s = true ∧ pkOp k = Op.LAUNCH ∧ beAt (pkBody k) 0 1 = (if arm then 1 else 3) ∧ pkCrcOk k = true
    ∧ (pkM k = true ∨ pkDest k = posFa s)

/-- Sources of launches: an empty list takes them all. -/
def launchSources (s : State) : List Nat := (tabList s E.FT_LAUNCH_SOURCES 4).map fun r => beNat r % 2 ^ 24

/-- The entries that a message names: those of its launch tick, job and code that require arming. -/
def launchNamed (k : Packet) (s : State) : List (Nat × ActEntry) :=
  s.ft.acts.filter fun x => x.2.record.fire == beAt (pkBody k) 8 8 && x.2.record.job == beAt (pkBody k) 0x10 2
    && x.2.record.code == beAt (pkBody k) 0x12 2 && x.2.record.arm

section
variable {arm : Bool} {k : Packet} {s : State} (ht : LaunchTaken arm k s)
include ht

/-- A message from a source that is not listed is counted as refused, and does nothing else. -/
theorem launchMessage_refused (p : Nat) (hs : ¬ (launchSources s = [] ∨ pkSrc k ∈ launchSources s)) :
    launchMessage arm p k s = count E.FT_LAUNCH_REFUSED 1 s := by
  obtain ⟨hd, ho, hk, hc, hf⟩ := ht
  unfold launchMessage
  dsimp only
  rw [if_neg (by simpa [hd, ho, hk, hc, or_iff_not_imp_left] using hf), if_pos]
  simpa [launchSources] using hs

/-- A message from a source that is taken leaves the entries as their judgement does: its answer changes none. -/
theorem launchMessage_acts (p : Nat) (hs : launchSources s = [] ∨ pkSrc k ∈ launchSources s) :
    (launchMessage arm p k s).ft.acts
      = (launchJudge arm (beAt (pkBody k) 8 8) (beAt (pkBody k) 4 4) (pkSrc k) (launchNamed k s) s).1.ft.acts := by
  obtain ⟨hd, ho, hk, hc, hf⟩ := ht
  unfold launchMessage
  dsimp only
  rw [if_neg (by simpa [hd, ho, hk, hc, or_iff_not_imp_left] using hf), if_neg]
  · exact of_timeRest_acts (timeRest_answerBy _ _ _)
  · simpa [launchSources, or_iff_not_imp_left] using hs

end

theorem actStateOf_of_acts {s t : State} (h : t.ft.acts = s.ft.acts) (n : Nat) : actStateOf t n = actStateOf s n := by
  unfold actStateOf; rw [h]

section
variable {k : Packet} {n : Nat} {a : ActEntry} {s : State} (hg : SMap.get? s.ft.acts n = some a)
  (hn : a.record.fire = beAt (pkBody k) 8 8 ∧ a.record.job = beAt (pkBody k) 0x10 2 ∧ a.record.code = beAt (pkBody k) 0x12 2
    ∧ a.record.arm = true)
include hg hn

theorem mem_launchNamed : (n, a) ∈ launchNamed k s := by
  obtain ⟨h1, h2, h3, h4⟩ := hn
  exact List.mem_filter.2 ⟨mem_of_get? hg, by simp [h1, h2, h3, h4]⟩

theorem launchArm_armed (p : Nat) (ht : LaunchTaken true k s) (hs : launchSources s = [] ∨ pkSrc k ∈ launchSources s)
    (hp : a.state = .pending) (hl : s.clk.tick + 256 ≤ beAt (pkBody k) 8 8) :
    actStateOf (launchMessage true p k s) n = some .armed := by
  have hm := mem_launchNamed hg hn
  rw [actStateOf_of_acts (launchMessage_acts ht p hs), launchJudge_of_mem hm _ _ hl fun _ => by rw [hp]; decide]
  exact launchApply_armed hm _ _ hp s

theorem launchCancel_cancelled (p : Nat) (ht : LaunchTaken false k s) (hs : launchSources s = [] ∨ pkSrc k ∈ launchSources s)
    (hp : a.state = .pending ∨ a.state = .armed) (hl : s.clk.tick + 64 ≤ beAt (pkBody k) 8 8) :
    actStateOf (launchMessage false p k s) n = some .cancelled := by
  have hm := mem_launchNamed hg hn
  rw [actStateOf_of_acts (launchMessage_acts ht p hs), launchJudge_of_mem (arm := false) hm _ _ hl fun h => absurd h Bool.false_ne_true]
  exact launchApply_cancelled hm _ _ hp s

end

/-- Settles O13: the entries a message names hold the state it gives them whatever else it names, and its answer changes none. -/
theorem launchMessages : Obligations.LaunchMessages := by
  refine ⟨fun p k n a s ht hf hg hn hp hl => ?_, fun p k n a s ht hf hg hn hp hl => ?_, fun p k s ht hf => ?_⟩
  · exact ⟨_, Eq.refl (execLaunchArm p k s), launchArm_armed (s := fromInbox p k (start s)) hg hn p ht hf hp hl⟩
  · exact ⟨_, Eq.refl (execLaunchCancel p k s), launchCancel_cancelled (s := fromInbox p k (start s)) hg hn p ht hf hp hl⟩
  · refine ⟨_, Eq.refl (execLaunchArm p k s), ?_⟩
    dsimp only
    rw [launchMessage_refused (arm := true) (k := k) (s := fromInbox p k (start s)) ht p hf]
    exact ⟨rfl, getNum_count_self _ _ _⟩

end Sys2Proof.Machine
end
section
/-! The timers of the servos, the pulses, the domain holds and the slew (R81, R84 to R87). -/
namespace Sys2Proof.Machine
open Sys2Proof

theorem servoOf_settle (s t : State) (d : Nat) : servoOf (settle s t) d = servoOf t d := rfl

/-! ### Servos (R81) -/

theorem servoSyncTimeout_answers (d : Domain) (s : State) (hl : servoLocked s d = true)
    (hd : due (((servoOf s d).sampleTick + ftNum s d 0x0B 1024) * tickPs) s = true) :
    Answers (.servoSyncTimeout d) s fun t => (servoOf t d).state = .holdover :=
  answers_due (Eq.refl (execServoSyncTimeout d s)) (if_pos hl) hd (servoGo_state d .holdover _)

/-! ### Pulses (R84, R85) -/

/-- How far a pulse lies from the whole second that PTP gives, in 2^-16 ns. -/
def ppsOffset (d frac : Nat) (ptp : Int) (s : State) : Int :=
  ((now16 s : Int) + (frac % 66 : Nat) - toSigned 32 (ftNum s d 0x05 0) + origin16 s - ptp + ns16 1000000000 / 2).emod (ns16 1000000000)
    - ns16 1000000000 / 2

/-- What a pulse does whose domain uses pulses and has a second by PTP. -/
def ppsTake (d frac : Nat) (ptp : Int) (s : State) : State :=
  if absInt (ppsOffset d frac ptp s) > ns16 100 then count E.FT_PPS_REJECTS 1 s
  else setServo d (fun v => { v with ppsAt := some (now s), ppsPhase := some (ptp + ppsOffset d frac ptp s), ppsLost := false }) s

theorem exec_ppsPulse {d : Domain} {a : At} {frac : Nat} {ptp : Int} {s : State} (hp : s.hl.power ≠ .off) (hu : ftPps s d = true)
    (he : ftEnabled s d = true) (hq : (servoOf s d).ptp = some ptp) :
    exec (.ppsPulse d a frac) s = .next (settle (atPs a s) (ppsTake d frac ptp (start (atPs a s)))) := by
  have hc : ¬ (decide ((start (atPs a s)).hl.power = .off) || !ftPps (start (atPs a s)) d || !ftEnabled (start (atPs a s)) d) = true := by
    have hu' : ftPps (start (atPs a s)) d = true := hu
    have he' : ftEnabled (start (atPs a s)) d = true := he
    simp [hp, hu', he']
  have hq' : (servoOf (start (atPs a s)) d).ptp = some ptp := hq
  refine (Eq.refl (execPpsPulse d a frac s)).trans ?_
  unfold execPpsPulse runAt run
  dsimp only
  rw [if_neg hc, hq']
  rfl

theorem ppsPulse_answers (d : Domain) (a : At) (frac : Nat) (ptp : Int) (s : State) (hp : s.hl.power ≠ .off) (hu : ftPps s d = true)
    (he : ftEnabled s d = true) (hq : (servoOf s d).ptp = some ptp) :
    Answers (.ppsPulse d a frac) s fun t =>
      let v := servoOf s d
      let sec := ns16 1000000000
      let at' := (now16 (atPs a s) : Int) + (frac % 66 : Nat) - toSigned 32 (ftNum s d 0x05 0) + origin16 s
      let off := (at' - ptp + sec / 2).emod sec - sec / 2
      if absInt off > ns16 100 then servoOf t d = v ∧ getNum t E.FT_PPS_REJECTS 0 = (getNum s E.FT_PPS_REJECTS 0 + 1) % 2 ^ 64
      else servoOf t d = { v with ppsAt := some (now (atPs a s)), ppsPhase := some (ptp + off), ppsLost := false } := by
  refine ⟨_, exec_ppsPulse hp hu he hq, ?_⟩
  unfold ppsTake
  by_cases h : absInt (ppsOffset d frac ptp (start (atPs a s))) > ns16 100
  · rw [if_pos h]
    exact (iff_of_eq (if_pos h)).2 ⟨rfl, getNum_count_self _ _ _⟩
  · rw [if_neg h]
    exact (iff_of_eq (if_neg h)).2 (servoOf_setServo _ _ _)

theorem ppsMissing_answers (d : Domain) (s : State) (hp : s.hl.power ≠ .off) (hu : ftPps s d = true) (he : ftEnabled s d = true)
    (hl : (servoOf s d).ppsLost = false) (hd : due ((servoOf s d).ppsAt.getD 0 + 2 * 10 ^ 12) s = true) :
    Answers (.ppsMissing d) s fun t => servoOf t d = { servoOf s d with ppsLost := true, ppsPhase := none } := by
  refine answers_due (Eq.refl (execPpsMissing d s)) (if_pos (by simp [hu, he, hl, hp])) hd ?_
  rw [servoOf_settle, servoOf_raise]
  exact servoOf_setServo _ _ _

theorem ppsOutPulse_answers (n : Nat) (s : State) (hp : s.hl.power ≠ .off) (hr : ppsRise s = some n) (he : s.hl.ppsOutEnd < n + ppsWidth)
    (hd : due n s = true) : Answers .ppsOutPulse s fun t => t.out = [.pin 5 true] ∧ t.hl.ppsOutEnd = n + ppsWidth := by
  have ho : (if s.hl.power = .off then none else (ppsRise s).filter fun t => s.hl.ppsOutEnd < t + ppsWidth) = some n := by
    rw [if_neg hp, hr]; simp [he]
  have hr' : ppsRise (start (atPs (n - s.clk.tick * tickPs) s)) = some n := hr
  refine answers_due (Eq.refl (execPpsOutPulse s)) ho hd ?_
  dsimp only
  rw [hr']
  exact ⟨rfl, rfl⟩

/-! ### Domain holds (R86) -/

theorem domainLossHold_answers (d : Domain) (n : Nat) (s : State) (hp : (preferred s).isSome = true) (hg : s.ft.gen ≠ .free)
    (hs : selectedDomain s = d.val) (hl : servoLocked s (1 - d.val) = true) (hn : (servoOf s d).lostSince = some n)
    (hd : due ((n + Cfg.FT_LOSS_HOLD_TICKS s) * tickPs) s = true) :
    Answers (.domainLossHold d) s fun t => t.ft.switchTo = if (1 - d.val) = s.ft.active then none else some (1 - d.val) := by
  refine answers_due (Eq.refl (execDomainLossHold d s)) ?_ hd rfl
  rw [if_pos (by simp [hp, hg, hs, hl]), hn]
  rfl

theorem domainReturnHold_answers (d : Domain) (n : Nat) (s : State) (hp : preferred s = some d.val) (hg : s.ft.gen ≠ .free)
    (hs : selectedDomain s ≠ d.val) (hn : (servoOf s d).lockedSince = some n)
    (hd : due ((n + Cfg.FT_RETURN_HOLD_FRAMES s * 1024) * tickPs) s = true) :
    Answers (.domainReturnHold d) s fun t => t.ft.switchTo = if d.val = s.ft.active then none else some d.val := by
  refine answers_due (Eq.refl (execDomainReturnHold d s)) ?_ hd rfl
  rw [if_pos (by simp [hp, hg, hs]), hn]
  rfl

/-! ### The end of a slew (R87) -/

/-- A generator that follows goes on while a servo is LOCKED, and else holds its frequency. -/
theorem genJudge_following {s : State} (h : s.ft.gen = .following) :
    (genJudge s).ft.gen = if servoLocked s 0 || servoLocked s 1 then .following else .holdover := by
  unfold genJudge
  dsimp only
  rw [h]
  cases servoLocked s 0 <;> cases servoLocked s 1 <;> simp [h, setGen]

theorem slewDone_answers (s : State) (hg : s.ft.gen = .slewing) (hs : s.ft.slew = 0) :
    Answers .slewDone s fun t => t.ft.gen = if servoLocked s 0 || servoLocked s 1 then .following else .holdover := by
  have hc : (decide ((start s).ft.gen = .slewing) && decide ((start s).ft.slew = 0)) = true := by simp [hg, hs]
  have hf : (raise Ev.FT_SLEW_DONE [] (setGen .following (start s))).ft.gen = .following := by rw [raise_ft]; rfl
  have hl : ∀ d, servoLocked (raise Ev.FT_SLEW_DONE [] (setGen .following (start s))) d = servoLocked s d := fun d => by
    unfold servoLocked; rw [servoOf_raise]; rfl
  refine ⟨_, Eq.refl (execSlewDone s), ?_⟩
  dsimp only
  rw [if_pos hc, settle_ft, genJudge_following hf, hl, hl]

/-- Settles O15: one theorem per row. That the 2 s before the first pulse run from fabric time 0, and that a rejected pulse does not
start them anew, is the model's choice (log 30). -/
theorem servoTimers : Obligations.ServoTimers :=
  ⟨servoSyncTimeout_answers, ppsPulse_answers, ppsMissing_answers, ppsOutPulse_answers, domainLossHold_answers,
    domainReturnHold_answers, slewDone_answers⟩

end Sys2Proof.Machine
end
section
/-! PTP messages for the part (R72 to R81). -/
namespace Sys2Proof.Machine
open Sys2Proof

/-! ### A sample keeps the exchange that waits for its delay (R80) -/

/-- The servo of `d` holds the instants `x` of its Sync, and the generator has had its step. -/
def Exchanged (d : Nat) (x : Option (Int × Int)) (s : State) : Prop := (servoOf s d).t12 = x ∧ s.ft.gen ≠ .free

section
variable {d : Nat} {x : Option (Int × Int)} {s : State} (h : Exchanged d x s)
include h

theorem exchanged_setServo (f : Servo → Servo) (hf : ∀ v, (f v).t12 = v.t12) : Exchanged d x (setServo d f s) :=
  ⟨by rw [servoOf_setServo, hf]; exact h.1, by rw [setServo_gen]; exact h.2⟩

theorem exchanged_servoGo (n : ServoSt) : Exchanged d x (servoGo d n s) := by
  refine ⟨Eq.trans ?_ h.1, fun e => h.2 ((servoGo_free d n s).1 e)⟩
  unfold servoGo; dsimp only
  split
  · rfl
  · rw [servoOf_genJudge, servoOf_raise, servoOf_setServo]

theorem exchanged_lockJudge : Exchanged d x (lockJudge d s) := by
  unfold lockJudge; dsimp only
  split
  · generalize (if absInt (servoOf s d).last ≤ ftLock s d then (servoOf s d).good + 1 else 0) = g
    have h1 := exchanged_setServo h (fun v => { v with good := g }) fun _ => rfl
    split
    · have h2 := exchanged_servoGo h1 .locked
      rw [firstLock_eq _ _ h2.2]
      exact h2
    · exact h1
  · generalize (if absInt (servoOf s d).last > 2 * ftLock s d then (servoOf s d).bad + 1 else 0) = g
    have h1 := exchanged_setServo h (fun v => { v with bad := g }) fun _ => rfl
    split
    · exact exchanged_servoGo h1 _
    · exact h1
  · exact h

omit h in
theorem exchanged_ite {c : Prop} [Decidable c] {a b : State} (ha : Exchanged d x a) (hb : Exchanged d x b) :
    Exchanged d x (if c then a else b) := by
  split
  · exact ha
  · exact hb

theorem alignJudge_t12 : (servoOf (alignJudge d s) d).t12 = x := by
  unfold alignJudge; dsimp only
  split
  · exact h.1
  · split
    · split
      · rw [servoOf_raise, servoOf_count, servoOf_setServo]; exact h.1
      · rw [servoOf_setServo]; exact h.1
    · rw [servoOf_setServo]; exact h.1

theorem sample_t12 (raw : Int) : (servoOf (sample d raw s) d).t12 = x := by
  unfold sample; dsimp only
  split
  · exact h.1
  have h0 := exchanged_setServo h (fun v => { v with ring := (raw :: (servoOf s d).ring).take 3 }) fun _ => rfl
  generalize setServo d (fun v => { v with ring := (raw :: (servoOf s d).ring).take 3 }) s = s0 at h0 ⊢
  split
  · have h1 := exchanged_setServo h0 (fun v => { v with outliers := v.outliers + 1 }) fun _ => rfl
    split
    · exact (exchanged_servoGo h1 _).1
    · exact h1.1
  rw [splitJudge_servo]
  refine alignJudge_t12 (exchanged_lockJudge ?_)
  generalize hu : setServo d (fun v => _) s0 = s1
  have h1 : Exchanged d x s1 := by rw [← hu]; exact exchanged_setServo h0 _ fun _ => rfl
  generalize hw : (if d = s1.ft.active && s1.ft.gen == .following then _ else s1) = s2
  have h2 : Exchanged d x s2 := by rw [← hw]; exact exchanged_ite h1 h1
  split
  · exact exchanged_servoGo h2 _
  · exact exchanged_ite (exchanged_servoGo h2 _) h2
  · exact h2

end

/-! ### Sync and its offset (R80) -/

section
variable {d : Nat} {s : State}

theorem syncSample_peer (p : Nat) (k : Packet) (t1 t2 : Int) (hp : ptpPeer s d = true) :
    syncSample d p k t1 t2 s = ptpSample d (t2 - t1 - (pdelayOf s p).mean) s := by
  simp only [syncSample, pathDelay, hp, if_true]

theorem syncSample_ring (p : Nat) (k : Packet) (t1 t2 : Int) (hp : ptpPeer s d = true) (hs : (servoOf s d).state ≠ .disabled)
    (hg : s.ft.gen ≠ .free) : (servoOf (syncSample d p k t1 t2 s) d).ring
      = (samplePhase d (t2 - t1 - (pdelayOf s p).mean) s :: (servoOf s d).ring).take 3 := by
  rw [syncSample_peer p k t1 t2 hp, ptpSample, sample_ring d _ _ (by rw [servoOf_setServo]; exact hs) (by rw [setServo_gen]; exact hg),
    servoOf_setServo]

theorem ptpSample_t12 {x : Option (Int × Int)} (h : Exchanged d x s) (raw : Int) : (servoOf (ptpSample d raw s) d).t12 = x :=
  sample_t12 (exchanged_setServo h (fun v => { v with ptp := some raw }) fun _ => rfl) _

theorem syncSample_t12 (p : Nat) (k : Packet) (t1 t2 : Int) (hp : ptpPeer s d = false) (hg : s.ft.gen ≠ .free) :
    (servoOf (syncSample d p k t1 t2 s) d).t12 = some (t1, t2) := by
  unfold syncSample
  dsimp only
  rw [hp, if_neg Bool.false_ne_true]
  refine ptpSample_t12 ?_ _
  generalize hu : setServo d _ s = u
  have h : Exchanged d (some (t1, t2)) u := by
    rw [← hu]
    exact ⟨by rw [servoOf_setServo], by rw [setServo_gen]; exact hg⟩
  have hr := timeRest_answerBy (some p)
    (ptpPacket u (pkSrc k) (ptpMessage 1 (ftDomainNo u d) 0 0 (p + 1) ((((servoOf s d).req.map (·.1)).getD 0 + 1) % 65536) (beBytes 10 0))) u
  exact ⟨(congrArg Servo.t12 (of_timeRest_servo d hr)).trans h.1, fun e => h.2 ((of_timeRest_gen hr).symm.trans e)⟩

/-- What an offset of a domain's Sync comes to, in either mechanism. -/
def SyncTaken (d p : Nat) (t1 t2 : Int) (s t : State) : Prop :=
  if ptpPeer s d then (servoOf t d).ring = (samplePhase d (t2 - t1 - (pdelayOf s p).mean) s :: (servoOf s d).ring).take 3
  else (servoOf t d).t12 = some (t1, t2)

theorem syncTaken_syncSample (p : Nat) (k : Packet) (t1 t2 : Int) (hs : (servoOf s d).state ≠ .disabled) (hg : s.ft.gen ≠ .free) :
    SyncTaken d p t1 t2 s (syncSample d p k t1 t2 s) := by
  unfold SyncTaken
  split
  · next hp => exact syncSample_ring p k t1 t2 hp hs hg
  · next hp => exact syncSample_t12 p k t1 t2 (Bool.eq_false_iff.2 hp) hg

end

/-- A Sync that its Follow_Up completes waits no longer. -/
def syncClear (d : Nat) (s : State) : State := setServo d (fun v => { v with sync := none }) s

theorem servoOf_syncClear (d : Nat) (s : State) : servoOf (syncClear d s) d = { servoOf s d with sync := none } := servoOf_setServo _ _ _

theorem samplePhase_syncClear (d : Nat) (raw : Int) (s : State) : samplePhase d raw (syncClear d s) = samplePhase d raw s := by
  have hf : ftPps (syncClear d s) d = ftPps s d := by unfold ftPps ftNum getNum syncClear; rw [setServo_dict]
  unfold samplePhase
  rw [servoOf_syncClear, hf]

theorem syncTaken_syncClear {d p : Nat} {t1 t2 : Int} (s t : State) : SyncTaken d p t1 t2 (syncClear d s) t ↔ SyncTaken d p t1 t2 s t := by
  have hp : ptpPeer (syncClear d s) d = ptpPeer s d := by
    unfold ptpPeer Cfg.FT_DELAY_MECH_A Cfg.FT_DELAY_MECH_B getNum syncClear; rw [setServo_dict]
  have hm : pdelayOf (syncClear d s) p = pdelayOf s p := pdelayOf_setServo _ _ _ s
  unfold SyncTaken
  rw [hp, hm, samplePhase_syncClear, servoOf_syncClear]

theorem ptpSync_held (p : Port) (k : Packet) (a : At) (d : Nat) (s : State) (hf : ptpFrom s k 0 = some d) (hc : ptpClock k = ftGm s d)
    (h2 : ptpTwoStep k = true) :
    Answers (.ptpSync p k a) s fun t =>
      (servoOf t d).sync = some (ptpSeq k, takenStamp (atPs a s) p k + origin16 s - portAsym s p, ptpCorr k) := by
  have hf' : ptpFrom (ptpTake p k (start (atPs a s))) k 0 = some d := hf
  have hc' : (ptpClock k != ftGm (ptpTake p k (start (atPs a s))) d) = false := bne_eq_false_iff_eq.2 hc
  refine ⟨_, Eq.refl (execPtpSync p k a s), ?_⟩
  dsimp only
  rw [hf']
  dsimp only
  rw [hc', if_neg Bool.false_ne_true, if_pos h2]
  exact congrArg Servo.sync (servoOf_setServo _ _ _)

theorem ptpSync_sampled (p : Port) (k : Packet) (a : At) (d : Nat) (s : State) (hf : ptpFrom s k 0 = some d) (hc : ptpClock k = ftGm s d)
    (h2 : ptpTwoStep k = false) (hs : (servoOf s d).state ≠ .disabled) (hg : s.ft.gen ≠ .free) :
    Answers (.ptpSync p k a) s fun t =>
      SyncTaken d p (ptpStamp k + ptpCorr k) (takenStamp (atPs a s) p k + origin16 s - portAsym s p) s t := by
  have hf' : ptpFrom (ptpTake p k (start (atPs a s))) k 0 = some d := hf
  have hc' : (ptpClock k != ftGm (ptpTake p k (start (atPs a s))) d) = false := bne_eq_false_iff_eq.2 hc
  refine ⟨_, Eq.refl (execPtpSync p k a s), ?_⟩
  dsimp only
  rw [hf']
  dsimp only
  rw [hc', if_neg Bool.false_ne_true, h2, if_neg Bool.false_ne_true]
  exact syncTaken_syncSample (s := ptpTake p k (start (atPs a s))) p k _ _ hs hg

theorem ptpFollowUp_sampled (p : Port) (k : Packet) (a : At) (d seq : Nat) (t2 c : Int) (s : State) (hf : ptpFrom s k 8 = some d)
    (hy : (servoOf s d).sync = some (seq, t2, c)) (hc : ptpClock k = ftGm s d) (hq : ptpSeq k = seq) (hs : (servoOf s d).state ≠ .disabled)
    (hg : s.ft.gen ≠ .free) : Answers (.ptpFollowUp p k a) s fun t => SyncTaken d p (ptpStamp k + ptpCorr k + c) t2 s t := by
  have hf' : ptpFrom (fromInbox p k (start (atPs a s))) k 8 = some d := hf
  have hy' : (servoOf (fromInbox p k (start (atPs a s))) d).sync = some (seq, t2, c) := hy
  have hc' : ¬ (ptpClock k != ftGm (fromInbox p k (start (atPs a s))) d || ptpSeq k != seq) = true := by
    have : ptpClock k = ftGm (fromInbox p k (start (atPs a s))) d := hc
    simp [← this, hq]
  refine ⟨_, Eq.refl (execPtpFollowUp p k a s), ?_⟩
  dsimp only
  rw [hf']
  dsimp only
  rw [hy']
  dsimp only
  rw [if_neg hc']
  have ht := syncTaken_syncSample (s := syncClear d (fromInbox p k (start (atPs a s)))) p k (ptpStamp k + ptpCorr k + c) t2
    (by rw [servoOf_syncClear]; exact hs) (by rw [syncClear, setServo_gen]; exact hg)
  rw [syncTaken_syncClear] at ht
  exact ht

/-! ### Delays of the request-response mechanism (R80) and the grandmaster (R81) -/

theorem ptpDelayResp_answers (p : Port) (k : Packet) (a : At) (d seq : Nat) (t1 t2 t3 : Int) (s : State) (hf : ptpFrom s k 9 = some d)
    (hr : (servoOf s d).req = some (seq, t3)) (ht : (servoOf s d).t12 = some (t1, t2)) (hp : ptpPeer s d = false) (hq : ptpSeq k = seq)
    (hc : ptpReqClock k = ownClock) :
    Answers (.ptpDelayResp p k a) s fun t => (servoOf t d).delay = ((t2 - t1) + (ptpStamp k - ptpCorr k - t3)) / 2 := by
  have hf' : ptpFrom (fromInbox p k (start (atPs a s))) k 9 = some d := hf
  have hr' : (servoOf (fromInbox p k (start (atPs a s))) d).req = some (seq, t3) := hr
  have ht' : (servoOf (fromInbox p k (start (atPs a s))) d).t12 = some (t1, t2) := ht
  have hp' : ptpPeer (fromInbox p k (start (atPs a s))) d = false := hp
  refine ⟨_, Eq.refl (execPtpDelayResp p k a s), ?_⟩
  dsimp only
  rw [hf']
  dsimp only
  rw [hr', ht']
  dsimp only
  rw [if_neg (by simp [hp', hq, hc])]
  exact congrArg Servo.delay (servoOf_setServo _ _ _)

theorem ptpAnnounce_answers (p : Port) (k : Packet) (a : At) (d : Nat) (s : State) (hf : ptpFrom s k 11 = some d) (hc : ptpClock k ≠ ftGm s d)
    (hs : (servoOf s d).state ≠ .disabled) : Answers (.ptpAnnounce p k a) s fun t => (servoOf t d).state = .fault := by
  have hf' : ptpFrom (fromInbox p k (start (atPs a s))) k 11 = some d := hf
  have hc' : ¬ (decide (ptpClock k = ftGm (fromInbox p k (start (atPs a s))) d)
      || (servoOf (fromInbox p k (start (atPs a s))) d).state == .disabled) = true := by
    have h1 : ptpClock k ≠ ftGm (fromInbox p k (start (atPs a s))) d := hc
    have h2 : (servoOf (fromInbox p k (start (atPs a s))) d).state ≠ .disabled := hs
    simp [h1, h2]
  refine ⟨_, Eq.refl (execPtpAnnounce p k a s), ?_⟩
  dsimp only
  rw [hf']
  dsimp only
  rw [if_neg hc']
  exact servoGo_state _ _ _

/-! ### Peer delays (R78) -/

theorem pdelayOf_settle (s t : State) (p : Nat) : pdelayOf (settle s t) p = pdelayOf t p := rfl
theorem pdelayOf_withPending (l : List Instr) (s : State) (p : Nat) : pdelayOf { s with pending := l } p = pdelayOf s p := rfl

theorem ptpPdelayResp_answers (p : Port) (k : Packet) (a : At) (d : Nat) (t1 : Int) (s : State) (hf : ptpFrom s k 3 = some d)
    (hp : ptpPeer s d = true) (ht : (pdelayOf s p).sent = some t1) (hq : ptpSeq k = (pdelayOf s p).seq) (hc : ptpReqClock k = ownClock) :
    Answers (.ptpPdelayResp p k a) s fun t =>
      let z := takenStamp (atPs a s) p k + origin16 s - t1 - ptpCorr k
      if ptpTwoStep k then (pdelayOf t p).held = some (ptpSeq k, z + ptpStamp k) else (pdelayOf t p).mean = z / 2 := by
  have hf' : ptpFrom (ptpTake p k (start (atPs a s))) k 3 = some d := hf
  have ht' : (pdelayOf (ptpTake p k (start (atPs a s))) p).sent = some t1 := ht
  have hc' : ¬ (!ptpPeer (ptpTake p k (start (atPs a s))) d || ptpSeq k != (pdelayOf (ptpTake p k (start (atPs a s))) p).seq
      || ptpReqClock k != ownClock) = true := by
    have h1 : ptpPeer (ptpTake p k (start (atPs a s))) d = true := hp
    have h2 : ptpSeq k = (pdelayOf (ptpTake p k (start (atPs a s))) p).seq := hq
    simp [h1, ← h2, hc]
  refine ⟨_, Eq.refl (execPtpPdelayResp p k a s), ?_⟩
  dsimp only
  rw [hf', ht']
  dsimp only
  rw [if_neg hc']
  split
  · rw [hq, pdelayOf_settle, pdelayOf_setPdelay]
    rfl
  · rw [pdelayOf_settle, pdelayOf_setPdelay]
    rfl

theorem ptpFollowUp_delay (p : Port) (k : Packet) (d seq : Nat) (z : Int) (a : At) (s : State) (h8 : ptpFrom s k 8 = none)
    (hf : ptpFrom s k 10 = some d) (hh : (pdelayOf s p).held = some (seq, z)) (hq : ptpSeq k = seq) :
    Answers (.ptpFollowUp p k a) s fun t => (pdelayOf t p).mean = (z - ptpStamp k - ptpCorr k) / 2 ∧ (pdelayOf t p).held = none := by
  have h8' : ptpFrom (fromInbox p k (start (atPs a s))) k 8 = none := h8
  have hf' : ptpFrom (fromInbox p k (start (atPs a s))) k 10 = some d := hf
  have hh' : (pdelayOf (fromInbox p k (start (atPs a s))) p).held = some (seq, z) := hh
  refine ⟨_, Eq.refl (execPtpFollowUp p k a s), ?_⟩
  dsimp only
  rw [h8', hf']
  dsimp only
  rw [hh']
  dsimp only
  rw [if_neg (by simp [hq])]
  rw [pdelayOf_withPending, pdelayOf_setPdelay]
  exact ⟨rfl, rfl⟩

theorem mcSend_waits {p : Nat} {k : Packet} {s : State} (hr : s.hl.power ≠ .rest) (hc : portCell s p = false) :
    Waits (mcSend p k s) p Vc.MC k := by
  unfold mcSend
  rw [if_neg hr]
  exact waits_originate (by rw [hc, Bool.false_and])

theorem ptpPdelayReq_answers (p : Port) (k : Packet) (a : At) (d : Nat) (s : State) (hf : ptpFrom s k 2 = some d) (hp : ptpPeer s d = true)
    (hr : s.hl.power ≠ .rest) (hc : portCell s p = false) :
    Answers (.ptpPdelayReq p k a) s fun t => Waits t p Vc.MC (ptpPacket (atPs a s) (pkSrc k)
      (ptpMessage 3 (ftDomainNo s d) 0 (ptpCorr k - (takenStamp (atPs a s) p k + origin16 s)) (p + 1) (ptpSeq k)
        (beBytes 10 0 ++ beBytes 8 (ptpClock k) ++ beBytes 2 (ptpPortNo k)))) := by
  have hf' : ptpFrom (ptpTake p k (start (atPs a s))) k 2 = some d := hf
  have hp' : ¬ (!ptpPeer (ptpTake p k (start (atPs a s))) d) = true := by
    have h : ptpPeer (ptpTake p k (start (atPs a s))) d = true := hp
    simp [h]
  refine ⟨_, Eq.refl (execPtpPdelayReq p k a s), ?_⟩
  dsimp only
  rw [hf']
  dsimp only
  rw [if_neg hp']
  exact mcSend_waits (s := ptpTake p k (start (atPs a s))) hr hc

/-- A timer that is due runs at its end, or now where that has passed. -/
theorem now_atPs_due {n : Nat} {s : State} (h : due n s = true) : max n (now (atPs (n - s.clk.tick * tickPs) s)) = max n (now s) := by
  have h' : n < (s.clk.tick + 1) * tickPs := of_decide_eq_true h
  unfold now atPs tickPs at *
  dsimp only
  omega

theorem pdelayMeasure_answers (p : Port) (d : Nat) (s : State) (ho : s.hl.power ≠ .off) (hp : peerDomain s = some d)
    (he : egressLanes s p ≠ []) (hd : due (pdelayOf s p).nextAt s = true) :
    Answers (.pdelayMeasure p) s fun t => (pdelayOf t p).seq = ((pdelayOf s p).seq + 1) % 65536
      ∧ (pdelayOf t p).nextAt = max (pdelayOf s p).nextAt (now s) + pdelayPs s := by
  have hn := now_atPs_due hd
  refine answers_due (Eq.refl (execPdelayMeasure p s)) (if_pos (by simp [ho, hp, he])) hd ?_
  generalize ha : (pdelayOf s p).nextAt - s.clk.tick * tickPs = a at hn
  have hp' : peerDomain (start (atPs a s)) = some d := hp
  dsimp only
  rw [hp']
  dsimp only
  generalize hu : setPdelay p _ (start (atPs a s)) = u
  have h : pdelayOf u p = { pdelayOf s p with
      seq := ((pdelayOf s p).seq + 1) % 65536, sent := none, held := none
      nextAt := max (pdelayOf s p).nextAt (now (atPs a s)) + pdelayPs s } := by
    rw [← hu]; exact pdelayOf_setPdelay _ _ _
  generalize ptpPacket u _ _ = k
  have hm : sentless (pdelayOf (mcSend p k u) p) = sentless (pdelayOf u p) := sentless_mcSend p k u
  rw [h, hn] at hm
  exact ⟨congrArg Pdelay.seq hm, congrArg Pdelay.nextAt hm⟩

/-- Settles O14: one theorem per row and mechanism. The bytes of the answer to a Pdelay_Req are those of IEEE 1588 (log 7, presumed), its
stamps those of the model's ingress (log 11), and the clock that a response names the part's own (log 53). -/
theorem timeMessages : Obligations.TimeMessages :=
  ⟨ptpSync_held, ptpSync_sampled, ptpFollowUp_sampled, ptpDelayResp_answers, ptpAnnounce_answers, ptpPdelayResp_answers, ptpFollowUp_delay,
    ptpPdelayReq_answers, pdelayMeasure_answers⟩

end Sys2Proof.Machine
end
section
/-! What the passing of a packet leaves of the datapath: the packets queued and drawn, the ports, and which of the open packets
stay (R126, R149, R155, R158). -/
namespace Sys2Proof.Machine
open Sys2Proof

/-! ### The datapath without its notes

A packet that is drawn, sent or dropped moves notes about lanes, crossings, copies and order states; the queues, the draws and the
ports move only where an operation says so. -/

/-- The datapath without the notes that passing packets leave. -/
def held (s : State) : DpState :=
  { s.dp with orders := [], wire := [], cut := [], mcast := [], idle := [], turn := [], busy := [], cross := [], crossed := [] }

/-- The same without the open queue. -/
def parked (s : State) : DpState := { held s with openq := [] }

theorem held_of_dp {s t : State} (h : t.dp = s.dp) : held t = held s := by unfold held; rw [h]
theorem held_of_quiet {s t : State} (h : quiet t = quiet s) : held t = held s := held_of_dp (of_quiet_dp h)
theorem parked_of_held {s t : State} (h : held t = held s) : parked t = parked s := by unfold parked; rw [h]

section
variable {s t : State} (h : held t = held s)
include h
theorem of_held_sc : t.dp.sc = s.dp.sc := (congrArg DpState.sc h :)
theorem of_held_openq : t.dp.openq = s.dp.openq := (congrArg DpState.openq h :)
theorem of_held_drawn : t.dp.drawn = s.dp.drawn := (congrArg DpState.drawn h :)
theorem of_held_ports : t.dp.ports = s.dp.ports := (congrArg DpState.ports h :)
end

section
variable {s t : State} (h : parked t = parked s)
include h
theorem of_parked_sc : t.dp.sc = s.dp.sc := (congrArg DpState.sc h :)
theorem of_parked_ports : t.dp.ports = s.dp.ports := (congrArg DpState.ports h :)
end

theorem held_foldl {α : Type} {f : State → α → State} (h : ∀ s a, held (f s a) = held s) (l : List α) (s : State) :
    held (l.foldl f s) = held s := foldl_keeps held f h l s

theorem held_mcastReport (i : Nat) (s : State) : held (mcastReport i s) = held s := by
  unfold mcastReport
  split
  · rfl
  · exact (held_of_quiet (quiet_raiseOnce _ _ _ _)).trans rfl

theorem held_packetDone (i : Nat) (s : State) : held (packetDone i s) = held s := by
  unfold packetDone; dsimp only
  split
  · rfl
  · exact (rfl : _ = held (mcastReport i s)).trans (held_mcastReport i s)

theorem held_mcastLoss (i k q : Nat) (ps : List Nat) (s : State) : held (mcastLoss i k q ps s) = held s := by
  unfold mcastLoss
  split
  · rfl
  · exact (rfl : _ = held (ps.foldl (fun s p => tally E.DP_MCAST_COPY_DROPS (benchOf p) 44 1 {} s) s)).trans
      (held_foldl (fun s _ => held_of_quiet (quiet_tally _ _ _ _ _ s)) ps s)

theorem held_freeCredit (p l v : Nat) (k : Packet) (s : State) : held (freeCredit p l v k s) = held s := by
  unfold freeCredit
  split
  · rfl
  · rfl

theorem held_busyAdd (k n c : Nat) (s : State) : held (busyAdd k n c s) = held s := rfl
theorem held_orderIdle (f : Nat) (s : State) : held (orderIdle f s) = held s := rfl

theorem held_capDrop (i c : Nat) (s : State) : held (capDrop i c s) = held s := held_of_dp (capDrop_dp i c s)

theorem capStage_dp (r : Bytes) (s : State) : (capStage r s).dp = s.dp :=
  only_capStage (l := [.captures]) r s (by decide) .queues (by decide)

theorem held_capSent (i : Nat) (o : CapOut) (s : State) : held (capSent i o s) = held s := by
  unfold capSent
  exact held_foldl (fun s _ => held_of_dp (capStage_dp _ s)) _ s

theorem held_occCycles (base e b n : Nat) (sc : Bool) (s : State) : held (occCycles base e b n sc s) = held s := by
  unfold occCycles; dsimp only
  rw [held_busyAdd]
  split
  · exact (held_of_quiet (quiet_occ _ _ _ _ _)).trans (held_of_quiet (quiet_occ _ _ _ _ s))
  · exact held_of_quiet (quiet_occ _ _ _ _ s)

theorem held_crossAdd (a b n i : Nat) (sc : Bool) (s : State) : held (crossAdd a b n i sc s) = held s := by
  unfold crossAdd
  split
  · rfl
  · dsimp only
    split
    · exact (held_occCycles _ _ _ _ _ _).trans ((held_occCycles _ _ _ _ _ _).trans rfl)
    · exact (held_busyAdd _ _ _ _).trans ((held_occCycles _ _ _ _ _ _).trans ((held_occCycles _ _ _ _ _ _).trans rfl))

theorem held_crossOnce (id a b n i : Nat) (sc : Bool) (s : State) : held (crossOnce id a b n i sc s) = held s := by
  unfold crossOnce
  split
  · rfl
  · exact (held_crossAdd _ _ _ _ _ _).trans rfl

theorem held_emitOn (p l : Nat) (k : Packet) (s : State) : held (emitOn p l k s) = held s := by
  unfold emitOn; dsimp only
  split
  · rfl
  · rfl

theorem held_slotUsed (p l e : Nat) (s : State) : held (slotUsed p l e s) = held s := by
  have hs : ∀ t : State, quiet t = quiet { s with dp := { s.dp with idle := s.dp.idle.filter fun x => x != p * 5 + l } } →
      held (busyAdd (512 + benchOf p) 1 (if e = 32 then 1 else 0) t) = held s :=
    fun t ht => (held_of_quiet ht).trans rfl
  unfold slotUsed; dsimp only
  split
  · exact (held_of_quiet (quiet_occ _ _ _ _ _)).trans (hs _ (by simp))
  · exact hs _ (by simp)

theorem held_setServo (d : Nat) (f : Servo → Servo) (s : State) : held (setServo d f s) = held s := by
  unfold setServo
  split
  · rfl
  · rfl

theorem held_ptpLeaves (p : Nat) (k : Packet) (s : State) : held (ptpLeaves p k s).2 = held s := by
  unfold ptpLeaves; dsimp only
  split
  · rfl
  · split
    · exact held_setServo _ _ s
    · rfl
    · rfl
    · rfl

theorem held_openForm (p : Nat) (x : OpenPkt) (s : State) : held (openForm p x s).2 = held s := by
  unfold openForm
  split
  · dsimp only
    split
    · rfl
    · rfl
  · exact held_ptpLeaves _ _ s

theorem held_chargePair (p v : Nat) (k : Packet) (s : State) : held (chargePair p v k s) = held s := by
  unfold chargePair
  refine held_foldl (fun s n => ?_) _ s
  rfl

/-! ### Which open packets stay -/

/-- A change of an open packet that brings its head time and its wait for credit up to date. -/
def Retimes (f : OpenPkt → OpenPkt) : Prop := ∀ x, f x = { x with headAt := (f x).headAt, blocked := (f x).blocked }

theorem Retimes.id_eq {f : OpenPkt → OpenPkt} (h : Retimes f) (x : OpenPkt) : (f x).id = x.id := (congrArg OpenPkt.id (h x) :)
theorem Retimes.egress_eq {f : OpenPkt → OpenPkt} (h : Retimes f) (x : OpenPkt) : (f x).egress = x.egress :=
  (congrArg OpenPkt.egress (h x) :)
theorem Retimes.vc_eq {f : OpenPkt → OpenPkt} (h : Retimes f) (x : OpenPkt) : (f x).vc = x.vc := (congrArg OpenPkt.vc (h x) :)
theorem Retimes.escaped_eq {f : OpenPkt → OpenPkt} (h : Retimes f) (x : OpenPkt) : (f x).escaped = x.escaped :=
  (congrArg OpenPkt.escaped (h x) :)

/-- The shaper holds of fresh heads are counted, and no more. -/
theorem quiet_holds (b : Bool) (n : Nat) (a : OccAttr) (l : List OpenPkt) (s : State) :
    quiet (if b = true then s else l.foldl (fun s _ => tally E.OT_SHAPER_HOLDS n 118 1 a s) s) = quiet s := by
  split
  · rfl
  · exact quiet_foldl _ (fun s _ => quiet_tally _ _ _ _ _ s) _ _

theorem parked_voqTouch (p v : Nat) (s : State) : parked (voqTouch p v s) = parked s :=
  (rfl : _ = parked (if pairEligible s p v then s else _)).trans (parked_of_held (held_of_quiet (quiet_holds _ _ _ _ s)))

theorem openq_voqTouch (p v : Nat) (s : State) : ∃ f, Retimes f ∧ (voqTouch p v s).dp.openq = s.dp.openq.map f := by
  rw [← congrArg DpState.openq (of_quiet_dp (quiet_holds (pairEligible s p v) (benchOf p) { q := some (p % 4), vc := some v }
    ((voqHeads s p v).filter fun x => x.headAt.isNone && x.expire.isNone) s))]
  refine ⟨_, fun x => ?_, rfl⟩
  split
  · rfl
  · rfl

theorem parked_portTouch (p : Nat) (s : State) : parked (portTouch p s) = parked s :=
  (parked_voqTouch _ _ _).trans ((parked_voqTouch _ _ _).trans (parked_voqTouch _ _ _))

theorem held_freed (b : Bool) (i p l v : Nat) (k : Packet) (s : State) :
    held (if b = true then packetDone i (freeCredit p l v k s) else s) = held s := by
  split
  · exact (held_packetDone _ _).trans (held_freeCredit _ _ _ _ _)
  · rfl

theorem parked_openLeave (x : OpenPkt) (s : State) : parked (openLeave x s) = parked s := by
  unfold openLeave; dsimp only
  exact (parked_voqTouch _ _ _).trans ((parked_of_held (held_freed _ _ _ _ _ _ _)).trans rfl)

theorem openq_openLeave (x : OpenPkt) (s : State) :
    ∃ f, Retimes f ∧ (openLeave x s).dp.openq = (s.dp.openq.filter fun y => y.id != x.id).map f := by
  unfold openLeave; dsimp only
  obtain ⟨f, hf, e⟩ := openq_voqTouch x.egress x.vc _
  exact ⟨f, hf, e.trans (congrArg (List.map f) (of_held_openq (held_freed _ _ _ _ _ _ _)))⟩

/-- What an open packet that is dropped leaves behind before it goes: its captures, and the loss of its copy. -/
theorem held_dropped (c : Nat) (x : OpenPkt) (s : State) :
    held (match x.parent with
      | none => capDrop (x.parent.getD x.id) c s
      | some g => mcastLoss g (groupKey x.pkt) (pkSeq x.pkt) [x.egress] (capDrop (x.parent.getD x.id) c s)) = held s := by
  split
  · exact held_capDrop _ _ s
  · exact (held_mcastLoss _ _ _ _ _).trans (held_capDrop _ _ s)

theorem parked_openDrop (c : Nat) (x : OpenPkt) (s : State) : parked (openDrop c x s) = parked s :=
  (parked_openLeave x _).trans (parked_of_held (held_dropped c x s))

theorem openq_openDrop (c : Nat) (x : OpenPkt) (s : State) :
    ∃ f, Retimes f ∧ (openDrop c x s).dp.openq = (s.dp.openq.filter fun y => y.id != x.id).map f := by
  rw [← of_held_openq (held_dropped c x s)]
  exact openq_openLeave x _

/-- The open packets in their order, by identifier and egress port. -/
def openIds (s : State) : List (Nat × Nat) := s.dp.openq.map fun x => (x.id, x.egress)

theorem openIds_of_left {t s : State} {i : Nat}
    (h : ∃ f, Retimes f ∧ t.dp.openq = (s.dp.openq.filter fun y => y.id != i).map f) :
    openIds t = (openIds s).filter fun e => e.1 != i := by
  obtain ⟨f, hf, e⟩ := h
  have hg : (fun x : OpenPkt => (x.id, x.egress)) ∘ f = fun x => (x.id, x.egress) :=
    funext fun x => Prod.ext (hf.id_eq x) (hf.egress_eq x)
  rw [openIds, e, List.map_map, hg, openIds, List.filter_map]
  rfl

theorem openIds_openDrop (c : Nat) (x : OpenPkt) (s : State) : openIds (openDrop c x s) = (openIds s).filter fun e => e.1 != x.id :=
  openIds_of_left (openq_openDrop c x s)

theorem openIds_openLeave (x : OpenPkt) (s : State) : openIds (openLeave x s) = (openIds s).filter fun e => e.1 != x.id :=
  openIds_of_left (openq_openLeave x s)

theorem gone_of_openIds {s t : State} {i : Nat} (h : openIds t = (openIds s).filter fun e => e.1 != i) : ∀ y ∈ t.dp.openq, y.id ≠ i :=
  fun y hy => by
    have hm : (y.id, y.egress) ∈ openIds t := List.mem_map_of_mem hy
    rw [h, List.mem_filter] at hm
    simpa using hm.2

theorem gone_openDrop (c : Nat) (x : OpenPkt) (s : State) : ∀ y ∈ (openDrop c x s).dp.openq, y.id ≠ x.id :=
  gone_of_openIds (openIds_openDrop c x s)

theorem gone_openLeave (x : OpenPkt) (s : State) : ∀ y ∈ (openLeave x s).dp.openq, y.id ≠ x.id :=
  gone_of_openIds (openIds_openLeave x s)

/-! ### Counters -/

/-- A counter that neither reports nor a packet that leaves its queue move. -/
def ownCounter (e : Nat) : Bool :=
  !reportCounter e && e != E.DP_MCAST_COPY_DROPS && e != E.DP_MCAST_PARTIAL && e != E.OT_SHAPER_HOLDS && e != E.TM_CAPTURES_LOST

section
variable {e : Nat} (he : ownCounter e = true)
include he

theorem ownCounter_iff : reportCounter e = false ∧ e ≠ E.DP_MCAST_COPY_DROPS ∧ e ≠ E.DP_MCAST_PARTIAL ∧ e ≠ E.OT_SHAPER_HOLDS
    ∧ e ≠ E.TM_CAPTURES_LOST := by
  simpa [ownCounter, and_assoc] using he

theorem getNum_capDrop (i c : Nat) (s : State) (d : Nat) : getNum (capDrop i c s) e d = getNum s e d := by
  obtain ⟨-, -, -, -, hl⟩ := ownCounter_iff he
  unfold capDrop
  refine foldl_keeps (fun s => getNum s e d) _ (fun s a => ?_) _ s
  split
  · unfold capStage; dsimp only
    split
    · rfl
    · split
      · rw [getNum_accum, getNum_count_ne _ _ _ hl]
      · rfl
  · rfl

theorem getNum_mcastLoss (i k q : Nat) (ps : List Nat) (s : State) (d : Nat) : getNum (mcastLoss i k q ps s) e d = getNum s e d := by
  obtain ⟨hr, hm, -⟩ := ownCounter_iff he
  unfold mcastLoss
  split
  · rfl
  · exact foldl_keeps (fun s => getNum s e d) (fun s p => tally E.DP_MCAST_COPY_DROPS (benchOf p) 44 1 {} s)
      (fun s p => getNum_tally_ne hr hm _ _ _ _ s d) ps s

theorem getNum_packetDone (i : Nat) (s : State) (d : Nat) : getNum (packetDone i s) e d = getNum s e d := by
  obtain ⟨hr, -, hm, -⟩ := ownCounter_iff he
  have h : getNum (mcastReport i s) e d = getNum s e d := by
    unfold mcastReport
    split
    · rfl
    · rw [getNum_raiseOnce hr, getNum_count_ne _ _ _ hm]; rfl
  unfold packetDone; dsimp only
  split
  · rfl
  · exact h

theorem getNum_voqTouch (p v : Nat) (s : State) (d : Nat) : getNum (voqTouch p v s) e d = getNum s e d := by
  obtain ⟨hr, -, -, hh, -⟩ := ownCounter_iff he
  refine (rfl : _ = getNum (if pairEligible s p v then s else _) e d).trans ?_
  split
  · rfl
  · exact foldl_keeps (fun s => getNum s e d) _ (fun s _ => getNum_tally_ne hr hh _ _ _ _ s d) _ s

theorem getNum_freed (b : Bool) (i p l v : Nat) (k : Packet) (s : State) (d : Nat) :
    getNum (if b = true then packetDone i (freeCredit p l v k s) else s) e d = getNum s e d := by
  split
  · rw [getNum_packetDone he]
    unfold freeCredit
    split
    · rfl
    · rfl
  · rfl

theorem getNum_openLeave (x : OpenPkt) (s : State) (d : Nat) : getNum (openLeave x s) e d = getNum s e d := by
  unfold openLeave; dsimp only
  rw [getNum_voqTouch he, getNum_freed he]
  rfl

theorem getNum_openDrop (c : Nat) (x : OpenPkt) (s : State) (d : Nat) : getNum (openDrop c x s) e d = getNum s e d := by
  unfold openDrop; dsimp only
  rw [getNum_openLeave he]
  split
  · exact getNum_capDrop he _ _ s d
  · rw [getNum_mcastLoss he, getNum_capDrop he]

end

/-! ### Scheduled packets -/

/-- Scheduled packets that are dropped leave their queue, and no others. -/
theorem scDropWith_dp {loss : ScPkt → State → State} {w : ScPkt → Bool} {c : Nat} {note : ScPkt → State → State}
    (hl : ∀ x s, held (loss x s) = held s) (hn : ∀ x s, held (note x s) = held s) (s : State) :
    held (scDropWith loss w c note s) = { held s with sc := s.dp.sc.filter fun x => !w x } := by
  unfold scDropWith; dsimp only
  refine (held_foldl (fun s x => ?_) _ _).trans rfl
  exact (held_orderIdle _ _).trans ((held_packetDone _ _).trans ((held_capDrop _ _ _).trans ((hl _ _).trans (hn _ _))))

theorem scDrop_dp {w : ScPkt → Bool} {c : Nat} {note : ScPkt → State → State} (hn : ∀ x s, held (note x s) = held s) (s : State) :
    held (scDrop w c note s) = { held s with sc := s.dp.sc.filter fun x => !w x } :=
  scDropWith_dp (fun _ _ => held_mcastLoss _ _ _ _ _) hn s

theorem deadlineDrop_dp (s : State) :
    held (deadlineDrop s) = { held s with sc := s.dp.sc.filter fun x => !(decide (x.deadline ≤ s.clk.tick) && !closeDue s x.job) } :=
  scDrop_dp (fun _ _ => held_of_quiet (quiet_breach _ _ _ _ _)) s

end Sys2Proof.Machine
end
section
/-! The lane-slots and draws of scheduled traffic (R107, R150, R153): what they read is the same before and after a packet passes. -/
namespace Sys2Proof.Machine
open Sys2Proof

/-! ### Readings that the passing of a packet does not move -/

/-- The parts that the passing of a packet may move. -/
def passing : List Part := [.queues, .links, .captures, .shapers, .time]

section
variable {s t : State} (h : Only passing s t)
include h

theorem getNum_of_passing {e : Entry} (hm : e ∈ catalog) (ha : e.acc ≠ 1) (d : Nat) : getNum t e.id d = getNum s e.id d :=
  (h .settings (by decide) e hm ha).1 d

theorem portFormat_of_passing (p : Nat) : portFormat t p = portFormat s p := by
  have hb : t.bi = s.bi := h .bringup (by decide)
  have hc : SMap.get? t.dict.tabs E.PORT_CONFIG = SMap.get? s.dict.tabs E.PORT_CONFIG :=
    (h .settings (by decide) ((findEntry E.PORT_CONFIG).getD noEntry) (by decide +kernel) (by decide +kernel)).2
  unfold portFormat portCfg tabNum
  rw [hb, hc]

theorem portCell_of_passing (p : Nat) : portCell t p = portCell s p := congrArg (· == 2) (portFormat_of_passing h p)

theorem laneSt_of_passing (p d l : Nat) : laneSt t p d l = laneSt s p d l := by
  have ho : t.op = s.op := h .optics (by decide)
  unfold laneSt
  rw [portFormat_of_passing h, ho]

theorem egressLanes_of_passing (p : Nat) : egressLanes t p = egressLanes s p :=
  congrArg (fun f => (List.range 4).filter f) (funext fun l => by rw [laneSt_of_passing h])

theorem markerRole_of_passing (p l : Nat) : markerRole t p l = markerRole s p l := by
  have ho : t.op = s.op := h .optics (by decide)
  have ht : t.tt = s.tt := h .timetable (by decide)
  unfold markerRole reserveOf reserveHeld hasBoost
  rw [laneSt_of_passing h, ho, ht]

theorem hl_of_passing : { t.hl with controllers := [] } = { s.hl with controllers := [] } := (h .health (by decide)).1

theorem power_of_passing : t.hl.power = s.hl.power := (congrArg HlState.power (hl_of_passing h) :)

theorem dpLive_of_passing : dpLive t = dpLive s := by
  have hb : t.bi = s.bi := h .bringup (by decide)
  unfold dpLive
  rw [power_of_passing h, hb]

theorem laneDriven_of_passing (p l : Nat) : laneDriven t p l = laneDriven s p l := by
  unfold laneDriven lowLane
  rw [dpLive_of_passing h, power_of_passing h, egressLanes_of_passing h]

theorem tick_of_passing : t.clk.tick = s.clk.tick := (h .tick (by decide)).1

theorem imageAt_of_passing (n : Nat) : imageAt t n = imageAt s n := by
  have ht : t.tt = s.tt := h .timetable (by decide)
  have hw : t.dx.pending = s.dx.pending := h .waiting (by decide)
  have hf : t.frame = s.frame := (h .tick (by decide)).2
  have hn : Cfg.TT_VARIANT_NEXT t = Cfg.TT_VARIANT_NEXT s :=
    getNum_of_passing h (e := (findEntry E.TT_VARIANT_NEXT).getD noEntry) (by decide +kernel) (by decide +kernel) _
  unfold imageAt variantAt variantNext
  rw [ht, hw, hf, hn]

theorem darkOut_of_passing (n p : Nat) : darkOut t n p = darkOut s n p := by
  unfold darkOut mapAt
  rw [imageAt_of_passing h, imageAt_of_passing h]

theorem eBit_of_passing : eBit t = eBit s := by
  have ht : t.tt = s.tt := h .timetable (by decide)
  unfold eBit activeEpoch
  rw [ht]

theorem portUp_of_passing (hd : held t = held s) (p : Nat) : portUp t p = portUp s p := by
  have hp : portOf t p = portOf s p := by unfold portOf; rw [of_held_ports hd]
  unfold portUp portState
  rw [portFormat_of_passing h, hp]

end

theorem only_start {l : List Part} (s : State) : Only l s (start s) := fun g _ => by
  have k := Part.same_refl g s
  cases g with
  | _ => exact k

/-! ### The start of a lane-slot (R107) -/

theorem only_slotUnused (key : Nat) (s : State) : Only passing s (slotUnused key s) :=
  (only_occ _ _ _ _ s).trans (only_occ _ _ _ _ _)

theorem only_busyAdd (k n c : Nat) (s : State) : Only passing s (busyAdd k n c s) := only_dp _ s (by decide)

/-- The lane-slot before ends: it went unused where its lane is still idle. -/
def slotEnds (key : Nat) (s : State) : State :=
  if s.dp.idle.contains key then slotUnused key { s with dp := { s.dp with idle := s.dp.idle.erase key } } else s

theorem only_slotEnds (key : Nat) (s : State) : Only passing s (slotEnds key s) :=
  only_ite ((only_dp _ s (by decide)).trans (only_slotUnused _ _)) (Only.refl s)

theorem held_slotEnds (key : Nat) (s : State) : held (slotEnds key s) = held s := by
  unfold slotEnds
  split
  · exact (held_of_quiet (quiet_occLane _ _ _ _ _ _)).trans rfl
  · rfl

theorem grows_slotEnds (key : Nat) (s : State) : Grows s (slotEnds key s) := by
  unfold slotEnds
  split
  · exact grows_via (grows_occLane _ _ _ _ _ _) rfl
  · exact grows_rfl s

/-- What is noted of a drawn packet that has been put on its lane. -/
def drawnNoted (d : Drawn) (w : Nat) (k : Packet) (o : CapOut) (s : State) : State :=
  capSent d.id o (cutBegin d.id d.port w (laneNote (laneKey d.port 0 w) (slotUsed d.port w 32 (occSent d.port w 0 k
    (onWire d.port w d.id (wirePs (pkWire k)) s)))))

/-- A drawn packet is done with where no other copy of it is queued or drawn. -/
def drawnDone (d : Drawn) (s : State) : State :=
  if s.dp.sc.any (fun x => x.id == d.id) || s.dp.drawn.any (fun x => x.id == d.id) then s else packetDone d.id s

/-- A draw is taken off the list. -/
def undrawn (d : Drawn) (s : State) : State := { s with dp := { s.dp with drawn := s.dp.drawn.erase d } }

theorem sendDrawn_eq (d : Drawn) (w : Nat) (s : State) :
    ∃ k o, sendDrawn d w s = drawnDone d (drawnNoted d w k o (emitOn d.port w k (undrawn d s))) := ⟨_, _, rfl⟩

theorem held_onWire (p l i w : Nat) (s : State) : held (onWire p l i w s) = held s := rfl
theorem held_cutBegin (i p l : Nat) (s : State) : held (cutBegin i p l s) = held s := rfl
theorem held_laneNote (k : Nat) (s : State) : held (laneNote k s) = held s := rfl

theorem held_drawnNoted (d : Drawn) (w : Nat) (k : Packet) (o : CapOut) (s : State) : held (drawnNoted d w k o s) = held s :=
  (held_capSent _ _ _).trans ((held_cutBegin _ _ _ _).trans ((held_laneNote _ _).trans ((held_slotUsed _ _ _ _).trans
    ((held_of_quiet (quiet_occSent _ _ _ _ _)).trans (held_onWire _ _ _ _ s)))))

theorem held_drawnDone (d : Drawn) (s : State) : held (drawnDone d s) = held s := by
  unfold drawnDone
  split
  · rfl
  · exact held_packetDone _ s

theorem grows_drawnNoted (d : Drawn) (w : Nat) (k : Packet) (o : CapOut) (s : State) : Grows s (drawnNoted d w k o s) :=
  grows_trans (grows_onWire _ _ _ _ s) (grows_trans (grows_occSent _ _ _ _ _) (grows_trans (grows_slotUsed _ _ _ _)
    (grows_trans (grows_laneNote _ _) (grows_trans (grows_cutBegin _ _ _ _) (grows_capSent _ _ _)))))

theorem grows_drawnDone (d : Drawn) (s : State) : Grows s (drawnDone d s) := by
  unfold drawnDone
  split
  · exact grows_rfl s
  · exact grows_packetDone _ s

theorem grows_sendDrawn (d : Drawn) (w : Nat) (s : State) : Grows s (sendDrawn d w s) := by
  obtain ⟨k, o, e⟩ := sendDrawn_eq d w s
  rw [e]
  exact grows_trans (grows_via (grows_emitOn d.port w k (undrawn d s)) rfl)
    (grows_trans (grows_drawnNoted _ _ _ _ _) (grows_drawnDone _ _))

/-- A drawn packet that is sent leaves the list of draws and goes out on its port and lane. -/
theorem sendDrawn_sends (d : Drawn) (w : Nat) (s : State) :
    (sendDrawn d w s).dp.drawn = s.dp.drawn.erase d ∧ ∃ k, .packet d.port w k ∈ (sendDrawn d w s).out := by
  obtain ⟨k, o, e⟩ := sendDrawn_eq d w s
  rw [e]
  refine ⟨?_, k, ?_⟩
  · exact of_held_drawn (s := undrawn d s) ((held_drawnDone _ _).trans ((held_drawnNoted _ _ _ _ _).trans (held_emitOn _ _ _ _)))
  · exact grows_mem (grows_trans (grows_drawnNoted _ _ _ _ _) (grows_drawnDone _ _)) (mem_emitOn _ _ _ _)

/-- The packet drawn for a lane-slot leaves; without one the lane is used by open traffic, or idle. -/
def slotPacket (p : Port) (l : Lane) (sl : Slot) (logical : Nat) (s : State) : State :=
  match s.dp.drawn.find? fun d => d.port == p.val && d.lane == logical && d.tick == s.clk.tick && d.slot == sl.val with
  | some d => sendDrawn d l s
  | none =>
    if laneBusy s p l then slotUsed p l (if (entryIn s s.clk.tick p logical sl).1 = 1 then 33 else 34) s
    else { s with dp := { s.dp with idle := addNew (p.val * 5 + l.val) s.dp.idle } }

/-- What fills a lane-slot behind its marker, by the role of the wire lane. -/
def slotFilled (p : Port) (l : Lane) (sl : Slot) (role c : Nat) (s : State) : State :=
  if role = 0 || !portUp s p || !dpLive s then s
  else if role = 2 && laneSt s p 0 c == .inService then s
  else slotPacket p l sl (if role = 2 then c else if role = 3 then 4 else l.val) (busyAdd (640 + benchOf p) 1 0 (occ (benchOf p) 166 1 {} s))

theorem grows_slotPacket (p : Port) (l : Lane) (sl : Slot) (n : Nat) (s : State) : Grows s (slotPacket p l sl n s) := by
  unfold slotPacket
  split
  · exact grows_sendDrawn _ _ s
  · split
    · exact grows_slotUsed _ _ _ s
    · exact grows_rfl s

theorem grows_slotFilled (p : Port) (l : Lane) (sl : Slot) (r c : Nat) (s : State) : Grows s (slotFilled p l sl r c s) := by
  unfold slotFilled
  split
  · exact grows_rfl s
  · split
    · exact grows_rfl s
    · exact grows_trans (grows_trans (grows_occ _ _ _ _ s) (grows_busyAdd _ _ _ _)) (grows_slotPacket _ _ _ _ _)

section
variable {p : Port} {l : Lane} {sl : Slot} {s : State} {r c : Nat} (hf : portFormat s p = 1) (hk : darkOut s s.clk.tick p = false)
  (hd : laneDriven s p l = true) (hm : markerRole s p l = some (r, c))
include hf hk hd hm

/-- A lane that is driven sends the marker of its role, and then what fills the slot. -/
theorem exec_laneSlotStart : ∃ u, Only passing s u ∧ held u = held s ∧
    exec (.laneSlotStart p l sl) s
      = .next (settle (atPs (sl.val * 40960) s) (slotFilled p l sl r c (emit (.marker p l (mkMarker sl s.clk.tick (eBit s) r c)) u))) := by
  have ho : Only passing s (slotEnds (p.val * 5 + l.val) (start (atPs (sl.val * 40960) s))) :=
    (only_atPs _ s).trans ((only_start _).trans (only_slotEnds _ _))
  have hh : held (slotEnds (p.val * 5 + l.val) (start (atPs (sl.val * 40960) s))) = held s :=
    (held_slotEnds _ _).trans (held_of_dp rfl)
  refine ⟨_, ho, hh, ?_⟩
  refine (Eq.refl (execLaneSlotStart p l sl s)).trans ?_
  unfold execLaneSlotStart runAt run
  have hc : ¬ (!laneDriven (slotEnds (p.val * 5 + l.val) (start (atPs (sl.val * 40960) s))) p l
      || portFormat (slotEnds (p.val * 5 + l.val) (start (atPs (sl.val * 40960) s))) p != 1
      || darkOut (slotEnds (p.val * 5 + l.val) (start (atPs (sl.val * 40960) s)))
        (slotEnds (p.val * 5 + l.val) (start (atPs (sl.val * 40960) s))).clk.tick p) = true := by
    rw [laneDriven_of_passing ho, portFormat_of_passing ho, tick_of_passing ho, darkOut_of_passing ho, hf, hk, hd]
    decide
  have hr := (markerRole_of_passing ho p l).trans hm
  rw [← tick_of_passing ho, ← eBit_of_passing ho]
  generalize hu : slotEnds (p.val * 5 + l.val) (start (atPs (sl.val * 40960) s)) = u at hc hr ⊢
  have hu' : (if (start (atPs (sl.val * 40960) s)).dp.idle.contains (p.val * 5 + l.val) then
      slotUnused (p.val * 5 + l.val) { start (atPs (sl.val * 40960) s) with
        dp := { (start (atPs (sl.val * 40960) s)).dp with idle := (start (atPs (sl.val * 40960) s)).dp.idle.erase (p.val * 5 + l.val) } }
    else start (atPs (sl.val * 40960) s)) = u := hu
  dsimp only
  rw [hu', if_neg hc, hr]
  rfl

theorem laneSlotStart_marker :
    Answers (.laneSlotStart p l sl) s fun t => .marker p l (mkMarker sl s.clk.tick (eBit s) r c) ∈ t.out := by
  obtain ⟨u, -, -, e⟩ := exec_laneSlotStart (sl := sl) hf hk hd hm
  exact ⟨_, e, grows_mem (grows_slotFilled p l sl r c _) (by simp [emit])⟩

end

theorem slotFilled_drawn {p : Port} {l : Lane} {sl : Slot} {d : Drawn} {v : State} (hp : portUp v p = true) (hv : dpLive v = true)
    (hd : (v.dp.drawn.find? fun d => d.port == p.val && d.lane == l.val && d.tick == v.clk.tick && d.slot == sl.val) = some d) :
    (slotFilled p l sl 1 0 v).dp.drawn = v.dp.drawn.erase d ∧ ∃ k, .packet p l k ∈ (slotFilled p l sl 1 0 v).out := by
  have ho : Only passing v (busyAdd (640 + benchOf p) 1 0 (occ (benchOf p) 166 1 {} v)) :=
    (only_occ _ _ _ _ v).trans (only_busyAdd _ _ _ _)
  have hh : held (busyAdd (640 + benchOf p) 1 0 (occ (benchOf p) 166 1 {} v)) = held v :=
    (held_busyAdd _ _ _ _).trans (held_of_quiet (quiet_occ _ _ _ _ _))
  have hfill : slotFilled p l sl 1 0 v = slotPacket p l sl l.val (busyAdd (640 + benchOf p) 1 0 (occ (benchOf p) 166 1 {} v)) := by
    unfold slotFilled
    rw [if_neg (by simp [hp, hv]), if_neg (by simp)]
    rfl
  have hdp : d.port = p.val := by
    have h := List.find?_some hd
    simp only [Bool.and_eq_true, beq_iff_eq] at h
    exact h.1.1.1
  rw [hfill]
  generalize busyAdd (640 + benchOf p) 1 0 (occ (benchOf p) 166 1 {} v) = w at ho hh
  have hpk : slotPacket p l sl l.val w = sendDrawn d l w := by
    unfold slotPacket
    rw [of_held_drawn hh, tick_of_passing ho, hd]
  rw [hpk, ← of_held_drawn hh, ← hdp]
  exact sendDrawn_sends d l w

/-- The packet drawn for the slot leaves behind a marker of role 1. -/
theorem laneSlotStart_drawn {p : Port} {l : Lane} {sl : Slot} {d : Drawn} {s : State} (hv : dpLive s = true)
    (hf : portFormat s p = 1) (hk : darkOut s s.clk.tick p = false) (hm : markerRole s p l = some (1, 0)) (hp : portUp s p = true)
    (hd : (s.dp.drawn.find? fun d => d.port == p.val && d.lane == l.val && d.tick == s.clk.tick && d.slot == sl.val) = some d) :
    Answers (.laneSlotStart p l sl) s fun t => t.dp.drawn = s.dp.drawn.erase d ∧ ∃ k, .packet p l k ∈ t.out := by
  have hl : laneDriven s p l = true := by simp [laneDriven, hv]
  obtain ⟨u, ho, hh, e⟩ := exec_laneSlotStart (sl := sl) hf hk hl hm
  refine ⟨_, e, ?_⟩
  replace ho : Only passing s (emit (.marker p l (mkMarker sl s.clk.tick (eBit s) 1 0)) u) := ho.trans (only_emit _ _)
  replace hh : held (emit (.marker p l (mkMarker sl s.clk.tick (eBit s) 1 0)) u) = held s := (held_of_dp (emit_dp _ u)).trans hh
  generalize emit (.marker p l (mkMarker sl s.clk.tick (eBit s) 1 0)) u = v at ho hh
  rw [← of_held_drawn hh] at hd ⊢
  rw [← tick_of_passing ho] at hd
  exact slotFilled_drawn ((portUp_of_passing ho hh p).trans hp) ((dpLive_of_passing ho).trans hv) hd

end Sys2Proof.Machine
end
section
/-! The draw of a flow entry (R150, R153, R155). -/
namespace Sys2Proof.Machine
open Sys2Proof

/-- The candidate of a flow entry: the earliest packet of its binding that reaches the port in time. -/
def candidate (p : Nat) (sl : Nat) (b : Binding) (t : Nat) (s : State) : Option ScPkt :=
  scFirst (((if gateOf s b == .openn then s.dp.sc.filter fun x => x.flow == b.flow && t < x.deadline && (!b.multi || x.left.contains p)
    else []).filter fun x => x.ready + pathLead x.port p ≤ slotStart t sl))

/-- The entries that a binding's order state serves before one are served. -/
def servedBefore (p l sl : Nat) (i : Image) (b : Binding) (n : Nat) (s : State) : State :=
  (entriesBefore (start s) i b n p l (drawTick s sl) sl).foldl (fun s e => serveEntry i b e.1 e.2.1 e.2.2.1 e.2.2.2 s) (start s)

/-- A lane-slot that is lent is on the list of those lent. -/
theorem mem_lend (p l t sl : Nat) (s : State) : (p * 5 + l, t * 25 + sl) ∈ (lend p l t sl s).dp.lent :=
  List.mem_append_right _ (List.mem_singleton.2 rfl)

theorem scDraw_lends {i : Image} {b : Binding} {p l t sl : Nat} {s : State} (h : candidate p sl b t s = none) :
    (p * 5 + l, t * 25 + sl) ∈ (scDraw i b p l t sl s).dp.lent := by
  have h' : scFirst _ = none := h
  unfold scDraw; dsimp only
  rw [h']
  exact mem_lend _ _ _ _ _

/-- The number that is expected next is drawn at once, late or not behind none. -/
theorem decide153_expected {next : Option Nat} {seq : Nat} (h : next = none ∨ next = some seq) (waited hold window : Nat) :
    decide153 next seq waited hold window = .draw 0 false := by
  have hn : next.getD seq = seq := by obtain rfl | rfl := h <;> rfl
  have hd : serialDist 16 seq seq = 0 := by simp [serialDist]
  unfold decide153
  rw [hn]; dsimp only
  rw [hd, if_pos rfl]

/-- A packet that is drawn joins the list of draws. -/
theorem drawPacket_drawn (x : ScPkt) (p l t sl lead hold : Nat) (s : State) :
    ∃ d ∈ (drawPacket x p l t sl lead hold s).dp.drawn, d.port = p ∧ d.lane = l ∧ d.tick = t ∧ d.slot = sl ∧ d.id = x.id ∧ d.pkt = x.pkt := by
  refine ⟨_, List.mem_append_right _ (List.mem_singleton.2 rfl), rfl, rfl, rfl, rfl, rfl, rfl⟩

theorem scDraw_draws {i : Image} {b : Binding} {p l t sl : Nat} {x : ScPkt} {s : State} (h : candidate p sl b t s = some x)
    (hr : refillLate s x (SMap.getD s.dp.orders (orderKey b p) orderZero) = false)
    (hn : (SMap.getD s.dp.orders (orderKey b p) orderZero).next = none
      ∨ (SMap.getD s.dp.orders (orderKey b p) orderZero).next = some x.seq) :
    ∃ d ∈ (scDraw i b p l t sl s).dp.drawn, d.port = p ∧ d.lane = l ∧ d.tick = t ∧ d.slot = sl ∧ d.id = x.id ∧ d.pkt = x.pkt := by
  have h' : scFirst _ = some x := h
  unfold scDraw; dsimp only
  rw [h']; dsimp only
  rw [decide153_expected hn]; dsimp only
  rw [hr]
  exact drawPacket_drawn _ _ _ _ _ _ _ _

/-- The turn of a lane-slot's flow entry has come, and a lane serves it: `u` is the state behind the entries served before it. -/
def EntryTurn (p : Port) (l : Lane) (sl : Slot) (i : Image) (b : Binding) (n v : Nat) (s u : State) : Prop :=
  dpLive s = true ∧ (s.rp.sync = .current ∨ s.rp.sync = .withdrawing) ∧ entryIn s (drawTick s sl) p l sl = (1, n)
  ∧ imageAt s (drawTick s sl) = some (i, v) ∧ (i.binds.drop n).head? = some b ∧ u = servedBefore p l sl i b n s
  ∧ entryServed u p l (drawTick s sl) sl = false ∧ darkOut u (drawTick s sl) p = false ∧ portUp u p = true
  ∧ (servingLane u p l).isSome = true

section
variable {p : Port} {l : Lane} {sl : Slot} {i : Image} {b : Binding} {n v : Nat} {s u : State} (h : EntryTurn p l sl i b n v s u)
include h

/-- A flow entry whose turn has come is drawn after those before it. -/
theorem exec_scDraw : exec (.scDraw p l sl) s = .next (settle s (scDraw i b p l (drawTick s sl) sl u)) := by
  obtain ⟨hv, hs, he, hi, hb, rfl, hn, hk, hp, hl⟩ := h
  have he' : entryIn (start s) (drawTick (start s) sl) p l sl = (1, n) := he
  have hi' : imageAt (start s) (drawTick (start s) sl) = some (i, v) := hi
  have hc : ¬ (!dpLive (start s) || (1 : Nat) != 1 || !((start s).rp.sync == .current || (start s).rp.sync == .withdrawing)) = true := by
    have hv' : dpLive (start s) = true := hv
    obtain h | h := hs <;> simp [hv', h]
  have hx : serveEntry i b p l (drawTick s sl) sl (servedBefore p l sl i b n s)
      = scDraw i b p l (drawTick s sl) sl (servedBefore p l sl i b n s) := by
    unfold serveEntry
    rw [if_neg (by simp [hn, hk]), if_neg (by simpa [hp] using Option.isSome_iff_ne_none.1 hl)]
  refine (Eq.refl (execScDraw p l sl s)).trans ?_
  unfold execScDraw run
  dsimp only
  rw [he']; dsimp only
  rw [if_neg hc, hi', Option.bind_some, hb, Option.map_some, ← hx]
  rfl

theorem scDraw_lends_slot (hf : candidate p sl b (drawTick s sl) u = none) :
    Answers (.scDraw p l sl) s fun t => (p.val * 5 + l.val, drawTick s sl * 25 + sl.val) ∈ t.dp.lent :=
  ⟨_, exec_scDraw h, scDraw_lends hf⟩

theorem scDraw_draws_first {x : ScPkt} (hf : candidate p sl b (drawTick s sl) u = some x)
    (hr : refillLate u x (SMap.getD u.dp.orders (orderKey b p) orderZero) = false)
    (hq : (SMap.getD u.dp.orders (orderKey b p) orderZero).next = none
      ∨ (SMap.getD u.dp.orders (orderKey b p) orderZero).next = some x.seq) :
    Answers (.scDraw p l sl) s fun t => ∃ d ∈ t.dp.drawn, d.port = p.val ∧ d.lane = l.val ∧ d.tick = drawTick s sl ∧ d.slot = sl.val
      ∧ d.id = x.id ∧ d.pkt = x.pkt :=
  ⟨_, exec_scDraw h, scDraw_draws hf hr hq⟩

end

end Sys2Proof.Machine
end
section
/-! The start of an open packet (R79, R151, R300). -/
namespace Sys2Proof.Machine
open Sys2Proof

/-! ### The packet that a lane takes -/

theorem egress_of_voqHeads {s : State} {p vc : Nat} {x : OpenPkt} (h : x ∈ voqHeads s p vc) : x.egress = p := by
  refine List.foldlRecOn (motive := fun a => ∀ x ∈ a, x.egress = p) s.dp.openq _ (by simp) (fun a ha y _ => ?_) x h
  split
  · rename_i hc
    simp only [Bool.and_eq_true, decide_eq_true_eq] at hc
    intro z hz
    obtain hz | hz := List.mem_append.1 hz
    · exact ha z hz
    · rw [List.mem_singleton.1 hz]
      exact hc.1.1
  · exact ha

/-- The pick of the round robin is one of the heads. -/
theorem mem_of_nextTurn {n : Nat} {l : List OpenPkt} {x : OpenPkt} (h : nextTurn n l = some x) : x ∈ l := by
  have pick : ∀ (c : List OpenPkt) (y : OpenPkt), c.foldl (fun m x => match m with
      | none => some x
      | some y => if benchOf x.port < benchOf y.port then some x else some y) none = some y → y ∈ c := fun c => by
    refine List.foldlRecOn (motive := fun m : Option OpenPkt => ∀ y, m = some y → y ∈ c) c _ (by simp) fun m hm z hz => ?_
    intro y hy
    split at hy
    · cases hy; exact hz
    · split at hy
      · cases hy; exact hz
      · cases hy; exact hm _ rfl
  unfold nextTurn at h
  dsimp only at h
  split at h
  · next y hy =>
    cases h
    exact List.mem_of_mem_filter (pick _ _ hy)
  · exact pick l x h

theorem egress_of_openReady {s : State} {p w vc : Nat} {only : OpenPkt → Bool} {x : OpenPkt} (h : x ∈ openReady s p w vc only) :
    x.egress = p := by
  unfold openReady at h
  dsimp only at h
  split at h
  · exact egress_of_voqHeads (List.mem_of_mem_filter (List.mem_of_mem_filter h))
  · exact egress_of_voqHeads (List.mem_of_mem_filter h)

theorem egress_of_chooseOpen {p w : Nat} {only : OpenPkt → Bool} {vs : List Nat} {s : State} {x : OpenPkt}
    (h : (chooseOpen p w only vs s).2 = some x) : x.egress = p := by
  induction vs generalizing s with
  | nil => cases h
  | cons vc vs ih =>
    unfold chooseOpen at h
    split at h
    · exact ih h
    · next y hy =>
      split at h
      · cases h
        exact egress_of_openReady (mem_of_nextTurn hy)
      · exact ih h

theorem only_chooseOpen (p w : Nat) (only : OpenPkt → Bool) (vs : List Nat) (s : State) :
    Only passing s (chooseOpen p w only vs s).1 := by
  induction vs generalizing s with
  | nil => exact Only.refl s
  | cons vc vs ih =>
    unfold chooseOpen
    split
    · exact ih s
    · split
      · exact Only.refl s
      · exact (only_tally (by decide +kernel) _ _ _ _ s).trans (ih _)

theorem only_startAfter (p w : Nat) (s : State) : Only passing s (startAfter p w s) := by
  unfold startAfter
  split
  · exact only_atPs _ s
  · exact Only.refl s

/-! ### What its start moves -/

theorem only_openForm (p : Nat) (x : OpenPkt) (s : State) : Only passing s (openForm p x s).2 := by
  unfold openForm
  split
  · dsimp only
    split
    · exact only_count (by decide +kernel) _ s
    · exact Only.refl s
  · exact only_ptpLeaves _ _ s (by decide)

theorem only_occCycles (base e b n : Nat) (sc : Bool) (s : State) : Only passing s (occCycles base e b n sc s) := by
  unfold occCycles
  exact Only.trans (only_ite ((only_occ _ _ _ _ s).trans (only_occ _ _ _ _ _)) (only_occ _ _ _ _ s)) (only_busyAdd _ _ _ _)

theorem only_crossOnce (id a b n i : Nat) (sc : Bool) (s : State) : Only passing s (crossOnce id a b n i sc s) := by
  unfold crossOnce crossAdd
  refine only_ite (Only.refl s) ((only_dp _ s (by decide)).trans (only_ite (Only.refl _) ?_))
  refine only_ite (Only.trans ?_ (only_occCycles _ _ _ _ _ _)) (Only.trans (Only.trans ?_ (only_occCycles _ _ _ _ _ _))
    (only_busyAdd _ _ _ _))
  · exact (only_dp _ _ (by decide)).trans (only_occCycles _ _ _ _ _ _)
  · exact (only_dp _ _ (by decide)).trans (only_occCycles _ _ _ _ _ _)

theorem only_ot {l : List Part} (x : OtState) (s : State) (hl : .shapers ∈ l) : Only l s { s with ot := x } := fun g hg => by
  have k := Part.same_refl g s
  cases g with
  | shapers => exact absurd hl hg
  | _ => exact k

theorem only_chargePair (p v : Nat) (k : Packet) (s : State) : Only passing s (chargePair p v k s) := by
  unfold chargePair
  exact only_foldl (fun s _ => only_ot _ s (by decide)) _ s

theorem only_takeTurn (p v b : Nat) (s : State) : Only passing s (takeTurn p v b s) := only_dp _ s (by decide)

theorem wireOut_sends (p w v i : Nat) (k : Packet) (s : State) : .packet p w k ∈ (wireOut p w v i k s).out := by
  unfold wireOut; dsimp only
  generalize setLink p _ s = s1
  have h := grows_mem (grows_onWire p w i (wirePs (pkWire k)) _) (mem_emitOn p w k s1)
  generalize onWire p w i (wirePs (pkWire k)) (emitOn p w k s1) = s2 at h ⊢
  replace h : .packet p w k ∈ (if (slotOf (now s)).2 = 24 then occLane p w 36 (pkWire k) {} s2 else s2).out := by
    split
    · exact grows_mem (grows_occLane _ _ _ _ _ _) h
    · exact h
  generalize (if (slotOf (now s)).2 = 24 then occLane p w 36 (pkWire k) {} s2 else s2) = s3 at h ⊢
  split
  · exact grows_mem (grows_slotUsed _ _ _ _) h
  · exact h

/-- A packet that starts on a native lane goes out there and leaves its queue. -/
theorem startOpen_sends {p w : Nat} {x : OpenPkt} {s : State} (hx : x.egress = p) (hc : portCell s p = false) :
    (∃ k, .packet p w k ∈ (startOpen p w x s).out) ∧ ∀ y ∈ (startOpen p w x s).dp.openq, y.id ≠ x.id := by
  have hb : ¬ cellBad s x = true := by simp [cellBad, hx, hc]
  unfold startOpen
  rw [if_neg hb]
  dsimp only
  refine ⟨⟨(openForm p x s).1, ?_⟩, gone_openLeave x _⟩
  refine grows_mem (grows_trans (grows_trans (grows_trans (grows_occSent _ _ _ _ _) (grows_count _ _ _)) (grows_cutBegin _ _ _ _))
    (grows_trans (grows_capSent _ _ _) (grows_openLeave x _))) ?_
  have ho := (only_openForm p x s).trans ((only_crossOnce (x.parent.getD x.id) (benchOf x.port) (benchOf p) (pkWire (openForm p x s).1)
    (slotIndex (openForm p x s).2) false _).trans ((only_takeTurn p x.vc (benchOf x.port) _).trans
      (only_chargePair p x.vc (openForm p x s).1 _)))
  rw [if_neg (by simp [portCell_of_passing ho, hc])]
  exact wireOut_sends _ _ _ _ _ _

/-! ### EGRESS_START and PTP_EVENT_FORWARD -/

/-- A native lane that is free and serves its port has chosen a packet. -/
def Takes (p w : Nat) (only : OpenPkt → Bool) (x : OpenPkt) (s : State) : Prop :=
  let u := startAfter p w s
  dpLive s = true ∧ portUp s p = true ∧ portCell s p = false ∧ (carriedLane s p w).isSome = true ∧ laneBusy u p w = false
  ∧ s.hl.gated.contains (benchOf p) = false ∧ shaperDue s = false
  ∧ (chooseOpen p w only (if throttleOf s (dieOf p) < 2 then [3, 2, 1] else [3, 2]) u).2 = some x

/-- The packet that a lane takes goes out there and leaves its queue. -/
theorem openStart_sends {p w : Nat} {only : OpenPkt → Bool} {x : OpenPkt} {s : State} (h : Takes p w only x s) :
    (∃ k, .packet p w k ∈ (openStart p w only s).out) ∧ ∀ y ∈ (openStart p w only s).dp.openq, y.id ≠ x.id := by
  obtain ⟨hv, hp, hc, hl, hb, hg, hs, hx⟩ := h
  have hcell : portCell (chooseOpen p w only (if throttleOf s (dieOf p) < 2 then [3, 2, 1] else [3, 2]) (startAfter p w s)).1 p = false :=
    (portCell_of_passing ((only_startAfter p w s).trans (only_chooseOpen _ _ _ _ _)) p).trans hc
  have hg' : benchOf p ∉ s.hl.gated := by simpa using hg
  unfold openStart
  dsimp only
  rw [if_neg (by simp [hv, hp, hc, hb, hl, hs, hg'])]
  unfold startChosen
  rw [hx]
  exact startOpen_sends (egress_of_chooseOpen hx) hcell

/-- The lanes of a port below one have started theirs. -/
def lowerStarted (p l : Nat) (only : OpenPkt → Bool) (s : State) : State := (List.range l).foldl (fun s w => openStart p w only s) s

theorem lanesStart_eq (p w : Nat) (only : OpenPkt → Bool) (s : State) :
    lanesStart p w only s = openStart p w only (lowerStarted p w only s) := by
  unfold lanesStart
  rw [List.range_succ, List.foldl_append]
  rfl

theorem lanesStart_sends {p w : Nat} {only : OpenPkt → Bool} {x : OpenPkt} {s : State} (h : Takes p w only x (lowerStarted p w only s)) :
    (∃ k, .packet p w k ∈ (lanesStart p w only s).out) ∧ ∀ y ∈ (lanesStart p w only s).dp.openq, y.id ≠ x.id := by
  rw [lanesStart_eq]
  exact openStart_sends h

theorem egressStart_sends {p : Port} {l : Lane} {a : At} {x : OpenPkt} {s : State}
    (h : Takes p l (fun _ => true) x (lowerStarted p l (fun _ => true) (start (atPs a s)))) :
    Answers (.egressStart p l a) s fun t => (∃ k, .packet p l k ∈ t.out) ∧ ∀ y ∈ t.dp.openq, y.id ≠ x.id :=
  ⟨_, Eq.refl (execEgressStart p l a s), lanesStart_sends h⟩

theorem ptpEventForward_sends {p : Port} {l : Lane} {a : At} {x : OpenPkt} {s : State}
    (h : Takes p l (fun y => isEvent s y.pkt) x (lowerStarted p l (fun y => isEvent s y.pkt) (start (atPs a s)))) :
    Answers (.ptpEventForward p l a) s fun t => (∃ k, .packet p l k ∈ t.out) ∧ ∀ y ∈ t.dp.openq, y.id ≠ x.id :=
  ⟨_, Eq.refl (execPtpEventForward p l a s), lanesStart_sends h⟩

end Sys2Proof.Machine
end
section
/-! Packets that wait too long, strata and idle flows (R126, R127, R149, R153, R161, R170, R301). -/
namespace Sys2Proof.Machine
open Sys2Proof

/-! ### Escapes and stalls (R126, R127) -/

/-- A port once selected is selected in every state with the same ports and tables, and nothing is counted. -/
theorem selectPort_of_some {hop : Hop} {p q : Nat} {k : Packet} {s t : State} (h : (selectPort hop p k s).2 = some q)
    (hp : ∀ n, portState t n = portState s n) (ht : t.tb = s.tb) : selectPort hop p k t = (t, some q) := by
  unfold selectPort at h ⊢
  dsimp only at h ⊢
  simp only [hp, ht]
  split
  · rename_i hk; rw [if_pos hk] at h; cases h
  · rename_i hk
    rw [if_neg hk] at h
    split
    · rename_i hc; rw [if_pos hc] at h; split at h <;> cases h
    · rename_i hc
      rw [if_neg hc] at h
      exact Prod.ext rfl h

/-- The form in which a packet escapes to OC1 on a port. -/
def escaped (x : OpenPkt) (q : Nat) : OpenPkt :=
  { x with egress := q, vc := Vc.OC1, escaped := true, pkt := pkSetVc x.pkt Vc.OC1, blocked := none }

/-- The escape is counted. -/
def escapeCounted (x : OpenPkt) (s : State) : State :=
  occ (benchOf x.port) 47 1 (attrOf x.port x.pkt) (count E.PKT_ESCAPE_MOVES 1 s)

/-- A packet that escapes goes to the end of the queue in its new form. -/
def requeued (x : OpenPkt) (q : Nat) (s : State) : State :=
  { s with dp := { s.dp with openq := (s.dp.openq.filter fun z => z.id != x.id) ++ [escaped x q] } }

section
variable {x : OpenPkt} {hop : Hop} {q : Nat} {s : State} (h : selectPort hop x.port x.pkt s = (s, some q))
  (hc : portCell s q = true → cellFits (pkSetVc x.pkt Vc.OC1) = true)
include h hc

theorem escape_eq : escape x hop s = voqTouch q Vc.OC1 (voqTouch x.egress Vc.OC0 (requeued x q (escapeCounted x s))) := by
  have hq : portCell (escapeCounted x s) q = portCell s q :=
    portCell_of_passing ((only_count (by decide +kernel) _ s).trans (only_occ _ _ _ _ _)) q
  have hb : ¬ cellBad (escapeCounted x s) (escaped x q) = true := by
    rw [show cellBad (escapeCounted x s) (escaped x q) = (portCell (escapeCounted x s) q && !cellFits (pkSetVc x.pkt Vc.OC1)) from rfl, hq]
    cases hp : portCell s q with
    | false => simp
    | true => simp [hc hp]
  unfold escape
  rw [h]
  exact if_neg hb

/-- A packet that escapes waits on its new port on OC1. -/
theorem escape_moves : ∃ y ∈ (escape x hop s).dp.openq, y.id = x.id ∧ y.egress = q ∧ y.vc = Vc.OC1 ∧ y.escaped = true := by
  obtain ⟨f, hf, ef⟩ := openq_voqTouch x.egress Vc.OC0 (requeued x q (escapeCounted x s))
  obtain ⟨g, hg, eg⟩ := openq_voqTouch q Vc.OC1 (voqTouch x.egress Vc.OC0 (requeued x q (escapeCounted x s)))
  rw [escape_eq h hc, eg, ef]
  refine ⟨g (f (escaped x q)), ?_, (hg.id_eq _).trans (hf.id_eq _), (hg.egress_eq _).trans (hf.egress_eq _),
    (hg.vc_eq _).trans (hf.vc_eq _), (hg.escaped_eq _).trans (hf.escaped_eq _)⟩
  exact List.mem_map_of_mem (List.mem_map_of_mem (List.mem_append_right _ (List.mem_singleton.2 rfl)))

theorem escape_counts : getNum (escape x hop s) E.PKT_ESCAPE_MOVES 0 = (getNum s E.PKT_ESCAPE_MOVES 0 + 1) % 2 ^ 64 := by
  have ho : getNum (escapeCounted x s) E.PKT_ESCAPE_MOVES 0 = (getNum s E.PKT_ESCAPE_MOVES 0 + 1) % 2 ^ 64 := by
    rw [escapeCounted, getNum_occ (by decide), getNum_count_self]
  rw [escape_eq h hc, getNum_voqTouch (by decide), getNum_voqTouch (by decide)]
  exact ho

end

theorem escapeMove_answers {n : Nat} {x : OpenPkt} {hop : Hop} {b q : Nat} {s : State} (hx : (s.dp.openq.drop n).head? = some x)
    (hs : x.safe = some hop) (hb : x.blocked = some b) (hv : x.vc = Vc.OC0) (hd : due (b + Cfg.PKT_ESCAPE_NS s * 1000) s = true)
    (hq : (selectPort hop x.port x.pkt s).2 = some q) (hc : portCell s q = true → cellFits (pkSetVc x.pkt Vc.OC1) = true) :
    Answers (.escapeMove n) s fun t => (∃ y ∈ t.dp.openq, y.id = x.id ∧ y.egress = q ∧ y.vc = Vc.OC1 ∧ y.escaped = true)
      ∧ getNum t E.PKT_ESCAPE_MOVES 0 = (getNum s E.PKT_ESCAPE_MOVES 0 + 1) % 2 ^ 64 := by
  have he : exec (.escapeMove n) s = runDue (some (b + Cfg.PKT_ESCAPE_NS s * 1000)) (escape x hop) s := by
    refine (Eq.refl (execEscapeMove n s)).trans ?_
    unfold execEscapeMove
    rw [hx]; dsimp only
    rw [hs, hb]; dsimp only
    rw [if_pos hv]
  refine answers_due he rfl hd ?_
  have h := selectPort_of_some hq (t := start (atPs (b + Cfg.PKT_ESCAPE_NS s * 1000 - s.clk.tick * tickPs) s)) (fun _ => rfl) rfl
  exact ⟨escape_moves h hc, escape_counts h hc⟩

theorem creditStall_answers {p : Port} {vc n : Nat} {s : State} (hv : vc = 1 ∨ vc = 2 ∨ vc = 3)
    (hn : ((linkOf s p).vc vc).stallSince = some n) (hd : due (n + Cfg.PKT_CREDIT_STALL_US s * 1000000) s = true)
    (hk : darkIn s p = false) (ho : onceKey Ev.PKT_CREDIT_STALL (p.val * 4 + vc) s = false) (hp : s.hl.power ≠ .rest) :
    Answers (.creditStall p vc) s fun t => NewestEvent t Ev.PKT_CREDIT_STALL [.u16 p, .u8 vc] := by
  refine answers_due (Eq.refl (execCreditStall p vc s)) ((if_pos hv).trans (by rw [hn]; rfl)) hd ?_
  generalize hu : start (atPs _ s) = u
  have hk' : ¬ darkIn u p = true := by rw [← hu]; exact Bool.eq_false_iff.1 hk
  have ho' : ¬ onceKey Ev.PKT_CREDIT_STALL (p.val * 4 + vc) u = true := by rw [← hu]; exact Bool.eq_false_iff.1 ho
  rw [if_neg hk']
  unfold raiseOnce
  rw [if_neg ho']
  refine newestEvent_raise ?_ ?_
  · rw [← hu]; exact hp
  · rw [← hu]; rfl

/-! ### Drops of what is too old (R79, R161, R301) -/

/-- What a head drop counts and reports before the packet goes. -/
def headDropNoted (x : OpenPkt) (s : State) : State :=
  let a : OccAttr := { q := some (x.egress % 4), vc := some x.vc, job := some (pkJob x.pkt) }
  let s := tally E.OT_HEAD_DROPS (benchOf x.egress) 115 1 a s
  let s := if pkK x.pkt then tally E.OT_HEAD_DROPS_MARKED (benchOf x.egress) 116 1 a s else s
  accum Ev.OT_HEAD_DROP (x.egress * 4 + x.vc) [.u16 x.egress, .u8 x.vc] [1] none s

theorem getNum_headDropNoted (x : OpenPkt) (s : State) :
    getNum (headDropNoted x s) E.OT_HEAD_DROPS 0 = (getNum s E.OT_HEAD_DROPS 0 + 1) % 2 ^ 64 := by
  unfold headDropNoted; dsimp only
  rw [getNum_accum]
  split
  · rw [getNum_tally_ne (by decide) (by decide), getNum_tally_self (by decide)]
  · rw [getNum_tally_self (by decide)]

theorem headDrop_answers {n h d : Nat} {x : OpenPkt} {s : State} (hx : (s.dp.openq.drop n).head? = some x) (hh : x.headAt = some h)
    (hl : headLimit s x.pkt = some d) (hd : due (h + d) s = true)
    (hp : portState s x.egress = .held → now (atPs (h + d - s.clk.tick * tickPs) s) < (portOf s x.egress).holdEnd) :
    Answers (.headDrop n) s fun t =>
      (∀ y ∈ t.dp.openq, y.id ≠ x.id) ∧ getNum t E.OT_HEAD_DROPS 0 = (getNum s E.OT_HEAD_DROPS 0 + 1) % 2 ^ 64 := by
  have hf : ∀ u : State, (portState u x.egress = .held → now u < (portOf u x.egress).holdEnd) →
      ¬ (portState u x.egress = .held && (portOf u x.egress).holdEnd ≤ now u) = true := fun u hu => by
    intro hc
    simp only [Bool.and_eq_true, decide_eq_true_eq] at hc
    exact absurd (hu hc.1) (by omega)
  have he : exec (.headDrop n) s = runDue (some (h + d)) (fun s =>
      if portState s x.egress = .held && (portOf s x.egress).holdEnd ≤ now s then s
      else openDrop Ev.OT_HEAD_DROP x (headDropNoted x s)) s := by
    refine (Eq.refl (execHeadDrop n s)).trans ?_
    unfold execHeadDrop
    rw [hx]; dsimp only
    rw [hh, hl]
    rfl
  refine answers_due he rfl hd ?_
  rw [if_neg (hf (start (atPs (h + d - s.clk.tick * tickPs) s)) hp)]
  exact ⟨gone_openDrop _ x _, (getNum_openDrop (by decide) _ _ _ _).trans (getNum_headDropNoted x _)⟩

theorem timeMsgExpire_answers {n e : Nat} {x : OpenPkt} {s : State} (hx : (s.dp.openq.drop n).head? = some x) (he : x.expire = some e)
    (hd : due ((e + 1) * tickPs) s = true) :
    Answers (.timeMsgExpire n) s fun t =>
      (∀ y ∈ t.dp.openq, y.id ≠ x.id) ∧ getNum t E.FT_MSG_DROPPED 0 = (getNum s E.FT_MSG_DROPPED 0 + 1) % 2 ^ 64 := by
  have hr : exec (.timeMsgExpire n) s = runDue (some ((e + 1) * tickPs)) (fun s => openDrop 0 x (count E.FT_MSG_DROPPED 1 s)) s := by
    refine (Eq.refl (execTimeMsgExpire n s)).trans ?_
    unfold execTimeMsgExpire
    rw [hx]; dsimp only
    rw [he]
    rfl
  exact answers_due hr rfl hd ⟨gone_openDrop _ x _, (getNum_openDrop (by decide) _ _ _ _).trans (getNum_count_self _ _ _)⟩

theorem scDeadlineDrop_answers (s : State) : Answers .scDeadlineDrop s fun t =>
    t.dp.sc = s.dp.sc.filter fun x => !(decide (x.deadline ≤ s.clk.tick) && !closeDue s x.job) :=
  ⟨_, Eq.refl (execScDeadlineDrop s), (congrArg DpState.sc (deadlineDrop_dp (start s)) :)⟩

theorem reseqIdleExpiry_answers {flow n : Nat} {o : Nat × Order} {s : State}
    (ho : (s.dp.orders.find? fun o => o.1 / 1024 == flow) = some o) (hn : o.2.emptySince = some n)
    (hd : due (n + Cfg.DP_RESEQ_IDLE_US s * 1000000) s = true) :
    Answers (.reseqIdleExpiry flow) s fun t => t.dp.orders = s.dp.orders.filter fun o => o.1 / 1024 != flow := by
  refine answers_due (Eq.refl (execReseqIdleExpiry flow s)) ?_ hd rfl
  rw [ho, Option.bind_some, hn]
  rfl

/-! ### Strata (R149, R170) -/

/-- A refill changes one packet of a list: the others stay, and its identifier. -/
theorem refilled {α : Type} {l : List α} {i : Nat} {key : α → Nat} {f : α → α} {x : α} (hf : ∀ y, key (f y) = key y)
    (hx : (l.find? fun x => key x == i) = some x) :
    (l.map fun y => if key y = key x then f y else y).map key = l.map key
      ∧ f x ∈ (l.map fun y => if key y = key x then f y else y) ∧ key (f x) = i := by
  have hk : key x = i := by simpa using List.find?_some hx
  refine ⟨?_, ?_, (hf x).trans hk⟩
  · rw [List.map_map]
    refine List.map_congr_left fun y _ => ?_
    dsimp only [Function.comp]
    split
    · exact hf y
    · rfl
  · exact List.mem_map.2 ⟨x, List.mem_of_find?_eq_some hx, if_pos rfl⟩

/-- The scheduled packets of a packet's VOQ that come before it. -/
def scAhead (x : ScPkt) (s : State) : List ScPkt :=
  s.dp.sc.filter fun y => y.flow == x.flow && benchOf y.port == benchOf x.port && y.id != x.id && scBefore y x

/-- The open packets of a VOQ that stand before an identifier in the queue. -/
def openAhead (x : OpenPkt) (id : Nat) (s : State) : List OpenPkt :=
  (s.dp.openq.takeWhile fun y => y.id != id).filter fun y => benchOf y.port == benchOf x.port && y.egress == x.egress && y.vc == x.vc

theorem scRefill_fills {id : Nat} {x : ScPkt} {s : State} (hx : (s.dp.sc.find? fun x => x.id == id) = some x)
    (ha : ∀ y ∈ scAhead x s, y.inStrata = false) :
    (scRefill x s).dp.openq = s.dp.openq ∧ (scRefill x s).dp.sc.map (·.id) = s.dp.sc.map (·.id)
      ∧ ∃ y ∈ (scRefill x s).dp.sc, y.id = id ∧ y.pkt = x.pkt
        ∧ y.pooled = x.pooled + poolRefill s (benchOf x.port) (sumNat ((scAhead x s).map (·.pooled))) x.pooled (pkBlocks x.pkt) := by
  have ha' : ¬ ((scAhead x s).any (·.inStrata)) = true := by
    rw [Bool.not_eq_true, List.any_eq_false]
    exact fun y hy => Bool.eq_false_iff.1 (ha y hy)
  have he : scRefill x s = _ := if_neg ha'
  obtain ⟨h1, h2, h3⟩ := refilled (key := ScPkt.id) (f := fun y =>
    { y with
      pooled := y.pooled + poolRefill s (benchOf x.port) (sumNat ((scAhead x s).map (·.pooled))) x.pooled (pkBlocks x.pkt) })
    (fun _ => rfl) hx
  rw [he]
  exact ⟨rfl, h1, _, h2, h3, rfl, rfl⟩

theorem openRefill_fills {id : Nat} {x : OpenPkt} {s : State} (hx : (s.dp.openq.find? fun x => x.id == id) = some x)
    (ha : ∀ y ∈ openAhead x id s, y.inStrata = false) (hr : scRefillDue s (benchOf x.port) = false) :
    (openRefill x s).dp.sc = s.dp.sc ∧ (openRefill x s).dp.openq.map (·.id) = s.dp.openq.map (·.id)
      ∧ ∃ y ∈ (openRefill x s).dp.openq, y.id = id ∧ y.pkt = x.pkt
        ∧ y.pooled = x.pooled + poolRefill s (benchOf x.port) (sumNat ((openAhead x id s).map (·.pooled))) x.pooled (pkBlocks x.pkt) := by
  have hid : x.id = id := by simpa using List.find?_some hx
  subst hid
  have ha' : ¬ ((openAhead x x.id s).any (·.inStrata) || scRefillDue s (benchOf x.port)) = true := by
    rw [Bool.not_eq_true, Bool.or_eq_false_iff, List.any_eq_false]
    exact ⟨fun y hy => Bool.eq_false_iff.1 (ha y hy), hr⟩
  have he : openRefill x s = _ := if_neg ha'
  obtain ⟨h1, h2, h3⟩ := refilled (key := OpenPkt.id) (f := fun y =>
    { y with
      pooled := y.pooled + poolRefill s (benchOf x.port) (sumNat ((openAhead x x.id s).map (·.pooled))) x.pooled (pkBlocks x.pkt) })
    (fun _ => rfl) hx
  rw [he]
  exact ⟨rfl, h1, _, h2, h3, rfl, rfl⟩

theorem exec_refillComplete_sc {id : Nat} {x : ScPkt} {s : State} (hx : (s.dp.sc.find? fun x => x.id == id) = some x) :
    exec (.refillComplete id) s = .next (settle s (scRefill x (start s))) := by
  have hx' : ((start s).dp.sc.find? fun x => x.id == id) = some x := hx
  refine (Eq.refl (execRefillComplete id s)).trans ?_
  unfold execRefillComplete run
  dsimp only
  rw [hx']

theorem exec_refillComplete_open {id : Nat} {x : OpenPkt} {s : State} (hs : (s.dp.sc.find? fun x => x.id == id) = none)
    (hx : (s.dp.openq.find? fun x => x.id == id) = some x) :
    exec (.refillComplete id) s = .next (settle s (openRefill x (start s))) := by
  have hs' : ((start s).dp.sc.find? fun x => x.id == id) = none := hs
  have hx' : ((start s).dp.openq.find? fun x => x.id == id) = some x := hx
  refine (Eq.refl (execRefillComplete id s)).trans ?_
  unfold execRefillComplete run
  dsimp only
  rw [hs']; dsimp only
  rw [hx']

theorem refillComplete_sc {id : Nat} {x : ScPkt} {s : State} (hx : (s.dp.sc.find? fun x => x.id == id) = some x)
    (ha : ∀ y ∈ scAhead x s, y.inStrata = false) :
    Answers (.refillComplete id) s fun t => t.dp.openq = s.dp.openq ∧ t.dp.sc.map (·.id) = s.dp.sc.map (·.id)
      ∧ ∃ y ∈ t.dp.sc, y.id = id ∧ y.pkt = x.pkt
        ∧ y.pooled = x.pooled + poolRefill s (benchOf x.port) (sumNat ((scAhead x s).map (·.pooled))) x.pooled (pkBlocks x.pkt) :=
  ⟨_, exec_refillComplete_sc hx, scRefill_fills (s := start s) hx ha⟩

theorem refillComplete_open {id : Nat} {x : OpenPkt} {s : State} (hs : (s.dp.sc.find? fun x => x.id == id) = none)
    (hx : (s.dp.openq.find? fun x => x.id == id) = some x) (ha : ∀ y ∈ openAhead x id s, y.inStrata = false)
    (hr : scRefillDue s (benchOf x.port) = false) :
    Answers (.refillComplete id) s fun t => t.dp.sc = s.dp.sc ∧ t.dp.openq.map (·.id) = s.dp.openq.map (·.id)
      ∧ ∃ y ∈ t.dp.openq, y.id = id ∧ y.pkt = x.pkt
        ∧ y.pooled = x.pooled + poolRefill s (benchOf x.port) (sumNat ((openAhead x id s).map (·.pooled))) x.pooled (pkBlocks x.pkt) :=
  ⟨_, exec_refillComplete_open hs hx, openRefill_fills (s := start s) hx ha hr⟩

theorem quiet_strataLoss (b : Nat) (a : OccAttr) (s : State) : quiet (strataLoss b a s) = quiet s := by simp [strataLoss]

theorem strataReadError_answers {id : Nat} {s : State} (h : (s.dp.openq.any fun x => x.id == id && x.inStrata) = true) :
    Answers (.strataReadError id) s fun t => (∀ x ∈ t.dp.openq, x.id ≠ id) ∧ ∀ x ∈ t.dp.sc, ¬ (x.id = id ∧ x.inStrata = true) := by
  refine ⟨_, Eq.refl (execStrataReadError id s), ?_⟩
  have hd := scDrop_dp (w := fun x => x.id == id && x.inStrata) (c := Ev.DP_STRATA_ERROR)
    (note := fun x s => strataLoss (benchOf x.port) (attrOf x.port x.pkt) s) (fun _ s => held_of_quiet (quiet_strataLoss _ _ s)) (start s)
  dsimp only
  generalize scDrop (fun x => x.id == id && x.inStrata) Ev.DP_STRATA_ERROR
    (fun x s => strataLoss (benchOf x.port) (attrOf x.port x.pkt) s) (start s) = u at hd ⊢
  have hq : u.dp.openq = s.dp.openq := (congrArg DpState.openq hd :)
  have hsc : u.dp.sc = s.dp.sc.filter fun x => !(x.id == id && x.inStrata) := (congrArg DpState.sc hd :)
  obtain ⟨x, hx⟩ := Option.isSome_iff_exists.1 (List.find?_isSome.2 (List.any_eq_true.1 (hq ▸ h)))
  have hid : x.id = id := by
    have hf := List.find?_some hx
    simp only [Bool.and_eq_true, beq_iff_eq] at hf
    exact hf.1
  rw [hx]
  refine ⟨fun y hy => hid ▸ gone_openDrop _ x _ y hy, fun y hy hc => ?_⟩
  have hp : (openDrop Ev.DP_STRATA_ERROR x (strataLoss (benchOf x.port) (attrOf x.port x.pkt) u)).dp.sc = u.dp.sc :=
    of_parked_sc ((parked_openDrop _ _ _).trans (parked_of_held (held_of_quiet (quiet_strataLoss _ _ u))))
  have hy' : y ∈ u.dp.sc := hp ▸ hy
  rw [hsc, List.mem_filter] at hy'
  simp [hc.1, hc.2] at hy'

end Sys2Proof.Machine
end
section
/-! Ports that leave and enter service (R158, R159). -/
namespace Sys2Proof.Machine
open Sys2Proof

@[simp] theorem portOf_setPort (p : Nat) (v : PortDp) (s : State) : portOf (setPort p v s) p = v := getD_set_self _ _ _ _

theorem portOf_of_ports {s t : State} (h : t.dp.ports = s.dp.ports) (p : Nat) : portOf t p = portOf s p := by unfold portOf; rw [h]

theorem portOf_settle (s t : State) (p : Nat) : portOf (settle s t) p = portOf t p := rfl

theorem portOf_raise (c : Nat) (l : List Item) (p : Nat) (s : State) : portOf (raise c l s) p = portOf s p :=
  portOf_of_ports (congrArg DpState.ports (raise_dp c l s)) p

/-! ### The end of a flap hold -/

/-- The ids and ports of open packets that are dropped one after another: those of the packets named are gone. -/
theorem openIds_dropAll {f : OpenPkt → State → State} (hf : ∀ x s, openIds (f x s) = (openIds s).filter fun e => e.1 != x.id)
    {l : List OpenPkt} {s : State} {e : Nat × Nat} (h : e ∈ openIds (l.foldl (fun s x => f x s) s)) :
    e ∈ openIds s ∧ ∀ x ∈ l, e.1 ≠ x.id := by
  induction l generalizing s with
  | nil => exact ⟨h, by simp⟩
  | cons a l ih =>
    obtain ⟨h1, h2⟩ := ih h
    rw [hf, List.mem_filter] at h1
    obtain ⟨hm, hn⟩ := h1
    exact ⟨hm, List.forall_mem_cons.2 ⟨by simpa using hn, h2⟩⟩

/-- Once every open packet for a port has been dropped, none is left for it. -/
theorem no_egress_of_dropAll {f : OpenPkt → State → State} (hf : ∀ x s, openIds (f x s) = (openIds s).filter fun e => e.1 != x.id)
    {p : Nat} {s u : State} (hu : u.dp.openq = s.dp.openq) :
    ∀ x ∈ ((s.dp.openq.filter fun x => x.egress == p).foldl (fun s x => f x s) u).dp.openq, x.egress ≠ p := by
  intro x hx hp
  have hm : (x.id, x.egress) ∈ openIds ((s.dp.openq.filter fun x => x.egress == p).foldl (fun s x => f x s) u) :=
    List.mem_map_of_mem hx
  obtain ⟨h1, h2⟩ := openIds_dropAll hf hm
  rw [openIds, hu] at h1
  obtain ⟨y, hy, e⟩ := List.mem_map.1 h1
  have hye : y.egress = p := (congrArg Prod.snd e).trans hp
  exact h2 y (List.mem_filter.2 ⟨hy, by simp [hye]⟩) (congrArg Prod.fst e).symm

/-- A drop at the end of a flap hold is counted (R158). -/
def flapNote (p : Nat) (k : Packet) (s : State) : State :=
  tally E.DP_FLAP_DROPS (benchOf p) 38 1 { q := some (p % 4), vc := some (pkVc k), job := some (pkJob k) } s

theorem held_flapNote (p : Nat) (k : Packet) (s : State) : held (flapNote p k s) = held s := held_of_quiet (quiet_tally _ _ _ _ _ s)

/-- The copy of a scheduled packet for a port is dropped at the end of its flap hold. -/
def flapCopy (p : Nat) (x : ScPkt) (s : State) : State :=
  let s := mcastLoss x.id x.flow x.seq [p] (flapNote p x.pkt (capDrop x.id Ev.DP_FLAP_DROP s))
  let s := takeCopy x p s
  orderIdle x.flow (if s.dp.sc.any fun y => y.id == x.id then s else packetDone x.id s)

theorem takeCopy_openq (x : ScPkt) (p : Nat) (s : State) : (takeCopy x p s).dp.openq = s.dp.openq := rfl

theorem flapCopy_openq (p : Nat) (x : ScPkt) (s : State) : (flapCopy p x s).dp.openq = s.dp.openq := by
  have hq : (takeCopy x p (mcastLoss x.id x.flow x.seq [p] (flapNote p x.pkt (capDrop x.id Ev.DP_FLAP_DROP s)))).dp.openq = s.dp.openq :=
    (takeCopy_openq _ _ _).trans <| of_held_openq ((held_mcastLoss _ _ _ _ _).trans ((held_flapNote _ _ _).trans (held_capDrop _ _ s)))
  unfold flapCopy; dsimp only
  refine Eq.trans ?_ hq
  refine (of_held_openq (held_orderIdle _ _)).trans ?_
  split
  · rfl
  · exact of_held_openq (held_packetDone _ _)

/-- What the end of a flap hold drops of a port's packets: those that no other port takes, then copies, then open packets. -/
def flapQueues (p : Nat) (dead : ScPkt → Bool) (s : State) : State :=
  (s.dp.openq.filter fun x => x.egress == p).foldl (fun s x => openDrop Ev.DP_FLAP_DROP x (flapNote p x.pkt s))
    ((s.dp.sc.filter fun x => x.left.contains p).foldl (fun s x => flapCopy p x s)
      (scDrop dead Ev.DP_FLAP_DROP (fun x s => flapNote p x.pkt s) s))

theorem flapDrop_eq (p : Nat) (s : State) : ∃ (dead : ScPkt → Bool) (items : List Item), flapDrop p s = raise Ev.DP_FLAP_DROP items
    (setPort p { portOf (flapQueues p dead (deadlineDrop s)) p with state := .down } (flapQueues p dead (deadlineDrop s))) :=
  ⟨_, _, rfl⟩

theorem flapQueues_openq (p : Nat) (dead : ScPkt → Bool) (s : State) : ∀ x ∈ (flapQueues p dead s).dp.openq, x.egress ≠ p := by
  refine no_egress_of_dropAll (f := fun x s => openDrop Ev.DP_FLAP_DROP x (flapNote p x.pkt s)) (fun x s => ?_) ?_
  · rw [openIds_openDrop, openIds, of_held_openq (held_flapNote p x.pkt s)]
    rfl
  · refine (foldl_keeps (fun s => s.dp.openq) (fun s x => flapCopy p x s) (fun s x => flapCopy_openq p x s) _ _).trans ?_
    exact (congrArg DpState.openq (scDrop_dp (fun x s => held_flapNote p x.pkt s) s) :)

theorem flapDrop_down (p : Nat) (s : State) : (portOf (flapDrop p s) p).state = .down := by
  obtain ⟨dead, items, e⟩ := flapDrop_eq p s
  rw [e, portOf_raise, portOf_setPort]

theorem flapDrop_openq (p : Nat) (s : State) : ∀ x ∈ (flapDrop p s).dp.openq, x.egress ≠ p := by
  obtain ⟨dead, items, e⟩ := flapDrop_eq p s
  rw [e, raise_dp]
  exact flapQueues_openq p dead (deadlineDrop s)

theorem flapHoldExpiry_answers {p : Port} {s : State} (hp : portState s p = .held) (hd : due (portOf s p).holdEnd s = true) :
    Answers (.flapHoldExpiry p) s fun t => (portOf t p).state = .down ∧ ∀ x ∈ t.dp.openq, x.egress ≠ p.val := by
  refine answers_due (Eq.refl (execFlapHoldExpiry p s)) (if_pos hp) hd ?_
  rw [portOf_settle, settle_dp]
  exact ⟨flapDrop_down p _, flapDrop_openq p _⟩

/-! ### PORT_DOWN -/

theorem portFallsFor_state (n p : Nat) (s : State) : (portOf (portFallsFor n p s) p).state = if n = 0 then .down else .held := by
  unfold portFallsFor; dsimp only
  split
  · exact flapDrop_down p _
  · rw [portOf_setPort]

theorem portFalls_state (p : Nat) (s : State) :
    (portOf (portFalls p s) p).state = if partnerLeft s p = true ∨ Cfg.DP_FLAP_HOLD_US s = 0 then .down else .held := by
  unfold portFalls
  rw [portFallsFor_state]
  by_cases h : partnerLeft s p = true
  · rw [if_pos h, if_pos rfl, if_pos (.inl h)]
  · rw [if_neg h]
    simp only [h, Bool.false_eq_true, false_or]

theorem exec_portDown {p : Port} {why : DownCause} {s : State} (hp : portState s p = .inService)
    (hw : (why = .lanes ∧ darkOut s s.clk.tick p = false ∧ (List.range 4).any (fun l => (servingLane s p l).isSome) = false)
      ∨ (why = .markers ∧ darkIn s p = false ∧ (portFormat s p = 1 → markersSeen s p = false))
      ∨ (why = .training ∧ darkIn s p = false ∧ darkOut s s.clk.tick p = false)) :
    exec (.portDown p why) s = .next (settle s (portFalls p (start s))) := by
  have hp' : ¬ (portState (start s) p != .inService) = true := by
    have h : portState (start s) p = .inService := hp
    simp [h]
  refine (Eq.refl (execPortDown p why s)).trans ?_
  unfold execPortDown run
  dsimp only
  rw [if_neg hp']
  obtain ⟨rfl, h1, h2⟩ | ⟨rfl, h1, h2⟩ | ⟨rfl, h1, h2⟩ := hw
  · have hc : ¬ (darkOut (start s) (start s).clk.tick p || (List.range 4).any (fun l => (servingLane (start s) p l).isSome)) = true :=
      Bool.eq_false_iff.1 (Bool.or_eq_false_iff.2 ⟨h1, h2⟩)
    dsimp only
    rw [if_neg hc]
  · have hc : ¬ (darkIn (start s) p || (portFormat (start s) p == 1 && markersSeen (start s) p)) = true := by
      refine Bool.eq_false_iff.1 (Bool.or_eq_false_iff.2 ⟨h1, ?_⟩)
      cases hf : portFormat (start s) p == 1 with
      | false => rfl
      | true => exact h2 (beq_iff_eq.1 hf)
    dsimp only
    rw [if_neg hc]
  · have hc : ¬ (darkIn (start s) p || darkOut (start s) (start s).clk.tick p) = true :=
      Bool.eq_false_iff.1 (Bool.or_eq_false_iff.2 ⟨h1, h2⟩)
    dsimp only
    rw [if_neg hc]

theorem portDown_answers {p : Port} {why : DownCause} {s : State} (hp : portState s p = .inService)
    (hw : (why = .lanes ∧ darkOut s s.clk.tick p = false ∧ (List.range 4).any (fun l => (servingLane s p l).isSome) = false)
      ∨ (why = .markers ∧ darkIn s p = false ∧ (portFormat s p = 1 → markersSeen s p = false))
      ∨ (why = .training ∧ darkIn s p = false ∧ darkOut s s.clk.tick p = false)) :
    Answers (.portDown p why) s fun t =>
      (portOf t p).state = if partnerLeft s p = true ∨ Cfg.DP_FLAP_HOLD_US s = 0 then .down else .held := by
  refine ⟨_, exec_portDown hp hw, ?_⟩
  dsimp only
  rw [portOf_settle]
  exact portFalls_state p (start s)

/-! ### PORT_UP -/

theorem portUp_answers {p : Port} {s : State} (h1 : portState s p ≠ .inService) (h2 : portState s p ≠ .disabled)
    (ht : (portOf s p).trained = true) (hm : portFormat s p = 2 ∨ darkIn s p = true ∨ markersSeen s p = true)
    (hl : ∀ d, d < 2 → (List.range 4).any (fun l => laneSt s p d l == .inService || laneSt s p d l == .moved) = true)
    (hf : ((SMap.get? s.hl.neighbours p).any fun n => n.state == .fenced) = false) (hb : benchServes s (benchOf p) = true) :
    Answers (.portUp p) s fun t => (portOf t p).state = .inService := by
  refine ⟨_, Eq.refl (execPortUp p s), ?_⟩
  have hc : ¬ (portState (start s) p = .inService || portState (start s) p = .disabled || !(portOf (start s) p).trained
      || !((List.range 4).any fun l => laneSt (start s) p 0 l == .inService || laneSt (start s) p 0 l == .moved)
      || !((List.range 4).any fun l => laneSt (start s) p 1 l == .inService || laneSt (start s) p 1 l == .moved)
      || !(portFormat (start s) p == 2 || darkIn (start s) p || markersSeen (start s) p)
      || ((SMap.get? (start s).hl.neighbours p).any fun n => n.state == .fenced) || !benchServes (start s) (benchOf p)) = true := by
    have hm' : (portFormat s p == 2 || darkIn s p || markersSeen s p) = true := by
      obtain h | h | h := hm <;> simp [h]
    have hall : (decide (portState s p = .inService) || decide (portState s p = .disabled) || !(portOf s p).trained
        || !((List.range 4).any fun l => laneSt s p 0 l == .inService || laneSt s p 0 l == .moved)
        || !((List.range 4).any fun l => laneSt s p 1 l == .inService || laneSt s p 1 l == .moved)
        || !(portFormat s p == 2 || darkIn s p || markersSeen s p)
        || ((SMap.get? s.hl.neighbours p).any fun n => n.state == .fenced) || !benchServes s (benchOf p)) = false := by
      rw [hm', hl 0 (by decide), hl 1 (by decide), hf, hb, ht, decide_eq_false h1, decide_eq_false h2]
      rfl
    exact Bool.eq_false_iff.1 hall
  have hs : ∀ u : State, (portOf (portTouch p (setPort p { portOf u p with state := .inService, holdEnd := 0 } u)) p).state = .inService :=
    fun u => by rw [portOf_of_ports (of_parked_ports (parked_portTouch _ _)), portOf_setPort]
  generalize start s = u at hc ⊢
  dsimp only
  rw [if_neg hc, portOf_settle]
  split
  · exact hs u
  · exact (congrArg PortDp.state (portOf_raise _ _ _ _)).trans (hs u)

end Sys2Proof.Machine
end
section
/-! The rows of the bench datapath, each by the theorem of its row. -/
namespace Sys2Proof.Machine
open Sys2Proof

/-- Settles O18: each row of the datapath by its own theorem, the lane-slots and draws first, then the open packets, what waits too
long, strata and the ports. -/
theorem queueRows : Obligations.QueueRows :=
  ⟨fun _ _ _ _ _ _ hd hf hk hm => laneSlotStart_marker hf hk hd hm,
    fun _ _ _ _ _ hv hf hk hm hp hd => laneSlotStart_drawn hv hf hk hm hp hd,
    fun _ _ _ _ _ _ _ _ _ h hf => scDraw_lends_slot h hf,
    fun _ _ _ _ _ _ _ _ _ _ h hf hr hq => scDraw_draws_first h hf hr hq,
    fun _ _ _ _ _ h => egressStart_sends h,
    fun _ _ _ _ _ h => ptpEventForward_sends h,
    fun _ _ _ _ _ _ hx hs hb hv hd hq hc => escapeMove_answers hx hs hb hv hd hq hc,
    fun _ _ _ _ hv hn hd hk ho hp => creditStall_answers hv hn hd hk ho hp,
    fun _ _ _ _ _ hx hh hl hd hp => headDrop_answers hx hh hl hd hp,
    fun _ _ _ _ hx he hd => timeMsgExpire_answers hx he hd,
    scDeadlineDrop_answers,
    fun _ _ _ _ ho hn hd => reseqIdleExpiry_answers ho hn hd,
    fun _ _ _ hx ha => refillComplete_sc hx ha,
    fun _ _ _ hs hx ha hr => refillComplete_open hs hx ha hr,
    fun _ _ h => strataReadError_answers h,
    fun _ _ _ hp hw => portDown_answers hp hw,
    fun _ _ hp hd => flapHoldExpiry_answers hp hd,
    fun _ _ h1 h2 ht hm hl hf hb => portUp_answers h1 h2 ht hm hl hf hb⟩

end Sys2Proof.Machine
end
section
/-! Credit accounts (R120, R122, R137): counts are held modulo 2^32, so what is outstanding is the way from one count to another. -/
namespace Sys2Proof.Machine
open Sys2Proof

theorem not_before32 {a b : Nat} (h : a = b ∨ serialAfter 32 a b = true) : before32 a b = false := by
  obtain h | h := h <;> simp [before32, h]

theorem before32_of_after {a b : Nat} (ha : a < 2 ^ 32) (hb : b < 2 ^ 32) (h : serialAfter 32 b a = true) : before32 a b = true := by
  have hne : a ≠ b := fun e => by
    subst e
    exact absurd ((serialAfter_iff _ _ _).1 h).1 (by rw [serialDist_self ha]; decide)
  have turn := serialDist_add hne ha hb
  obtain ⟨-, hlt⟩ := (serialAfter_iff _ _ _).1 h
  have hn : serialAfter 32 a b = false := by
    rw [← Bool.not_eq_true, serialAfter_iff]; omega
  simp [before32, hne, hn]

/-- Where the partner's `Freed`, moved by the base, lies `n` behind what was sent, `n` are outstanding. -/
theorem outstanding_of_behind {c : Credit} {n : Nat} (hn : n < 2 ^ 31) (h : (c.pFreed + c.shift + n) % 2 ^ 32 = c.sent % 2 ^ 32) :
    c.outstanding = n := by
  unfold Credit.outstanding toSigned serialDist
  split <;> omega

/-- Taking the partner's `Freed` as a base puts the two counts level. -/
theorem creditBase_level (c : Credit) (a b : Nat) (hb : b < 2 ^ 32) : (b + (creditBase c a b).shift) % 2 ^ 32 = c.sent % 2 ^ 32 := by
  unfold creditBase serialDist
  dsimp only
  omega

theorem outstanding_freed {c : Credit} {k : Nat} (h : (k : Int) ≤ c.outstanding + 2 ^ 31) :
    ({ c with pFreed := (c.pFreed + k) % 2 ^ 32 } : Credit).outstanding = c.outstanding - k := by
  unfold Credit.outstanding toSigned serialDist at *
  dsimp only at *
  split at h <;> split <;> omega

theorem creditJudge_loss {c : Credit} {a b lost : Nat} (hr : c.received < 2 ^ 32) (hl : lost < 2 ^ 31) (ha : a = (c.received + lost) % 2 ^ 32)
    (hb : b = c.pFreed ∨ serialAfter 32 b c.pFreed = true) :
    creditJudge c a b = ({ c with received := a, pFreed := b, freed := (c.freed + lost) % 2 ^ 32 }, lost, false) := by
  have hd : serialDist 32 a c.received = lost := by rw [ha, serialDist_forward hr (by omega)]
  have hs : before32 a c.received = false := by
    refine not_before32 ?_
    rw [serialAfter_iff, hd]
    omega
  simp [creditJudge, hs, not_before32 hb, hd]

theorem outstanding_base (c : Credit) (a : Nat) {b : Nat} (hb : b < 2 ^ 32) : (creditBase c a b).outstanding = 0 := by
  refine outstanding_of_behind (n := 0) (by norm_num) ?_
  rw [Nat.add_zero]
  exact creditBase_level c a b hb

theorem outstanding_sent (c : Credit) (a : Nat) {b n : Nat} (hb : b < 2 ^ 32) (hn : n < 2 ^ 31) :
    ({ creditBase c a b with sent := (c.sent + n) % 2 ^ 32 } : Credit).outstanding = n := by
  refine outstanding_of_behind hn ?_
  have level := creditBase_level c a b hb
  simp only [creditBase] at level ⊢
  omega

theorem creditJudge_back {c : Credit} {a : Nat} (b : Nat) (ha : a < 2 ^ 32) (hr : c.received < 2 ^ 32) (h : serialAfter 32 c.received a = true) :
    creditJudge c a b = (creditBase c a b, 0, true) := by
  rw [creditJudge, before32_of_after ha hr h, Bool.true_or, if_pos rfl]

/-- Settles O49: the base makes the counts level, and every later count is a way forward or back from it. -/
theorem creditBaseRule : Obligations.CreditBase :=
  ⟨fun c a _ hb => outstanding_base c a hb, fun c a _ _ hb hn => outstanding_sent c a hb hn, fun _ _ h => outstanding_freed h,
    fun _ _ _ _ hr _ hl ha hb => creditJudge_loss hr hl ha hb, fun _ _ b ha hr h => creditJudge_back b ha hr h⟩

end Sys2Proof.Machine
end
section
/-! Runs of bytes: what a field reads after bytes are put together or overwritten. -/
namespace Sys2Proof.Machine
open Sys2Proof

/-! ### Fields of a run -/

/-- A field is the bytes at its places, zero past the end. -/
theorem slice_eq_map (bs : Bytes) (off len : Nat) : slice bs off len = (List.range len).map fun i => bs.getD (off + i) 0 := by
  refine List.ext_getElem? fun i => ?_
  unfold slice
  dsimp only
  rw [List.getElem?_map, List.getElem?_append]
  by_cases hi : i < len
  · split
    · next h =>
      simp only [List.length_take, List.length_drop, lt_inf_iff] at h
      rw [List.getElem?_take_of_lt hi, List.getElem?_drop, List.getElem?_range hi]
      simp [List.getD_eq_getElem?_getD, show off + i < bs.length by omega]
    · next h =>
      simp only [List.length_take, List.length_drop, lt_inf_iff, not_and, not_lt] at h
      rw [List.getElem?_replicate, List.getElem?_range hi]
      simp only [List.length_take, List.length_drop, Option.map_some, List.getD_eq_getElem?_getD]
      rw [if_pos (by omega), List.getElem?_eq_none (by omega)]
      rfl
  · split
    · next h =>
      simp only [List.length_take, lt_inf_iff] at h
      omega
    · next h =>
      rw [List.getElem?_replicate, List.getElem?_eq_none (l := List.range len) (by simpa using hi)]
      simp only [List.length_take, List.length_drop]
      rw [if_neg (by omega)]; rfl

@[simp] theorem length_slice (bs : Bytes) (off len : Nat) : (slice bs off len).length = len := by simp [slice_eq_map]

theorem slice_congr {as bs : Bytes} {m n len : Nat} (h : ∀ i < len, as.getD (m + i) 0 = bs.getD (n + i) 0) : slice as m len = slice bs n len := by
  rw [slice_eq_map, slice_eq_map]
  exact List.map_congr_left fun i hi => h i (List.mem_range.1 hi)

theorem slice_of_le {bs : Bytes} {off len : Nat} (h : off + len ≤ bs.length) : slice bs off len = (bs.drop off).take len := by
  unfold slice
  have : ((bs.drop off).take len).length = len := by simp only [List.length_take, List.length_drop]; omega
  dsimp only
  rw [this, Nat.sub_self, List.replicate_zero, List.append_nil]

theorem slice_self {bs : Bytes} {n : Nat} (h : bs.length = n) : slice bs 0 n = bs := by
  subst h
  rw [slice_of_le (by omega)]
  simp

theorem slice_append_left {as : Bytes} (bs : Bytes) {off len : Nat} (h : off + len ≤ as.length) : slice (as ++ bs) off len = slice as off len :=
  slice_congr fun i hi => List.getD_append _ _ _ _ (by omega)

theorem slice_append_right {as : Bytes} (bs : Bytes) {off len : Nat} (h : as.length ≤ off) :
    slice (as ++ bs) off len = slice bs (off - as.length) len :=
  slice_congr fun i _ => by rw [List.getD_append_right _ _ _ _ (by omega)]; congr 1; omega

theorem slice_add (bs : Bytes) (off m n : Nat) : slice bs off (m + n) = slice bs off m ++ slice bs (off + m) n := by
  simp only [slice_eq_map, List.range_add, List.map_append, List.map_map]
  congr 1
  exact List.map_congr_left fun i _ => by simp [Nat.add_assoc]

/-! ### Numbers -/

@[simp] theorem length_leBytes (n v : Nat) : (leBytes n v).length = n := by
  induction n generalizing v with
  | zero => rfl
  | succ n ih => simp [leBytes, ih]

@[simp] theorem length_beBytes (n v : Nat) : (beBytes n v).length = n := by simp [beBytes]

theorem beNat_concat (bs : Bytes) (b : Byte) : beNat (bs ++ [b]) = beNat bs * 256 + b.toNat := by simp [beNat]

theorem beNat_append (as bs : Bytes) : beNat (as ++ bs) = beNat as * 256 ^ bs.length + beNat bs := by
  induction bs using List.reverseRecOn with
  | nil => simp [beNat]
  | append_singleton bs b ih =>
    rw [← List.append_assoc, beNat_concat, ih, beNat_concat, List.length_append, List.length_singleton, Nat.pow_succ]
    ring

theorem beNat_lt (bs : Bytes) : beNat bs < 256 ^ bs.length := by
  induction bs using List.reverseRecOn with
  | nil => simp [beNat]
  | append_singleton bs b ih =>
    have := b.isLt
    rw [beNat_concat, List.length_append, List.length_singleton, Nat.pow_succ]
    omega

theorem beAt_lt (bs : Bytes) (off len : Nat) : beAt bs off len < 256 ^ len := by simpa [beAt] using beNat_lt (slice bs off len)

theorem beAt_add (bs : Bytes) (off m n : Nat) : beAt bs off (m + n) = beAt bs off m * 256 ^ n + beAt bs (off + m) n := by
  simp [beAt, slice_add, beNat_append]

/-- A field that a number was written into reads the number. -/
theorem beAt_of_slice {bs : Bytes} {off len v : Nat} (h : slice bs off len = beBytes len v) (hv : v < 256 ^ len) : beAt bs off len = v := by
  rw [beAt, h, beNat_beBytes len v hv]

/-! ### Overwriting -/

theorem splice_of_le {bs : Bytes} {off : Nat} (h : off ≤ bs.length) (new : Bytes) :
    splice bs off new = bs.take off ++ new ++ bs.drop (off + new.length) := by
  simp [splice, Nat.min_eq_left h]

theorem length_splice {bs new : Bytes} {off : Nat} (h : off + new.length ≤ bs.length) : (splice bs off new).length = bs.length := by
  rw [splice_of_le (by omega)]
  simp only [List.length_append, List.length_take, List.length_drop]
  omega

/-- The byte at a place after an overwrite. -/
theorem getElem?_splice {bs new : Bytes} {off : Nat} (h : off + new.length ≤ bs.length) (i : Nat) :
    (splice bs off new)[i]? = if off ≤ i ∧ i < off + new.length then new[i - off]? else bs[i]? := by
  have ht : (bs.take off).length = off := by simp; omega
  rw [splice_of_le (by omega), List.append_assoc, List.getElem?_append, ht]
  split
  · rw [if_neg (by omega), List.getElem?_take_of_lt (by omega)]
  · rw [List.getElem?_append]
    split
    · rw [if_pos (by omega)]
    · rw [if_neg (by omega), List.getElem?_drop]
      congr 1; omega

theorem slice_splice_self {bs new : Bytes} {off len : Nat} (hn : new.length = len) (h : off + len ≤ bs.length) :
    slice (splice bs off new) off len = new := by
  refine Eq.trans (slice_congr fun i hi => ?_) (slice_self hn)
  rw [List.getD_eq_getElem?_getD, List.getD_eq_getElem?_getD, getElem?_splice (by omega), if_pos (by omega)]
  congr 2; omega

/-- A field apart from the bytes overwritten stays. -/
theorem slice_splice_of_apart {bs new : Bytes} {off at' len : Nat} (h : off + new.length ≤ bs.length) (ha : at' + len ≤ off ∨ off + new.length ≤ at') :
    slice (splice bs off new) at' len = slice bs at' len :=
  slice_congr fun i hi => by
    rw [List.getD_eq_getElem?_getD, List.getD_eq_getElem?_getD, getElem?_splice h, if_neg (by omega)]

end Sys2Proof.Machine
end
section
/-! Check codes and the checks of a packet (R112, R113): both stored checks stand apart from the bytes they cover. -/
namespace Sys2Proof.Machine
open Sys2Proof

/-! ### Ranges of the check codes -/

theorem crcStepR_lt {poly c : Nat} (hp : poly < 2 ^ 32) (hc : c < 2 ^ 32) : crcStepR poly c < 2 ^ 32 := by
  have : c >>> 1 < 2 ^ 32 := by rw [Nat.shiftRight_eq_div_pow]; omega
  unfold crcStepR
  split
  · exact Nat.xor_lt_two_pow this hp
  · exact this

theorem crc32c_lt (bs : Bytes) : crc32c bs < 2 ^ 32 := by
  have step : ∀ c < 2 ^ 32, crcStepR 0x82F63B78 c < 2 ^ 32 := fun c hc => crcStepR_lt (by decide) hc
  refine Nat.xor_lt_two_pow ?_ (by decide)
  refine List.foldlRecOn (motive := fun c => c < 2 ^ 32) bs _ (by decide) fun c hc b _ => ?_
  have : c ^^^ b.toNat < 2 ^ 32 := Nat.xor_lt_two_pow hc (b.isLt.trans (by decide))
  dsimp only
  iterate 8 apply step
  exact this

theorem crcStep_lt (w poly c : Nat) : crcStep w poly c < 2 ^ w := by
  unfold crcStep
  split <;> exact Nat.mod_lt _ (Nat.two_pow_pos w)

theorem crc16_lt (bs : Bytes) : crc16 bs < 2 ^ 16 :=
  List.foldlRecOn (motive := fun c => c < 2 ^ 16) bs _ (by decide) fun _ _ _ _ => crcStep_lt 16 _ _

theorem hdrCheckOf_lt (bs : Bytes) : hdrCheckOf bs < 2 ^ 16 := crc16_lt _
theorem crcOf_lt (bs : Bytes) : crcOf bs < 2 ^ 32 := crc32c_lt _
theorem pkCrc_lt (k : Packet) : pkCrc k < 2 ^ 32 := beAt_lt _ _ 4
theorem pkHdrCheck_lt (k : Packet) : pkHdrCheck k < 2 ^ 16 := beAt_lt _ _ 2

/-! ### The CRC-32C at the end -/

section
variable {bs : Bytes} (v : Nat)

theorem length_setCrc (h : 4 ≤ bs.length) : (setCrc bs v).length = bs.length := by
  simp only [setCrc, List.length_append, List.length_take, length_beBytes]; omega

theorem take_setCrc (n : Nat) (h : bs.length = n + 4) : (setCrc bs v).take n = bs.take n := by
  simp [setCrc, h]

theorem slice_setCrc {off len : Nat} (h : off + len ≤ bs.length - 4) : slice (setCrc bs v) off len = slice bs off len := by
  have ht : (bs.take (bs.length - 4)).length = bs.length - 4 := by simp
  unfold setCrc
  rw [slice_append_left _ (by omega), slice_of_le (by omega), slice_of_le (by omega), List.drop_take, List.take_take, Nat.min_eq_left (by omega)]

theorem getElem?_setCrc {i : Nat} (h : i < bs.length - 4) : (setCrc bs v)[i]? = bs[i]? := by
  unfold setCrc
  rw [List.getElem?_append_left (by simp; omega), List.getElem?_take_of_lt h]

variable {v}

theorem pkCrc_setCrc (h : 4 ≤ bs.length) (hv : v < 2 ^ 32) : pkCrc ⟨setCrc bs v⟩ = v := by
  refine beAt_of_slice ?_ hv
  rw [length_setCrc v h, setCrc, slice_append_right _ (by simp), List.length_take, Nat.min_eq_left (by omega), Nat.sub_self]
  exact slice_self (length_beBytes 4 v)

theorem crcOf_setCrc (h : 4 ≤ bs.length) : crcOf (setCrc bs v) = crcOf bs := by
  rw [crcOf, length_setCrc v h, take_setCrc v _ (by omega), crcOf]

theorem hdrCheckOf_setCrc (h : 36 ≤ bs.length) : hdrCheckOf (setCrc bs v) = hdrCheckOf bs := by
  rw [hdrCheckOf, slice_setCrc v (by omega), slice_setCrc v (by omega), hdrCheckOf]

end

/-- The header check takes its own two bytes as zero, so filling them leaves it. -/
theorem hdrCheckOf_splice {bs new : Bytes} (hn : new.length = 2) (h : 0x14 ≤ bs.length) : hdrCheckOf (splice bs 0x12 new) = hdrCheckOf bs := by
  rw [hdrCheckOf, slice_splice_of_apart (by omega) (by omega), slice_splice_of_apart (by omega) (by omega), hdrCheckOf]

end Sys2Proof.Machine
end
section
/-! What the part writes into a packet is what is read from it (R111, R112, R114, R116). -/
namespace Sys2Proof.Machine
open Sys2Proof

/-- The part at a place of a run made of parts. -/
theorem slice_flatten {ps : List Bytes} (i : Nat) {off len : Nat} {p : Bytes} (hp : ps[i]? = some p) (hn : p.length = len)
    (ho : ((ps.take i).map List.length).sum = off) : slice ps.flatten off len = p := by
  obtain ⟨hi, rfl⟩ := List.getElem?_eq_some_iff.1 hp
  have hf : ps.flatten = (ps.take i).flatten ++ (ps[i] ++ (ps.drop (i + 1)).flatten) := by
    rw [← List.flatten_cons, ← List.drop_eq_getElem_cons hi, ← List.flatten_append, List.take_append_drop]
  have hl : (ps.take i).flatten.length = off := by rw [List.length_flatten, ho]
  rw [hf, slice_append_right _ hl.le, hl, Nat.sub_self, slice_append_left _ (by omega), slice_self hn]

/-! ### Fields of the words that both forms share (R112, R116) -/

section
variable {k : Packet}

theorem fields_word0 {f vc e dest : Nat} (h : beAt k.bytes 0 4 = f * 2 ^ 28 + vc * 2 ^ 26 + e * 2 ^ 25 + dest) (hf : f < 2 ^ 4) (hv : vc < 4)
    (he : e < 2) (hd : dest < 2 ^ 24) : pkFormat k = f ∧ pkVc k = vc ∧ pkE k = e ∧ pkDest k = dest := by
  simp only [pkFormat, pkVc, pkE, pkDest, pkBits, h, bits, Nat.shiftRight_eq_div_pow]
  omega

theorem fields_word1 {op src : Nat} (h : beAt k.bytes 4 4 = op * 2 ^ 24 + src) (ho : op < 2 ^ 8) (hs : src < 2 ^ 24) :
    pkOp k = op ∧ pkSrc k = src := by
  simp only [pkOp, pkSrc, pkBits, h, bits, Nat.shiftRight_eq_div_pow]
  omega

theorem fields_word2 {flow : Nat} {m : Bool} (h : beAt k.bytes 8 4 = flow * 2 ^ 12 + b2n m * 2 ^ 11) (hf : flow < 2 ^ 20) :
    pkFlow k = flow ∧ pkM k = m := by
  have hb : b2n m < 2 := by cases m <;> decide
  have hm : (b2n m == 1) = m := by cases m <;> rfl
  refine ⟨?_, ?_⟩
  · simp only [pkFlow, pkBits, h, bits, Nat.shiftRight_eq_div_pow]
    omega
  · have : (flow * 2 ^ 12 + b2n m * 2 ^ 11) / 2 ^ 11 % 2 = b2n m := by omega
    rw [pkM, h, bit, Nat.shiftRight_eq_div_pow, this, hm]

end

/-! ### Filling in the checks -/

/-- The header check written into its place. -/
def hdrFilled (bs : Bytes) : Bytes := splice bs 0x12 (beBytes 2 (hdrCheckOf bs))

theorem pkFinish_false (bs : Bytes) : pkFinish false bs = ⟨setCrc bs (crcOf bs)⟩ := rfl
theorem pkFinish_true (bs : Bytes) : pkFinish true bs = pkFinish false (hdrFilled bs) := rfl

section
variable {bs : Bytes}

theorem length_hdrFilled (h : 0x14 ≤ bs.length) : (hdrFilled bs).length = bs.length := length_splice (by rw [length_beBytes]; omega)

theorem length_pkFinish (b : Bool) (h : 0x14 ≤ bs.length) : (pkFinish b bs).bytes.length = bs.length := by
  have hf : ∀ x : Bytes, 0x14 ≤ x.length → (pkFinish false x).bytes.length = x.length := fun x hx => by
    rw [pkFinish_false, length_setCrc _ (by omega)]
  cases b with
  | false => exact hf bs h
  | true =>
    have hl := length_hdrFilled h
    rw [pkFinish_true, hf _ (by omega), hl]

theorem slice_pkFinish_false {off len : Nat} (h : off + len ≤ bs.length - 4) : slice (pkFinish false bs).bytes off len = slice bs off len :=
  slice_setCrc _ h

theorem slice_pkFinish_true {off len : Nat} (h : off + len ≤ bs.length - 4) (hb : 0x14 ≤ bs.length) (ha : off + len ≤ 0x12 ∨ 0x14 ≤ off) :
    slice (pkFinish true bs).bytes off len = slice bs off len := by
  rw [pkFinish_true, slice_pkFinish_false (by rw [length_hdrFilled hb]; exact h)]
  exact slice_splice_of_apart (by rw [length_beBytes]; omega) (by rw [length_beBytes]; omega)

theorem pkCrcOk_pkFinish (b : Bool) (h : 0x14 ≤ bs.length) : pkCrcOk (pkFinish b bs) = true := by
  have hf : ∀ x : Bytes, 0x14 ≤ x.length → pkCrcOk (pkFinish false x) = true := fun x hx => by
    rw [pkFinish_false, pkCrcOk, pkCrc_setCrc (by omega) (crcOf_lt x), crcOf_setCrc (by omega), beq_self_eq_true]
  cases b with
  | false => exact hf bs h
  | true => rw [pkFinish_true, hf _ (by rw [length_hdrFilled h]; exact h)]

theorem pkHdrOk_pkFinish (h : 36 ≤ bs.length) : pkHdrOk (pkFinish true bs) = true := by
  have hl := length_hdrFilled (bs := bs) (by omega)
  have hc : pkHdrCheck (pkFinish true bs) = hdrCheckOf bs := by
    refine beAt_of_slice ?_ (hdrCheckOf_lt bs)
    rw [pkFinish_true, slice_pkFinish_false (by omega)]
    exact slice_splice_self (length_beBytes 2 _) (by omega)
  have ho : hdrCheckOf (pkFinish true bs).bytes = hdrCheckOf bs :=
    (hdrCheckOf_setCrc (bs := hdrFilled bs) (by omega)).trans (hdrCheckOf_splice (length_beBytes 2 _) (by omega))
  rw [pkHdrOk, hc, ho, beq_self_eq_true]

end

/-! ### Data packets (R112) -/

/-- The parts of a data packet in their order, its checks not yet filled in. -/
def dataParts (h : DataHdr) (d : Bytes) (st : Nat) : List Bytes :=
  [beBytes 4 (0x5 * 2 ^ 28 + h.vc * 2 ^ 26 + h.e * 2 ^ 25 + h.dest), beBytes 4 (h.op * 2 ^ 24 + h.src),
    beBytes 4 (h.flow * 2 ^ 12 + b2n h.m * 2 ^ 11), beBytes 2 h.seq, beBytes 2 h.job, beBytes 4 (d.length * 2 ^ 19), beBytes 2 h.member, [0],
    beBytes 1 h.hop, beBytes 8 h.operand, d, beBytes 4 st, [0, 0, 0, 0]]

section
variable (h : DataHdr) (d : Bytes) (st : Nat)

theorem mkData_eq : mkData h d st = pkFinish true (dataParts h d st).flatten := by
  simp only [mkData, dataParts, List.flatten_cons, List.flatten_nil, List.append_assoc, List.append_nil]

theorem length_dataParts : (dataParts h d st).flatten.length = 40 + d.length := by
  simp only [dataParts, List.length_flatten, List.map_cons, List.map_nil, List.sum_cons, List.sum_nil, length_beBytes, List.length_cons, List.length_nil]
  omega

theorem pkWire_mkData : pkWire (mkData h d st) = 40 + d.length := by
  rw [pkWire, mkData_eq, length_pkFinish true (by rw [length_dataParts]; omega), length_dataParts]

variable {h d st}

/-- A part that stands before the CRC-32C and apart from the header check reads back. -/
theorem slice_mkData (i : Nat) {off len : Nat} {p : Bytes} (hp : (dataParts h d st)[i]? = some p) (hn : p.length = len)
    (ho : (((dataParts h d st).take i).map List.length).sum = off) (hl : off + len ≤ 36 + d.length) (ha : off + len ≤ 0x12 ∨ 0x14 ≤ off) :
    slice (mkData h d st).bytes off len = p := by
  have hd := length_dataParts h d st
  rw [mkData_eq, slice_pkFinish_true (by omega) (by omega) ha, slice_flatten i hp hn ho]

theorem pkLen_mkData (hd : d.length < 2 ^ 13) : pkLen (mkData h d st) = d.length := by
  have hl := length_dataParts h d st
  have hw : beAt (dataParts h d st).flatten 0x10 (2 + 2) = d.length * 2 ^ 19 := beAt_of_slice (slice_flatten 5 rfl (length_beBytes 4 _) rfl) (by omega)
  have hk : beAt (mkData h d st).bytes 0x10 2 = beAt (dataParts h d st).flatten 0x10 2 := by
    rw [mkData_eq, beAt, slice_pkFinish_true (by omega) (by omega) (by omega), beAt]
  have h1 := beAt_add (mkData h d st).bytes 0x10 2 2
  have h2 := beAt_add (dataParts h d st).flatten 0x10 2 2
  have h3 := beAt_lt (mkData h d st).bytes (0x10 + 2) 2
  have h4 := beAt_lt (dataParts h d st).flatten (0x10 + 2) 2
  have hf : pkLen (mkData h d st) = beAt (mkData h d st).bytes 0x10 (2 + 2) / 2 ^ 19 % 2 ^ 13 := by
    rw [pkLen, pkBits, bits, Nat.shiftRight_eq_div_pow]
  omega

theorem pkPayload_mkData : pkPayload (mkData h d st) = d := by
  have hw := pkWire_mkData h d st
  rw [pkWire] at hw
  have hs : slice (mkData h d st).bytes 32 d.length = d := slice_mkData 10 rfl rfl rfl (by omega) (by omega)
  rw [pkPayload, hw, Nat.add_sub_cancel_left, ← slice_of_le (by omega), hs]

theorem pkStamp_mkData (hs : st < 2 ^ 32) : pkStamp (mkData h d st) = st := by
  have hw := pkWire_mkData h d st
  rw [pkWire] at hw
  refine beAt_of_slice (slice_mkData 11 rfl (length_beBytes 4 st) ?_ (by omega) (by omega)) hs
  rw [hw]
  simp [dataParts]
  omega

end
/-! ### Control packets (R116) -/

section
variable (vc e dest op src flow : Nat) (m : Bool) (seq job port epoch : Nat) (body : Bytes) (st : Nat)

/-- The parts of a control packet in their order, its check not yet filled in. -/
def controlParts : List Bytes :=
  [beBytes 4 (0x6 * 2 ^ 28 + vc * 2 ^ 26 + e * 2 ^ 25 + dest), beBytes 4 (op * 2 ^ 24 + src), beBytes 4 (flow * 2 ^ 12 + b2n m * 2 ^ 11),
    beBytes 2 seq, beBytes 2 job, [0, 0], beBytes 2 port, beBytes 4 epoch, padTo 32 body, beBytes 4 st, [0, 0, 0, 0]]

theorem mkControl_eq : mkControl vc e dest op src flow m seq job port epoch body st
    = pkFinish false (controlParts vc e dest op src flow m seq job port epoch body st).flatten := by
  simp only [mkControl, controlParts, List.flatten_cons, List.flatten_nil, List.append_assoc, List.append_nil]

theorem length_controlParts : (controlParts vc e dest op src flow m seq job port epoch body st).flatten.length = 64 := by
  simp only [controlParts, List.length_flatten, List.map_cons, List.map_nil, List.sum_cons, List.sum_nil, length_beBytes, List.length_cons,
    List.length_nil, padTo, length_slice]
  rfl

theorem pkWire_mkControl : pkWire (mkControl vc e dest op src flow m seq job port epoch body st) = 64 := by
  rw [pkWire, mkControl_eq, length_pkFinish false (by rw [length_controlParts]; omega), length_controlParts]

variable {vc e dest op src flow m seq job port epoch body st}

theorem slice_mkControl (i : Nat) {off len : Nat} {p : Bytes} (hp : (controlParts vc e dest op src flow m seq job port epoch body st)[i]? = some p)
    (hn : p.length = len) (ho : (((controlParts vc e dest op src flow m seq job port epoch body st).take i).map List.length).sum = off)
    (hl : off + len ≤ 60) : slice (mkControl vc e dest op src flow m seq job port epoch body st).bytes off len = p := by
  rw [mkControl_eq, slice_pkFinish_false (by rw [length_controlParts]; exact hl), slice_flatten i hp hn ho]

end

/-- Settles O52: each field is a part of the packet, at the sum of the lengths before it, and filling in the checks leaves the parts. -/
theorem packetForm : Obligations.PacketForm := by
  refine ⟨fun h d st hvc he hdest hop hsrc hflow hseq hjob hmember hhop hoperand hd hst => ?_,
    fun vc e dest op src flow seq job port epoch st m b hvc he hdest hop hsrc hflow hseq hjob hport hepoch hst hb => ?_⟩
  · have hl := length_dataParts h d st
    have field : ∀ (i off len v : Nat), (dataParts h d st)[i]? = some (beBytes len v) → (((dataParts h d st).take i).map List.length).sum = off →
        off + len ≤ 0x12 ∨ 0x14 ≤ off ∧ off + len ≤ 36 → v < 256 ^ len → beAt (mkData h d st).bytes off len = v := fun i off len v hp ho ha hv =>
      beAt_of_slice (slice_mkData i hp (length_beBytes len v) ho (by omega) (by omega)) hv
    have hm : b2n h.m < 2 := by cases h.m <;> decide
    obtain ⟨f1, f2, f3, f4⟩ := fields_word0 (field 0 0 4 _ rfl rfl (by omega) (by omega)) (by omega) hvc he hdest
    obtain ⟨f5, f6⟩ := fields_word1 (field 1 4 4 _ rfl rfl (by omega) (by omega)) hop hsrc
    obtain ⟨f7, f8⟩ := fields_word2 (field 2 8 4 _ rfl rfl (by omega) (by omega)) hflow
    refine ⟨f1, f2, f3, f4, f5, f6, f7, f8, field 3 0x0C 2 _ rfl rfl (by omega) hseq, field 4 0x0E 2 _ rfl rfl (by omega) hjob, pkLen_mkData hd,
      field 6 0x14 2 _ rfl rfl (by omega) hmember, field 8 0x17 1 _ rfl rfl (by omega) hhop, field 9 0x18 8 _ rfl rfl (by omega) hoperand,
      pkPayload_mkData, pkStamp_mkData hst, pkWire_mkData h d st, ?_, ?_⟩
    · rw [mkData_eq]; exact pkHdrOk_pkFinish (by omega)
    · rw [mkData_eq]; exact pkCrcOk_pkFinish true (by omega)
  · have hl := length_controlParts vc e dest op src flow m seq job port epoch b st
    have field : ∀ (i off len v : Nat), (controlParts vc e dest op src flow m seq job port epoch b st)[i]? = some (beBytes len v) →
        (((controlParts vc e dest op src flow m seq job port epoch b st).take i).map List.length).sum = off → off + len ≤ 60 → v < 256 ^ len →
        beAt (mkControl vc e dest op src flow m seq job port epoch b st).bytes off len = v := fun i off len v hp ho ha hv =>
      beAt_of_slice (slice_mkControl i hp (length_beBytes len v) ho ha) hv
    have hm : b2n m < 2 := by cases m <;> decide
    have hw := pkWire_mkControl vc e dest op src flow m seq job port epoch b st
    obtain ⟨f1, f2, f3, f4⟩ := fields_word0 (field 0 0 4 _ rfl rfl (by omega) (by omega)) (by omega) hvc he hdest
    obtain ⟨f5, f6⟩ := fields_word1 (field 1 4 4 _ rfl rfl (by omega) (by omega)) hop hsrc
    obtain ⟨f7, f8⟩ := fields_word2 (field 2 8 4 _ rfl rfl (by omega) (by omega)) hflow
    refine ⟨f1, f2, f3, f4, f5, f6, f7, f8, field 3 0x0C 2 _ rfl rfl (by omega) hseq, field 4 0x0E 2 _ rfl rfl (by omega) hjob,
      field 6 0x12 2 _ rfl rfl (by omega) hport, field 7 0x14 4 _ rfl rfl (by omega) hepoch, ?_, ?_, hw, ?_⟩
    · exact (slice_mkControl 8 (off := 0x18) rfl (length_slice _ _ _) rfl (by decide)).trans (slice_self hb)
    · rw [pkStamp, ← pkWire, hw]
      exact field 9 0x38 4 _ rfl (by simp [controlParts, padTo]) (by decide) hst
    · rw [mkControl_eq]; exact pkCrcOk_pkFinish false (by omega)

end Sys2Proof.Machine
end
section
/-! A rewrite in flight keeps a packet as sound as it was (R113), and the cells of a packet carry it in order (R129, R130). -/
namespace Sys2Proof.Machine
open Sys2Proof

/-! ### Rewrites in flight -/

/-- Two values moved by the same difference stand to each other as before. -/
theorem xor_moved_eq {a b c : Nat} : a ^^^ b ^^^ c = c ↔ a = b := by
  rw [Nat.xor_assoc, Nat.xor_comm b c, ← Nat.xor_assoc, Nat.xor_right_comm]
  constructor
  · intro h
    have := congrArg (· ^^^ c) h
    simpa [Nat.xor_eq_zero_iff] using this
  · rintro rfl; simp

/-- The bytes of a rewritten packet before its CRC-32C moves: those of `new`, with the header check of a data packet moved. -/
def rewritten (k : Packet) (new : Bytes) : Bytes :=
  if pkControl k then new else splice new 0x12 (beBytes 2 (pkHdrCheck k ^^^ hdrCheckOf k.bytes ^^^ hdrCheckOf new))

theorem pkChange_eq (k : Packet) (f : Bytes → Bytes) :
    pkChange k f = ⟨setCrc (rewritten k (f k.bytes)) (pkCrc k ^^^ crcOf k.bytes ^^^ crcOf (rewritten k (f k.bytes)))⟩ := rfl

section
variable {k : Packet} {new : Bytes} (h : 40 ≤ new.length)
include h

theorem length_rewritten : (rewritten k new).length = new.length := by
  unfold rewritten
  split
  · rfl
  · exact length_splice (by rw [length_beBytes]; omega)

theorem slice_rewritten {off len : Nat} (ha : off + len ≤ 0x12 ∨ 0x14 ≤ off) : slice (rewritten k new) off len = slice new off len := by
  unfold rewritten
  split
  · rfl
  · exact slice_splice_of_apart (by rw [length_beBytes]; omega) (by rw [length_beBytes]; omega)

theorem getElem?_rewritten {i : Nat} (ha : pkControl k = true ∨ i < 0x12 ∨ 0x14 ≤ i) : (rewritten k new)[i]? = new[i]? := by
  unfold rewritten
  split
  · rfl
  · next hc =>
    have := ha.resolve_left hc
    rw [getElem?_splice (by rw [length_beBytes]; omega), length_beBytes, if_neg (by omega)]

variable {v : Nat}

/-- The header check moves by as much as the one the header calls for. -/
theorem pkHdrOk_rewritten (hc : pkControl k = false) : pkHdrOk ⟨setCrc (rewritten k new) v⟩ = pkHdrOk k := by
  have hl := length_rewritten (k := k) h
  have hr : rewritten k new = splice new 0x12 (beBytes 2 (pkHdrCheck k ^^^ hdrCheckOf k.bytes ^^^ hdrCheckOf new)) := by
    rw [rewritten, hc]; exact if_neg Bool.false_ne_true
  have hk : pkHdrCheck ⟨setCrc (rewritten k new) v⟩ = pkHdrCheck k ^^^ hdrCheckOf k.bytes ^^^ hdrCheckOf new := by
    refine beAt_of_slice ((slice_setCrc v (by omega)).trans ?_)
      (Nat.xor_lt_two_pow (Nat.xor_lt_two_pow (pkHdrCheck_lt k) (hdrCheckOf_lt _)) (hdrCheckOf_lt _))
    rw [hr]
    exact slice_splice_self (length_beBytes 2 _) (by omega)
  have hn : hdrCheckOf (setCrc (rewritten k new) v) = hdrCheckOf new := by
    rw [hdrCheckOf_setCrc (by omega), hr, hdrCheckOf_splice (length_beBytes 2 _) (by omega)]
  rw [pkHdrOk, hk, hn, Bool.eq_iff_iff, beq_iff_eq, xor_moved_eq, pkHdrOk, beq_iff_eq]

end

section
variable {k : Packet} {f : Bytes → Bytes} (h : 40 ≤ (f k.bytes).length)
include h

theorem pkCrc_pkChange : pkCrc (pkChange k f) = pkCrc k ^^^ crcOf k.bytes ^^^ crcOf (pkChange k f).bytes := by
  have hl := length_rewritten (k := k) h
  rw [pkChange_eq, crcOf_setCrc (by omega),
    pkCrc_setCrc (by omega) (Nat.xor_lt_two_pow (Nat.xor_lt_two_pow (pkCrc_lt k) (crcOf_lt _)) (crcOf_lt _))]

theorem pkCrcOk_pkChange : pkCrcOk (pkChange k f) = pkCrcOk k := by
  rw [pkCrcOk, pkCrc_pkChange h, Bool.eq_iff_iff, beq_iff_eq, xor_moved_eq, pkCrcOk, beq_iff_eq]

theorem pkStomped_pkChange : pkStomped (pkChange k f) = pkStomped k := by
  have hx : ∀ a b c d : Nat, a ^^^ b ^^^ c = c ^^^ d ↔ a = b ^^^ d := fun a b c d => by
    rw [Nat.xor_comm c d, ← xor_moved_eq (a := a) (c := d ^^^ c), ← Nat.xor_assoc, Nat.xor_assoc (a ^^^ _), ← Nat.xor_assoc]
    simp [Nat.xor_assoc]
  rw [pkStomped, pkCrc_pkChange h, Bool.eq_iff_iff, beq_iff_eq, hx, pkStomped, beq_iff_eq]

end

/-- Settles O53: a rewrite overwrites its own bytes, moves the checks by the difference, and leaves every other byte. -/
theorem rewriteKeepsChecks : Obligations.RewriteKeepsChecks := by
  intro k off len v hk hl ha
  have hb : off + (beBytes len v).length ≤ k.bytes.length := by rw [length_beBytes]; omega
  have hn := length_splice hb
  have hr := length_rewritten (k := k) (new := splice k.bytes off (beBytes len v)) (by omega)
  have hf : 40 ≤ ((fun bs => splice bs off (beBytes len v)) k.bytes).length := hk.trans_eq hn.symm
  refine ⟨?_, fun hc => pkHdrOk_rewritten hf hc, pkCrcOk_pkChange hf, pkStomped_pkChange hf, ?_, fun i hi ho hc => ?_⟩
  · rw [pkSet, pkChange_eq, length_setCrc _ (by omega), hr, hn]
  · rw [pkSet, pkChange_eq, slice_setCrc _ (by omega), slice_rewritten (by omega) ha]
    exact slice_splice_self (length_beBytes len v) (by omega)
  · rw [pkSet, pkChange_eq, getElem?_setCrc _ (by omega), getElem?_rewritten (by omega) hc, getElem?_splice hb,
      if_neg (by rw [length_beBytes]; omega)]

/-! ### Cells -/

section
variable {pos valid cnt : Nat} {data : Bytes}

/-- A cell without its check. -/
def cellBody (pos valid cnt : Nat) (data : Bytes) : Bytes := beBytes 4 (pos * 2 ^ 30 + valid * 2 ^ 24 + cnt * 2 ^ 16) ++ padTo 56 data

theorem mkCell_eq : mkCell pos valid cnt data = cellBody pos valid cnt data ++ beBytes 4 (crc32c (cellBody pos valid cnt data)) := rfl

theorem length_cellBody : (cellBody pos valid cnt data).length = 60 := by simp [cellBody, padTo]

theorem cellOk_mkCell : cellOk (mkCell pos valid cnt data) = true := by
  have hl : (mkCell pos valid cnt data).length = 64 := by simp [mkCell_eq, length_cellBody]
  have ht : (mkCell pos valid cnt data).take 60 = cellBody pos valid cnt data := List.take_left' length_cellBody
  have hs : slice (mkCell pos valid cnt data) 60 4 = beBytes 4 (crc32c (cellBody pos valid cnt data)) := by
    rw [mkCell_eq, slice_append_right _ (by rw [length_cellBody]), length_cellBody]
    exact slice_self (length_beBytes 4 _)
  rw [cellOk, hl, beAt_of_slice hs (crc32c_lt _), ht, beq_self_eq_true, beq_self_eq_true, Bool.true_and]

theorem beAt_mkCell (hp : pos < 4) (hv : valid < 64) (hc : cnt < 256) :
    beAt (mkCell pos valid cnt data) 0 4 = pos * 2 ^ 30 + valid * 2 ^ 24 + cnt * 2 ^ 16 := by
  refine beAt_of_slice ?_ (by omega)
  rw [mkCell_eq, slice_append_left _ (by rw [length_cellBody]; omega), cellBody, slice_append_left _ (by rw [length_beBytes])]
  exact slice_self (length_beBytes 4 _)

/-- The header of a cell reads back. -/
theorem fields_mkCell (hp : pos < 4) (hv : valid < 64) (hc : cnt < 256) : cellPos (mkCell pos valid cnt data) = pos
    ∧ cellValid (mkCell pos valid cnt data) = valid ∧ cellCount (mkCell pos valid cnt data) = cnt := by
  simp only [cellPos, cellValid, cellCount, beAt_mkCell hp hv hc, bits, Nat.shiftRight_eq_div_pow]
  omega

theorem cellData_mkCell (hp : pos < 4) (hd : data.length ≤ 56) (hc : cnt < 256) : cellData (mkCell pos data.length cnt data) = data := by
  rw [cellData, (fields_mkCell hp (by omega) hc).2.1, Nat.min_eq_left hd, mkCell_eq, slice_append_left _ (by rw [length_cellBody]; omega), cellBody,
    slice_append_right _ (by rw [length_beBytes]), length_beBytes, padTo]
  refine (slice_congr fun i hi => ?_).trans (slice_self rfl)
  rw [slice_eq_map]
  simp [List.getD_eq_getElem?_getD, show i < 56 by omega]

end

/-! ### Records of a run -/

theorem length_chunksAux {n : Nat} (hn : 0 < n) : ∀ (f : Nat) (bs : Bytes), bs.length ≤ f * n → (chunksAux n f bs).length = ceilDiv bs.length n
  | 0, bs, h => by
    have : bs.length = 0 := by omega
    simp [chunksAux, ceilDiv, this, Nat.div_eq_of_lt (Nat.sub_lt hn Nat.one_pos)]
  | f + 1, bs, h => by
    unfold chunksAux
    split
    · next he => simp [List.isEmpty_iff.1 he, ceilDiv, Nat.div_eq_of_lt (Nat.sub_lt hn Nat.one_pos)]
    · next he =>
      have hb : 0 < bs.length := List.length_pos_iff.2 fun e => he (by simp [e])
      rw [List.length_cons, length_chunksAux hn f _ (by rw [List.length_drop]; rw [Nat.succ_mul] at h; omega), List.length_drop, ceilDiv, ceilDiv]
      obtain hl | hl := Nat.lt_or_ge n bs.length
      · rw [show bs.length + n - 1 = bs.length - n + n - 1 + n by omega, Nat.add_div_right _ hn]
      · rw [Nat.sub_eq_zero_of_le hl, Nat.zero_add, Nat.div_eq_of_lt (by omega : n - 1 < n), Nat.div_eq_of_lt_le] <;> omega

theorem getElem?_chunksAux {n : Nat} : ∀ (f : Nat) (bs : Bytes) (i : Nat) (x : Bytes), (chunksAux n f bs)[i]? = some x → x = (bs.drop (n * i)).take n
  | 0, _, _, _, h => by simp [chunksAux] at h
  | f + 1, bs, i, x, h => by
    unfold chunksAux at h
    split at h
    · simp at h
    · cases i with
      | zero => simpa using h.symm
      | succ i => rw [getElem?_chunksAux f _ i x (by simpa using h), List.drop_drop, Nat.mul_succ, Nat.add_comm]

theorem length_chunks {n : Nat} (hn : 0 < n) (bs : Bytes) : (chunks n bs).length = ceilDiv bs.length n :=
  length_chunksAux hn _ bs (by rw [Nat.succ_mul]; have := Nat.div_add_mod' bs.length n; have := Nat.mod_lt bs.length hn; omega)

theorem getElem?_numbered {α : Type} {l : List α} {i : Nat} {x : Nat × α} (h : (numbered l)[i]? = some x) : x.1 = i ∧ l[i]? = some x.2 := by
  obtain ⟨h1, h2⟩ := List.getElem?_zip_eq_some.1 h
  obtain ⟨_, h3⟩ := List.getElem?_eq_some_iff.1 h1
  exact ⟨h3.symm.trans (List.getElem_range _), h2⟩

/-- The place of a cell in its packet (R129): 3 the only one, 2 the first, 1 the last, 0 any other. -/
def placeOf (i n : Nat) : Nat := if i = 0 then (if i + 1 = n then 3 else 2) else if i + 1 = n then 1 else 0

theorem placeOf_lt (i n : Nat) : placeOf i n < 4 := by unfold placeOf; split <;> split <;> decide

/-- A cell of a packet carries its 56 bytes of head and payload. -/
theorem getElem?_mkCells {k : Packet} {n i : Nat} {c : Bytes} (h : (mkCells k n)[i]? = some c) : ∃ data, i < ceilDiv (cellHead k ++ cellPayload k).length 56
    ∧ data = ((cellHead k ++ cellPayload k).drop (56 * i)).take 56
    ∧ c = mkCell (placeOf i (ceilDiv (cellHead k ++ cellPayload k).length 56)) data.length ((n + i) % 256) data := by
  unfold mkCells at h
  rw [List.getElem?_map, Option.map_eq_some_iff] at h
  obtain ⟨x, hx, hc⟩ := h
  obtain ⟨h1, h2⟩ := getElem?_numbered hx
  obtain ⟨hi, -⟩ := List.getElem?_eq_some_iff.1 h2
  rw [length_chunks (by decide)] at hi hc
  refine ⟨x.2, hi, getElem?_chunksAux _ _ i x.2 h2, ?_⟩
  rw [← hc, h1]; rfl

/-- Settles O54: a cell of a packet is one record of its head and payload, with the header of its place. -/
theorem cellForm : Obligations.CellForm := by
  intro k n i c h
  obtain ⟨data, hi, hd, rfl⟩ := getElem?_mkCells h
  have hc : (n + i) % 256 < 256 := Nat.mod_lt _ (by decide)
  have hn : data.length ≤ 56 := by rw [hd]; exact List.length_take_le _ _
  obtain ⟨h1, -, h3⟩ := fields_mkCell (data := data) (placeOf_lt i (ceilDiv (cellHead k ++ cellPayload k).length 56)) (by omega : data.length < 64) hc
  refine ⟨cellOk_mkCell, h3, (cellData_mkCell (placeOf_lt _ _) hn hc).trans hd, h1.trans ?_, ?_⟩
  · have hw : 0 < (cellHead k ++ cellPayload k).length := by simp [cellHead]
    unfold placeOf ceilDiv at *
    generalize (cellHead k ++ cellPayload k).length = m at *
    split_ifs <;> omega
  · simp [mkCells, numbered, length_chunks]

end Sys2Proof.Machine
end
section
/-! What the operations of the datapath leave as they are: sending on lanes, draws, starts of open packets, and drops (R107, R150, R151,
R161, R300). -/
namespace Sys2Proof.Machine
open Sys2Proof

/-! ### Counters -/

/-- What the datapath, the links and the tick's work count. -/
def pathCounters : List Nat :=
  [E.CH_CLEARS, E.CH_SETS, E.DP_ENTRIES_LOST, E.DP_FLAP_DROPS, E.DP_OPEN_SENT, E.DP_RESEQ_HOLDS, E.DP_RESEQ_LATE, E.DP_RESEQ_SKIPPED,
   E.DP_RESEQ_TIMEOUTS, E.DP_SC_DRAWN, E.DP_STRATA_ERRORS, E.DP_STRATA_SPILLS, E.DP_TX_ABORTED, E.DX_EVENTS_SENT, E.DX_STATUS_COUNTS,
   E.DX_SUPERSEDED, E.FM_REQUESTS, E.FT_MSG_CORRECTED, E.FT_MSG_DROPPED, E.HL_DI_CHATTER, E.OP_BOOST_YIELDED, E.OP_FAULT_AT_RISK, E.OP_FAULT_MOVES,
   E.OP_FAULT_RX_DROPS, E.OP_FF_UNFORECAST, E.OP_LANES_DROPPED, E.OP_LOCK_LOSSES, E.OP_MOVES_ABANDONED, E.OP_RELOCKS, E.OP_RETURNS,
   E.OT_GAP_PASSES, E.OT_HEAD_DROPS, E.OT_HEAD_DROPS_MARKED, E.PKT_CELL_LOST, E.PKT_CRC_DROPS, E.PKT_CREDIT_LOST_BLOCKS, E.PKT_CREDIT_RESYNC,
   E.PKT_ESCAPE_MOVES, E.PKT_FORMAT_DROPS, E.PKT_HDR_DROPS, E.PKT_HOP_DROPS, E.PKT_LINK_MISMATCH, E.PKT_MARKER_MISMATCH,
   E.PKT_STOMPED_IN, E.PKT_STOMPED_OUT, E.PS_TRIM_WAKES, E.TM_CAPTURES, E.TT_BREACH_COUNT_00 + 0, E.TT_BREACH_COUNT_00 + 1,
   E.TT_BREACH_COUNT_00 + 2, E.TT_BREACH_COUNT_00 + 3, E.TT_BREACH_COUNT_00 + 4, E.TT_BREACH_COUNT_00 + 5, E.TT_BREACH_COUNT_00 + 6,
   E.TT_STAGE_FAULTS]

/-- No one can write a counter. -/
theorem setting_of_counter {e : Nat} (h : e ∈ pathCounters) : setting e = false :=
  (by decide +kernel : ∀ e ∈ pathCounters, setting e = false) e h

section
variable {l : List Part}

/-! ### One step where a condition holds -/

theorem Only.step_if {c : Prop} [Decidable c] {s t u : State} (h : Only l s t) (k : Only l t u) : Only l s (if c then u else t) :=
  h.trans (only_ite k (Only.refl t))

theorem Only.step_unless {c : Prop} [Decidable c] {s t u : State} (h : Only l s t) (k : Only l t u) : Only l s (if c then t else u) :=
  h.trans (only_ite (Only.refl t) k)

/-! ### Counts of lanes and ports -/

theorem occLane_only (p n e k : Nat) (a : OccAttr) (s : State) : Only l s (occLane p n e k a s) := (only_occ _ _ _ _ s).trans (only_occ _ _ _ _ _)

theorem occPort_only (p k n : Nat) (a : OccAttr) (s : State) : Only l s (occPort p k n a s) := only_occ _ _ _ _ s

theorem occSent_only (p n v : Nat) (k : Packet) (s : State) : Only l s (occSent p n v k s) :=
  (occLane_only _ _ _ _ _ s).trans ((occLane_only _ _ _ _ _ _).trans ((occPort_only _ _ _ _ _).trans (occPort_only _ _ _ _ _)))

theorem countSpill_only (b : Nat) (a : OccAttr) (s : State) : Only l s (countSpill b a s) := only_tally (setting_of_counter (by decide)) _ _ _ _ s

/-- The counter of each row of R58 is read-only. -/
theorem breach_only {row : Nat} (hr : setting (E.TT_BREACH_COUNT_00 + row) = false) (b : Nat) (a : OccAttr) (m : Option Nat) (s : State) :
    Only l s (breach row b a m s) := by
  unfold breach breachOf causeNote
  exact ((only_tally hr _ _ _ _ s).trans (only_accum _ _ _ _ _ _)).step_if (only_ev _ _)

theorem busyAdd_only (k n c : Nat) (s : State) (hq : .queues ∈ l) : Only l s (busyAdd k n c s) := only_dp _ s hq

theorem occCycles_only (base e b n : Nat) (sc : Bool) (s : State) (hq : .queues ∈ l) : Only l s (occCycles base e b n sc s) :=
  ((only_occ _ _ _ _ s).step_if (only_occ _ _ _ _ _)).trans (busyAdd_only _ _ _ _ hq)

/-! ### Crossings (R14, R151) -/

theorem crossAdd_only (a b n i : Nat) (sc : Bool) (s : State) (hq : .queues ∈ l) : Only l s (crossAdd a b n i sc s) :=
  (Only.refl s).step_unless
    ((((only_dp _ s hq).trans (occCycles_only _ _ _ _ _ _ hq)).trans (occCycles_only _ _ _ _ _ _ hq)).step_unless (busyAdd_only _ _ _ _ hq))

theorem crossOnce_only (id a b n i : Nat) (sc : Bool) (s : State) (hq : .queues ∈ l) : Only l s (crossOnce id a b n i sc s) :=
  (Only.refl s).step_unless ((only_dp _ s hq).trans (crossAdd_only _ _ _ _ _ _ hq))

/-! ### Scheduled packets -/

theorem lend_only (p n t k : Nat) (s : State) (hq : .queues ∈ l) : Only l s (lend p n t k s) := only_dp _ s hq

theorem takeCopy_only (x : ScPkt) (p : Nat) (s : State) (hq : .queues ∈ l) : Only l s (takeCopy x p s) := only_dp _ s hq

theorem orderSee_only (k : Nat) (o : Order) (x : ScPkt) (n : Nat) (b : Bool) (s : State) (hq : .queues ∈ l) : Only l s (orderSee k o x n b s) :=
  only_dp _ s hq

theorem drawPacket_only (x : ScPkt) (p n t k lead hold : Nat) (s : State) (hq : .queues ∈ l) : Only l s (drawPacket x p n t k lead hold s) := by
  unfold drawPacket
  refine Only.trans ?_ (only_orderIdle _ _ hq)
  refine Only.trans ((takeCopy_only x p s hq).trans ?_) (only_count (setting_of_counter (by decide)) _ _)
  exact (crossOnce_only x.id (benchOf x.port) (benchOf p) (pkWire x.pkt) (t * 25 + k) true _ hq).trans (only_dp _ _ hq)

theorem scDraw_only (i : Image) (b : Binding) (p n t k : Nat) (s : State) (hq : .queues ∈ l) : Only l s (scDraw i b p n t k s) := by
  unfold scDraw
  dsimp only
  split
  · exact (breach_only (setting_of_counter (by decide)) _ _ _ s).trans (lend_only _ _ _ _ _ hq)
  · split
    · refine Only.trans (only_ite (orderSee_only _ _ _ _ _ s hq) ?_) (lend_only _ _ _ _ _ hq)
      exact (orderSee_only _ _ _ _ _ s hq).trans (only_tally (setting_of_counter (by decide)) _ _ _ _ _)
    · refine only_ite (Only.trans (Only.trans ((Only.refl s).step_if (countSpill_only _ _ s)) (orderSee_only _ _ _ _ _ _ hq))
        (lend_only _ _ _ _ _ hq)) (Only.trans ?_ (drawPacket_only _ _ _ _ _ _ _ _ hq))
      refine Only.step_unless ((only_dp _ s hq).step_if (only_tally (setting_of_counter (by decide)) _ _ _ _ _)) ?_
      exact ((only_tally (setting_of_counter (by decide)) _ _ _ _ _).trans (only_tally (setting_of_counter (by decide)) _ _ _ _ _)).trans (only_accum _ _ _ _ _ _)

theorem entryLost_only (p n : Nat) (s : State) : Only l s (entryLost p n s) := by
  refine Only.step_if ?_ ((only_tally (setting_of_counter (by decide)) _ _ _ _ _).trans (only_raiseOnce _ _ _ _))
  exact ((only_count (setting_of_counter (by decide)) _ s).trans (occLane_only _ _ _ _ _ _)).trans (occPort_only _ _ _ _ _)

theorem serveEntry_only (i : Image) (b : Binding) (p n t k : Nat) (s : State) (hq : .queues ∈ l) : Only l s (serveEntry i b p n t k s) :=
  (Only.refl s).step_unless (only_ite ((only_dp _ s hq).trans (entryLost_only _ _ _)) (scDraw_only _ _ _ _ _ _ s hq))

/-! ### Drops of scheduled packets -/

theorem scDropWith_only {w : ScPkt → Bool} {c : Nat} {loss note : ScPkt → State → State} (hl : ∀ x s, Only l s (loss x s))
    (hn : ∀ x s, Only l s (note x s)) (s : State) (hq : .queues ∈ l) (hc : .captures ∈ l) : Only l s (scDropWith loss w c note s) := by
  refine (only_dp _ s hq).trans (only_foldl (fun s x => ?_) _ _)
  exact ((hn x s).trans (hl x _)).trans ((only_capDrop _ _ _ hc).trans ((only_packetDone _ _ hq hc).trans (only_orderIdle _ _ hq)))

theorem scDrop_only {w : ScPkt → Bool} {c : Nat} {note : ScPkt → State → State} (hn : ∀ x s, Only l s (note x s)) (s : State) (hq : .queues ∈ l)
    (hc : .captures ∈ l) : Only l s (scDrop w c note s) := scDropWith_only (fun _ s => only_mcastLoss _ _ _ _ s hq) hn s hq hc

theorem deadlineDrop_only (s : State) (hq : .queues ∈ l) (hc : .captures ∈ l) : Only l s (deadlineDrop s) :=
  scDrop_only (fun _ s => breach_only (setting_of_counter (by decide)) _ _ _ s) s hq hc

/-! ### What goes onto a lane -/

theorem emitOn_only (p n : Nat) (k : Packet) (s : State) : Only l s (emitOn p n k s) := (only_emit _ s).step_if (only_emit _ _)

theorem cutBegin_only (id p n : Nat) (s : State) (hq : .queues ∈ l) : Only l s (cutBegin id p n s) := only_dp _ s hq

theorem onWire_only (p n id w : Nat) (s : State) (hq : .queues ∈ l) : Only l s (onWire p n id w s) := only_dp _ s hq

theorem slotUsed_only (p n e : Nat) (s : State) (hq : .queues ∈ l) : Only l s (slotUsed p n e s) := by
  refine Only.step_if ?_ (only_occ _ _ _ _ _)
  exact (only_dp _ s hq).trans (((occLane_only _ _ _ _ _ _).trans (only_occ _ _ _ _ _)).trans ((occPort_only _ _ _ _ _).trans
    (busyAdd_only _ _ _ _ hq)))

theorem slotUnused_only (k : Nat) (s : State) : Only l s (slotUnused k s) := occLane_only _ _ _ _ _ s

theorem laneNote_only (k : Nat) (s : State) (ho : .optics ∈ l) : Only l s (laneNote k s) := only_op _ s ho

theorem capSent_only (id : Nat) (o : CapOut) (s : State) (hc : .captures ∈ l) : Only l s (capSent id o s) := by
  unfold capSent
  exact only_foldl (fun s x => only_capStage _ s hc) _ s

theorem sendDrawn_only (d : Drawn) (w : Nat) (s : State) (hq : .queues ∈ l) (hc : .captures ∈ l) (ho : .optics ∈ l) :
    Only l s (sendDrawn d w s) := by
  obtain ⟨k, o, e⟩ := sendDrawn_eq d w s
  rw [e]
  have sent : Only l s (emitOn d.port w k (undrawn d s)) := (only_dp _ s hq).trans (emitOn_only _ _ _ _)
  have noted : ∀ s, Only l s (drawnNoted d w k o s) := fun s => ((onWire_only _ _ _ _ s hq).trans (occSent_only _ _ _ _ _)).trans
    (((slotUsed_only _ _ _ _ hq).trans (laneNote_only _ _ ho)).trans ((cutBegin_only _ _ _ _ hq).trans (capSent_only _ _ _ hc)))
  exact (sent.trans (noted _)).step_unless (only_packetDone _ _ hq hc)

theorem slotPacket_only (p : Port) (n : Lane) (sl : Slot) (k : Nat) (s : State) (hq : .queues ∈ l) (hc : .captures ∈ l) (ho : .optics ∈ l) :
    Only l s (slotPacket p n sl k s) := by
  unfold slotPacket
  split
  · exact sendDrawn_only _ _ s hq hc ho
  · exact only_ite (slotUsed_only _ _ _ s hq) (only_dp _ s hq)

/-! ### Open packets that start (R79, R151, R300) -/

theorem takeTurn_only (p v b : Nat) (s : State) (hq : .queues ∈ l) : Only l s (takeTurn p v b s) := only_dp _ s hq

theorem chargePair_only (p v : Nat) (k : Packet) (s : State) (hs : .shapers ∈ l) : Only l s (chargePair p v k s) := by
  unfold chargePair
  exact only_foldl (fun s _ => only_ot _ s hs) _ s

theorem openForm_only (p : Nat) (x : OpenPkt) (s : State) (ht : .time ∈ l) : Only l s (openForm p x s).2 := by
  unfold openForm
  split
  · dsimp only
    split
    · exact only_count (setting_of_counter (by decide)) _ s
    · exact Only.refl s
  · exact only_ptpLeaves _ _ s ht

theorem cellsOut_only (p w v id : Nat) (k : Packet) (s : State) (hq : .queues ∈ l) (hk : .links ∈ l) : Only l s (cellsOut p w v id k s) :=
  (only_foldl (fun s _ => only_emit _ s) _ s).trans ((only_setLink _ _ _ hk).trans (onWire_only _ _ _ _ _ hq))

theorem wireOut_only (p w v id : Nat) (k : Packet) (s : State) (hq : .queues ∈ l) (hk : .links ∈ l) : Only l s (wireOut p w v id k s) := by
  unfold wireOut
  dsimp only
  refine Only.step_if (Only.step_if ?_ (occLane_only _ _ _ _ _ _)) (slotUsed_only _ _ _ _ hq)
  exact (only_setLink _ _ s hk).trans ((emitOn_only _ _ _ _).trans (onWire_only _ _ _ _ _ hq))

theorem startOpen_only (p w : Nat) (x : OpenPkt) (s : State) (hq : .queues ∈ l) (hk : .links ∈ l) (hc : .captures ∈ l) (hs : .shapers ∈ l)
    (ht : .time ∈ l) : Only l s (startOpen p w x s) := by
  unfold startOpen
  refine only_ite ((only_noCell _ s).trans (only_openDrop _ _ _ hq hk hc)) ?_
  dsimp only
  refine Only.trans ?_ (only_openLeave _ _ hq hk hc)
  refine Only.trans (Only.trans ?_ (cutBegin_only _ _ _ _ hq)) (capSent_only _ _ _ hc)
  refine Only.trans (Only.trans ?_ (occSent_only _ _ _ _ _)) (only_count (setting_of_counter (by decide)) _ _)
  have charged := (openForm_only p x s ht).trans ((crossOnce_only (x.parent.getD x.id) (benchOf x.port) (benchOf p)
    (pkWire (openForm p x s).1) (slotIndex (openForm p x s).2) false _ hq).trans ((takeTurn_only p x.vc (benchOf x.port) _ hq).trans
      (chargePair_only p x.vc (openForm p x s).1 _ hs)))
  exact charged.trans (only_ite (cellsOut_only _ _ _ _ _ _ hq hk) (wireOut_only _ _ _ _ _ _ hq hk))

theorem chooseOpen_only (p w : Nat) (only : OpenPkt → Bool) (vs : List Nat) (s : State) : Only l s (chooseOpen p w only vs s).1 := by
  induction vs generalizing s with
  | nil => exact Only.refl s
  | cons vc vs ih =>
    unfold chooseOpen
    split
    · exact ih s
    · split
      · exact Only.refl s
      · exact (only_tally (setting_of_counter (by decide)) _ _ _ _ s).trans (ih _)

/-- The clock inside the tick belongs to no part, so putting it back leaves what has changed. -/
theorem only_clk_back {s t : State} (h : Only l s t) : Only l s { t with clk := s.clk } := fun g hg => by
  have k := h g hg
  cases g with
  | tick => exact ⟨rfl, k.2⟩
  | _ => exact k

theorem startChosen_only (p w : Nat) (r : State × Option OpenPkt) (hq : .queues ∈ l) (hk : .links ∈ l) (hc : .captures ∈ l) (hs : .shapers ∈ l)
    (ht : .time ∈ l) : Only l r.1 (startChosen p w r) := by
  unfold startChosen
  split
  · exact Only.refl _
  · exact startOpen_only _ _ _ _ hq hk hc hs ht

theorem openStart_only (p w : Nat) (only : OpenPkt → Bool) (s : State) (hq : .queues ∈ l) (hk : .links ∈ l) (hc : .captures ∈ l)
    (hs : .shapers ∈ l) (ht : .time ∈ l) : Only l s (openStart p w only s) := by
  unfold openStart
  refine only_ite (Only.refl s) (only_clk_back ?_)
  have after : Only l s (startAfter p w s) := by
    unfold startAfter
    split
    · exact only_atPs _ s
    · exact Only.refl s
  exact (after.trans (chooseOpen_only p w only _ _)).trans (startChosen_only p w _ hq hk hc hs ht)

theorem lanesStart_only (p w : Nat) (only : OpenPkt → Bool) (s : State) (hq : .queues ∈ l) (hk : .links ∈ l) (hc : .captures ∈ l)
    (hs : .shapers ∈ l) (ht : .time ∈ l) : Only l s (lanesStart p w only s) :=
  only_foldl (fun s _ => openStart_only _ _ _ s hq hk hc hs ht) _ s

/-! ### Escapes (R126) and refills (R149) -/

theorem escape_only (x : OpenPkt) (h : Hop) (s : State) (hq : .queues ∈ l) (hk : .links ∈ l) (hc : .captures ∈ l) : Only l s (escape x h s) := by
  unfold escape
  refine (only_selectPort h x.port x.pkt s).trans ?_
  dsimp only
  split
  · exact only_openDrop _ _ _ hq hk hc
  · have counted := fun s => (only_count (l := l) (e := E.PKT_ESCAPE_MOVES) (setting_of_counter (by decide)) 1 s).trans
      (only_occ (benchOf x.port) 47 1 (attrOf x.port x.pkt) _)
    refine only_ite ?_ ?_
    · exact (counted _).trans ((only_dp _ _ hq).trans ((only_noCell _ _).trans (only_openDrop _ _ _ hq hk hc)))
    · exact (counted _).trans ((only_dp _ _ hq).trans ((only_voqTouch _ _ _ hq hk).trans (only_voqTouch _ _ _ hq hk)))

theorem scRefill_only (x : ScPkt) (s : State) (hq : .queues ∈ l) : Only l s (scRefill x s) := only_ite (Only.refl s) (only_dp _ s hq)

theorem openRefill_only (x : OpenPkt) (s : State) (hq : .queues ∈ l) : Only l s (openRefill x s) := only_ite (Only.refl s) (only_dp _ s hq)

theorem strataLoss_only (b : Nat) (a : OccAttr) (s : State) : Only l s (strataLoss b a s) :=
  (only_tally (setting_of_counter (by decide)) _ _ _ _ s).trans (only_raiseOnce _ _ _ _)

/-! ### Ports that leave service (R158, R166, R440) -/

theorem flapDrop_only (p : Nat) (s : State) (hq : .queues ∈ l) (hk : .links ∈ l) (hc : .captures ∈ l) : Only l s (flapDrop p s) := by
  unfold flapDrop
  dsimp only
  refine Only.trans ?_ (only_raise _ _ _)
  refine Only.trans ?_ (only_setPort _ _ _ hq)
  refine Only.trans (Only.trans ((deadlineDrop_only s hq hc).trans (scDrop_only (fun _ s => only_tally (setting_of_counter (by decide)) _ _ _ _ s) _ hq hc))
    (only_foldl (fun s x => ?_) _ _)) (only_foldl (fun s x => ?_) _ _)
  · refine Only.trans (Only.step_unless ?_ (only_packetDone _ _ hq hc)) (only_orderIdle _ _ hq)
    refine Only.trans (Only.trans ?_ (only_mcastLoss _ _ _ _ _ hq)) (takeCopy_only _ _ _ hq)
    exact (only_capDrop _ _ s hc).trans (only_tally (setting_of_counter (by decide)) _ _ _ _ _)
  · exact (only_tally (setting_of_counter (by decide)) _ _ _ _ s).trans (only_openDrop _ _ _ hq hk hc)

theorem cutOff_only (p : Nat) (s : State) (hq : .queues ∈ l) : Only l s (cutOff p s) :=
  ((only_count (setting_of_counter (by decide)) _ s).trans (only_foldl (fun s _ => only_emit _ s) _ _)).trans (only_dp _ _ hq)

theorem lanesRetrain_only (p : Nat) (s : State) (ho : .optics ∈ l) : Only l s (lanesRetrain p s) :=
  only_foldl (fun s _ => (Only.refl s).step_if (only_setLane _ _ _ _ s ho)) _ s

theorem portFallsFor_only (n p : Nat) (s : State) (hq : .queues ∈ l) (hk : .links ∈ l) (hc : .captures ∈ l) (ho : .optics ∈ l) :
    Only l s (portFallsFor n p s) := by
  unfold portFallsFor
  refine Only.step_if ?_ (flapDrop_only _ _ hq hk hc)
  exact ((cutOff_only p s hq).trans (only_raise _ _ _)).trans ((lanesRetrain_only _ _ ho).trans (only_setPort _ _ _ hq))

theorem portOff_only (p : Nat) (s : State) (hq : .queues ∈ l) (hk : .links ∈ l) (hc : .captures ∈ l) (ho : .optics ∈ l) :
    Only l s (portOff p s) := by
  unfold portOff
  split
  · exact portFallsFor_only _ _ s hq hk hc ho
  · exact flapDrop_only _ s hq hk hc
  · exact Only.refl s

end
end Sys2Proof.Machine
end
section
/-! What the operations of the links leave as they are: the epoch heard, credits, link-local packets and markers (R108, R109, R120 to R124,
R455, R457). -/
namespace Sys2Proof.Machine
open Sys2Proof

section
variable {l : List Part}

/-! ### The epoch heard (R455, R457) -/

theorem activeGone_only (s : State) (hw : .waiting ∈ l) (hn : .timetable ∈ l) (hq : .queues ∈ l) (hr : .crusher ∈ l) (ho : .optics ∈ l)
    (hp : .repair ∈ l) : Only l s (activeGone s) := by
  unfold activeGone
  refine Only.trans ?_ (only_count (setting_of_counter (by decide)) _ _)
  refine (only_leasesEnd ((s.tt.leases.filter fun x => x.state == 1).map (·.record)) s ho hp).trans ?_
  intro g hg
  have k := fun t => Part.same_refl g t
  cases g with
  | waiting => exact absurd hw hg
  | timetable => exact absurd hn hg
  | queues => exact absurd hq hg
  | crusher => exact absurd hr hg
  | _ => exact k _

theorem routesGone_only (s : State) (hb : .tables ∈ l) : Only l s (routesGone s) := only_tb _ s hb

theorem epochJudge_only (s : State) (hw : .waiting ∈ l) (hn : .timetable ∈ l) (hq : .queues ∈ l) (hr : .crusher ∈ l) (ho : .optics ∈ l)
    (hp : .repair ∈ l) (hb : .tables ∈ l) (ht : .time ∈ l) : Only l s (epochJudge s) := by
  unfold epochJudge
  refine only_ite (Only.refl s) ?_
  split
  · exact Only.refl s
  · refine only_ite (only_rp _ s hp) (Only.trans ?_ (only_raise _ _ _))
    exact ((only_nextGone .empty s ht hn).trans ((activeGone_only _ hw hn hq hr ho hp).trans (routesGone_only _ hb))).trans
      ((only_rp _ _ hp).trans (only_rp _ _ hp))

theorem hearEpoch_only (p : Nat) (k : Packet) (s : State) (hw : .waiting ∈ l) (hn : .timetable ∈ l) (hq : .queues ∈ l) (hr : .crusher ∈ l)
    (ho : .optics ∈ l) (hp : .repair ∈ l) (hb : .tables ∈ l) (ht : .time ∈ l) : Only l s (hearEpoch p k s) :=
  (only_rp _ s hp).trans (epochJudge_only _ hw hn hq hr ho hp hb ht)

/-! ### Credits (R120 to R122, R137) -/

theorem creditReport_only (p v n : Nat) (b : Bool) (s : State) : Only l s (creditReport p v n b s) :=
  only_ite ((only_count (setting_of_counter (by decide)) _ s).trans (only_raise _ _ _)) (only_ite (Only.refl s)
    ((only_count (setting_of_counter (by decide)) _ s).trans ((occPort_only _ _ _ _ _).trans (only_raiseOnce _ _ _ _))))

theorem creditVc_only (p v : Nat) (body : Bytes) (b : Bool) (s : State) (hk : .links ∈ l) : Only l s (creditVc p v body b s) :=
  only_ite ((only_setLink _ _ s hk).trans (creditReport_only _ _ _ _ _)) (only_setLink _ _ s hk)

theorem creditTry_only (p : Nat) (s : State) (hk : .links ∈ l) (hq : .queues ∈ l) : Only l s (creditTry p s) := by
  unfold creditTry
  split
  · exact Only.refl s
  · refine only_ite (Only.trans ?_ (only_portTouch _ _ hq hk)) (Only.refl s)
    exact ((only_setLink _ _ s hk).trans (only_foldl (fun s v => creditVc_only _ _ _ _ s hk) _ _)).trans (only_setLink _ _ _ hk)

theorem gapMark_only (p n t : Nat) (s : State) (hk : .links ∈ l) (hq : .queues ∈ l) : Only l s (gapMark p n t s) :=
  (only_setLink _ _ s hk).trans (creditTry_only _ _ hk hq)

theorem markerMismatch_only (p m : Nat) (s : State) (hk : .links ∈ l) : Only l s (markerMismatch p m s) := by
  unfold markerMismatch
  refine Only.step_if (Only.step_if ?_ (only_setLink _ _ _ hk)) (only_raiseOnce _ _ _ _)
  exact ((only_count (setting_of_counter (by decide)) _ s).trans (occPort_only _ _ _ _ _)).trans (only_setLink _ _ _ hk)

/-! ### Link-local packets (R121, R123) -/

theorem onWireFrom_only (p w a n : Nat) (s : State) (hq : .queues ∈ l) : Only l s (onWireFrom p w a n s) := only_dp _ s hq

theorem sendLocal_only (p op : Nat) (b : Bytes) (s : State) (hq : .queues ∈ l) : Only l s (sendLocal p op b s) := by
  unfold sendLocal
  split
  · exact Only.refl s
  · split
    · exact Only.refl s
    · refine Only.step_if (Only.step_if ?_ (occLane_only _ _ _ _ _ _)) (slotUsed_only _ _ _ _ hq)
      exact ((emitOn_only _ _ _ s).trans (occSent_only _ _ _ _ _)).trans (onWireFrom_only _ _ _ _ _ hq)

theorem sendParams_only (p : Nat) (s : State) (hk : .links ∈ l) (hq : .queues ∈ l) : Only l s (sendParams p s) :=
  only_ite (Only.refl s) ((sendLocal_only _ _ _ s hq).trans (only_setLink _ _ _ hk))

theorem paramsFirst_only (p : Nat) (s : State) (hk : .links ∈ l) (hq : .queues ∈ l) : Only l s (paramsFirst p s) :=
  only_ite (sendParams_only _ s hk hq) (Only.refl s)

theorem heartbeatSend_only (p : Nat) (s : State) (hq : .queues ∈ l) (hh : .health ∈ l) : Only l s (heartbeatSend p s) :=
  only_ite (Only.refl s) ((only_hl _ s hh).trans (sendLocal_only _ _ _ _ hq))

theorem noticeOut_only (p : Nat) (s : State) (hq : .queues ∈ l) (hp : .repair ∈ l) : Only l s (noticeOut p s) := by
  unfold noticeOut
  split
  · exact Only.refl s
  · exact only_ite (Only.refl s) ((only_rp (noticeNote p s).rp s hp).trans (sendLocal_only _ _ _ _ hq))

theorem movesOut_only (p : Nat) (s : State) (hq : .queues ∈ l) (ho : .optics ∈ l) : Only l s (movesOut p s) := by
  unfold movesOut
  refine (only_op _ s ho).trans (only_foldl (fun s x => Only.trans ?_ (sendLocal_only _ _ _ _ hq)) _ _)
  exact (Only.refl s).step_if (only_op _ s ho)

theorem gapLocal_only (p : Nat) (s : State) (hq : .queues ∈ l) (hk : .links ∈ l) (hh : .health ∈ l) (hp : .repair ∈ l) (ho : .optics ∈ l) :
    Only l s (gapLocal p s) := by
  unfold gapLocal
  refine Only.trans ?_ (movesOut_only _ _ hq ho)
  refine Only.step_if (Only.step_if (Only.step_if (Only.step_if (sendLocal_only _ _ _ s hq) (sendParams_only _ _ hk hq)) ?_) ?_)
    (sendLocal_only _ _ _ _ hq)
  · exact heartbeatSend_only _ _ hq hh
  · exact noticeOut_only _ _ hq hp

end
end Sys2Proof.Machine
end
section
/-! What the boundary of a tick leaves as it is: lanes and rings, the moth, lane-slots that are over, responses (R7, R318, R328, R401,
R425). -/
namespace Sys2Proof.Machine
open Sys2Proof

section
variable {l : List Part}

/-! ### Moves and rings (R318, R325 to R331) -/

theorem moveSend_only (p : Nat) (b : Bytes) (s : State) (ho : .optics ∈ l) : Only l s (moveSend p b s) := only_op _ s ho

theorem moveAdd_only (f : Nat → Move) (s : State) (ho : .optics ∈ l) : Only l s (moveAdd f s) := only_op _ s ho

theorem setMoves_only (ms : List Move) (s : State) (ho : .optics ∈ l) : Only l s (setMoves ms s) := only_op _ s ho

theorem setRing_only (n : Nat) (x : Ring) (s : State) (ho : .optics ∈ l) : Only l s (setRing n x s) := only_op _ s ho

theorem moveRefused_only (p n : Nat) (s : State) : Only l s (moveRefused p n s) := only_raiseOnce _ _ _ s

theorem movePropose_only (p d n r : Nat) (s : State) (ho : .optics ∈ l) : Only l s (movePropose p d n r s) :=
  only_ite (Only.refl s) (only_ite (moveRefused_only _ _ s) ((moveAdd_only _ s ho).trans (moveSend_only _ _ _ ho)))

theorem duplicateOff_only (m : Move) (s : State) (ho : .optics ∈ l) : Only l s (duplicateOff m s) :=
  only_ite ((Only.refl s).step_if (only_setReserve _ _ _ s ho)) ((Only.refl s).step_if (only_setLane _ _ _ _ s ho))

theorem moveAbandon_only (m : Move) (s : State) (ho : .optics ∈ l) : Only l s (moveAbandon m s) :=
  ((setMoves_only _ s ho).trans (duplicateOff_only _ _ ho)).trans (only_tally (setting_of_counter (by decide)) _ _ _ _ _)

theorem moveInForce_only (m : Move) (s : State) (ho : .optics ∈ l) : Only l s (moveInForce m s) :=
  ((setMoves_only _ s ho).trans ((only_setLane _ _ _ _ _ ho).trans (only_setReserve _ _ _ _ ho))).trans (only_raiseOnce _ _ _ _)

theorem moveReturned_only (p d n : Nat) (s : State) (ho : .optics ∈ l) : Only l s (moveReturned p d n s) := by
  unfold moveReturned
  refine Only.trans (Only.trans ?_ (only_tally (setting_of_counter (by decide)) _ _ _ _ _)) (only_raiseOnce _ _ _ _)
  exact ((setMoves_only _ s ho).trans (only_setLane _ _ _ _ _ ho)).step_if (only_setReserve _ _ _ _ ho)

theorem laneDropped_only (p d n : Nat) (s : State) (ho : .optics ∈ l) : Only l s (laneDropped p d n s) :=
  ((only_setLane _ _ _ _ s ho).trans (only_tally (setting_of_counter (by decide)) _ _ _ _ _)).trans (only_raiseOnce _ _ _ _)

theorem atRisk_only (p d n : Nat) (s : State) : Only l s (atRisk p d n s) :=
  only_ite (Only.refl s) (only_ite (only_tally (setting_of_counter (by decide)) _ _ _ _ s) (only_tally (setting_of_counter (by decide)) _ _ _ _ s))

theorem plannedAside_only (p d n : Nat) (s : State) (ho : .optics ∈ l) : Only l s (plannedAside p d n s) := by
  unfold plannedAside
  refine only_foldl (fun s m => only_ite ((setMoves_only _ s ho).trans (duplicateOff_only _ _ ho)) (only_ite ?_ (Only.refl s))) _ s
  exact (moveAbandon_only _ s ho).step_if (((moveSend_only _ _ _ ho).trans (moveRefused_only _ _ _)).trans (only_op _ _ ho))

theorem primaryLost_only (p d n : Nat) (s : State) (ho : .optics ∈ l) : Only l s (primaryLost p d n s) := by
  unfold primaryLost
  refine only_ite (Only.refl s) ((only_setLane p d n .fault s ho).trans (only_ite (Only.refl _) (Only.trans ?_ (moveAdd_only _ _ ho))))
  exact (((atRisk_only _ _ _ _).trans (plannedAside_only _ _ _ _ ho)).trans (moveSend_only _ _ _ ho)).step_if (only_op _ _ ho)

theorem reserveLost_only (p d : Nat) (s : State) (ho : .optics ∈ l) : Only l s (reserveLost p d s) := by
  unfold reserveLost
  dsimp only
  have h := (only_foldl (fun s m => moveAbandon_only m s ho) (s.op.moves.filter fun m =>
    m.port == p && m.dir == d && m.dst == 4 && !moveFault m && m.state == .accepted) s).trans (only_setReserve p d .unavailable _ ho)
  split
  · refine h.trans (only_ite (Only.refl _) (only_ite (Only.trans ?_ (moveAdd_only _ _ ho)) (Only.trans ?_ (laneDropped_only _ _ _ _ ho)))) <;>
      exact (atRisk_only _ _ _ _).trans (setMoves_only _ _ ho)
  · exact h

theorem faultMove_only (m : Move) (s : State) (ho : .optics ∈ l) : Only l s (faultMove m s) :=
  only_ite ((setMoves_only _ s ho).trans (laneDropped_only _ _ _ _ ho)) (only_ite (Only.refl s)
    (((setMoves_only _ s ho).trans (moveInForce_only _ _ ho)).trans (only_tally (setting_of_counter (by decide)) _ _ _ _ _)))

theorem faultBack_only (k : Nat) (s : State) (ho : .optics ∈ l) : Only l s (faultBack k s) :=
  only_ite (Only.refl s) ((only_op _ s ho).trans (only_setLane _ _ _ _ _ ho))

theorem tickMoves_only (s : State) (ho : .optics ∈ l) : Only l s (tickMoves s) := by
  unfold tickMoves
  refine Only.trans (Only.trans (Only.trans ((only_op _ s ho).trans (only_foldl (fun s k => faultBack_only k s ho) _ _))
    (only_foldl (fun s m => ?_) _ _)) (only_op _ _ ho)) (only_foldl (fun s x => movePropose_only _ _ _ _ s ho) _ _)
  exact only_ite (moveReturned_only _ _ _ s ho) (faultMove_only _ s ho)

theorem setReading_only (c i : Nat) (v : Int) (s : State) (hh : .health ∈ l) : Only l s (setReading c i v s) := only_hl _ s hh

theorem ringUpdate_only (n : Nat) (z : Int) (s : State) (ho : .optics ∈ l) (hh : .health ∈ l) : Only l s (ringUpdate n z s) := by
  unfold ringUpdate
  have read := setReading_only (l := l) 2 n ((z - ringTarget s n) / 100) s hh
  refine read.trans ?_
  dsimp only
  generalize setReading 2 n ((z - ringTarget s n) / 100) s = t
  refine only_ite (setRing_only _ _ t ho) (only_ite (setRing_only _ _ t ho) (only_ite ?_ (only_ite ?_ (setRing_only _ _ t ho))))
  · refine only_ite ((setRing_only _ _ t ho).step_if ?_) (setRing_only _ _ t ho)
    exact (only_tally (setting_of_counter (by decide)) _ _ _ _ _).trans (only_raiseOnce _ _ _ _)
  · refine Only.trans ?_ (only_ite (reserveLost_only _ _ _ ho) (primaryLost_only _ _ _ _ ho))
    exact (setRing_only _ _ t ho).trans ((only_tally (setting_of_counter (by decide)) _ _ _ _ _).trans (only_raiseOnce _ _ _ _))

theorem forecastCheck_only (d : Nat) (s : State) (ho : .optics ∈ l) : Only l s (forecastCheck d s) := by
  unfold forecastCheck
  split
  · exact Only.refl s
  · dsimp only
    refine only_ite (only_ite (only_op _ s ho) ?_) ?_
    · exact (only_op _ s ho).trans ((only_count (setting_of_counter (by decide)) _ _).trans (only_raiseOnce _ _ _ _))
    · split
      · exact Only.refl s
      · exact only_ite (only_op _ s ho) (only_op _ s ho)

theorem only_bi (x : BiState) (s : State) (hb : .bringup ∈ l) : Only l s { s with bi := x } := fun g hg => by
  have k := Part.same_refl g s
  cases g with
  | bringup => exact absurd hb hg
  | _ => exact k

theorem wingTemps_only (s : State) : Only l s (wingTemps s) := only_foldl (fun s _ => (Only.refl s).step_if (only_raiseOnce _ _ _ s)) _ s

theorem opticsTick_only (r : TickReadings) (s : State) (ho : .optics ∈ l) (hh : .health ∈ l) (hb : .bringup ∈ l) : Only l s (opticsTick r s) := by
  unfold opticsTick
  refine Only.step_unless (Only.step_if (Only.step_if (Only.step_if (only_foldl (fun s x => setReading_only _ _ _ s hh) _ s) ?_) ?_) ?_)
    (wingTemps_only _)
  · exact only_bi _ _ hb
  · exact only_foldl (fun s d => forecastCheck_only d s ho) _ _
  · exact only_foldl (fun s x => ringUpdate_only _ _ s ho hh) _ _

/-! ### The generator and the wing's matrix (R80, R81, R85, R353) -/

theorem genTick_only (s : State) (ht : .time ∈ l) : Only l s (genTick s) := by
  unfold genTick
  dsimp only
  have moved : Only l s (genMove (genDelta s) (match s.ft.gen with
      | .slewing => { s with ft := { s.ft with slew := s.ft.slew - genDelta s } }
      | _ => { s with ft := { s.ft with genStep := s.ft.genStep + genDelta s } })) := by
    refine Only.trans ?_ (only_ft _ _ ht)
    split <;> exact only_ft _ s ht
  split
  · exact moved
  · exact moved.trans (only_ite (Only.refl _) ((only_ft _ _ ht).trans (only_raise _ _ _)))

theorem servoEnables_only (s : State) (ht : .time ∈ l) : Only l s (servoEnables s) :=
  only_foldl (fun s _ => only_ite (only_servoGo _ _ s ht) (only_ite (only_servoGo _ _ s ht) (Only.refl s))) _ s

theorem ppsFall_only (s : State) (hh : .health ∈ l) : Only l s (ppsFall s) := only_ite ((only_hl _ s hh).trans (only_emit _ _)) (Only.refl s)

theorem only_ch (x : SMap WingMx) (s : State) (hc : .chutes ∈ l) : Only l s { s with ch := x } := fun g hg => by
  have k := Part.same_refl g s
  cases g with
  | chutes => exact absurd hc hg
  | _ => exact k

theorem chuteTick_only (s : State) (hc : .chutes ∈ l) (hk : .links ∈ l) : Only l s (chuteTick s) := by
  refine only_foldl (fun s x => Only.trans (Only.trans ?_ (only_foldl (fun s c => only_setLink _ _ s hk) _ _)) (only_ch _ _ hc)) _ s
  exact (only_count (setting_of_counter (by decide)) _ s).trans (only_count (setting_of_counter (by decide)) _ _)

/-! ### Lane-slots that are over, and credit cells (R107, R133, R512) -/

theorem copiesLost_only (i : Nat) (k : Packet) (ps : List Nat) (s : State) (hq : .queues ∈ l) : Only l s (copiesLost i k ps s) := by
  unfold copiesLost
  split
  · exact only_mcastLoss _ _ _ _ s hq
  · exact Only.refl s

theorem drawnLost_only (d : Drawn) (s : State) (hq : .queues ∈ l) (hc : .captures ∈ l) : Only l s (drawnLost d s) := by
  unfold drawnLost
  have taken : Only l s (undrawn d s) := only_dp _ s hq
  refine Only.step_unless (Only.trans (taken.trans ?_) (copiesLost_only _ _ _ _ hq)) (only_packetDone _ _ hq hc)
  exact only_ite (only_noCell _ _) (entryLost_only _ _ _)

theorem slotsOver_only (s : State) (hq : .queues ∈ l) (hc : .captures ∈ l) : Only l s (slotsOver s) :=
  ((only_foldl (fun s d => drawnLost_only d s hq hc) _ s).trans (only_foldl (fun s k => slotUnused_only k s) _ _)).trans (only_dp _ _ hq)

theorem queueSums_only (s : State) (hq : .queues ∈ l) : Only l s (queueSums s) := by
  unfold queueSums
  exact only_foldl (fun s b => Only.step_unless (Only.step_unless (Only.refl s) ((only_occ _ _ _ _ s).trans (busyAdd_only _ _ _ _ hq)))
    ((only_occ _ _ _ _ _).trans (busyAdd_only _ _ _ _ hq))) _ s

theorem creditCells_only (s : State) (hq : .queues ∈ l) (hk : .links ∈ l) : Only l s (creditCells s) := by
  unfold creditCells creditCell
  refine only_ite (Only.refl s) (only_foldl (fun s p => only_foldl (fun s n => ?_) _ s) _ s)
  exact (only_emit _ s).trans ((only_setLink _ _ _ hk).trans (onWireFrom_only _ _ _ _ _ hq))

/-! ### The moth (R425, R431, R437, R440) -/

theorem setPower_only (p : PowerSt) (s : State) (hh : .health ∈ l) : Only l s (setPower p s) :=
  only_ite (Only.refl s) ((only_hl _ s hh).trans (only_raise _ _ _))

theorem wakeNow_only (c : Nat) (s : State) (hh : .health ∈ l) : Only l s (wakeNow c s) :=
  only_ite (Only.refl s) (only_ite (only_hl _ s hh) ((only_hl _ s hh).trans (setPower_only _ _ hh)))

theorem diSettle_only (d : Nat) (s : State) (hh : .health ∈ l) : Only l s (diSettle d s) := by
  unfold diSettle diTake diActs
  refine only_ite (only_ite ?_ (Only.step_if (only_hl _ s hh) ?_)) (Only.refl s)
  · exact ((only_hl _ s hh).trans (only_count (setting_of_counter (by decide)) _ _)).trans ((only_hl _ _ hh).trans (only_raise _ _ _))
  · exact only_ite (wakeNow_only _ _ hh) (only_ite (only_raise _ _ _) (Only.refl _))

theorem throttleTick_only (s : State) (hh : .health ∈ l) : Only l s (throttleTick s) :=
  only_foldl (fun s _ => only_ite (Only.refl s) ((only_hl _ s hh).trans (only_raise _ _ _))) _ s

theorem setNb_only (p : Nat) (f : Neighbour → Neighbour) (s : State) (hh : .health ∈ l) : Only l s (setNb p f s) := only_hl _ s hh

theorem fenceSweep_only (s : State) (hq : .queues ∈ l) (hk : .links ∈ l) (hc : .captures ∈ l) (ho : .optics ∈ l) (hh : .health ∈ l) :
    Only l s (fenceSweep s) := by
  unfold fenceSweep portFence portUnfence
  refine only_foldl (fun s x => only_ite ?_ (only_ite ?_ (Only.refl s))) _ s
  · exact (portOff_only _ s hq hk hc ho).trans (setNb_only _ _ _ hh)
  · exact (Only.refl s).step_if (setNb_only _ _ s hh)

theorem withPins_only {f : State → State} {s : State} (h : Only l s (f s)) : Only l s (withPins f s) := by
  unfold withPins
  exact h.trans (only_foldl (fun t _ => (Only.refl t).step_unless (only_emit _ t)) _ _)

theorem mothTick_only (s : State) (hq : .queues ∈ l) (hk : .links ∈ l) (hc : .captures ∈ l) (ho : .optics ∈ l) (hh : .health ∈ l) :
    Only l s (mothTick s) := by
  refine only_ite (Only.refl s) (withPins_only ?_)
  exact (only_foldl (fun s d => diSettle_only d s hh) _ s).trans ((throttleTick_only _ hh).trans ((only_hl _ _ hh).trans
    (fenceSweep_only _ hq hk hc ho hh)))

/-! ### Responses and events to subscriptions (R387, R401, R403, R406, R408) -/

theorem setTab_only {e : Nat} (he : setting e = false) (v : Bytes) (s : State) : Only l s (setTab e v s) := fun g _ => by
  have k := Part.same_refl g s
  cases g with
  | settings => exact fun f hf ha => ⟨fun _ => rfl, get?_set_ne _ _ (ne_of_setting (setting_of_mem hf ha) he)⟩
  | _ => exact k

theorem countTab_only {e : Nat} (he : setting e = false) (n i : Nat) (s : State) : Only l s (countTab e n i s) := setTab_only he _ s

theorem only_hosts (h : Nat) (f : PcieFn → PcieFn) (s : State) (hp : .hosts ∈ l) : Only l s (setPc h f s) := fun g hg => by
  have k := Part.same_refl g s
  cases g with
  | hosts => exact absurd hp hg
  | _ => exact k

theorem deliver_only (r : Resp) (s : State) (ht : .time ∈ l) (hq : .queues ∈ l) (hk : .links ∈ l) (hc : .captures ∈ l) (hb : .tables ∈ l)
    (hp : .hosts ∈ l) : Only l s (deliver r s) := by
  unfold deliver
  refine (countTab_only (e := E.DX_STATUS_COUNTS) (setting_of_counter (by decide)) 168 r.status s).trans ?_
  dsimp only
  split
  · exact only_emit _ _
  · refine only_ite (Only.refl _) (only_ite (only_hosts _ _ _ hp) ?_)
    exact ((only_hosts _ _ _ hp).trans (only_emit _ _)).trans (only_signal _ _ _)
  · exact (only_emit _ _).trans (only_answerBy _ _ _ ht hq hk hc hb)

theorem only_subscriptions (x : List Sub) (s : State) (hs : .sessions ∈ l) : Only l s { s with dx := { s.dx with subs := x } } := fun g hg => by
  have k := Part.same_refl g s
  cases g with
  | sessions => exact absurd hs hg
  | _ => exact k

theorem subSend_only (n k : Nat) (s : State) (ht : .time ∈ l) (hq : .queues ∈ l) (hk : .links ∈ l) (hc : .captures ∈ l) (hb : .tables ∈ l)
    (hp : .hosts ∈ l) (hs : .sessions ∈ l) : Only l s (subSend n k s) := by
  induction k generalizing s with
  | zero => exact Only.refl s
  | succ k ih =>
    unfold subSend
    split
    · exact Only.refl s
    · refine only_ite (Only.refl s) (Only.trans ?_ (ih _))
      exact (only_subscriptions _ s hs).trans ((only_count (setting_of_counter (by decide)) _ _).trans (deliver_only _ _ ht hq hk hc hb hp))

theorem capWriteUp_only (k : Nat) (s : State) (hc : .captures ∈ l) : Only l s (capWriteUp k s) := by
  induction k generalizing s with
  | zero => exact Only.refl s
  | succ k ih =>
    unfold capWriteUp
    split
    · exact Only.refl s
    · refine only_ite (only_ite (Only.refl s) ((only_tm _ s hc).trans (only_raise _ _ _))) (Only.trans ?_ (ih _))
      exact (only_tm _ s hc).trans ((only_tm _ _ hc).trans (only_count (setting_of_counter (by decide)) _ _))

/-! ### The work of a tick (R7) -/

theorem burnsOver_only (s : State) (he : .security ∈ l) : Only l s (burnsOver s) := fun g hg => by
  have k := Part.same_refl g s
  unfold burnsOver
  split
  · exact k
  · cases g with
    | security => exact absurd he hg
    | _ => exact k

theorem tickWork_only (r : TickReadings) (s : State) (hc : .captures ∈ l) (hm : .chutes ∈ l) (hh : .health ∈ l) (hp : .hosts ∈ l)
    (hk : .links ∈ l) (ho : .optics ∈ l) (hq : .queues ∈ l) (hs : .sessions ∈ l) (ht : .time ∈ l) (hi : .bringup ∈ l) (he : .security ∈ l)
    (hb : .tables ∈ l) : Only l s (tickWork r s) := by
  have generator : Only l s (genTick (servoEnables (ppsFall s))) :=
    ((ppsFall_only s hh).trans (servoEnables_only _ ht)).trans (genTick_only _ ht)
  have lanes : ∀ s, Only l s (tickMoves (chuteTick (slotsOver s))) := fun s =>
    ((slotsOver_only s hq hc).trans (chuteTick_only _ hm hk)).trans (tickMoves_only _ ho)
  have moth : ∀ s, Only l s (mothTick (opticsTick r s)) := fun s => (opticsTick_only r s ho hh hi).trans (mothTick_only _ hq hk hc ho hh)
  have staged : ∀ s, Only l s (queueSums (stageTick (burnsOver s))) := fun s =>
    ((burnsOver_only s he).trans ((Only.refl _).step_if (only_count (setting_of_counter (by decide)) _ _))).trans (queueSums_only _ hq)
  have lag : ∀ s, Only l s (lagCheck (creditCells s)) := fun s =>
    (creditCells_only s hq hk).trans ((Only.refl _).step_if (only_raiseOnce _ _ _ _))
  have sends : ∀ s, Only l s (subsSend s) := fun s => only_foldl (fun s n => subSend_only n 1024 s ht hq hk hc hb hp hs) _ s
  exact (((generator.trans (lanes _)).trans (moth _)).trans ((staged _).trans (lag _))).trans ((capWriteUp_only 64 _ hc).trans (sends _))

end
end Sys2Proof.Machine
end
section
/-! What the datapath and link commands leave as it is: one theorem per row, and the statement from them. -/
namespace Sys2Proof.Machine
open Sys2Proof

section
variable {l : List Part} {s t : State} {f : State → State}

/-- A command that runs at once keeps what its effect keeps. -/
theorem only_of_run (h : run f s = .next t) (hf : ∀ s, Only l s (f s)) : Only l s t := by
  cases h
  exact only_settle (hf _)

/-- A timer's row runs at its instant or does nothing. -/
theorem only_of_due {d : Option Nat} (h : runDue d f s = .next t) (hf : ∀ s, Only l s (f s)) : Only l s t := by
  unfold runDue at h
  split at h
  · split at h
    · cases h; exact (only_atPs _ s).trans (only_settle (hf _))
    · exact only_of_run h Only.refl
  · exact only_of_run h Only.refl

end

/-! ### Draws, refills and timers (R127, R149, R150, R153, R161, R293) -/

theorem creditStall_frame (p : Port) (v : Nat) : Changes (.creditStall p v) [] := fun _ _ h =>
  only_of_due h fun s => only_ite (Only.refl s) (only_raiseOnce _ _ _ s)

theorem scDraw_frame (p : Port) (n : Lane) (k : Slot) : Changes (.scDraw p n k) [.queues] := by
  refine changes_run (fun s => Eq.refl (execScDraw p n k s)) fun s => only_ite (Only.refl s) ?_
  split
  · exact Only.refl s
  · refine Only.trans ?_ (serveEntry_only _ _ _ _ _ _ _ (by decide))
    exact only_foldl (fun s e => serveEntry_only _ _ _ _ _ _ s (by decide)) _ s

theorem refillComplete_frame (n : Nat) : Changes (.refillComplete n) [.queues] := by
  refine changes_run (fun s => Eq.refl (execRefillComplete n s)) fun s => ?_
  split
  · exact scRefill_only _ s (by decide)
  · split
    · exact openRefill_only _ s (by decide)
    · exact Only.refl s

theorem reseqIdleExpiry_frame (n : Nat) : Changes (.reseqIdleExpiry n) [.queues] :=
  changes_due (fun _ => rfl) fun s => only_orderUnset n s (by decide)

theorem shaperWheelExpiry_frame (n : Nat) : Changes (.shaperWheelExpiry n) [.shapers] :=
  changes_due (fun s => Eq.refl (execShaperWheelExpiry n s)) fun s => only_ot _ s (by decide)

theorem scDeadlineDrop_frame : Changes .scDeadlineDrop [.queues, .captures] :=
  changes_run (fun _ => rfl) fun s => deadlineDrop_only s (by decide) (by decide)

/-! ### Packets that wait too long (R79, R126, R170, R301) -/

theorem timeMsgExpire_frame (n : Nat) : Changes (.timeMsgExpire n) [.captures, .links, .queues] := fun s t h => by
  change execTimeMsgExpire n s = _ at h
  unfold execTimeMsgExpire at h
  split at h
  · exact only_of_run h Only.refl
  · exact only_of_due h fun s => (only_count (setting_of_counter (by decide)) _ s).trans (only_openDrop _ _ _ (by decide) (by decide) (by decide))

theorem escapeMove_frame (n : Nat) : Changes (.escapeMove n) [.captures, .links, .queues] := fun s t h => by
  change execEscapeMove n s = _ at h
  unfold execEscapeMove at h
  split at h
  · exact only_of_run h Only.refl
  · split at h
    · split at h
      · exact only_of_due h fun s => escape_only _ _ s (by decide) (by decide) (by decide)
      · exact only_of_run h Only.refl
    · exact only_of_run h Only.refl

theorem headDrop_frame (n : Nat) : Changes (.headDrop n) [.captures, .links, .queues] := fun s t h => by
  change execHeadDrop n s = _ at h
  unfold execHeadDrop at h
  split at h
  · exact only_of_run h Only.refl
  · refine only_of_due h fun s => only_ite (Only.refl s) (Only.trans (Only.trans ?_ (only_accum _ _ _ _ _ _))
      (only_openDrop _ _ _ (by decide) (by decide) (by decide)))
    exact (only_tally (setting_of_counter (by decide)) _ _ _ _ s).step_if (only_tally (setting_of_counter (by decide)) _ _ _ _ _)

theorem strataReadError_frame (n : Nat) : Changes (.strataReadError n) [.captures, .links, .queues] := by
  refine changes_run (fun s => Eq.refl (execStrataReadError n s)) fun s => ?_
  have dropped : Only [.captures, .links, .queues] s _ := scDrop_only (w := fun x => x.id == n && x.inStrata) (c := Ev.DP_STRATA_ERROR)
    (note := fun x s => strataLoss (benchOf x.port) (attrOf x.port x.pkt) s) (fun _ s => strataLoss_only _ _ s) s (by decide) (by decide)
  refine dropped.trans ?_
  dsimp only
  split
  · exact Only.refl _
  · exact (strataLoss_only _ _ _).trans (only_openDrop _ _ _ (by decide) (by decide) (by decide))

/-! ### Lane-slots and starts (R79, R107, R121, R300) -/

theorem slotMarker_frame (p : Port) (n : Lane) (m : BitVec 32) (a : At) : Changes (.slotMarker p n m a) [.links, .optics, .queues] := by
  refine changes_runAt (fun s => Eq.refl (execSlotMarker p n m a s)) fun s => ?_
  refine only_ite (Only.refl s) (only_ite (markerMismatch_only _ _ s (by decide)) ?_)
  refine Only.trans (Only.step_if (Only.step_if (only_op _ s (by decide)) ?_) ?_) (paramsFirst_only _ _ (by decide) (by decide))
  · exact gapMark_only _ _ _ _ (by decide) (by decide)
  · exact markerMismatch_only _ _ _ (by decide)

theorem laneSlotStart_frame (p : Port) (n : Lane) (k : Slot) : Changes (.laneSlotStart p n k) [.captures, .optics, .queues] := by
  refine changes_runAt (fun s => Eq.refl (execLaneSlotStart p n k s)) fun s => ?_
  have ended : Only [.captures, .optics, .queues] s (slotEnds (p.val * 5 + n.val) s) :=
    only_ite ((only_dp _ s (by decide)).trans (slotUnused_only _ _)) (Only.refl s)
  refine ended.trans (only_ite (Only.refl _) ?_)
  split
  · exact Only.refl _
  · refine (only_emit _ _).trans (only_ite (Only.refl _) (only_ite (Only.refl _) ?_))
    exact ((only_occ _ _ _ _ _).trans (busyAdd_only _ _ _ _ (by decide))).trans (slotPacket_only p n k _ _ (by decide) (by decide) (by decide))

theorem egressStart_frame (p : Port) (n : Lane) (a : At) : Changes (.egressStart p n a) [.captures, .links, .queues, .shapers, .time] :=
  changes_runAt (fun _ => rfl) fun s => lanesStart_only _ _ _ s (by decide) (by decide) (by decide) (by decide) (by decide)

theorem ptpEventForward_frame (p : Port) (n : Lane) (a : At) :
    Changes (.ptpEventForward p n a) [.captures, .links, .queues, .shapers, .time] :=
  changes_runAt (fun s => Eq.refl (execPtpEventForward p n a s)) fun s =>
    lanesStart_only _ _ _ s (by decide) (by decide) (by decide) (by decide) (by decide)

theorem gapSlotStart_frame (p : Port) :
    Changes (.gapSlotStart p) [.captures, .health, .links, .optics, .queues, .repair, .shapers, .time] := by
  refine changes_runAt (fun s => Eq.refl (execGapSlotStart p s)) fun s => (only_atPs _ s).trans (only_ite (Only.refl _) ?_)
  exact (gapLocal_only _ _ (by decide) (by decide) (by decide) (by decide) (by decide)).trans
    (only_foldl (fun s w => openStart_only _ w _ s (by decide) (by decide) (by decide) (by decide) (by decide)) _ _)

/-! ### Ports and benches (R158, R159, R427, R467) -/

theorem portUp_frame (p : Port) : Changes (.portUp p) [.links, .queues] := by
  refine changes_run (fun s => Eq.refl (execPortUp p s)) fun s => only_ite (Only.refl s) (Only.step_unless ?_ (only_raise _ _ _))
  exact (only_setPort _ _ s (by decide)).trans (only_portTouch _ _ (by decide) (by decide))

theorem flapHoldExpiry_frame (p : Port) : Changes (.flapHoldExpiry p) [.captures, .links, .queues] :=
  changes_due (fun _ => rfl) fun s => flapDrop_only _ s (by decide) (by decide) (by decide)

theorem portDown_frame (p : Port) (w : DownCause) : Changes (.portDown p w) [.captures, .links, .optics, .queues] := by
  refine changes_run (fun s => Eq.refl (execPortDown p w s)) fun s => only_ite (Only.refl s) ?_
  have falls : Only [.captures, .links, .optics, .queues] s (portFalls p s) :=
    portFallsFor_only _ _ s (by decide) (by decide) (by decide) (by decide)
  cases w <;> exact only_ite (Only.refl s) falls

theorem benchFault_frame (b : PhysBench) : Changes (.benchFault b) [.captures, .links, .queues, .repair, .optics] := by
  refine changes_run (fun s => Eq.refl (execBenchFault b s)) fun s => only_ite (Only.refl s) ?_
  have failed := only_setPhys (l := [.captures, .links, .queues, .repair, .optics]) b
    { physSlot s b with state := .failed, frame := frameOf s } s (by decide)
  refine failed.trans ?_
  dsimp only
  split
  · exact (only_raise _ _ _).trans (only_foldl (fun s q => portOff_only _ s (by decide) (by decide) (by decide) (by decide)) _ _)
  · exact only_raise _ _ _

theorem trimBenchWake_frame (b : PhysBench) : Changes (.trimBenchWake b) [.health, .links, .queues] := by
  refine changes_run (fun s => Eq.refl (execTrimBenchWake b s)) fun s => ?_
  split
  · exact Only.refl s
  · refine only_ite ?_ (Only.refl s)
    exact ((only_hl _ s (by decide)).trans (only_count (setting_of_counter (by decide)) _ _)).trans
      (only_foldl (fun s q => only_portTouch _ s (by decide) (by decide)) _ _)

/-! ### Credits and link parameters (R120 to R124, R455) -/

/-- What a link-local packet may change: its epoch is heard, and a part that finds its own out of date lets go of its schedule. -/
def heardParts : List Part := [.crusher, .inbox, .links, .queues, .repair, .tables, .time, .timetable, .waiting, .optics]

theorem only_heard (p : Nat) (k : Packet) (s : State) : Only heardParts s (hearEpoch p k s) :=
  hearEpoch_only _ _ s (by decide) (by decide) (by decide) (by decide) (by decide) (by decide) (by decide) (by decide)

theorem creditReceived_frame (p : Port) (k : Packet) : Changes (.creditReceived p k) heardParts := by
  refine changes_run (fun s => Eq.refl (execCreditReceived p k s)) fun s => (only_fromInbox p k s (by decide)).trans (only_ite (Only.refl _) ?_)
  refine (only_heard p k _).trans (only_ite (Only.refl _) ?_)
  exact (only_setLink _ _ _ (by decide)).trans (creditTry_only _ _ (by decide) (by decide))

theorem linkParamsReceived_frame (p : Port) (k : Packet) : Changes (.linkParamsReceived p k) heardParts := by
  refine changes_run (fun s => Eq.refl (execLinkParamsReceived p k s)) fun s =>
    (only_fromInbox p k s (by decide)).trans (only_ite (Only.refl _) ?_)
  refine Only.trans ?_ (only_portTouch _ _ (by decide) (by decide))
  refine Only.trans ?_ (only_setLink _ _ _ (by decide))
  exact (only_heard p k _).step_if ((only_count (setting_of_counter (by decide)) _ _).trans (only_raise _ _ _))

/-! ### The boundary of a tick (R7) -/

theorem tickBoundary_frame (r : TickReadings) :
    Changes (.tickBoundary r) [.tick, .captures, .chutes, .health, .hosts, .links, .optics, .queues, .sessions, .time, .bringup, .security, .tables] := by
  intro s t h
  have next : Only [.tick, .captures, .chutes, .health, .hosts, .links, .optics, .queues, .sessions, .time, .bringup, .security, .tables] s (nextTick s) :=
    fun g hg => by
      have k := Part.same_refl g s
      cases g with
      | tick => exact absurd (by decide) hg
      | _ => exact k
  refine next.trans (only_of_run (f := fun s => tickWork r (upsetWords r s)) h fun s => (only_tb (upsetWords r s).tb s (by decide)).trans ?_)
  exact tickWork_only r _ (by decide) (by decide) (by decide) (by decide) (by decide) (by decide) (by decide) (by decide) (by decide) (by decide)
    (by decide) (by decide)

/-- Settles O37: one theorem per row. -/
theorem queueFrames : Obligations.QueueFrames :=
  ⟨creditStall_frame, scDraw_frame, refillComplete_frame, reseqIdleExpiry_frame, shaperWheelExpiry_frame, scDeadlineDrop_frame, slotMarker_frame,
    portUp_frame, timeMsgExpire_frame, escapeMove_frame, headDrop_frame, flapHoldExpiry_frame, strataReadError_frame, laneSlotStart_frame,
    portDown_frame, benchFault_frame, egressStart_frame, ptpEventForward_frame, trimBenchWake_frame, gapSlotStart_frame, creditReceived_frame,
    linkParamsReceived_frame, tickBoundary_frame⟩

end Sys2Proof.Machine
end
section
/-! Credits, link parameters and markers that arrive (R108, R120 to R123, R137): what each leaves in its link. -/
namespace Sys2Proof.Machine
open Sys2Proof

/-! ### A link and its accounts -/

@[simp] theorem linkOf_setLink_self (p : Nat) (f : Link → Link) (s : State) : linkOf (setLink p f s) p = f (linkOf s p) := by
  simp [linkOf, setLink]

theorem linkOf_of_links {s t : State} (h : t.links = s.links) (p : Nat) : linkOf t p = linkOf s p := by rw [linkOf, h, linkOf]

theorem linkOf_settle (s t : State) (p : Nat) : linkOf (settle s t) p = linkOf t p := rfl

/-- A VC of a link: 1 OC0, 2 OC1, 3 MC. -/
def IsVc (v : Nat) : Prop := v = 1 ∨ v = 2 ∨ v = 3

@[simp] theorem vc_setVc_self (l : Link) (v : Nat) (c : Credit) : (l.setVc v c).vc v = c := by
  unfold Link.setVc Link.vc
  split_ifs <;> rfl

theorem vc_setVc_ne {v w : Nat} (hv : IsVc v) (hw : IsVc w) (h : v ≠ w) (l : Link) (c : Credit) : (l.setVc w c).vc v = l.vc v := by
  obtain rfl | rfl | rfl := hv <;> obtain rfl | rfl | rfl := hw <;> first | exact absurd rfl h | rfl

@[simp] theorem since_setVc (l : Link) (v : Nat) (c : Credit) : (l.setVc v c).since = l.since := by
  unfold Link.setVc
  split_ifs <;> rfl

@[simp] theorem credit_setVc (l : Link) (v : Nat) (c : Credit) : (l.setVc v c).credit = l.credit := by
  unfold Link.setVc
  split_ifs <;> rfl

/-- A link without the stalls of its VCs, which say since when packets wait for credit (R127). -/
def unstalled (l : Link) : Link :=
  { l with oc0 := { l.oc0 with stallSince := none }, oc1 := { l.oc1 with stallSince := none }, mc := { l.mc with stallSince := none } }

/-- An account without its stall. -/
def Credit.unstalled (c : Credit) : Credit := { c with stallSince := none }

theorem vc_unstalled (l : Link) (v : Nat) : (unstalled l).vc v = (l.vc v).unstalled := by
  unfold Link.vc
  split_ifs <;> rfl

theorem unstalled_setVc (l : Link) (v : Nat) (z : Option Nat) : unstalled (l.setVc v { l.vc v with stallSince := z }) = unstalled l := by
  unfold Link.setVc Link.vc
  split_ifs <;> rfl

/-- What touches a queue moves nothing of its link but a stall. -/
theorem unstalled_voqTouch (p v : Nat) (s : State) : unstalled (linkOf (voqTouch p v s) p) = unstalled (linkOf s p) := by
  unfold voqTouch
  dsimp only
  rw [linkOf_setLink_self, unstalled_setVc]
  congr 1
  refine linkOf_of_links ?_ p
  show (if _ then s else _).links = s.links
  split
  · rfl
  · exact of_quiet_links (quiet_foldl _ (fun s _ => quiet_tally _ _ _ _ _ s) _ s)

theorem unstalled_portTouch (p : Nat) (s : State) : unstalled (linkOf (portTouch p s) p) = unstalled (linkOf s p) := by
  simp only [portTouch, unstalled_voqTouch]

section
variable {l m : Link} (h : unstalled l = unstalled m)
include h

theorem credit_of_unstalled : l.credit = m.credit := (congrArg Link.credit h :)
theorem based_of_unstalled : l.based = m.based := (congrArg Link.based h :)
theorem params_of_unstalled : l.params = m.params := (congrArg Link.params h :)
theorem partner_of_unstalled : l.partner = m.partner := (congrArg Link.partner h :)
theorem vc_of_unstalled (v : Nat) : (l.vc v).unstalled = (m.vc v).unstalled := by rw [← vc_unstalled, h, vc_unstalled]

end

/-! ### CREDIT (R120 to R122, R137) -/

/-- The account of a VC once a CREDIT of a gap slot is taken: its counts stand against what came before that slot's markers. -/
def creditTaken (l : Link) (v : Nat) (body : Bytes) (based : Bool) : Credit :=
  let n := sinceGap l v
  let c := (l.vc v).shifted (2 ^ 32 - n % 2 ^ 32)
  let f := creditFields body v
  (if based then (creditJudge c f.1 f.2).1 else creditBase c f.1 f.2).shifted n

theorem links_creditReport (p v n : Nat) (b : Bool) (s : State) : (creditReport p v n b s).links = s.links :=
  creditReport_only (l := []) p v n b s .links (by decide)

theorem linkOf_creditVc (p v : Nat) (body : Bytes) (b : Bool) (s : State) :
    linkOf (creditVc p v body b s) p = (linkOf s p).setVc v (creditTaken (linkOf s p) v body b) := by
  cases b with
  | true => exact (linkOf_of_links (links_creditReport _ _ _ _ _) p).trans (linkOf_setLink_self _ _ _)
  | false =>
    simp only [creditVc, creditTaken, Bool.false_eq_true, if_false]
    exact linkOf_setLink_self _ _ _

theorem creditTaken_setVc_ne {v w : Nat} (hv : IsVc v) (hw : IsVc w) (h : v ≠ w) (l : Link) (c : Credit) (body : Bytes) (b : Bool) :
    creditTaken (l.setVc w c) v body b = creditTaken l v body b := by
  simp [creditTaken, sinceGap, vc_setVc_ne hv hw h]

/-- The accounts after the CREDIT of each VC. -/
def creditsTaken (l : Link) (body : Bytes) (b : Bool) : Link :=
  ((l.setVc 1 (creditTaken l 1 body b)).setVc 2 (creditTaken l 2 body b)).setVc 3 (creditTaken l 3 body b)

theorem linkOf_creditVcs (p : Nat) (body : Bytes) (b : Bool) (s : State) :
    linkOf ([1, 2, 3].foldl (fun s v => creditVc p v body b s) s) p = creditsTaken (linkOf s p) body b := by
  have h1 : IsVc 1 := by simp [IsVc]
  have h2 : IsVc 2 := by simp [IsVc]
  have h3 : IsVc 3 := by simp [IsVc]
  simp only [List.foldl_cons, List.foldl_nil, linkOf_creditVc, creditsTaken]
  rw [creditTaken_setVc_ne h2 h1 (by decide), creditTaken_setVc_ne h3 h2 (by decide), creditTaken_setVc_ne h3 h1 (by decide)]

theorem vc_creditsTaken {v : Nat} (hv : IsVc v) (l : Link) (body : Bytes) (b : Bool) : (creditsTaken l body b).vc v = creditTaken l v body b := by
  obtain rfl | rfl | rfl := hv <;> rfl

/-- Every ingress lane in service of a port has shown the slot-24 marker of the tick that a CREDIT names. -/
def GapMarked (p : Nat) (body : Bytes) (s : State) : Prop :=
  ∀ n ∈ ingressLanes s p, SMap.get? (linkOf s p).gapTicks n = some (beAt body 24 4 % 1024)

/-- A CREDIT whose markers have not all come waits. -/
theorem creditTry_waits {p : Nat} {body : Bytes} {s : State} (hc : (linkOf s p).credit = some body) (h : ¬ GapMarked p body s) :
    creditTry p s = s := by
  unfold creditTry
  rw [hc]
  exact if_neg fun e => h fun n hn => by simpa using List.all_eq_true.1 e n hn

/-- A CREDIT whose markers have come is taken in every account. -/
theorem creditTry_takes {p : Nat} {body : Bytes} {s : State} (hc : (linkOf s p).credit = some body) (h : GapMarked p body s) :
    unstalled (linkOf (creditTry p s) p)
      = unstalled { creditsTaken { linkOf s p with credit := none } body (linkOf s p).based with based := true } := by
  unfold creditTry
  rw [hc]
  dsimp only
  rw [if_pos (List.all_eq_true.2 fun n hn => by simpa using h n hn), unstalled_portTouch, linkOf_setLink_self, linkOf_creditVcs, linkOf_setLink_self]

/-- A CREDIT that passes the checks of its row on a port. -/
def CreditValid (p : Port) (k : Packet) (s : State) : Prop := dpLive s = true ∧ portFormat s p = 1 ∧ pkOp k = Op.CREDIT ∧ pkCrcOk k = true

section
variable {p : Port} {k : Packet} {s u : State} (hu : u = hearEpoch p k (fromInbox p k (start s)))
include hu

theorem links_of_heard : u.links = s.links := by
  have h : Only [.waiting, .timetable, .queues, .crusher, .optics, .repair, .tables, .time] (fromInbox p k (start s)) u :=
    hu ▸ hearEpoch_only _ _ _ (by decide) (by decide) (by decide) (by decide) (by decide) (by decide) (by decide) (by decide)
  exact h .links (by decide)

variable (hv : CreditValid p k s) (hd : darkIn u p = false)
include hv hd

theorem exec_creditReceived :
    exec (.creditReceived p k) s = .next (settle s (creditTry p (setLink p (fun l => { l with credit := some (pkBody k) }) u))) := by
  obtain ⟨hl, hf, ho, hc⟩ := hv
  have hg : (!dpLive (fromInbox p k (start s)) || portFormat (fromInbox p k (start s)) p != 1 || pkOp k != Op.CREDIT || !pkCrcOk k) = false := by
    rw [show dpLive (fromInbox p k (start s)) = dpLive s from rfl, show portFormat (fromInbox p k (start s)) p = portFormat s p from rfl, hl, hf, ho, hc]
    rfl
  show execCreditReceived p k s = _
  unfold execCreditReceived run
  dsimp only
  rw [if_neg (by rw [hg]; decide), ← hu, if_neg (by rw [hd]; decide)]

theorem creditReceived_waits (hm : ¬ GapMarked p (pkBody k) u) :
    Answers (.creditReceived p k) s fun t => (linkOf t p).credit = some (pkBody k) ∧ ∀ v, (linkOf t p).vc v = (linkOf s p).vc v := by
  refine ⟨_, exec_creditReceived hu hv hd, ?_⟩
  have hg : ¬ GapMarked p (pkBody k) (setLink p (fun l => { l with credit := some (pkBody k) }) u) := fun h => hm fun n hn => by
    simpa using h n hn
  dsimp only
  rw [creditTry_waits (by simp) hg, linkOf_settle, linkOf_setLink_self, linkOf_of_links (links_of_heard hu)]
  exact ⟨rfl, fun _ => rfl⟩

/-- A CREDIT that is taken leaves each account as `creditTaken` has it, stalls apart. -/
theorem creditReceived_takes (hm : GapMarked p (pkBody k) u) :
    Answers (.creditReceived p k) s fun t => (linkOf t p).credit = none ∧ (linkOf t p).based = true ∧ ∀ v, IsVc v →
      ((linkOf t p).vc v).unstalled = (creditTaken (linkOf s p) v (pkBody k) (linkOf s p).based).unstalled := by
  refine ⟨_, exec_creditReceived hu hv hd, ?_⟩
  have hg : GapMarked p (pkBody k) (setLink p (fun l => { l with credit := some (pkBody k) }) u) := fun n hn => by simpa using hm n hn
  have ht := creditTry_takes (by simp) hg
  rw [linkOf_setLink_self, linkOf_of_links (links_of_heard hu)] at ht
  dsimp only
  rw [linkOf_settle]
  refine ⟨(credit_of_unstalled ht).trans ?_, based_of_unstalled ht, fun v hv => (vc_of_unstalled ht v).trans (congrArg _ (vc_creditsTaken hv _ _ _))⟩
  simp [creditsTaken]

end

section
variable {c : Credit} {l : Link} {v : Nat} {body : Bytes}

theorem of_creditTaken_base (h : c.unstalled = (creditTaken l v body false).unstalled) :
    c.received = ((creditFields body v).1 + sinceGap l v) % 2 ^ 32 ∧ c.pFreed = (creditFields body v).2
      ∧ c.shift = serialDist 32 (l.vc v).sent (creditFields body v).2 ∧ c.sent = (l.vc v).sent :=
  ⟨(congrArg Credit.received h :), (congrArg Credit.pFreed h :), (congrArg Credit.shift h :), (congrArg Credit.sent h :)⟩

theorem of_creditTaken_later (h : c.unstalled = (creditTaken l v body true).unstalled) :
    let before := ((l.vc v).shifted (2 ^ 32 - sinceGap l v % 2 ^ 32)).received
    c.received = ((creditFields body v).1 + sinceGap l v) % 2 ^ 32 ∧ c.pFreed = (creditFields body v).2
      ∧ c.freed = (if before32 (creditFields body v).1 before || before32 (creditFields body v).2 (l.vc v).pFreed then (l.vc v).freed
        else ((l.vc v).freed + serialDist 32 (creditFields body v).1 before) % 2 ^ 32) := by
  have hr : c.received = (creditTaken l v body true).received := (congrArg Credit.received h :)
  have hp : c.pFreed = (creditTaken l v body true).pFreed := (congrArg Credit.pFreed h :)
  have hf : c.freed = (creditTaken l v body true).freed := (congrArg Credit.freed h :)
  rw [hr, hp, hf]
  simp only [creditTaken, creditJudge, if_true]
  have hb : ((l.vc v).shifted (2 ^ 32 - sinceGap l v % 2 ^ 32)).pFreed = (l.vc v).pFreed := rfl
  rw [hb]
  split
  · exact ⟨rfl, rfl, rfl⟩
  · exact ⟨rfl, rfl, rfl⟩

end

/-! ### LINK_PARAMS (R123, R124) -/

/-- A link with its partner's parameters. -/
def paramsTaken (l : Link) (bad : Bool) (body : Bytes) : Link :=
  { [1, 2, 3].foldl (fun (l : Link) v => l.setVc v { l.vc v with limit := beAt body (4 * v) 4 }) l with params := true, mismatch := bad, partner := body }

theorem limit_paramsTaken {v : Nat} (hv : IsVc v) (l : Link) (bad : Bool) (body : Bytes) :
    ((paramsTaken l bad body).vc v).limit = beAt body (4 * v) 4 := by
  obtain rfl | rfl | rfl := hv <;> rfl

theorem linkParamsReceived_takes {p : Port} {k : Packet} {s : State} (hl : dpLive s = true) (hf : portFormat s p = 1)
    (ho : pkOp k = Op.LINK_PARAMS) (hc : pkCrcOk k = true) :
    Answers (.linkParamsReceived p k) s fun t => ∃ l bad, unstalled (linkOf t p) = unstalled (paramsTaken l bad (pkBody k)) := by
  refine answers_run (show exec _ s = execLinkParamsReceived p k s from rfl) ?_
  have hg : (!dpLive (fromInbox p k (start s)) || portFormat (fromInbox p k (start s)) p != 1 || pkOp k != Op.LINK_PARAMS || !pkCrcOk k) = false := by
    rw [show dpLive (fromInbox p k (start s)) = dpLive s from rfl, show portFormat (fromInbox p k (start s)) p = portFormat s p from rfl, hl, hf, ho, hc]
    rfl
  dsimp only
  rw [if_neg (by rw [hg]; decide)]
  exact ⟨_, _, by rw [linkOf_settle, unstalled_portTouch, linkOf_setLink_self]; rfl⟩

/-! ### SLOT_MARKER (R109, R115) -/

theorem op_settle (s t : State) : (settle s t).op = t.op := rfl

/-- What follows a marker's note leaves the notes. -/
theorem op_markerFollows (p m n g : Nat) {b : Bool} {c : Prop} [Decidable c] (s : State) :
    (paramsFirst p (if b then markerMismatch p m (if c then gapMark p n g s else s) else (if c then gapMark p n g s else s))).op = s.op := by
  have hg : Only [.links, .queues] s (if c then gapMark p n g s else s) := Only.step_if (Only.refl s) (gapMark_only _ _ _ _ (by decide) (by decide))
  have h := (hg.step_if (c := b = true) (markerMismatch_only p m _ (by decide))).trans (paramsFirst_only p _ (by decide) (by decide))
  exact h .optics (by decide)

/-- A marker that is sound is noted for its lane, with how many ticks in a row have brought one. -/
theorem slotMarker_notes {p : Port} {l : Lane} {m : BitVec 32} {a : At} {s : State} (hw : laneWatched s p l = true) (hf : portFormat s p = 1)
    (hd : darkIn s p = false) (hm : markerOk (m.toNat % 2 ^ 32) = true) :
    Answers (.slotMarker p l m a) s fun t =>
      t.op.roles = SMap.set s.op.roles (p.val * 5 + l.val) (s.clk.tick, bits (m.toNat % 2 ^ 32) 12 4, bits (m.toNat % 2 ^ 32) 9 3)
      ∧ t.op.markers = SMap.set s.op.markers (p.val * 5 + l.val) (match SMap.get? s.op.roles (p.val * 5 + l.val) with
        | some (t, _, _) => if t = s.clk.tick then SMap.getD s.op.markers (p.val * 5 + l.val) 0
          else if t + 1 = s.clk.tick then SMap.getD s.op.markers (p.val * 5 + l.val) 0 + 1 else 1
        | none => 1) := by
  refine answers_runAt (show exec _ s = execSlotMarker p l m a s from rfl) ?_
  dsimp only
  have hg : (!laneWatched (start (atPs a s)) p l || portFormat (start (atPs a s)) p != 1 || darkIn (start (atPs a s)) p) = false := by
    rw [show laneWatched (start (atPs a s)) p l = laneWatched s p l from rfl, show portFormat (start (atPs a s)) p = portFormat s p from rfl,
      show darkIn (start (atPs a s)) p = darkIn s p from rfl, hw, hf, hd]
    rfl
  rw [if_neg (by rw [hg]; decide), if_neg (by rw [hm]; decide)]
  rw [op_settle, op_markerFollows]
  exact ⟨rfl, rfl⟩

end Sys2Proof.Machine
end
section
/-! A wing's chute matrix: what a drive and a settling check leave in it (R352, R353, R358). -/
namespace Sys2Proof.Machine
open Sys2Proof

theorem Answers.imp {i : Instr} {s : State} {P Q : State → Prop} (h : Answers i s P) (k : ∀ t, P t → Q t) : Answers i s Q :=
  Exists.imp (fun t ht => ⟨ht.1, k t ht.2⟩) h

/-! ### Routing -/

/-- Routing keeps the circuits: each comes out with a path or without one. -/
theorem mem_of_routeAll {g : Nat × Nat × Option Nat} {l : List (Nat × Nat)} {held : List (Nat × Bool)} (h : g ∈ routeAll held l) : (g.1, g.2.1) ∈ l := by
  induction l generalizing held with
  | nil => simp [routeAll] at h
  | cons c r ih =>
    obtain ⟨i, j⟩ := c
    rw [routeAll] at h
    split at h
    all_goals
      obtain rfl | h := List.mem_cons.1 h
      · exact List.mem_cons_self
      · exact List.mem_cons_of_mem _ (ih h)

theorem routeAll_of_mem {c : Nat × Nat} {l : List (Nat × Nat)} {held : List (Nat × Bool)} (h : c ∈ l) : ∃ q, (c.1, c.2, q) ∈ routeAll held l := by
  induction l generalizing held with
  | nil => simp at h
  | cons d r ih =>
    obtain ⟨i, j⟩ := d
    rw [routeAll]
    obtain rfl | h := List.mem_cons.1 h
    · split
      · exact ⟨_, List.mem_cons_self⟩
      · exact ⟨_, List.mem_cons_self⟩
    · split
      · exact (ih h).imp fun _ => List.mem_cons_of_mem _
      · exact (ih h).imp fun _ => List.mem_cons_of_mem _

@[simp] theorem mem_byIngress {c : Nat × Nat} {l : List (Nat × Nat)} : c ∈ byIngress l ↔ c ∈ l := by simp [byIngress]

/-! ### CHUTE_DRIVE (R353) -/

/-- Chutes set, and not wanted in the next tick. -/
def goneChutes (x : WingMx) (want : List (Nat × Nat)) : List Chute := x.chutes.filter fun c => c.clearTick.isNone && !(want.contains (c.i, c.j))

/-- Circuits wanted in tick `k` that have no chute. -/
def newCircuits (k : Nat) (x : WingMx) (want : List (Nat × Nat)) : List (Nat × Nat) :=
  if k % 8 = 0 then want.filter fun c => !((x.chutes.filter fun c => c.clearTick.isNone).any fun y => y.i == c.1 && y.j == c.2) else []

/-- A wing with the clears of tick `k` begun. -/
def clearsBegun (k : Nat) (x : WingMx) (want : List (Nat × Nat)) : WingMx :=
  { x with chutes := x.chutes.map fun c => if (goneChutes x want).contains c then { c with clearTick := some k } else c }

/-- A chute for a circuit that has been routed, or has failed to be. -/
def chuteOf (k : Nat) (g : Nat × Nat × Option Nat) : Chute :=
  { i := g.1, j := g.2.1, path := g.2.2, setTick := k, clearTick := none, failed := g.2.2.isNone }

/-- The chutes that tick `k` sets. -/
def addedChutes (k : Nat) (x : WingMx) (want : List (Nat × Nat)) : List Chute :=
  (routeAll (heldCells (clearsBegun k x want)) (byIngress (newCircuits k x want))).map (chuteOf k)

/-- A wing's chutes once it has been driven for tick `k`. -/
def drivenChutes (k : Nat) (x : WingMx) (want : List (Nat × Nat)) : List Chute :=
  if (goneChutes x want).isEmpty && (newCircuits k x want).isEmpty then x.chutes else (clearsBegun k x want).chutes ++ addedChutes k x want

@[simp] theorem wingOf_setWing (w : Nat) (x : WingMx) (s : State) : wingOf (setWing w x s) w = x := by simp [wingOf, setWing]

theorem wingOf_of_ch {s t : State} (h : t.ch = s.ch) (w : Nat) : wingOf t w = wingOf s w := by rw [wingOf, h, wingOf]

theorem wingOf_settle (s t : State) (w : Nat) : wingOf (settle s t) w = wingOf t w := rfl

theorem ch_setFails (w i j n : Nat) (s : State) : (setFails w i j n s).ch = s.ch := of_quiet_ch (quiet_raise _ _ _)

theorem ch_fails (w : Nat) (f : Chute → Nat) (l : List Chute) (s : State) :
    (l.foldl (fun s c => setFails w c.i c.j (f c) s) s).ch = s.ch := by
  induction l generalizing s with
  | nil => rfl
  | cons c r ih => exact (ih _).trans (ch_setFails _ _ _ _ _)

theorem chuteDrive_drives {w : Wing} {s : State} (hl : dpLive s = true) :
    Answers (.chuteDrive w) s fun t =>
      (wingOf t w).chutes = drivenChutes (s.clk.tick + 1) (wingOf s w) (wantedChutes s w (s.clk.tick + 1)) := by
  refine answers_runAt (show exec _ s = execChuteDrive w s from rfl) ?_
  dsimp only
  rw [show dpLive (start (atPs 0 s)) = true from hl, drivenChutes]
  rw [apply_ite (fun t => (wingOf (settle _ t) w).chutes)]
  refine if_congr (by rw [Bool.not_true, Bool.false_or]; rfl) rfl ?_
  rw [wingOf_settle, wingOf_of_ch (ch_fails _ _ _ _), wingOf_setWing]
  rfl

theorem mem_drivenChutes {k : Nat} {x : WingMx} {want : List (Nat × Nat)} {c : Chute} (h : c ∈ drivenChutes k x want) (hc : c.clearTick = none) :
    (c.i, c.j) ∈ want := by
  have hset : ∀ {c}, c ∈ x.chutes → c ∉ goneChutes x want → c.clearTick = none → (c.i, c.j) ∈ want := fun hm hn hc => by
    by_contra hw
    exact hn (List.mem_filter.2 ⟨hm, by simp [hc, hw]⟩)
  unfold drivenChutes at h
  split at h
  case isTrue he =>
    simp only [Bool.and_eq_true, List.isEmpty_iff] at he
    exact hset h (by simp [he.1]) hc
  case isFalse =>
    obtain h | h := List.mem_append.1 h
    · obtain ⟨d, hd, rfl⟩ := List.mem_map.1 h
      by_cases hg : d ∈ goneChutes x want
      · simp [hg] at hc
      · simp only [List.contains_iff_mem, if_neg hg] at hc ⊢
        exact hset hd hg hc
    · obtain ⟨g, hg, rfl⟩ := List.mem_map.1 h
      have hn := mem_byIngress.1 (mem_of_routeAll hg)
      unfold newCircuits at hn
      split at hn
      · exact (List.mem_filter.1 hn).1
      · simp at hn

theorem drivenChutes_of_new {k : Nat} {x : WingMx} {want : List (Nat × Nat)} {c : Nat × Nat} (hk : k % 8 = 0) (hc : c ∈ want)
    (hn : x.chutes.any (fun y => y.clearTick.isNone && y.i == c.1 && y.j == c.2) = false) :
    ∃ y ∈ drivenChutes k x want, y.i = c.1 ∧ y.j = c.2 ∧ y.setTick = k := by
  have hnew : c ∈ newCircuits k x want := by
    rw [newCircuits, if_pos hk]
    exact List.mem_filter.2 ⟨hc, by simpa [List.any_filter, Bool.and_assoc] using hn⟩
  obtain ⟨q, hq⟩ := routeAll_of_mem (held := heldCells (clearsBegun k x want)) (mem_byIngress.2 hnew)
  refine ⟨chuteOf k (c.1, c.2, q), ?_, rfl, rfl, rfl⟩
  rw [drivenChutes, if_neg fun e => by simp_all]
  exact List.mem_append_right _ (List.mem_map_of_mem hq)

/-! ### CHUTE_SETTLE_CHECK (R358) -/

/-- A cell's report moves no setting. -/
theorem cellSetting_cellReport (w c v : Nat) (s : State) (n : Nat) : cellSetting (wingOf (cellReport w c v s) w) n = cellSetting (wingOf s w) n := by
  unfold cellReport
  dsimp only
  split
  · rfl
  · rw [wingOf_of_ch (of_quiet_ch (quiet_raise _ _ _)), wingOf_of_ch (of_quiet_ch (quiet_count _ _ _)), wingOf_setWing]
    rfl

/-- A cell marked faulted stays so. -/
theorem faulted_cellReport {w c v : Nat} {s : State} {n : Nat} (h : (SMap.get? (wingOf s w).faults n).isSome = true) :
    (SMap.get? (wingOf (cellReport w c v s) w).faults n).isSome = true := by
  unfold cellReport
  dsimp only
  split
  · exact h
  · rw [wingOf_of_ch (of_quiet_ch (quiet_raise _ _ _)), wingOf_of_ch (of_quiet_ch (quiet_count _ _ _)), wingOf_setWing]
    by_cases e : n = c
    · subst e; simp
    · simpa [get?_set_ne _ _ e] using h

/-- A cell that reports another setting than it has is marked. -/
theorem faulted_of_cellReport {w c v : Nat} {s : State} (hc : c < 208) (hv : cellSetting (wingOf s w) c ≠ v) :
    (SMap.get? (wingOf (cellReport w c v s) w).faults c).isSome = true := by
  by_cases h : (SMap.get? (wingOf s w).faults c).isSome = true
  · exact faulted_cellReport h
  · unfold cellReport
    dsimp only
    rw [if_neg (by simp [h, hv, hc]), wingOf_of_ch (of_quiet_ch (quiet_raise _ _ _)), wingOf_of_ch (of_quiet_ch (quiet_count _ _ _)), wingOf_setWing]
    simp

/-- The reports of a settling check, in order. -/
def cellReports (w : Nat) (l : List (Nat × Nat)) (s : State) : State := l.foldl (fun s r => cellReport w r.1 r.2 s) s

theorem faulted_cellReports {w : Nat} {l : List (Nat × Nat)} {s : State} {n : Nat} (h : (SMap.get? (wingOf s w).faults n).isSome = true) :
    (SMap.get? (wingOf (cellReports w l s) w).faults n).isSome = true := by
  induction l generalizing s with
  | nil => exact h
  | cons a l ih => exact ih (faulted_cellReport h)

theorem faulted_of_cellReports {w : Nat} {l : List (Nat × Nat)} {s : State} {r : Nat × Nat} (hr : r ∈ l) (hc : r.1 < 208)
    (hv : cellSetting (wingOf s w) r.1 ≠ r.2) : (SMap.get? (wingOf (cellReports w l s) w).faults r.1).isSome = true := by
  induction l generalizing s with
  | nil => cases hr
  | cons a l ih =>
    obtain rfl | hr := List.mem_cons.1 hr
    · exact faulted_cellReports (s := cellReport w r.1 r.2 s) (faulted_of_cellReport hc hv)
    · exact ih hr (by rwa [cellSetting_cellReport])

theorem chuteSettleCheck_marks {w : Wing} {l : List (Nat × Nat)} {n : Nat} {s : State} (hs : (wingOf s w).settleAt = some n) (hd : due n s = true) :
    Answers (.chuteSettleCheck w l) s fun t => (wingOf t w).settleAt = none
      ∧ (wingOf t w).faults = (wingOf (cellReports w l (start (atPs (n - s.clk.tick * tickPs) s))) w).faults := by
  refine answers_due (show exec _ s = execChuteSettleCheck w l s from rfl) hs hd ?_
  dsimp only
  rw [wingOf_settle, wingOf_of_ch (ch_fails _ _ _ _), wingOf_setWing]
  exact ⟨rfl, rfl⟩


/-! ### Shapers (R292, R293) -/

@[simp] theorem last_shaperWheel (c : ShaperCfg) (x : Shaper) : (shaperWheel c x).last = x.last := by
  unfold shaperWheel
  split <;> rfl

@[simp] theorem tokens_shaperWheel (c : ShaperCfg) (x : Shaper) : (shaperWheel c x).tokens = x.tokens := by
  unfold shaperWheel
  split <;> rfl

theorem shaperOf_setShaper (n : Nat) (x : Shaper) (s : State) : shaperOf (setShaper n x s) n = x := by simp [shaperOf, setShaper]

theorem shaperOf_of_get {s : State} {n : Nat} {x : Shaper} (h : SMap.get? s.ot.shapers n = some x) : shaperOf s n = x := by
  rw [shaperOf, SMap.getD, h, Option.getD_some]

theorem shaperWheelExpiry_updates {n w : Nat} {x : Shaper} {s : State} (hx : SMap.get? s.ot.shapers n = some x) (hw : x.wheel = some w) (hd : due w s = true) :
    Answers (.shaperWheelExpiry n) s fun t =>
      shaperOf t n = shaperWheel (shaperCfg s n) (shaperUpdate (shaperCfg s n) x (now (atPs (w - s.clk.tick * tickPs) s))) := by
  refine answers_due (show exec _ s = execShaperWheelExpiry n s from rfl) (by simp [hx, hw]) hd ?_
  dsimp only
  rw [show ∀ a b, shaperOf (settle a b) n = shaperOf b n from fun _ _ => rfl, shaperOf_setShaper]
  rw [show shaperOf (start (atPs (w - s.clk.tick * tickPs) s)) n = shaperOf s n from rfl, shaperOf_of_get hx]
  rfl

theorem wantedChutes_of_image {s : State} {k v : Nat} {i : Image} (h : imageAt s k = some (i, v)) (w : Nat) :
    wantedChutes s w k = ((chutesAt i (periodTick i k)).filter fun c => c.1 == w).map (·.2) := by
  rw [wantedChutes, h]

/-- Settles O17, row by row: what each leaves in its link, its shaper or its wing. -/
theorem linkRows : Obligations.LinkRows := by
  unfold Obligations.LinkRows
  dsimp only
  refine ⟨?marker, ?waits, ?base, ?later, ?params, ?shaper, ?drive, ?settle⟩
  case marker =>
    intro p l m a s hw hf hd hm
    refine (slotMarker_notes (a := a) hw hf hd hm).imp fun t ht => ?_
    rw [ht.1, ht.2]
    refine ⟨by simp [Nat.mod_eq_of_lt m.isLt], fun r hr hk => ?_⟩
    have h' : r.1 ≠ s.clk.tick := by omega
    simp [hr, hk, h']
  case waits =>
    rintro p k s u hv ⟨hu, hd⟩ hm
    exact creditReceived_waits hu hv hd hm
  case base =>
    rintro p k s u hv ⟨hu, hd⟩ hm hb
    refine (creditReceived_takes hu hv hd hm).imp fun t ht => ?_
    obtain ⟨hc, hbt, h⟩ := ht
    exact ⟨hc, hbt, fun v hv => of_creditTaken_base (hb ▸ h v hv)⟩
  case later =>
    rintro p k s u hv ⟨hu, hd⟩ hm hb
    refine (creditReceived_takes hu hv hd hm).imp fun t ht => ?_
    obtain ⟨hc, -, h⟩ := ht
    exact ⟨hc, fun v hv => of_creditTaken_later (hb ▸ h v hv)⟩
  case params =>
    rintro p k s ⟨hl, hf, ho, hc⟩
    refine (linkParamsReceived_takes hl hf ho hc).imp fun t ht => ?_
    obtain ⟨l, bad, h⟩ := ht
    exact ⟨params_of_unstalled h, partner_of_unstalled h, fun v hv =>
      (congrArg Credit.limit (vc_of_unstalled h v) :).trans (limit_paramsTaken hv _ _ _)⟩
  case shaper =>
    intro n w x s hx hw hd
    refine (shaperWheelExpiry_updates hx hw hd).imp fun t ht => ?_
    rw [ht, last_shaperWheel, tokens_shaperWheel]
    exact ⟨rfl, rfl⟩
  case drive =>
    intro w i v s hl hi
    refine (chuteDrive_drives hl).imp fun t ht => ?_
    rw [ht, wantedChutes_of_image hi]
    exact ⟨fun c hc hn => mem_drivenChutes hc hn, fun hk c hc hn => drivenChutes_of_new hk hc hn⟩
  case settle =>
    intro w l n s hs hd
    refine (chuteSettleCheck_marks hs hd).imp fun t ht => ?_
    refine ⟨ht.1, fun r hr hc hv => ?_⟩
    rw [ht.2]
    exact faulted_of_cellReports hr hc hv

end Sys2Proof.Machine
end
section
/-! What an arriving packet leaves on its way through the first steps (R128, R143): counts, its port's credit and its captures. -/
namespace Sys2Proof.Machine
open Sys2Proof

section
variable {l : List Part}

/-! ### The parts of each step -/

theorem occReceived_only (p : Nat) (k : Packet) (s : State) (hq : .queues ∈ l) : Only l s (occReceived p k s) :=
  (occCycles_only _ _ _ _ _ s hq).trans ((only_occ _ _ _ _ _).trans ((only_occ _ _ _ _ _).trans
    ((occPort_only _ _ _ _ _).trans (occPort_only _ _ _ _ _))))

theorem received_only (p n : Nat) (k : Packet) (s : State) (hq : .queues ∈ l) (hk : .links ∈ l) : Only l s (received p n k s) :=
  Only.step_unless (occReceived_only p k s hq) (only_setLink _ _ _ hk)

theorem capTaken_only (i : Nat) (s : State) (hc : .captures ∈ l) : Only l s (capTaken i s) :=
  (only_foldl (fun s _ => only_ite (only_capStage _ s hc) (Only.refl s)) _ s).trans (only_capForget _ _ hc)

theorem capIngress_only (p n i : Nat) (k : Packet) (z : Int) (s : State) (hc : .captures ∈ l) : Only l s (capIngress p n i k z s) := by
  refine only_ite (Only.refl s) (only_foldl (fun s _ => only_ite ?_ (Only.refl s)) _ s)
  exact Only.step_if (only_tm _ s hc) (only_tm _ _ hc)

theorem passed_only (p : Nat) (s : State) (hh : .health ∈ l) : Only l s (passed p s) := setNb_only _ _ s hh

/-- The counter of a row of R128. -/
def rowCounter (row : Nat) : Nat :=
  [E.PKT_HDR_DROPS, E.PKT_CRC_DROPS, E.PKT_STOMPED_OUT, E.PKT_STOMPED_IN, E.PKT_FORMAT_DROPS, E.PKT_FORMAT_DROPS, E.PKT_FORMAT_DROPS,
    E.PKT_HOP_DROPS].getD row 0

theorem rowCounter_mem {row : Nat} (hr : row < 8) : rowCounter row ∈ pathCounters := by
  revert row
  decide

theorem r128_only {row : Nat} (hr : row < 8) (p : Nat) (k : Packet) (s : State) : Only l s (r128 row p k s) := by
  refine Only.trans (Only.step_unless (only_tally (setting_of_counter (rowCounter_mem hr)) _ _ _ _ s) (occPort_only _ _ _ _ _))
    (only_accum _ _ _ _ _ _)

theorem damaged_only {row : Nat} (hr : row < 8) (p n : Nat) (k : Packet) (s : State) (ho : .optics ∈ l) : Only l s (damaged row p n k s) :=
  ((r128_only hr p k s).trans (laneNote_only _ _ ho)).step_if (only_tally (setting_of_counter (by decide)) _ _ _ _ _)

theorem toInbox_only (p : Nat) (k : Packet) (s : State) (hi : .inbox ∈ l) : Only l s (toInbox p k s) := only_inbox _ s hi

end

/-! ### The queues -/

theorem held_occReceived (p : Nat) (k : Packet) (s : State) : held (occReceived p k s) = held s :=
  (held_of_quiet (quiet_occPort _ _ _ _ _)).trans ((held_of_quiet (quiet_occPort _ _ _ _ _)).trans
    ((held_of_quiet (quiet_occ _ _ _ _ _)).trans ((held_of_quiet (quiet_occ _ _ _ _ _)).trans (held_occCycles _ _ _ _ _ s))))

theorem held_received (p n : Nat) (k : Packet) (s : State) : held (received p n k s) = held s := by
  unfold received
  dsimp only
  split
  · exact held_occReceived p k s
  · exact (held_of_dp rfl).trans (held_occReceived p k s)

theorem dp_capTaken (i : Nat) (s : State) : (capTaken i s).dp = s.dp := capTaken_only (l := [.captures]) i s (by decide) .queues (by decide)

theorem dp_capIngress (p n i : Nat) (k : Packet) (z : Int) (s : State) : (capIngress p n i k z s).dp = s.dp :=
  capIngress_only (l := [.captures]) p n i k z s (by decide) .queues (by decide)

theorem dp_freeCredit (p n v : Nat) (k : Packet) (s : State) : (freeCredit p n v k s).dp = s.dp :=
  only_freeCredit (l := [.links]) p n v k s (by decide) .queues (by decide)

theorem dp_damaged {row : Nat} (hr : row < 8) (p n : Nat) (k : Packet) (s : State) : (damaged row p n k s).dp = s.dp :=
  damaged_only (l := [.optics]) hr p n k s (by decide) .queues (by decide)

/-! ### The clock -/

theorem clk_occCycles (base e b n : Nat) (sc : Bool) (s : State) : (occCycles base e b n sc s).clk = s.clk := by
  cases sc with
  | true => exact (of_quiet_clk (quiet_occ _ _ _ _ _)).trans (of_quiet_clk (quiet_occ _ _ _ _ s))
  | false => exact (rfl : _ = (occ b e n {} s).clk).trans (of_quiet_clk (quiet_occ _ _ _ _ s))

theorem clk_occReceived (p : Nat) (k : Packet) (s : State) : (occReceived p k s).clk = s.clk :=
  (of_quiet_clk (quiet_occPort _ _ _ _ _)).trans ((of_quiet_clk (quiet_occPort _ _ _ _ _)).trans
    ((of_quiet_clk (quiet_occ _ _ _ _ _)).trans ((of_quiet_clk (quiet_occ _ _ _ _ _)).trans (clk_occCycles _ _ _ _ _ s))))

theorem clk_received (p n : Nat) (k : Packet) (s : State) : (received p n k s).clk = s.clk := by
  have h := clk_occReceived p k s
  unfold received
  dsimp only
  split
  · exact h
  · exact h

theorem clk_capIngress (p n i : Nat) (k : Packet) (z : Int) (s : State) : (capIngress p n i k z s).clk = s.clk :=
  (congrArg State.clk (still_capIngress p n i k z s) :)

/-! ### Readings -/

/-- The settings that an arrival reads. -/
def arrivalSettings : List Nat := [E.RP_POSITION_FA, E.PKT_CELL_HOP_LIMIT, E.PORT_CONFIG]

theorem arrivalSetting_of_only {l : List Part} {s t : State} (h : Only l s t) (hs : .settings ∉ l) {e : Nat} (he : e ∈ arrivalSettings) :
    (∀ d, getNum t e d = getNum s e d) ∧ SMap.get? t.dict.tabs e = SMap.get? s.dict.tabs e := by
  have hc : ∀ e ∈ arrivalSettings, (findEntry e).getD noEntry ∈ catalog ∧ ((findEntry e).getD noEntry).acc ≠ 1
    ∧ ((findEntry e).getD noEntry).id = e := by decide +kernel
  obtain ⟨hm, ha, hi⟩ := hc e he
  exact hi ▸ h .settings hs _ hm ha

theorem portFormat_of_only {l : List Part} {s t : State} (h : Only l s t) (hs : .settings ∉ l) (hb : .bringup ∉ l) (p : Nat) :
    portFormat t p = portFormat s p := by
  have hc := (arrivalSetting_of_only h hs (e := E.PORT_CONFIG) (by decide)).2
  have hd : t.bi = s.bi := h .bringup hb
  unfold portFormat portCfg tabNum
  rw [hc, hd]

section
variable {s t : State} (h : Only passing s t)
include h

theorem posFa_of_passing : posFa t = posFa s := by
  have hn : Cfg.RP_POSITION_FA t = Cfg.RP_POSITION_FA s := (arrivalSetting_of_only h (by decide) (e := E.RP_POSITION_FA) (by decide)).1 _
  unfold posFa
  rw [hn]

theorem fateOf_of_passing (p : Nat) (k : Packet) : fateOf t p k = fateOf s p k := by
  have hf : t.hl.fences = s.hl.fences := (congrArg HlState.fences (hl_of_passing h) :)
  have hn : t.hl.neighbours = s.hl.neighbours := (congrArg HlState.neighbours (hl_of_passing h) :)
  have hr : t.rp = s.rp := h .repair (by decide)
  unfold fateOf fenced portFenced staleTakes isOwn carries
  rw [posFa_of_passing h, power_of_passing h, tick_of_passing h, hf, hn, hr]

theorem judgedWhole_of_passing (k : Packet) : judgedWhole t k = judgedWhole s k := by rw [judgedWhole, power_of_passing h, judgedWhole]

theorem arrivalFault_of_passing (k : Packet) : arrivalFault t k = arrivalFault s k := by
  rw [arrivalFault, judgedWhole_of_passing h, arrivalFault]

end

theorem portFenced_passed (p q : Nat) (s : State) : portFenced (passed p s) q = portFenced s q := by
  unfold portFenced
  show Option.any _ (SMap.get? (SMap.set s.hl.neighbours p { nbOf s p with pkts := (nbOf s p).pkts + 1 }) q) = _
  by_cases e : q = p
  · subst e
    rw [get?_set_self, nbOf, SMap.getD]
    cases SMap.get? s.hl.neighbours q with
    | none => rfl
    | some n => rfl
  · rw [get?_set_ne _ _ e]

theorem fateOf_passed (p q : Nat) (k : Packet) (s : State) : fateOf (passed p s) q k = fateOf s q k := by
  unfold fateOf
  rw [portFenced_passed]
  rfl

/-- What an arriving packet may move before its fate is known. -/
def arriving : List Part := [.queues, .links, .captures, .health]

/-- `t` is `s` once an arriving packet has been counted: what decides its fate is as it was, and so are the queues. -/
structure Counted (s t : State) : Prop where
  only : Only arriving s t
  sc : t.dp.sc = s.dp.sc
  openq : t.dp.openq = s.dp.openq
  ports : t.dp.ports = s.dp.ports
  fate : ∀ p k, fateOf t p k = fateOf s p k
  format : ∀ p, portFormat t p = portFormat s p
  clk : t.clk = s.clk

namespace Counted

theorem trans {s t u : State} (h : Counted s t) (k : Counted t u) : Counted s u where
  only := h.only.trans k.only
  sc := k.sc.trans h.sc
  openq := k.openq.trans h.openq
  ports := k.ports.trans h.ports
  fate p q := (k.fate p q).trans (h.fate p q)
  format p := (k.format p).trans (h.format p)
  clk := k.clk.trans h.clk

/-- A step that moves queues, links and captures alone, keeping what waits. -/
theorem of_only {s t : State} (ha : Only arriving s t) (hp : Only passing s t) (hd : held t = held s) (hc : t.clk = s.clk) : Counted s t where
  only := ha
  sc := of_held_sc hd
  openq := of_held_openq hd
  ports := of_held_ports hd
  fate := fateOf_of_passing hp
  format := portFormat_of_passing hp
  clk := hc

theorem inbox {s t : State} (h : Counted s t) : t.dx.inbox = s.dx.inbox := h.only .inbox (by decide)

end Counted

theorem counted_received (p n : Nat) (k : Packet) (s : State) : Counted s (received p n k s) :=
  .of_only (received_only _ _ _ _ (by decide) (by decide)) (received_only _ _ _ _ (by decide) (by decide)) (held_received _ _ _ _) (clk_received _ _ _ _)

theorem counted_passed (p : Nat) (s : State) : Counted s (passed p s) where
  only := passed_only p s (by decide)
  sc := rfl
  openq := rfl
  ports := rfl
  fate q k := fateOf_passed p q k s
  format _ := rfl
  clk := rfl

/-- A packet's state of entry: it has its number, and its captures are begun. -/
def entered (p n : Nat) (k : Packet) (z : Int) (s : State) : State :=
  capIngress p n s.dp.nextId k z { s with dp := { s.dp with nextId := s.dp.nextId + 1 } }

theorem dp_entered (p n : Nat) (k : Packet) (z : Int) (s : State) : (entered p n k z s).dp = { s.dp with nextId := s.dp.nextId + 1 } :=
  dp_capIngress _ _ _ _ _ _

theorem counted_entered (p n : Nat) (k : Packet) (z : Int) (s : State) : Counted s (entered p n k z s) where
  only := (only_dp _ s (by decide)).trans (capIngress_only _ _ _ _ _ _ (by decide))
  sc := (congrArg DpState.sc (dp_entered p n k z s) :)
  openq := (congrArg DpState.openq (dp_entered p n k z s) :)
  ports := (congrArg DpState.ports (dp_entered p n k z s) :)
  fate q k := fateOf_of_passing ((only_dp _ s (by decide)).trans (capIngress_only _ _ _ _ _ _ (by decide))) q k
  format q := portFormat_of_passing ((only_dp _ s (by decide)).trans (capIngress_only _ _ _ _ _ _ (by decide))) q
  clk := clk_capIngress _ _ _ _ _ _

/-! ### Packets for the part -/

theorem not_control_of_request {k : Packet} (h : opRequest (pkOp k) = true) : pkControl k = false := by
  have : ∀ op, opRequest op = true → (opKind op == 1) = false := fun op h => by
    simp only [opRequest, List.mem_cons, List.not_mem_nil, or_false, decide_eq_true_eq] at h
    obtain rfl | rfl | rfl | rfl | rfl | rfl := h <;> rfl
  exact this _ h

/-- A memory request that the part takes waits for its command. -/
theorem service_request {k : Packet} (h : opRequest (pkOp k) = true) (p : Port) (z : Int) (s : State) : service p k z s = toInbox p k s := by
  have ho := h
  simp only [opRequest, List.mem_cons, List.not_mem_nil, or_false, decide_eq_true_eq] at ho
  unfold service
  dsimp only
  obtain e | e | e | e | e | e := ho <;> rw [e] <;> rfl

/-- The part has taken a packet, and nothing else is queued. -/
def Took (p : Nat) (k : Packet) (s t : State) : Prop := t.dx.inbox = s.dx.inbox ++ [(p, k)] ∧ t.dp.sc = s.dp.sc ∧ t.dp.openq = s.dp.openq

theorem Took.of_counted {p : Nat} {k : Packet} {s t u : State} (h : Counted s t) (k : Took p k t u) : Took p ‹Packet› s u :=
  ⟨by rw [k.1, h.inbox], k.2.1.trans h.sc, k.2.2.trans h.openq⟩

theorem inbox_capTaken (i : Nat) (s : State) : (capTaken i s).dx.inbox = s.dx.inbox :=
  capTaken_only (l := [.captures]) i s (by decide) .inbox (by decide)

theorem inbox_freeCredit (p n v : Nat) (k : Packet) (s : State) : (freeCredit p n v k s).dx.inbox = s.dx.inbox :=
  only_freeCredit (l := [.links]) p n v k s (by decide) .inbox (by decide)

theorem takeWhole_request {k : Packet} (h : opRequest (pkOp k) = true) (p : Port) (n i : Nat) (z : Int) (s : State) :
    Took p k s (takeWhole p n i k z s) ∧ (takeWhole p n i k z s).dp = s.dp := by
  have hd : (freeCredit p n (pkVc k) k (capTaken i s)).dp = s.dp := (dp_freeCredit _ _ _ _ _).trans (dp_capTaken _ _)
  rw [takeWhole, service_request h]
  refine ⟨⟨?_, congrArg DpState.sc hd, congrArg DpState.openq hd⟩, hd⟩
  show (freeCredit p n (pkVc k) k (capTaken i s)).dx.inbox ++ _ = _
  rw [inbox_freeCredit, inbox_capTaken]

theorem ingress_link {p : Port} {k : Packet} {s : State} (h : fateOf s p k = .link) (n a : Nat) (z : Int) (b : Bool) :
    Took p k s (ingress p n k a z b s) := by
  have hc := counted_entered p n k z s
  refine Took.of_counted hc ?_
  unfold ingress
  dsimp only
  rw [show capIngress p n s.dp.nextId k z _ = entered p n k z s from rfl, hc.fate, h]
  refine ⟨?_, congrArg DpState.sc (dp_capTaken _ _), congrArg DpState.openq (dp_capTaken _ _)⟩
  show (capTaken _ _).dx.inbox ++ _ = _
  rw [inbox_capTaken]

theorem ingress_own {p : Port} {k : Packet} {s : State} (h : fateOf s p k = .own) (hr : opRequest (pkOp k) = true) (n a : Nat) (z : Int) :
    Took p k s (ingress p n k a z true s) := by
  have hc := counted_entered p n k z s
  refine Took.of_counted hc ?_
  unfold ingress
  dsimp only
  rw [show capIngress p n s.dp.nextId k z _ = entered p n k z s from rfl, hc.fate, h, not_control_of_request hr]
  exact (takeWhole_request hr _ _ _ _ _).1

end Sys2Proof.Machine
end
section
/-! PACKET_ARRIVAL and PACKET_TAIL (R128, R143, R144): what is taken, what is dropped, what is stomped. -/
namespace Sys2Proof.Machine
open Sys2Proof

/-! ### A packet that its port takes from its lane -/

/-- A native port whose lane is heard for itself, with no packet's end outstanding on it. -/
def Heard (p : Port) (n : Lane) (s : State) : Prop :=
  portFormat s p = 1 ∧ laneWatched s p n = true ∧ takingOf s p n = .own ∧ darkIn s p = false ∧ ∀ c ∈ s.dp.cut, c.port = p.val → c.lane ≠ n.val

/-- What PACKET_ARRIVAL does on a lane that is heard for itself. -/
def arrivalEffect (p : Port) (n : Nat) (k : Packet) (s : State) : State :=
  if !duplicated s p n then arrive p n k s
  else if (arrivalFault s k).isSome then rescue p n (slotOf (now s)).2 (arrive p n k s) else copyDrop p n (slotOf (now s)).2 k (arrive p n k s)

section
variable {p : Port} {n : Lane} {k : Packet} {s : State}

theorem tails_none (h : ∀ c ∈ s.dp.cut, c.port = p.val → c.lane ≠ n.val) : tails p n s = s := by
  rw [tails, List.filter_eq_nil_iff.2 fun c hc => by simpa using h c hc]
  rfl

theorem packetArrival_heard (a : At) (h : Heard p n s) :
    exec (.packetArrival p n k a) s = .next (settle (atPs a s) (arrivalEffect p n k (start (atPs a s)))) := by
  obtain ⟨hf, hw, ht, -, hc⟩ := h
  show execPacketArrival p n k a s = _
  unfold execPacketArrival runAt run packetIn
  rw [show portFormat (start (atPs a s)) p = portFormat s p from rfl, show laneWatched (start (atPs a s)) p n = laneWatched s p n from rfl, hf, hw,
    if_neg (by decide)]
  dsimp only
  rw [tails_none (s := start (atPs a s)) hc, show takingOf (start (atPs a s)) p n = takingOf s p n from rfl, ht]
  rfl

theorem arrive_sound (hd : darkIn s p = false) (hh : headFault k = none) (ha : arrivalFault s k = none) :
    arrive p n k s = ingress p n k (now s) (stampIn (received p n k s) p) (judgedWhole s k)
      (if judgedWhole s k then passed p (received p n k s) else received p n k s) := by
  have hp : Only passing s (received p n k s) := received_only _ _ _ _ (by decide) (by decide)
  have hn : now (received p n k s) = now s := by rw [now, clk_received, now]
  unfold arrive
  rw [hd, hh]
  dsimp only
  rw [arrivalFault_of_passing hp, ha, judgedWhole_of_passing hp, hn]
  rfl

/-- A sound packet goes on to its fate; nothing is queued before. -/
theorem packetArrival_sound (a : At) (h : Heard p n s) (hh : headFault k = none) (ha : arrivalFault s k = none) :
    ∃ v z, Counted (start (atPs a s)) v ∧ Answers (.packetArrival p n k a) s fun t =>
      t.dx = (ingress p n k (now (atPs a s)) z (judgedWhole s k) v).dx ∧ t.dp = (ingress p n k (now (atPs a s)) z (judgedWhole s k) v).dp := by
  obtain ⟨-, -, -, hd, -⟩ := id h
  have he := arrive_sound (n := n) (s := start (atPs a s)) (show darkIn _ p = false from hd) hh ha
  refine ⟨if judgedWhole s k then passed p (received p n k (start (atPs a s))) else received p n k (start (atPs a s)),
    stampIn (received p n k (start (atPs a s))) p, ?_, _, packetArrival_heard a h, ?_⟩
  · split
    · exact (counted_received _ _ _ _).trans (counted_passed _ _)
    · exact counted_received _ _ _ _
  · unfold arrivalEffect
    rw [show judgedWhole (start (atPs a s)) k = judgedWhole s k from rfl, show now (start (atPs a s)) = now (atPs a s) from rfl] at he
    rw [show arrivalFault (start (atPs a s)) k = none from ha, he]
    generalize ingress p n k _ _ _ _ = u
    split
    · exact ⟨rfl, rfl⟩
    · exact ⟨rfl, rfl⟩

theorem packetArrival_link (a : At) (h : Heard p n s) (hh : headFault k = none) (ha : arrivalFault s k = none) (hf : fateOf s p k = .link) :
    Answers (.packetArrival p n k a) s (Took p k s) := by
  obtain ⟨v, z, hc, ht⟩ := packetArrival_sound a h hh ha
  obtain ⟨hi, hs, ho⟩ := Took.of_counted hc (ingress_link ((hc.fate p k).trans hf) n (now (atPs a s)) z (judgedWhole s k))
  exact ht.imp fun t ht => ⟨by rw [ht.1]; exact hi, by rw [ht.2]; exact hs, by rw [ht.2]; exact ho⟩

theorem packetArrival_own (a : At) (h : Heard p n s) (hh : headFault k = none) (ha : arrivalFault s k = none) (hf : fateOf s p k = .own)
    (hr : opRequest (pkOp k) = true) (hw : judgedWhole s k = true) : Answers (.packetArrival p n k a) s (Took p k s) := by
  obtain ⟨v, z, hc, ht⟩ := packetArrival_sound a h hh ha
  rw [hw] at ht
  obtain ⟨hi, hs, ho⟩ := Took.of_counted hc (ingress_own ((hc.fate p k).trans hf) hr n (now (atPs a s)) z)
  exact ht.imp fun t ht => ⟨by rw [ht.1]; exact hi, by rw [ht.2]; exact hs, by rw [ht.2]; exact ho⟩

/-! ### Damaged packets -/

theorem reportCounter_rowCounter {row : Nat} (hr : row < 8) : reportCounter (rowCounter row) = false := by
  revert row
  decide

theorem getNum_r128 {row : Nat} (hr : row < 8) (p : Nat) (k : Packet) (s : State) :
    getNum (r128 row p k s) (rowCounter row) 0 = (getNum s (rowCounter row) 0 + 1) % 2 ^ 64 := by
  have he := reportCounter_rowCounter hr
  have ht : getNum (tally (rowCounter row) (benchOf p) (8 + row) 1 (attrOf p k) s) (rowCounter row) 0 = (getNum s (rowCounter row) 0 + 1) % 2 ^ 64 :=
    getNum_tally_self he _ _ _ _ _
  unfold r128
  dsimp only
  rw [getNum_accum]
  split
  · exact ht
  · exact (getNum_occ he _ _ _ _ _ _).trans ht

theorem getNum_damaged {row : Nat} (hr : row < 8) (p n : Nat) (k : Packet) (s : State) :
    getNum (damaged row p n k s) (rowCounter row) 0 = (getNum s (rowCounter row) 0 + 1) % 2 ^ 64 := by
  have he := reportCounter_rowCounter hr
  have hn : rowCounter row ≠ E.OP_FAULT_RX_DROPS := by revert row; decide
  unfold damaged
  dsimp only
  split
  · exact (getNum_tally_ne he hn _ _ _ _ _ _).trans (getNum_r128 hr p k s)
  · exact getNum_r128 hr p k s

theorem getNum_received {e : Nat} (he : reportCounter e = false) (p n : Nat) (k : Packet) (s : State) (d : Nat) :
    getNum (received p n k s) e d = getNum s e d := by
  have hc : getNum (occCycles 0 160 (benchOf p) (ceilDiv (pkWire k) 384) (pkVc k == 0) s) e d = getNum s e d := by
    unfold occCycles
    dsimp only
    split
    · exact (getNum_occ he _ _ _ _ _ _).trans (getNum_occ he _ _ _ _ _ _)
    · exact getNum_occ he _ _ _ _ _ _
  have hr : getNum (occReceived p k s) e d = getNum s e d :=
    (getNum_occ he _ _ _ _ _ _).trans ((getNum_occ he _ _ _ _ _ _).trans ((getNum_occ he _ _ _ _ _ _).trans
      ((getNum_occ he _ _ _ _ _ _).trans hc)))
  unfold received
  dsimp only
  split
  · exact hr
  · exact hr

theorem getNum_freeCredit (p n v : Nat) (k : Packet) (s : State) (e d : Nat) : getNum (freeCredit p n v k s) e d = getNum s e d := by
  unfold freeCredit
  split
  · rfl
  · rfl

/-- A packet has been dropped and counted on a row of R128; nothing is queued or handed on. -/
def Dropped (row : Nat) (s t : State) : Prop :=
  getNum t (rowCounter row) 0 = (getNum s (rowCounter row) 0 + 1) % 2 ^ 64 ∧ t.dx.inbox = s.dx.inbox ∧ t.dp.sc = s.dp.sc ∧ t.dp.openq = s.dp.openq

theorem inbox_damaged {row : Nat} (hr : row < 8) (p n : Nat) (k : Packet) (s : State) : (damaged row p n k s).dx.inbox = s.dx.inbox :=
  damaged_only (l := [.optics]) hr p n k s (by decide) .inbox (by decide)

theorem packetArrival_headDamaged {row : Nat} (hr : row < 8) (a : At) (h : Heard p n s) (hn : duplicated s p n = false) (hh : headFault k = some row) :
    Answers (.packetArrival p n k a) s (Dropped row s) := by
  obtain ⟨-, -, -, hd, -⟩ := id h
  refine ⟨_, packetArrival_heard a h, ?_⟩
  have he : arrivalEffect p n k (start (atPs a s)) = damaged row p n k (start (atPs a s)) := by
    unfold arrivalEffect arrive
    rw [show duplicated (start (atPs a s)) p n = false from hn, show darkIn (start (atPs a s)) p = false from hd, hh]
    rfl
  rw [he]
  exact ⟨getNum_damaged hr _ _ _ _, inbox_damaged hr _ _ _ _, congrArg DpState.sc (dp_damaged hr _ _ _ _), congrArg DpState.openq (dp_damaged hr _ _ _ _)⟩

theorem packetArrival_formDamaged {row : Nat} (hr : row < 8) (a : At) (h : Heard p n s) (hn : duplicated s p n = false) (hh : headFault k = none)
    (ha : arrivalFault s k = some row) : Answers (.packetArrival p n k a) s (Dropped row s) := by
  obtain ⟨-, -, -, hd, -⟩ := id h
  refine ⟨_, packetArrival_heard a h, ?_⟩
  have hp : Only passing (start (atPs a s)) (received p n k (start (atPs a s))) := received_only _ _ _ _ (by decide) (by decide)
  have hc := counted_received p n k (start (atPs a s))
  have he : arrivalEffect p n k (start (atPs a s)) = freeCredit p n (pkVc k) k (damaged row p n k (received p n k (start (atPs a s)))) := by
    unfold arrivalEffect arrive
    rw [show duplicated (start (atPs a s)) p n = false from hn, show darkIn (start (atPs a s)) p = false from hd, hh]
    dsimp only
    rw [arrivalFault_of_passing hp, show arrivalFault (start (atPs a s)) k = some row from ha]
    rfl
  have hdp := (dp_freeCredit p n (pkVc k) k (damaged row p n k (received p n k (start (atPs a s))))).trans (dp_damaged hr p n k _)
  rw [he]
  refine ⟨?_, ?_, ?_, ?_⟩
  · rw [getNum_settle, getNum_freeCredit, getNum_damaged hr, getNum_received (reportCounter_rowCounter hr)]
    rfl
  · exact (inbox_freeCredit _ _ _ _ _).trans ((inbox_damaged hr _ _ _ _).trans hc.inbox)
  · exact (congrArg DpState.sc hdp).trans hc.sc
  · exact (congrArg DpState.openq hdp).trans hc.openq

end

end Sys2Proof.Machine
end
section
/-! The ends of packets (R128, R138, R144), and scheduled packets that are queued (R146, R149). -/
namespace Sys2Proof.Machine
open Sys2Proof

/-! ### Ends of packets -/

section
variable {p : Port} {n : Lane} {c : CutPkt} {s : State}

/-- The one packet whose end is outstanding on a lane. -/
def OnLane (p : Port) (n : Lane) (c : CutPkt) (s : State) : Prop := (s.dp.cut.filter fun c => c.port == p.val && c.lane == n.val) = [c]

theorem port_of_onLane (h : OnLane p n c s) : c.port = p.val ∧ c.lane = n.val := by
  have hm : c ∈ s.dp.cut.filter fun c => c.port == p.val && c.lane == n.val := h.symm ▸ List.mem_singleton_self c
  simpa using (List.mem_filter.1 hm).2

theorem packetTail_onLane (a : At) (h : OnLane p n c s) :
    exec (.packetTail p n a) s = .next (settle (atPs a s) (tailJudge p c (start (atPs a s)))) := by
  show Host.Outcome.next (settle (atPs a s) (tails p n (start (atPs a s)))) = _
  rw [tails, show (start (atPs a s)).dp.cut.filter _ = [c] from h]
  rfl

theorem cut_mcastReport (i : Nat) (s : State) : (mcastReport i s).dp.cut = s.dp.cut := by
  unfold mcastReport
  split
  · rfl
  · rw [of_quiet_dp (quiet_raiseOnce _ _ _ _)]
    rfl

/-- A sound end: the packet is no longer outstanding, and a loss of copies is reported once none is left. -/
def tailCounted (c : CutPkt) (s : State) : State :=
  let s := passed c.port { s with dp := { s.dp with cut := s.dp.cut.erase c } }
  if s.dp.sc.any (fun x => x.id == c.id) || s.dp.drawn.any (fun d => d.id == c.id) || (s.dp.openq.any fun x => x.id == c.id || x.parent == some c.id)
  then s else mcastReport c.id s

theorem tailJudge_sound (h : tailFault c.pkt = none) : tailJudge p c s
    = if heldAlone c then takeWhole p c.lane c.id c.pkt c.stamp (tailCounted c s) else if c.taken then toInbox c.port c.pkt (tailCounted c s) else tailCounted c s := by
  unfold tailJudge
  rw [h]
  rfl

theorem cut_tailCounted : (tailCounted c s).dp.cut = s.dp.cut.erase c := by
  unfold tailCounted
  dsimp only
  split
  · rfl
  · exact cut_mcastReport _ _

theorem held_tailCounted : held (tailCounted c s) = held s := by
  unfold tailCounted
  dsimp only
  split
  · rfl
  · exact (held_mcastReport _ _).trans rfl

theorem inbox_tailCounted : (tailCounted c s).dx.inbox = s.dx.inbox := by
  have h : Only [.queues, .health] s (tailCounted c s) :=
    Only.step_unless ((only_dp _ s (by decide)).trans (passed_only _ _ (by decide))) (only_mcastReport _ _ (by decide))
  exact h .inbox (by decide)

theorem packetTail_untaken (a : At) (h : OnLane p n c s) (hf : tailFault c.pkt = none) (ht : c.taken = false) :
    Answers (.packetTail p n a) s fun t => t.dp.cut = s.dp.cut.erase c ∧ t.dx.inbox = s.dx.inbox ∧ t.dp.sc = s.dp.sc ∧ t.dp.openq = s.dp.openq := by
  have hj : tailJudge p c (start (atPs a s)) = tailCounted c (start (atPs a s)) := by
    rw [tailJudge_sound hf, heldAlone, ht]
    rfl
  refine ⟨_, packetTail_onLane a h, ?_⟩
  rw [hj]
  exact ⟨cut_tailCounted, inbox_tailCounted, of_held_sc held_tailCounted, of_held_openq held_tailCounted⟩

theorem packetTail_taken (a : At) (h : OnLane p n c s) (hf : tailFault c.pkt = none) (ht : c.taken = true) (hr : opRequest (pkOp c.pkt) = true) :
    Answers (.packetTail p n a) s fun t => t.dp.cut = s.dp.cut.erase c ∧ t.dx.inbox = s.dx.inbox ++ [(p.val, c.pkt)] := by
  refine ⟨_, packetTail_onLane a h, ?_⟩
  rw [tailJudge_sound hf, ht]
  split
  · obtain ⟨⟨hi, -, -⟩, hd⟩ := takeWhole_request hr p c.lane c.id c.stamp (tailCounted c (start (atPs a s)))
    exact ⟨(congrArg DpState.cut hd).trans cut_tailCounted, hi.trans (congrArg (· ++ [(p.val, c.pkt)]) inbox_tailCounted)⟩
  · rw [if_pos rfl, (port_of_onLane h).1]
    exact ⟨cut_tailCounted, congrArg (· ++ [(p.val, c.pkt)]) inbox_tailCounted⟩

end

/-! ### Damaged ends -/

/-- What a duplicate tick is read from is as it was. -/
structure SameRoles (s t : State) : Prop where
  roles : t.op.roles = s.op.roles
  lanes : t.op.lanes = s.op.lanes
  tick : t.clk.tick = s.clk.tick
  format : ∀ p, portFormat t p = portFormat s p

theorem SameRoles.trans {s t u : State} (h : SameRoles s t) (k : SameRoles t u) : SameRoles s u :=
  ⟨k.roles.trans h.roles, k.lanes.trans h.lanes, k.tick.trans h.tick, fun p => (k.format p).trans (h.format p)⟩

theorem SameRoles.of_passing {s t : State} (h : Only passing s t) : SameRoles s t :=
  have ho : t.op = s.op := h .optics (by decide)
  ⟨congrArg OpState.roles ho, congrArg OpState.lanes ho, tick_of_passing h, portFormat_of_passing h⟩

theorem duplicated_of_sameRoles {s t : State} (h : SameRoles s t) (p l : Nat) : duplicated t p l = duplicated s p l := by
  unfold duplicated primaryOn shownRole laneSt
  rw [h.roles, h.lanes, h.tick, h.format]

theorem sameRoles_damaged {row : Nat} (hr : row < 8) (p n : Nat) (k : Packet) (s : State) : SameRoles s (damaged row p n k s) := by
  have h : SameRoles s (laneNote (laneKey p 1 n) (r128 row p k s)) := .trans (.of_passing (r128_only hr p k s)) ⟨rfl, rfl, rfl, fun _ => rfl⟩
  unfold damaged
  dsimp only
  split
  · exact h.trans (.of_passing (only_tally (setting_of_counter (by decide)) _ _ _ _ _))
  · exact h

theorem tailFault_lt {k : Packet} {row : Nat} (h : tailFault k = some row) : row < 8 := by
  unfold tailFault at h
  split at h
  · cases h
  · split at h
    · split at h <;> cases h <;> decide
    · split at h <;> cases h
      decide

/-- The parts that a damaged end may move. -/
theorem tailRows_only {l : List Part} {row : Nat} (hr : row < 8) (c : CutPkt) (s : State) (ho : .optics ∈ l) : Only l s (tailRows row c s) :=
  Only.step_unless ((Only.refl s).step_unless (damaged_only hr _ _ _ s ho)) (only_foldl (fun s _ => r128_only (by decide) _ _ s) _ _)

theorem sameRoles_tailRows {row : Nat} (hr : row < 8) (c : CutPkt) (s : State) : SameRoles s (tailRows row c s) := by
  have h : SameRoles s (if row = 1 && !c.begun.isEmpty && !c.taken then s else damaged row c.port c.lane c.pkt s) := by
    split
    · exact .of_passing (Only.refl s)
    · exact sameRoles_damaged hr _ _ _ _
  unfold tailRows
  dsimp only
  split
  · exact h
  · exact h.trans (.of_passing (only_foldl (fun s _ => r128_only (by decide) _ _ s) _ _))

theorem stompCopies_only {l : List Part} (c : CutPkt) (s : State) (hq : .queues ∈ l) : Only l s (stompCopies c s) :=
  (only_foldl (fun s _ => only_emit _ s) _ s).trans (copiesLost_only _ _ _ _ hq)

theorem dropQueued_only {l : List Part} (i : Nat) (k : Packet) (s : State) (hq : .queues ∈ l) (hk : .links ∈ l) (hc : .captures ∈ l) :
    Only l s (dropQueued i k s) := by
  unfold dropQueued
  refine Only.trans ?_ (only_foldl (fun s x => only_openDrop _ _ s hq hk hc) _ _)
  exact ((copiesLost_only _ _ _ s hq).trans (only_dp _ _ hq)).trans (scDrop_only (fun _ s => Only.refl s) _ hq hc)

theorem grows_copiesLost (i : Nat) (k : Packet) (ps : List Nat) (s : State) : Grows s (copiesLost i k ps s) := by
  unfold copiesLost
  split
  · exact grows_mcastLoss _ _ _ _ _
  · exact grows_rfl _

theorem held_copiesLost (i : Nat) (k : Packet) (ps : List Nat) (s : State) : held (copiesLost i k ps s) = held s := by
  unfold copiesLost
  split
  · exact held_mcastLoss _ _ _ _ _
  · rfl

theorem stomp_mem_foldl (i : Nat) {x : Nat × Nat} (l : List (Nat × Nat)) (s : State) (hx : x ∈ l) :
    .stomp x.1 i ∈ (l.foldl (fun s x => emit (.stomp x.1 i) s) s).out := by
  induction l generalizing s with
  | nil => cases hx
  | cons y l ih =>
    obtain rfl | hx := List.mem_cons.1 hx
    · have h : .stomp x.1 i ∈ (emit (.stomp x.1 i) s).out := List.mem_append_right _ (List.mem_singleton_self _)
      exact grows_mem (grows_foldl _ (fun s _ => grows_emit _ s) l _) h
    · exact ih _ hx

/-- Each copy that has begun to leave is stomped. -/
theorem stomp_mem (c : CutPkt) (s : State) {x : Nat × Nat} (hx : x ∈ c.begun) : .stomp x.1 c.id ∈ (stompCopies c s).out :=
  grows_mem (grows_copiesLost _ _ _ _) (stomp_mem_foldl _ _ _ hx)

theorem grows_scDrop (w : ScPkt → Bool) (c : Nat) (s : State) : Grows s (scDrop w c (fun _ s => s) s) := by
  unfold scDrop scDropWith
  dsimp only
  refine grows_via (grows_foldl _ (fun s x => ?_) _ _) rfl
  exact grows_trans (grows_mcastLoss _ _ _ _ _) (grows_trans (grows_capDrop _ _ _) (grows_trans (grows_packetDone _ _) (grows_of_out rfl)))

theorem grows_dropQueued (i : Nat) (k : Packet) (s : State) : Grows s (dropQueued i k s) := by
  unfold dropQueued
  dsimp only
  refine grows_trans ?_ (grows_foldl _ (fun s x => grows_openDrop _ x s) _ _)
  exact grows_trans (grows_copiesLost i k _ s) (grows_via (grows_scDrop _ _ _) rfl)

theorem of_parked_drawn {s t : State} (h : parked t = parked s) : t.dp.drawn = s.dp.drawn := (congrArg DpState.drawn h :)

theorem sc_scDrop (w : ScPkt → Bool) (c : Nat) (s : State) : (scDrop w c (fun _ s => s) s).dp.sc = s.dp.sc.filter fun x => !w x :=
  (congrArg DpState.sc (scDrop_dp (w := w) (c := c) (note := fun _ s => s) (fun _ _ => rfl) s) :)

theorem drawn_scDrop (w : ScPkt → Bool) (c : Nat) (s : State) : (scDrop w c (fun _ s => s) s).dp.drawn = s.dp.drawn :=
  (congrArg DpState.drawn (scDrop_dp (w := w) (c := c) (note := fun _ s => s) (fun _ _ => rfl) s) :)

/-- Nothing with the packet's number is left among scheduled packets, queued or drawn. -/
theorem gone_dropQueued (i : Nat) (k : Packet) (s : State) :
    (∀ x ∈ (dropQueued i k s).dp.sc, x.id ≠ i) ∧ ∀ x ∈ (dropQueued i k s).dp.drawn, x.id ≠ i := by
  unfold dropQueued
  dsimp only
  generalize hu : copiesLost i k _ s = u
  have ho : ∀ v l, parked (List.foldl (fun s x => openDrop Ev.PKT_ERRORS x s) v l) = parked v := fun v l =>
    foldl_keeps parked _ (fun s x => parked_openDrop _ x s) l v
  refine ⟨fun x hx => ?_, fun x hx => ?_⟩
  · rw [of_parked_sc (ho _ _), sc_scDrop] at hx
    simpa using (List.mem_filter.1 hx).2
  · rw [of_parked_drawn (ho _ _), drawn_scDrop] at hx
    simpa using (List.mem_filter.1 hx).2

/-- The packet's end is no longer outstanding. -/
def ended (c : CutPkt) (s : State) : State := { s with dp := { s.dp with cut := s.dp.cut.erase c } }

/-- What a damaged end takes out of the queues. -/
def tailGone (c : CutPkt) (s : State) : State := packetDone c.id (dropQueued c.id c.pkt (stompCopies c s))

theorem tailGone_only {l : List Part} (c : CutPkt) (s : State) (hq : .queues ∈ l) (hk : .links ∈ l) (hc : .captures ∈ l) : Only l s (tailGone c s) :=
  ((stompCopies_only _ _ hq).trans (dropQueued_only _ _ _ hq hk hc)).trans (only_packetDone _ _ hq hc)

theorem gone_tailGone (c : CutPkt) (s : State) : (∀ x ∈ (tailGone c s).dp.sc, x.id ≠ c.id) ∧ ∀ x ∈ (tailGone c s).dp.drawn, x.id ≠ c.id := by
  have hh : held (tailGone c s) = _ := held_packetDone _ _
  rw [of_held_sc hh, of_held_drawn hh]
  exact gone_dropQueued _ _ _

theorem stomp_tailGone (c : CutPkt) (s : State) {x : Nat × Nat} (hx : x ∈ c.begun) : .stomp x.1 c.id ∈ (tailGone c s).out :=
  grows_mem (grows_trans (grows_dropQueued _ _ _) (grows_packetDone _ _)) (stomp_mem c s hx)

/-- A damaged end: counted, stomped where it has begun to leave, dropped elsewhere. -/
def tailDropped (row : Nat) (c : CutPkt) (s : State) : State := tailGone c (tailRows row c (ended c s))

theorem tailJudge_damaged {p : Port} {c : CutPkt} {s : State} {row : Nat} (hf : tailFault c.pkt = some row) (hd : duplicated s c.port c.lane = false) :
    tailJudge p c s = if heldAlone c then freeCredit c.port c.lane (pkVc c.pkt) c.pkt (tailDropped row c s) else tailDropped row c s := by
  have hr := tailFault_lt hf
  have h0 : Only passing s (ended c s) := only_dp _ s (by decide)
  have h1 : SameRoles s (tailDropped row c s) := .trans (.trans (.of_passing h0) (sameRoles_tailRows hr c _))
    (.of_passing (tailGone_only c _ (by decide) (by decide) (by decide)))
  have h2 : SameRoles s (if heldAlone c then freeCredit c.port c.lane (pkVc c.pkt) c.pkt (tailDropped row c s) else tailDropped row c s) := by
    split
    · exact h1.trans (.of_passing (only_freeCredit _ _ _ _ _ (by decide)))
    · exact h1
  unfold tailJudge
  rw [hf]
  have hn := (duplicated_of_sameRoles h2 c.port c.lane).trans hd
  exact if_neg (ne_true_of_eq_false hn)

theorem packetTail_damaged {p : Port} {n : Lane} {c : CutPkt} {s : State} {row : Nat} (a : At) (h : OnLane p n c s) (hf : tailFault c.pkt = some row)
    (hd : duplicated s p n = false) :
    Answers (.packetTail p n a) s fun t => (∀ x ∈ c.begun, .stomp x.1 c.id ∈ t.out) ∧ (∀ x ∈ t.dp.sc, x.id ≠ c.id) ∧ (∀ x ∈ t.dp.drawn, x.id ≠ c.id)
      ∧ t.dx.inbox = s.dx.inbox := by
  have hr := tailFault_lt hf
  obtain ⟨hp, hn⟩ := port_of_onLane h
  refine ⟨_, packetTail_onLane a h, ?_⟩
  rw [tailJudge_damaged hf (by rw [hp, hn]; exact hd)]
  have hg := gone_tailGone c (tailRows row c (ended c (start (atPs a s))))
  have hdp : ∀ u, held (if heldAlone c then freeCredit c.port c.lane (pkVc c.pkt) c.pkt u else u) = held u := fun u => by
    split
    · exact held_freeCredit _ _ _ _ _
    · rfl
  refine ⟨fun x hx => ?_, ?_, ?_, ?_⟩
  · refine grows_mem (s := tailDropped row c (start (atPs a s))) ?_ (stomp_tailGone c _ hx)
    split
    · exact grows_freeCredit _ _ _ _ _
    · exact grows_rfl _
  · rw [settle_dp, of_held_sc (hdp _)]
    exact hg.1
  · rw [settle_dp, of_held_drawn (hdp _)]
    exact hg.2
  · have h0 : Only [.queues, .links, .captures, .optics] (start (atPs a s)) (ended c (start (atPs a s))) := only_dp _ _ (by decide)
    have ho := (h0.trans (tailRows_only hr c _ (by decide))).trans (tailGone_only c _ (by decide) (by decide) (by decide))
    exact ho.step_if (only_freeCredit _ _ _ _ _ (by decide)) .inbox (by decide)

/-! ### Scheduled packets (steps 7 and 8 of R143) -/

theorem carries_of_sched {s : State} {p : Nat} {k : Packet} (h : fateOf s p k = .sched) : carries s = true := by
  by_contra hc
  unfold fateOf at h
  dsimp only at h
  rw [if_pos (c := (!carries s) = true) (by simp [hc])] at h
  split_ifs at h

/-- A part that carries traffic judges no epoch. -/
theorem hearEpoch_carries {s : State} (h : carries s = true) (p : Nat) (k : Packet) :
    hearEpoch p k s = { s with rp := { s.rp with heard := SMap.set s.rp.heard p (pkEpoch k) } } := by
  have hs : (s.rp.sync != .stale && s.rp.sync != .joining) = true := by
    simp only [carries, Bool.or_eq_true, beq_iff_eq] at h
    obtain h | h := h <;> rw [h] <;> rfl
  unfold hearEpoch epochJudge
  exact if_pos (by rw [hs, Bool.or_true])

/-- No word of a look-up reads wrong. -/
def Sane (d : Nat) (ws : List (TableKind × WordPlace)) (s : State) : Prop := ∀ w ∈ ws,
  (∀ x ∈ s.tb.bad, x.die.val = d → (x.table, x.place) ≠ w)
  ∧ ∀ x ∈ s.tb.upset, x.1.die.val = d → (x.1.table, x.1.place) = w → x.2 ≠ .unreadable

theorem bad_eccRead {w : TableWord} {e : EccErr} (h : e ≠ .unreadable) (s : State) : (eccRead w e s).tb.bad = s.tb.bad := by
  unfold eccRead
  cases e with
  | none => rfl
  | corrected =>
    dsimp only
    rw [of_quiet_tb (quiet_tally _ _ _ _ _ _)]
  | unreadable => exact absurd rfl h

/-- A look-up of sane words succeeds. -/
theorem readWords_sane {d : Nat} {ws : List (TableKind × WordPlace)} {s : State} (h : Sane d ws s) : (readWords d ws s).2 = false := by
  have hf : ∀ (l : List (TableWord × EccErr)) (t : State), (∀ u ∈ l, u.2 ≠ .unreadable) →
      (l.foldl (fun s u => eccRead u.1 u.2 s) t).tb.bad = t.tb.bad := by
    intro l
    induction l with
    | nil => exact fun _ _ => rfl
    | cons u l ih => exact fun t hu => (ih _ fun v hv => hu v (List.mem_cons_of_mem _ hv)).trans (bad_eccRead (hu u List.mem_cons_self) t)
  unfold readWords
  dsimp only
  rw [hf, List.any_eq_false]
  · intro x hx hm
    simp only [Bool.and_eq_true, beq_iff_eq, List.contains_iff_mem] at hm
    exact (h _ hm.2).1 x hx hm.1 rfl
  · intro u hu
    obtain ⟨hu, hm⟩ := List.mem_filter.1 hu
    simp only [Bool.and_eq_true, beq_iff_eq, List.contains_iff_mem] at hm
    exact (h _ hm.2).2 u hu hm.1 rfl

theorem tb_countProbes (b n : Nat) (a : OccAttr) (s : State) : (countProbes b n a s).tb = s.tb :=
  (rfl : _ = (occ b 97 n a s).tb).trans (of_quiet_tb (quiet_occ _ _ _ _ s))

theorem held_countProbes (b n : Nat) (a : OccAttr) (s : State) : held (countProbes b n a s) = held s :=
  (held_busyAdd _ _ _ _).trans (held_of_quiet (quiet_occ _ _ _ _ s))

theorem dp_readWords (d : Nat) (ws : List (TableKind × WordPlace)) (s : State) : (readWords d ws s).1.dp = s.dp :=
  only_readWords (l := [.tables]) d ws s (by decide) .queues (by decide)

/-- What a scheduled packet's way to its queue is decided by. -/
structure SameSched (s t : State) : Prop where
  sc : t.dp.sc = s.dp.sc
  ports : t.dp.ports = s.dp.ports
  tt : t.tt = s.tt
  clk : t.clk = s.clk
  format : ∀ p, portFormat t p = portFormat s p

theorem SameSched.trans {s t u : State} (h : SameSched s t) (k : SameSched t u) : SameSched s u :=
  ⟨k.sc.trans h.sc, k.ports.trans h.ports, k.tt.trans h.tt, k.clk.trans h.clk, fun p => (k.format p).trans (h.format p)⟩

theorem SameSched.of_counted {s t : State} (h : Counted s t) : SameSched s t :=
  ⟨h.sc, h.ports, h.only .timetable (by decide), h.clk, h.format⟩

theorem portGone_of_sameSched {s t : State} (h : SameSched s t) (p : Nat) : portGone t p = portGone s p := by
  unfold portGone portState portOf
  rw [h.format, h.ports]

/-- What is noted of a packet as it is queued moves neither the queues nor the clock. -/
theorem queueNotes (id x y b : Nat) (a : OccAttr) (c : Prop) [Decidable c] (s : State) :
    (capDepth id x y (if c then countSpill b a s else s)).dp = s.dp ∧ (capDepth id x y (if c then countSpill b a s else s)).clk = s.clk := by
  split
  · have hd : (countSpill b a s).dp = s.dp := of_quiet_dp (quiet_countSpill b a s)
    have hc : (countSpill b a s).clk = s.clk := of_quiet_clk (quiet_countSpill b a s)
    exact ⟨hd, hc⟩
  · exact ⟨rfl, rfl⟩

/-- A scheduled packet within its bounds is queued. -/
theorem scEnqueue_fits {i : Image} {b : Binding} {p n id : Nat} {k : Packet} {s : State}
    (hb : (s.dp.sc.filter fun x => benchOf x.port == benchOf p && x.flow == b.flow).length < b.bound)
    (hv : sumNat ((s.dp.sc.filter fun x => benchOf x.port == benchOf p).map fun x => pkBlocks x.pkt) + pkBlocks k ≤ i.voqKib * 4) :
    ∃ x, (scEnqueue i b id p n k s).dp.sc = s.dp.sc ++ [x] ∧ x.pkt = k ∧ x.flow = b.flow ∧ x.deadline = s.clk.tick + b.dwell ∧ x.ready = now s := by
  have hn : ¬ ((((s.dp.sc.filter fun x => benchOf x.port == benchOf p).filter fun x => x.flow == b.flow).length ≥ b.bound
      || sumNat ((s.dp.sc.filter fun x => benchOf x.port == benchOf p).map fun x => pkBlocks x.pkt) + pkBlocks k > i.voqKib * 4) = true) := by
    have hf : ((s.dp.sc.filter fun x => benchOf x.port == benchOf p).filter fun x => x.flow == b.flow)
        = s.dp.sc.filter fun x => benchOf x.port == benchOf p && x.flow == b.flow := by
      simp only [List.filter_filter, Bool.and_comm]
    rw [hf, Bool.or_eq_true, decide_eq_true_eq, decide_eq_true_eq]
    omega
  unfold scEnqueue
  dsimp only
  rw [if_neg hn]
  exact ⟨_, congrArg (· ++ [_]) (congrArg DpState.sc (queueNotes _ _ _ _ _ _ s).1), rfl, rfl, congrArg (·.tick + b.dwell) (queueNotes _ _ _ _ _ _ s).2,
    congrArg (fun c : Clk => c.tick * tickPs + c.ps) (queueNotes _ _ _ _ _ _ s).2⟩

/-- A scheduled packet of an open binding, for a port that takes it, is queued. -/
theorem scIngress_queues {i : Image} {b : Binding} {p n id q : Nat} {k : Packet} {s : State} (hi : s.tt.active = some i)
    (hb : bindingOf s (pkFlow k) = some b) (hg : gateOf s b = .openn) (hj : b.job = pkJob k) (hm : b.multi = false) (hq : q ∈ egressPorts i b)
    (hp : portGone s q = false) (hw : Sane (p / 128) (flowWords s (pkFlow k)) s)
    (hl : (s.dp.sc.filter fun x => benchOf x.port == benchOf p && x.flow == b.flow).length < b.bound)
    (hv : sumNat ((s.dp.sc.filter fun x => benchOf x.port == benchOf p).map fun x => pkBlocks x.pkt) + pkBlocks k ≤ i.voqKib * 4) :
    ∃ x, (scIngress p n id k s).1.dp.sc = s.dp.sc ++ [x] ∧ x.pkt = k ∧ x.flow = b.flow ∧ x.deadline = s.clk.tick + b.dwell ∧ x.ready = now s := by
  have hr : Only [.queues, .tables] s (readWords (p / 128) (flowWords s (pkFlow k)) (countProbes (benchOf p) 2 (attrOf p k) s)).1 :=
    (only_countProbes _ _ _ _ (by decide)).trans (only_readWords _ _ _ (by decide))
  have hd := dp_readWords (p / 128) (flowWords s (pkFlow k)) (countProbes (benchOf p) 2 (attrOf p k) s)
  have hc : calm (readWords (p / 128) (flowWords s (pkFlow k)) (countProbes (benchOf p) 2 (attrOf p k) s)).1 = calm s := by simp
  have hf := readWords_sane (d := p / 128) (ws := flowWords s (pkFlow k)) (s := countProbes (benchOf p) 2 (attrOf p k) s) fun w h => by
    rw [tb_countProbes]
    exact hw w h
  have hh := held_countProbes (benchOf p) 2 (attrOf p k) s
  unfold scIngress
  dsimp only
  generalize readWords (p / 128) (flowWords s (pkFlow k)) (countProbes (benchOf p) 2 (attrOf p k) s) = r at hr hd hc hf
  obtain ⟨u, c⟩ := r
  subst hf
  have hs : SameSched s u :=
    { sc := (congrArg DpState.sc hd).trans (of_held_sc hh)
      ports := (congrArg DpState.ports hd).trans (of_held_ports hh)
      tt := hr .timetable (by decide)
      clk := (congrArg State.clk hc :)
      format := portFormat_of_only hr (by decide) (by decide) }
  have hi' : u.tt.active = some i := hs.tt ▸ hi
  have hb' : bindingOf u (pkFlow k) = some b := by rw [bindingOf, hs.tt]; exact hb
  have hg' : gateOf u b = .openn := by rw [gateOf, hs.tt]; exact hg
  have hn : ((egressPorts i b).filter (portGone u)).length ≠ (egressPorts i b).length := fun e => by
    have := List.length_filter_eq_length_iff.1 e q hq
    rw [portGone_of_sameSched hs, hp] at this
    cases this
  dsimp only
  rw [hi', hb']
  dsimp only
  rw [if_neg (by rw [hg']; decide), if_neg (by simp [hj]), if_neg hn, hm, if_neg (by decide)]
  obtain ⟨x, hx, he, hfl, hdl, hrd⟩ := scEnqueue_fits (i := i) (b := b) (p := p) (n := n) (id := id) (k := k) (s := u) (by rwa [hs.sc]) (by rwa [hs.sc])
  exact ⟨x, hx.trans (by rw [hs.sc]), he, hfl, by rw [hdl, hs.clk], by rw [hrd, now, hs.clk, now]⟩


/-- What follows forwarding queues nothing more for a lane-slot. -/
theorem sc_forwarded (p : Port) (n id : Nat) (k : Packet) (z : Int) (b : Bool) (x : State × Bool) : (forwarded p n id k z b x).dp.sc = x.1.dp.sc := by
  unfold forwarded
  dsimp only
  split
  · rfl
  · split
    · rfl
    · split
      · rfl
      · rfl

theorem packetArrival_sched {p : Port} {n : Lane} {k : Packet} {i : Image} {b : Binding} {q : Nat} {s : State} (a : At) (h : Heard p n s)
    (hh : headFault k = none) (ha : arrivalFault s k = none) (hf : fateOf s p k = .sched) (hi : s.tt.active = some i)
    (hb : bindingOf s (pkFlow k) = some b) (hg : gateOf s b = .openn) (hj : b.job = pkJob k) (hm : b.multi = false) (hq : q ∈ egressPorts i b)
    (hp : portGone s q = false) (hw : Sane (p.val / 128) (flowWords s (pkFlow k)) s)
    (hl : (s.dp.sc.filter fun x => benchOf x.port == benchOf p && x.flow == b.flow).length < b.bound)
    (hv : sumNat ((s.dp.sc.filter fun x => benchOf x.port == benchOf p).map fun x => pkBlocks x.pkt) + pkBlocks k ≤ i.voqKib * 4) :
    Answers (.packetArrival p n k a) s fun t => ∃ x, t.dp.sc = s.dp.sc ++ [x] ∧ x.pkt = k ∧ x.flow = b.flow ∧ x.deadline = s.clk.tick + b.dwell
      ∧ x.ready = now (atPs a s) := by
  obtain ⟨v, z, hc, ht⟩ := packetArrival_sound a h hh ha
  have he : Counted (start (atPs a s)) (entered p n k z v) := hc.trans (counted_entered _ _ _ _ _)
  have hfe : fateOf (entered p n k z v) p k = .sched := (he.fate p k).trans hf
  have hx : ∃ u, SameSched (start (atPs a s)) u ∧ u.tb = s.tb ∧ ingress p n k (now (atPs a s)) z (judgedWhole s k) v
      = forwarded p n v.dp.nextId k z (judgedWhole s k) (scIngress p n v.dp.nextId k u) := by
    unfold ingress
    dsimp only
    rw [show capIngress p n v.dp.nextId k z _ = entered p n k z v from rfl, hfe]
    refine ⟨_, ?_, ?_, rfl⟩
    · split
      · rw [hearEpoch_carries (carries_of_sched hfe)]
        exact (SameSched.of_counted he).trans ⟨rfl, rfl, rfl, rfl, fun _ => rfl⟩
      · exact .of_counted he
    · split
      · rw [hearEpoch_carries (carries_of_sched hfe)]
        exact he.only .tables (by decide)
      · exact he.only .tables (by decide)
  obtain ⟨u, hu, htb, hx⟩ := hx
  have htt : u.tt = s.tt := hu.tt
  have hsc : u.dp.sc = s.dp.sc := hu.sc
  obtain ⟨x, hs, hk, hfl, hdl, hrd⟩ := scIngress_queues (p := p) (n := n) (id := v.dp.nextId) (k := k) (s := u) (i := i) (b := b) (q := q)
    (by rw [htt]; exact hi) (by rw [bindingOf, htt]; exact hb) (by rw [gateOf, htt]; exact hg) hj hm hq ((portGone_of_sameSched hu q).trans hp)
    (by rw [Sane, flowWords, htt, htb]; exact hw) (by rw [hsc]; exact hl) (by rw [hsc]; exact hv)
  refine ht.imp fun t ht => ⟨x, ?_, hk, hfl, hdl.trans (by rw [hu.clk]; rfl), hrd.trans (by rw [now, hu.clk]; rfl)⟩
  rw [ht.2, hx, sc_forwarded, hs, hsc]

end Sys2Proof.Machine
end
section
/-! Cells of a cell-mode port (R129 to R134). -/
namespace Sys2Proof.Machine
open Sys2Proof

/-! ### A lane's cells -/

/-- What a cell-mode port keeps of a lane. -/
def laneCell (s : State) (p n : Nat) : CellLane := (linkOf s p).cell n

@[simp] theorem cell_setCell_self (l : Link) (n : Nat) (f : CellLane → CellLane) : (l.setCell n f).cell n = f (l.cell n) := by
  simp [Link.setCell, Link.cell]

/-- Change a lane's cells. -/
def setLaneCell (p n : Nat) (f : CellLane → CellLane) (s : State) : State := setLink p (fun k => k.setCell n f) s

@[simp] theorem laneCell_setLaneCell (p n : Nat) (f : CellLane → CellLane) (s : State) : laneCell (setLaneCell p n f s) p n = f (laneCell s p n) := by
  simp [laneCell, setLaneCell]

theorem laneCell_of_links {s t : State} (h : t.links = s.links) (p n : Nat) : laneCell t p n = laneCell s p n :=
  congrArg (·.cell n) (linkOf_of_links h p)

@[simp] theorem cellVc_setVc_self (c : CellLane) (v : Nat) (x : Credit) : (c.setVc v x).vc v = x := by
  unfold CellLane.setVc CellLane.vc
  split_ifs <;> rfl

theorem cellVc_setVc_ne {v w : Nat} (hv : IsVc v) (hw : IsVc w) (h : v ≠ w) (c : CellLane) (x : Credit) : (c.setVc w x).vc v = c.vc v := by
  obtain rfl | rfl | rfl := hv <;> obtain rfl | rfl | rfl := hw <;> first | exact absurd rfl h | rfl

/-- A step on the cells of a lane keeps what decides a packet's fate. -/
theorem counted_setLaneCell (p n : Nat) (f : CellLane → CellLane) (s : State) : Counted s (setLaneCell p n f s) :=
  .of_only (only_setLink _ _ s (by decide)) (only_setLink _ _ s (by decide)) rfl rfl

theorem counted_count {e : Nat} (he : e ∈ pathCounters) (n : Nat) (s : State) : Counted s (count e n s) :=
  .of_only (only_count (setting_of_counter he) _ s) (only_count (setting_of_counter he) _ s) rfl rfl

theorem Counted.refl (s : State) : Counted s s := .of_only (Only.refl s) (Only.refl s) rfl rfl

theorem counted_cellUnits (p n v g f : Nat) (s : State) : Counted s (cellUnits p n v g f s) := by
  unfold cellUnits
  split
  · exact .refl s
  · exact counted_setLaneCell p n _ s

theorem counted_setAsm (p n : Nat) (x : Option CellAsm) (s : State) : Counted s (setAsm p n x s) := counted_setLaneCell p n _ s

theorem counted_setBroken (p n : Nat) (b : Bool) (s : State) : Counted s (setBroken p n b s) := counted_setLaneCell p n _ s

theorem counted_asmLost (p n : Nat) (s : State) : Counted s (asmLost p n s) := by
  unfold asmLost
  split
  · exact .refl s
  · exact (((counted_count (e := E.PKT_CELL_LOST) (by decide) 1 s).trans (counted_setAsm _ _ _ _)).trans (counted_cellUnits _ _ _ _ _ _)).trans
      (counted_setBroken _ _ _ _)

/-! ### Units of a lane -/

@[simp] theorem asm_cellSetVc (c : CellLane) (v : Nat) (x : Credit) : (c.setVc v x).asm = c.asm := by
  unfold CellLane.setVc
  split_ifs <;> rfl
@[simp] theorem rxCount_cellSetVc (c : CellLane) (v : Nat) (x : Credit) : (c.setVc v x).rxCount = c.rxCount := by
  unfold CellLane.setVc
  split_ifs <;> rfl
@[simp] theorem based_cellSetVc (c : CellLane) (v : Nat) (x : Credit) : (c.setVc v x).based = c.based := by
  unfold CellLane.setVc
  split_ifs <;> rfl

/-- An account with units received and freed. -/
def Credit.with (x : Credit) (g f : Nat) : Credit := { x with received := (x.received + g) % 2 ^ 32, freed := (x.freed + f) % 2 ^ 32 }

theorem laneCell_cellUnits {v : Nat} (hv : IsVc v) (p n g f : Nat) (s : State) :
    laneCell (cellUnits p n v g f s) p n = (laneCell s p n).setVc v (((laneCell s p n).vc v).with g f) := by
  have hn : ¬ ((v = 0 || v > 3) = true) := by
    obtain rfl | rfl | rfl := hv <;> decide
  unfold cellUnits
  rw [if_neg hn]
  exact laneCell_setLaneCell p n _ s

theorem cellUnits_reserved {v : Nat} (hv : ¬ IsVc v) (p n g f : Nat) (s : State) : cellUnits p n v g f s = s := by
  refine if_pos ?_
  simp only [IsVc] at hv
  simp only [Bool.or_eq_true, decide_eq_true_eq]
  omega

/-- What units leave of a lane. -/
structure UnitsOnly (c d : CellLane) : Prop where
  asm : d.asm = c.asm
  rxCount : d.rxCount = c.rxCount
  based : d.based = c.based

theorem unitsOnly_cellUnits (p n v g f : Nat) (s : State) : UnitsOnly (laneCell s p n) (laneCell (cellUnits p n v g f s) p n) := by
  by_cases hv : IsVc v
  · rw [laneCell_cellUnits hv]
    exact ⟨asm_cellSetVc _ _ _, rxCount_cellSetVc _ _ _, based_cellSetVc _ _ _⟩
  · rw [cellUnits_reserved hv]
    exact ⟨rfl, rfl, rfl⟩

theorem received_cellUnits_freed {v : Nat} (hv : IsVc v) (p n w f : Nat) (s : State) :
    ((laneCell (cellUnits p n w 0 f s) p n).vc v).received % 2 ^ 32 = ((laneCell s p n).vc v).received % 2 ^ 32 := by
  by_cases hw : IsVc w
  · rw [laneCell_cellUnits hw]
    by_cases e : v = w
    · subst e
      rw [cellVc_setVc_self]
      exact Nat.mod_mod _ _
    · rw [cellVc_setVc_ne hv hw e]
  · rw [cellUnits_reserved hw]

theorem laneCell_setAsm (p n : Nat) (x : Option CellAsm) (s : State) : laneCell (setAsm p n x s) p n = { laneCell s p n with asm := x } :=
  laneCell_setLaneCell p n _ s

theorem laneCell_setBroken (p n : Nat) (b : Bool) (s : State) : laneCell (setBroken p n b s) p n = { laneCell s p n with broken := b } :=
  laneCell_setLaneCell p n _ s

/-- A packet that has lost a cell leaves its units freed. -/
theorem laneCell_asmLost (p n : Nat) (s : State) :
    (laneCell (asmLost p n s) p n).rxCount = (laneCell s p n).rxCount
    ∧ ∀ v, IsVc v → ((laneCell (asmLost p n s) p n).vc v).received % 2 ^ 32 = ((laneCell s p n).vc v).received % 2 ^ 32 := by
  unfold asmLost
  split
  · exact ⟨rfl, fun _ _ => rfl⟩
  · rw [laneCell_setBroken]
    refine ⟨?_, fun v hv => ?_⟩
    · refine (unitsOnly_cellUnits _ _ _ _ _ _).rxCount.trans ?_
      rw [laneCell_setAsm]
      rfl
    · refine (received_cellUnits_freed hv _ _ _ _ _).trans ?_
      rw [laneCell_setAsm]
      rfl

theorem asmLost_none {p n : Nat} {s : State} (h : (laneCell s p n).asm = none) : asmLost p n s = s := by
  unfold asmLost
  rw [show ((linkOf s p).cell n).asm = none from h]

/-! ### A cell that arrives -/

/-- A sound cell in its order on a cell-mode port that is not dark. -/
def CellHeard (p : Port) (n : Lane) (c : Bytes) (s : State) : Prop :=
  portFormat s p = 2 ∧ dpLive s = true ∧ benchServes s (benchOf p) = true ∧ n.val ≤ 3 ∧ cellOk c = true ∧ darkIn s p = false
  ∧ ∀ m, (laneCell s p n).rxCount = some m → m = cellCount c

/-- The count of a cell is noted. -/
def countNoted (p n : Nat) (c : Bytes) (s : State) : State := setLaneCell p n (fun x => { x with rxCount := some ((cellCount c + 1) % 256) }) s

/-- The packet that a cell opens. -/
def opening (p : Nat) (c : Bytes) (s : State) : CellAsm := { head := padTo 16 (cellData c), data := (cellData c).drop 16, at' := now s, stamp := stampIn s p }

section
variable {p : Port} {n : Lane} {c : Bytes} {s : State}

theorem cellIn_heard (h : CellHeard p n c s) : cellIn p n c s = cellTake p n c (countNoted p n c s) := by
  obtain ⟨hf, hl, hb, hn, hk, -, hm⟩ := h
  have hg : ¬ ((portFormat s p != 2 || !dpLive s || !benchServes s (benchOf p) || decide (n.val > 3) || !cellOk c) = true) := by
    rw [hf, hl, hb, hk, decide_eq_false (by omega)]
    decide
  unfold cellIn
  rw [if_neg hg]
  dsimp only
  cases e : ((linkOf s p).cell n).rxCount with
  | none => rfl
  | some m =>
    rw [hm m e]
    simp only [bne_self_eq_false, Bool.false_eq_true, if_false]
    rfl

theorem cellReceived_heard (a : At) (h : CellHeard p n c s) :
    exec (.cellReceived p n c a) s = .next (settle (atPs a s) (cellTake p n c (countNoted p n c (start (atPs a s))))) := by
  show Host.Outcome.next (settle (atPs a s) (cellIn p n c (start (atPs a s)))) = _
  rw [cellIn_heard (s := start (atPs a s)) h]

/-- A cell that opens a packet: what it interrupts is lost. -/
def cellOpens (p n : Nat) (s : State) : State := setBroken p n false (asmLost p n s)

theorem counted_cellOpens (p n : Nat) (s : State) : Counted s (cellOpens p n s) := (counted_asmLost p n s).trans (counted_setBroken _ _ _ _)

theorem setLaneCell_only {l : List Part} (p n : Nat) (f : CellLane → CellLane) (s : State) (hk : .links ∈ l) : Only l s (setLaneCell p n f s) :=
  only_setLink _ _ s hk

theorem cellUnits_only {l : List Part} (p n v g f : Nat) (s : State) (hk : .links ∈ l) : Only l s (cellUnits p n v g f s) :=
  (Only.refl s).step_unless (only_setLink _ _ s hk)

theorem asmLost_only {l : List Part} (p n : Nat) (s : State) (hk : .links ∈ l) : Only l s (asmLost p n s) := by
  unfold asmLost
  split
  · exact Only.refl s
  · exact (((only_count (setting_of_counter (by decide)) 1 s).trans (only_setLink _ _ _ hk)).trans (cellUnits_only _ _ _ _ _ _ hk)).trans
      (only_setLink _ _ _ hk)

theorem cellOpens_only {l : List Part} (p n : Nat) (s : State) (hk : .links ∈ l) : Only l s (cellOpens p n s) :=
  (asmLost_only p n s hk).trans (setLaneCell_only _ _ _ _ hk)

theorem darkIn_of_passing {t : State} (h : Only passing s t) (q : Nat) : darkIn t q = darkIn s q := by
  unfold darkIn mapAt
  rw [tick_of_passing h, imageAt_of_passing h, imageAt_of_passing h]

/-- A cell that opens a packet of some class begins it, or ends it too. -/
theorem cellTake_opens (hd : darkIn s p = false) (hp : cellPos c ≥ 2) (ha : asmClass (opening p c s) ≠ 0x3F) :
    cellTake p n c s = asmAdd p n (cellPos c == 1 || cellPos c == 3) (opening p c s) (cellOpens p n s) := by
  have hdk := (darkIn_of_passing (cellOpens_only p n s (by decide)) p).trans hd
  unfold cellTake
  dsimp only
  rw [if_pos hp]
  exact (if_neg ha).trans (if_neg (ne_true_of_eq_false hdk))

theorem cellTake_continues {x : CellAsm} (hp : ¬ cellPos c ≥ 2) (hx : (laneCell s p n).asm = some x) :
    cellTake p n c s = asmAdd p n (cellPos c == 1 || cellPos c == 3) { x with data := x.data ++ cellData c } s := by
  unfold cellTake
  dsimp only
  rw [if_neg hp, show ((linkOf s p).cell n).asm = some x from hx]

theorem asmVc_pos (x : CellAsm) : asmVc x ≠ 0 := Nat.succ_ne_zero _

theorem isVc_asmVc {x : CellAsm} (h : asmVc x ≤ 3) : IsVc (asmVc x) := by
  have := asmVc_pos x
  unfold IsVc
  omega

/-- A packet begun on a lane: it is held, its cell counted, and the lane's count of cells kept. -/
theorem asmAdd_first (p : Port) (n : Nat) (w : CellAsm) (s : State) :
    (laneCell (asmAdd p n false w (cellOpens p n s)) p n).asm = some w
    ∧ (laneCell (asmAdd p n false w (cellOpens p n s)) p n).rxCount = (laneCell s p n).rxCount
    ∧ (asmVc w ≤ 3 → ((laneCell (asmAdd p n false w (cellOpens p n s)) p n).vc (asmVc w)).received = (((laneCell s p n).vc (asmVc w)).received + 1) % 2 ^ 32) := by
  obtain ⟨hx, hl⟩ := laneCell_asmLost p n s
  have ht : laneCell (asmAdd p n false w (cellOpens p n s)) p n = { laneCell (cellUnits p n (asmVc w) 1 0 (cellOpens p n s)) p n with asm := some w } :=
    laneCell_setAsm _ _ _ _
  have ho : laneCell (cellOpens p n s) p n = { laneCell (asmLost p n s) p n with broken := false } := laneCell_setBroken _ _ _ _
  refine ⟨congrArg CellLane.asm ht, ?_, fun hv => ?_⟩
  · exact (congrArg CellLane.rxCount ht).trans ((unitsOnly_cellUnits p n (asmVc w) 1 0 _).rxCount.trans ((congrArg CellLane.rxCount ho).trans hx))
  · have hw := isVc_asmVc hv
    have hr : ((laneCell (cellOpens p n s) p n).vc (asmVc w)).received % 2 ^ 32 = ((laneCell s p n).vc (asmVc w)).received % 2 ^ 32 := by
      rw [ho]
      exact hl _ hw
    rw [ht, laneCell_cellUnits hw]
    refine (congrArg Credit.received (cellVc_setVc_self _ _ _)).trans ?_
    show (_ + 1) % 2 ^ 32 = _
    rw [Nat.add_mod, hr, ← Nat.add_mod]

/-- The first cell of several: the packet is begun, and its unit counted. -/
theorem cellReceived_first (a : At) (h : CellHeard p n c s) (hp : cellPos c = 2) (ha : asmClass (opening p c (atPs a s)) ≠ 0x3F) :
    Answers (.cellReceived p n c a) s fun t => (laneCell t p n).asm = some (opening p c (atPs a s))
      ∧ (laneCell t p n).rxCount = some ((cellCount c + 1) % 256)
      ∧ (asmVc (opening p c (atPs a s)) ≤ 3 → ((laneCell t p n).vc (asmVc (opening p c (atPs a s)))).received
          = (((laneCell s p n).vc (asmVc (opening p c (atPs a s)))).received + 1) % 2 ^ 32) := by
  refine ⟨_, cellReceived_heard a h, ?_⟩
  obtain ⟨-, -, -, -, -, hd, -⟩ := h
  have hn : laneCell (countNoted p n c (start (atPs a s))) p n = { laneCell s p n with rxCount := some ((cellCount c + 1) % 256) } :=
    laneCell_setLaneCell _ _ _ _
  obtain ⟨hx, hm, hr⟩ := asmAdd_first p n (opening p c (countNoted p n c (start (atPs a s)))) (countNoted p n c (start (atPs a s)))
  rw [hn] at hm hr
  rw [cellTake_opens (s := countNoted p n c (start (atPs a s))) hd (by omega) ha, hp]
  exact ⟨hx, hm, hr⟩

theorem cellReceived_middle {x : CellAsm} (a : At) (h : CellHeard p n c s) (hp : cellPos c = 0) (hx : (laneCell s p n).asm = some x) :
    Answers (.cellReceived p n c a) s fun t => (laneCell t p n).asm = some { x with data := x.data ++ cellData c } := by
  refine ⟨_, cellReceived_heard a h, ?_⟩
  have hn : laneCell (countNoted p n c (start (atPs a s))) p n = _ := laneCell_setLaneCell _ _ _ _
  rw [cellTake_continues (x := x) (by omega) ((congrArg CellLane.asm hn).trans hx), hp]
  exact congrArg CellLane.asm (laneCell_setAsm _ _ _ _)

/-! ### The last cell -/

theorem asmPacket_of_only {l : List Part} {t : State} (h : Only l s t) (hs : .settings ∉ l) (ht : .timetable ∉ l) (x : CellAsm) :
    asmPacket t x = asmPacket s x := by
  have he : eBit t = eBit s := by
    have ht : t.tt = s.tt := h .timetable ht
    unfold eBit activeEpoch
    rw [ht]
  have hh : Cfg.PKT_CELL_HOP_LIMIT t = Cfg.PKT_CELL_HOP_LIMIT s := (arrivalSetting_of_only h hs (e := E.PKT_CELL_HOP_LIMIT) (by decide)).1 _
  unfold asmPacket
  rw [he, hh]

theorem counted_occReceived (p : Nat) (k : Packet) (s : State) : Counted s (occReceived p k s) :=
  .of_only (occReceived_only _ _ _ (by decide)) (occReceived_only _ _ _ (by decide)) (held_occReceived _ _ _) (clk_occReceived _ _ _)

theorem links_entered (p n : Nat) (k : Packet) (z : Int) (s : State) : (entered p n k z s).links = s.links :=
  capIngress_only (l := [.captures]) p n _ k z _ (by decide) .links (by decide)

theorem cell_setVc (l : Link) (v n : Nat) (x : Credit) : (l.setVc v x).cell n = l.cell n := by
  unfold Link.setVc
  split_ifs <;> rfl

theorem asm_freeCredit (p n v : Nat) (k : Packet) (s : State) : (laneCell (freeCredit p n v k s) p n).asm = (laneCell s p n).asm := by
  unfold freeCredit
  split
  · rfl
  · refine (congrArg (fun l : Link => (l.cell n).asm) (linkOf_setLink_self _ _ _)).trans ?_
    split
    · rw [cell_setCell_self, asm_cellSetVc]
      rfl
    · rw [cell_setVc]
      rfl

/-- What the part takes from its lane leaves no packet of cells there but the one it had. -/
theorem asm_ingress_own {k : Packet} (hf : fateOf s p k = .own) (hr : opRequest (pkOp k) = true) (m t : Nat) (z : Int) :
    (laneCell (ingress p m k t z true s) p m).asm = (laneCell s p m).asm := by
  have hc := counted_entered p m k z s
  unfold ingress
  dsimp only
  rw [show capIngress p m s.dp.nextId k z _ = entered p m k z s from rfl, hc.fate, hf, not_control_of_request hr]
  show (laneCell (takeWhole p m s.dp.nextId k z (entered p m k z s)) p m).asm = _
  rw [takeWhole, service_request hr]
  refine (asm_freeCredit p m (pkVc k) k (capTaken s.dp.nextId (entered p m k z s))).trans ?_
  have hl : (capTaken s.dp.nextId (entered p m k z s)).links = s.links :=
    (capTaken_only (l := [.captures]) _ _ (by decide) .links (by decide)).trans (links_entered _ _ _ _ _)
  rw [laneCell_of_links hl]

/-- A request whose last cell has come waits for its command. -/
theorem asmAdd_last {x : CellAsm} (hf : asmFault x = none) (ho : fateOf s p (asmPacket s x) = .own) (hr : opRequest (pkOp (asmPacket s x)) = true) :
    (laneCell (asmAdd p n true x s) p n).asm = none ∧ (asmAdd p n true x s).dx.inbox = s.dx.inbox ++ [(p.val, asmPacket s x)] := by
  have hu := cellUnits_only (l := [.links]) p n (asmVc x) 1 0 s (by decide)
  have hk : asmPacket (cellUnits p n (asmVc x) 1 0 s) x = asmPacket s x := asmPacket_of_only hu (by decide) (by decide) x
  have he : asmAdd p n true x s = ingress p n (asmPacket s x) x.at' x.stamp true
      (passed p (occReceived p (asmPacket s x) (setAsm p n none (cellUnits p n (asmVc x) 1 0 s)))) := by
    unfold asmAdd asmDone
    dsimp only
    rw [if_pos rfl, hf, hk]
  have hc : Counted s (passed p (occReceived p (asmPacket s x) (setAsm p n none (cellUnits p n (asmVc x) 1 0 s)))) :=
    (((counted_cellUnits _ _ _ _ _ s).trans (counted_setAsm _ _ _ _)).trans (counted_occReceived _ _ _)).trans (counted_passed _ _)
  have hl : (passed p (occReceived p (asmPacket s x) (setAsm p n none (cellUnits p n (asmVc x) 1 0 s)))).links
      = (setAsm p n none (cellUnits p n (asmVc x) 1 0 s)).links := occReceived_only (l := [.queues]) _ _ _ (by decide) .links (by decide)
  rw [he]
  refine ⟨?_, ?_⟩
  · rw [asm_ingress_own ((hc.fate _ _).trans ho) hr, laneCell_of_links hl, laneCell_setAsm]
  · rw [(ingress_own ((hc.fate _ _).trans ho) hr n x.at' x.stamp).1, hc.inbox]

theorem cellReceived_last {x : CellAsm} (a : At) (h : CellHeard p n c s) (hp : cellPos c = 1) (hx : (laneCell s p n).asm = some x)
    (hf : asmFault { x with data := x.data ++ cellData c } = none) (ho : fateOf s p (asmPacket s { x with data := x.data ++ cellData c }) = .own)
    (hr : opRequest (pkOp (asmPacket s { x with data := x.data ++ cellData c })) = true) :
    Answers (.cellReceived p n c a) s fun t =>
      (laneCell t p n).asm = none ∧ t.dx.inbox = s.dx.inbox ++ [(p.val, asmPacket s { x with data := x.data ++ cellData c })] := by
  refine ⟨_, cellReceived_heard a h, ?_⟩
  have hn : laneCell (countNoted p n c (start (atPs a s))) p n = _ := laneCell_setLaneCell _ _ _ _
  have hc := counted_setLaneCell p n (fun x => { x with rxCount := some ((cellCount c + 1) % 256) }) (start (atPs a s))
  rw [cellTake_continues (x := x) (by omega) ((congrArg CellLane.asm hn).trans hx), hp]
  exact asmAdd_last (n := n) (s := countNoted p n c (start (atPs a s))) hf ((hc.fate _ _).trans ho) hr

theorem cellReceived_single (a : At) (h : CellHeard p n c s) (hp : cellPos c = 3) (ha : asmClass (opening p c (atPs a s)) ≠ 0x3F)
    (hf : asmFault (opening p c (atPs a s)) = none) (ho : fateOf s p (asmPacket s (opening p c (atPs a s))) = .own)
    (hr : opRequest (pkOp (asmPacket s (opening p c (atPs a s)))) = true) :
    Answers (.cellReceived p n c a) s fun t =>
      (laneCell t p n).asm = none ∧ t.dx.inbox = s.dx.inbox ++ [(p.val, asmPacket s (opening p c (atPs a s)))] := by
  refine ⟨_, cellReceived_heard a h, ?_⟩
  obtain ⟨-, -, -, -, -, hd, -⟩ := h
  have hs : Only [.links] (start (atPs a s)) (cellOpens p n (countNoted p n c (start (atPs a s)))) :=
    (setLaneCell_only p n _ _ (by decide)).trans (cellOpens_only p n _ (by decide))
  have hc : Counted (start (atPs a s)) (cellOpens p n (countNoted p n c (start (atPs a s)))) :=
    (counted_setLaneCell p n _ _).trans (counted_cellOpens _ _ _)
  have hk : asmPacket (cellOpens p n (countNoted p n c (start (atPs a s)))) (opening p c (atPs a s)) = asmPacket s (opening p c (atPs a s)) :=
    asmPacket_of_only hs (by decide) (by decide) _
  rw [cellTake_opens (s := countNoted p n c (start (atPs a s))) hd (by omega) ha, hp]
  obtain ⟨hx, hi⟩ := asmAdd_last (p := p) (n := n) (s := cellOpens p n (countNoted p n c (start (atPs a s)))) hf
    (by rw [hk]; exact (hc.fate _ _).trans ho) (by rw [hk]; exact hr)
  rw [hk, hc.inbox] at hi
  exact ⟨hx, hi⟩

end

/-! ### Credit cells (R133) -/

/-- A VC's account of a lane once a credit cell is taken. -/
def cellCreditTaken (x : CellLane) (v : Nat) (body : Bytes) (b : Bool) : Credit :=
  let f := creditFields body v
  if b then (creditJudge (x.vc v) f.1 f.2).1 else creditBase (x.vc v) f.1 f.2

/-- What a credit cell does to one VC of a lane. -/
def creditCellVc (p n v : Nat) (body : Bytes) (b : Bool) (s : State) : State :=
  let f := creditFields body v
  let x := (laneCell s p n).vc v
  if b then
    creditReport p v (creditJudge x f.1 f.2).2.1 (creditJudge x f.1 f.2).2.2 (setLaneCell p n (fun c => c.setVc v (creditJudge x f.1 f.2).1) s)
  else setLaneCell p n (fun c => c.setVc v (creditBase x f.1 f.2)) s

theorem laneCell_creditCellVc (p n v : Nat) (body : Bytes) (b : Bool) (s : State) :
    laneCell (creditCellVc p n v body b s) p n = (laneCell s p n).setVc v (cellCreditTaken (laneCell s p n) v body b) := by
  cases b with
  | true => exact (laneCell_of_links (links_creditReport _ _ _ _ _) p n).trans (laneCell_setLaneCell _ _ _ _)
  | false => exact laneCell_setLaneCell _ _ _ _

theorem cellCreditTaken_setVc_ne {v w : Nat} (hv : IsVc v) (hw : IsVc w) (h : v ≠ w) (c : CellLane) (x : Credit) (body : Bytes) (b : Bool) :
    cellCreditTaken (c.setVc w x) v body b = cellCreditTaken c v body b := by
  simp only [cellCreditTaken, cellVc_setVc_ne hv hw h]

/-- A lane's accounts after a credit cell. -/
def cellCreditsTaken (c : CellLane) (body : Bytes) (b : Bool) : CellLane :=
  ((c.setVc 1 (cellCreditTaken c 1 body b)).setVc 2 (cellCreditTaken c 2 body b)).setVc 3 (cellCreditTaken c 3 body b)

theorem vc_cellCreditsTaken {v : Nat} (hv : IsVc v) (c : CellLane) (body : Bytes) (b : Bool) : (cellCreditsTaken c body b).vc v = cellCreditTaken c v body b := by
  obtain rfl | rfl | rfl := hv <;> rfl

theorem laneCell_creditCellVcs (p n : Nat) (body : Bytes) (b : Bool) (s : State) :
    laneCell ([1, 2, 3].foldl (fun s v => creditCellVc p n v body b s) s) p n = cellCreditsTaken (laneCell s p n) body b := by
  have h1 : IsVc 1 := by simp [IsVc]
  have h2 : IsVc 2 := by simp [IsVc]
  have h3 : IsVc 3 := by simp [IsVc]
  simp only [List.foldl_cons, List.foldl_nil, laneCell_creditCellVc, cellCreditsTaken]
  rw [cellCreditTaken_setVc_ne h2 h1 (by decide), cellCreditTaken_setVc_ne h3 h2 (by decide), cellCreditTaken_setVc_ne h3 h1 (by decide)]

theorem laneCell_portTouch (p n : Nat) (s : State) : laneCell (portTouch p s) p n = laneCell s p n :=
  (congrArg (fun l : Link => l.cell n) (unstalled_portTouch p s) :)

/-- The accounts after the counts of each VC. -/
def creditCellVcs (p n : Nat) (body : Bytes) (b : Bool) (s : State) : State := [1, 2, 3].foldl (fun s v => creditCellVc p n v body b s) s

theorem creditIn_eq (p n : Nat) (body : Bytes) (s : State) : creditIn p n body s
    = portTouch p (setLaneCell p n (fun c => { c with based := true, creditAt := (creditCellVcs p n body (laneCell s p n).based s).clk.tick })
      (creditCellVcs p n body (laneCell s p n).based s)) := rfl

theorem laneCell_creditIn (p n : Nat) (body : Bytes) (s : State) : ∃ t,
    laneCell (creditIn p n body s) p n = { cellCreditsTaken (laneCell s p n) body (laneCell s p n).based with based := true, creditAt := t } := by
  refine ⟨(creditCellVcs p n body (laneCell s p n).based s).clk.tick, ?_⟩
  rw [creditIn_eq, laneCell_portTouch, laneCell_setLaneCell, creditCellVcs, laneCell_creditCellVcs]

theorem cellCreditReceived_takes {p : Port} {n : Lane} {c : Bytes} {s : State} (a : At) (h : CellHeard p n c s) (hc : cellIsCredit c = true)
    (hx : (laneCell s p n).asm = none) :
    Answers (.cellCreditReceived p n c a) s fun t => (laneCell t p n).based = true ∧ ∀ v, IsVc v →
      (laneCell t p n).vc v = cellCreditTaken (laneCell s p n) v (padTo 24 (opening p c (atPs a s)).data) (laneCell s p n).based := by
  have hp : cellPos c = 3 := by
    simp only [cellIsCredit, Bool.and_eq_true, beq_iff_eq] at hc
    exact hc.1
  have ha : asmClass (opening p c (countNoted p n c (start (atPs a s)))) = 0x3F := by
    simp only [cellIsCredit, Bool.and_eq_true, beq_iff_eq] at hc
    exact hc.2
  have hd : darkIn (cellOpens p n (countNoted p n c (start (atPs a s)))) p = false := by
    obtain ⟨-, -, -, -, -, hd, -⟩ := h
    exact (darkIn_of_passing (cellOpens_only p n (countNoted p n c (start (atPs a s))) (by decide)) p).trans hd
  have hn : laneCell (countNoted p n c (start (atPs a s))) p n = { laneCell s p n with rxCount := some ((cellCount c + 1) % 256) } :=
    laneCell_setLaneCell _ _ _ _
  have ho : laneCell (cellOpens p n (countNoted p n c (start (atPs a s)))) p n
      = { laneCell s p n with rxCount := some ((cellCount c + 1) % 256), broken := false } := by
    rw [cellOpens, laneCell_setBroken, asmLost_none ((congrArg CellLane.asm hn).trans hx), hn]
  have he : cellIn p n c (start (atPs a s)) = creditIn p n (padTo 24 (opening p c (atPs a s)).data) (cellOpens p n (countNoted p n c (start (atPs a s)))) := by
    rw [cellIn_heard (s := start (atPs a s)) h]
    unfold cellTake
    dsimp only
    rw [if_pos (by omega)]
    exact (if_pos ha).trans (if_neg (ne_true_of_eq_false hd))
  refine ⟨settle (atPs a s) (cellIn p n c (start (atPs a s))), ?_, ?_⟩
  · show Host.Outcome.next (settle (atPs a s) (if cellIsCredit c then cellIn p n c (start (atPs a s)) else start (atPs a s))) = _
    rw [if_pos hc]
  · obtain ⟨t, ht⟩ := laneCell_creditIn p n (padTo 24 (opening p c (atPs a s)).data) (cellOpens p n (countNoted p n c (start (atPs a s))))
    rw [he]
    have hs : laneCell (settle (atPs a s) (creditIn p n (padTo 24 (opening p c (atPs a s)).data) (cellOpens p n (countNoted p n c (start (atPs a s)))))) p n = _ := ht
    rw [hs, ho]
    exact ⟨rfl, fun v hv => vc_cellCreditsTaken hv _ _ _⟩

/-! ### Multicast stores (R217, R240) -/

theorem applies_mcastLocal {p : Nat} {k : Packet} {s : State} (h : ∃ g ∈ tabList s E.FM_MCAST_LOCAL 4, beNat g = pkDest k) :
    (mcastLocal p k s).fm.applies = s.fm.applies ++ [{ req := { pkt := k, port := p, cell := false }, sequenced := false, again := false }] := by
  have hg : ((tabList s E.FM_MCAST_LOCAL 4).any fun g => beNat g == pkDest k) = true := by simpa using h
  have hf : (occ (homeBench (pkSrc k)) 69 1 {} s).fm = s.fm := of_quiet_fm (quiet_occ _ _ _ _ s)
  unfold mcastLocal
  rw [if_pos hg]
  exact congrArg (·.applies ++ [_]) hf

theorem memMcastStore_group {p : Port} {k : Packet} {s : State} (ho : pkOp k = Op.MEM_MCAST_STORE) (hl : dpLive s = true) (hm : pkM k = true)
    (h : ∃ g ∈ tabList s E.FM_MCAST_LOCAL 4, beNat g = pkDest k) :
    Answers (.memMcastStore p k) s fun t =>
      t.fm.applies = s.fm.applies ++ [{ req := { pkt := k, port := p, cell := false }, sequenced := false, again := false }] := by
  refine answers_run (show exec _ s = execMemMcastStore p k s from rfl) ?_
  rw [if_neg (by rw [ho, show dpLive (start s) = true from hl]; decide), if_pos hm]
  exact applies_mcastLocal (s := fromInbox p k (start s)) h

theorem fenced_of_passing {s t : State} (h : Only passing s t) (fa : Nat) : fenced t fa = fenced s fa := by
  have hf : t.hl.fences = s.hl.fences := (congrArg HlState.fences (hl_of_passing h) :)
  unfold fenced
  rw [hf, tick_of_passing h]

theorem applies_memRequest {p : Nat} {k : Packet} {s : State} (hf : fenced s (pkSrc k) = false) (hc : portCell s p = true) :
    (memRequest p k s).fm.applies = s.fm.applies ++ [{ req := { pkt := k, port := p, cell := true }, sequenced := false, again := false }] := by
  have hq : ∀ b v, quiet (count E.FM_REQUESTS 1 (occ b v 1 {} s)) = quiet s := fun b v => (quiet_count _ _ _).trans (quiet_occ _ _ _ _ _)
  have hp : ∀ b v, Only passing s (count E.FM_REQUESTS 1 (occ b v 1 {} s)) := fun b v =>
    (only_occ _ _ _ _ s).trans (only_count (setting_of_counter (by decide)) _ _)
  unfold memRequest
  dsimp only
  rw [hc, show rqSrc { pkt := k, port := p, cell := true } = pkSrc k from rfl, if_neg (ne_true_of_eq_false ((fenced_of_passing (hp _ _) _).trans hf)), if_pos (by rw [Bool.true_or])]
  exact congrArg (·.applies ++ [_]) (of_quiet_fm (hq _ _))

theorem memMcastStore_part {p : Port} {k : Packet} {s : State} (ho : pkOp k = Op.MEM_MCAST_STORE) (hl : dpLive s = true) (hm : pkM k = false)
    (hf : fenced s (pkSrc k) = false) (hc : portCell s p = true) :
    Answers (.memMcastStore p k) s fun t =>
      t.fm.applies = s.fm.applies ++ [{ req := { pkt := k, port := p, cell := true }, sequenced := false, again := false }] := by
  refine answers_run (show exec _ s = execMemMcastStore p k s from rfl) ?_
  rw [if_neg (by rw [ho, show dpLive (start s) = true from hl]; decide), if_neg (by rw [hm]; decide), memRow,
    if_pos (by rw [ho, show dpLive (start s) = true from hl]; decide)]
  exact applies_memRequest (s := fromInbox p k (start s)) hf hc

/-! ### The statement -/

/-- Settles O16, row by row: what a packet, its end, a cell and a multicast store leave. -/
theorem arrivalRows : Obligations.ArrivalRows := by
  unfold Obligations.ArrivalRows
  dsimp only
  refine ⟨?link, ?own, ?sched, ?head, ?hop, ?untaken, ?taken, ?damaged, ?first, ?middle, ?last, ?single, ?credit, ?group, ?part⟩
  case link =>
    rintro p n k a s ⟨hh, hk, ha⟩ hf
    exact packetArrival_link a hh hk ha hf
  case own =>
    rintro p n k a s ⟨hh, hk, ha⟩ hf hr hw
    exact packetArrival_own a hh hk ha hf hr hw
  case sched =>
    rintro p n k a i b q s ⟨hh, hk, ha⟩ hf hi hb hg hj hm hq hp hw hl hv
    exact packetArrival_sched a hh hk ha hf hi hb hg hj hm hq hp hw hl hv
  case head =>
    intro p n k a s hh hn hk
    exact packetArrival_headDamaged (by decide) a hh hn hk
  case hop =>
    intro p n k a s hh hn hk ha
    exact packetArrival_formDamaged (by decide) a hh hn hk ha
  case untaken =>
    intro p n a c s hm hf ht
    exact packetTail_untaken a hm hf ht
  case taken =>
    intro p n a c s hm hf ht hr
    exact packetTail_taken a hm hf ht hr
  case damaged =>
    intro p n a c row s hm hf hd
    exact packetTail_damaged a hm hf hd
  case first =>
    intro p n c a s hc hp ha
    exact cellReceived_first a hc hp ha
  case middle =>
    intro p n c a x s hc hp hx
    exact cellReceived_middle a hc hp hx
  case last =>
    intro p n c a x s hc hp hx hf ho hr
    exact cellReceived_last a hc hp hx hf ho hr
  case single =>
    intro p n c a s hc hp ha hf ho hr
    exact cellReceived_single a hc hp ha hf ho hr
  case credit =>
    intro p n c a s hc hk hx
    exact cellCreditReceived_takes a hc hk hx
  case group =>
    intro p k s ho hl hm h
    exact memMcastStore_group ho hl hm h
  case part =>
    intro p k s ho hl hm hf hc
    exact memMcastStore_part ho hl hm hf hc

end Sys2Proof.Machine
end
section
/-! What the writes of the device chapters come to: `commandEffect` at their entries, values that wait for their tick, and rows that fix
a byte of their value. -/
namespace Sys2Proof.Machine
open Sys2Proof

/-! ### What a command of an entry does -/

/-- The listing row of `BI_STRATA_TEST_NOW`, the last of the dictionary's entries that a row here names. -/
theorem row_biStrataTestNow : entryRow E.BI_STRATA_TEST_NOW
    = { id := E.BI_STRATA_TEST_NOW, ty := 3, acc := 3, eff := 1, retained := false, name := "BI_STRATA_TEST_NOW", size := 2, hi := 65535 } := by
  decide +kernel

section
variable (c : Cmd) (off : Nat) (v : Bytes) (s : State)

theorem commandEffect_opLaneCommand : commandEffect c (entryRow E.OP_LANE_COMMAND) off v s = (laneCommand (beNat v) s, answerDone) := by
  have h : (entryRow E.OP_LANE_COMMAND).id = E.OP_LANE_COMMAND := rfl
  simp only [commandEffect, h]; rfl
theorem commandEffect_opElsReplacePrepare : commandEffect c (entryRow E.OP_ELS_REPLACE_PREPARE) off v s = (elsPrepare (beNat v) s, answerDone) := by
  have h : (entryRow E.OP_ELS_REPLACE_PREPARE).id = E.OP_ELS_REPLACE_PREPARE := rfl
  simp only [commandEffect, h]; rfl
theorem commandEffect_chLoopCommand : commandEffect c (entryRow E.CH_LOOP_COMMAND) off v s
    = ((loopCommand (beNat v) s).1, if (loopCommand (beNat v) s).2 then answerDone else answerRefused 0) := by
  have h : (entryRow E.CH_LOOP_COMMAND).id = E.CH_LOOP_COMMAND := rfl
  simp only [commandEffect, h]
  obtain ⟨t, b⟩ := loopCommand (beNat v) s
  cases b <;> rfl
theorem commandEffect_hlDiUnmask : commandEffect c (entryRow E.HL_DI_UNMASK) off v s = (withPins (diUnmask (beNat v)) s, answerDone) := by
  have h : (entryRow E.HL_DI_UNMASK).id = E.HL_DI_UNMASK := rfl
  simp only [commandEffect, h]; rfl
theorem commandEffect_hlFaultClear : commandEffect c (entryRow E.HL_FAULT_CLEAR) off v s = (faultClear (beNat v) s, answerDone) := by
  have h : (entryRow E.HL_FAULT_CLEAR).id = E.HL_FAULT_CLEAR := rfl
  simp only [commandEffect, h]; rfl
theorem commandEffect_hlAttnClear : commandEffect c (entryRow E.HL_ATTN_CLEAR) off v s = (attnClear (beNat v) s, answerDone) := by
  have h : (entryRow E.HL_ATTN_CLEAR).id = E.HL_ATTN_CLEAR := rfl
  simp only [commandEffect, h]; rfl
theorem commandEffect_hlCertSubmit : commandEffect c (entryRow E.HL_CERT_SUBMIT) off v s
    = ((certSubmit v s).1, if (certSubmit v s).2 then answerDone else answerRefused 0) := by
  have h : (entryRow E.HL_CERT_SUBMIT).id = E.HL_CERT_SUBMIT := rfl
  simp only [commandEffect, h]
  obtain ⟨t, b⟩ := certSubmit v s
  cases b <;> rfl
theorem commandEffect_tmCaptureRestart : commandEffect c (entryRow E.TM_CAPTURE_RESTART) off v s
    = (if beNat v = 1 then captureRestart s else s, answerDone) := by
  have h : (entryRow E.TM_CAPTURE_RESTART).id = E.TM_CAPTURE_RESTART := rfl
  simp only [commandEffect, h]; rfl
theorem commandEffect_biStrataTestNow (h : ownerRefuses s (entryRow E.BI_STRATA_TEST_NOW) off 0 v = none) :
    commandEffect c (entryRow E.BI_STRATA_TEST_NOW) off v s = (bankTestNow (beNat v / 256) (beNat v % 256) s, answerDone) := by
  have he : (entryRow E.BI_STRATA_TEST_NOW).id = E.BI_STRATA_TEST_NOW := congrArg Entry.id row_biStrataTestNow
  simp only [commandEffect, h, he]; rfl
end

/-! ### Refusals -/

section
variable (s : State) (n tick : Nat)

theorem scalarRefused_biStrataTestNow : scalarRefused s (entryRow E.BI_STRATA_TEST_NOW).id n tick
    = ((bankOf s (bankKey (n / 256) (n % 256))).state == .mappedOut) := by
  have h : (entryRow E.BI_STRATA_TEST_NOW).id = E.BI_STRATA_TEST_NOW := congrArg Entry.id row_biStrataTestNow
  simp only [scalarRefused, h]; rfl
theorem scalarRefused_psRequest : scalarRefused s (entryRow E.PS_REQUEST).id n tick = (n == 2 && (restRefusal s).isSome) := by
  have h : (entryRow E.PS_REQUEST).id = E.PS_REQUEST := rfl
  simp only [scalarRefused, h]; rfl
theorem scalarRefused_tmClear : scalarRefused s (entryRow E.TM_CLEAR).id n tick = false := by
  have h : (entryRow E.TM_CLEAR).id = E.TM_CLEAR := rfl
  simp only [scalarRefused, h]; rfl
theorem scalarRefused_tmLatchNow : scalarRefused s (entryRow E.TM_LATCH_NOW).id n tick = false := by
  have h : (entryRow E.TM_LATCH_NOW).id = E.TM_LATCH_NOW := rfl
  simp only [scalarRefused, h]; rfl
end

/-! ### Values that wait for their tick -/

/-- The write of a command waits for its tick, and the answer is DONE. -/
def WaitsItsTick (op : Nat) (c : Cmd) (v u : State) (a : Answer) : Prop :=
  a = answerDone ∧ u.dx.pending = v.dx.pending
    ++ [{ entry := c.entry.toNat, session := cmdSession c, tick := some (cmdTick c), offset := cmdOff c, body := dxValue op c }]

theorem does_atTick {i : Instr} {op : Nat} {c : Cmd} {s : State} {H : State → Prop} {id : Nat} (hx : exec i s = cmdRow op c s) (hop : writeOp op)
    (he : c.entry.toNat = id) (hi : (entryRow id).id = id) (hc : commandEntry id = false) (hf : (entryRow id).eff = 2) (hw : id ≠ E.PS_REQUEST)
    (hr : ∀ v, H v → ownerRefuses v (entryRow id) (cmdOff c) (cmdTick c) (dxValue op c) = none) (hl : ∀ v, H v → v.dx.pending.length < 1024) :
    Does i op c s H (WaitsItsTick op c) := by
  subst he
  refine does_of_effect hx fun v hv => ?_
  rw [dxEffect_write hop, takeWrite_atTick (by rwa [hi]) hf (by rwa [hi]) (hr v hv) (hl v hv)]
  refine ⟨rfl, ?_⟩
  rw [pend_pending _ _ _ _ _ _ (by rwa [hi]), if_pos hf, hi]
  rfl

/-! ### Rows that fix a byte of their value -/

theorem entry_withByte (op n i : Nat) (f : Nat → Nat) (c : Cmd) : (withByte op n i f c).entry = c.entry := by
  unfold withByte
  split <;> rfl

theorem entry_withByte_onEntry {id : Nat} (h : id < 2 ^ 24) (op n i : Nat) (f : Nat → Nat) (c : Cmd) :
    (withByte op n i f (onEntry id c)).entry.toNat = id := by rw [entry_withByte, entry_onEntry h]

theorem tick_withByte (op n i : Nat) (f : Nat → Nat) (c : Cmd) : cmdTick (withByte op n i f c) = cmdTick c := by
  unfold withByte
  split <;> rfl

theorem row_withByte {id : Nat} (h : id < 2 ^ 24) (op n i : Nat) (f : Nat → Nat) (c : Cmd) :
    entryRow (withByte op n i f (onEntry id c)).entry.toNat = entryRow id := by rw [entry_withByte_onEntry h]

theorem cmdValue_withByte {n i id : Nat} {f : Nat → Nat} {c : Cmd} (h : c.body.length = n) :
    cmdValue Dx.WRITE (withByte Dx.WRITE n i f (onEntry id c)) = splice c.body i [BitVec.ofNat 8 (f (beAt c.body i 1))] := by
  have hv : cmdValue Dx.WRITE (onEntry id c) = c.body := rfl
  unfold withByte
  rw [hv, if_pos h]
  rfl

/-- A 64-bit word whose byte `i` is fixed, on an entry that keeps the order of bytes. -/
theorem dxValue_withByte {n i id : Nat} {f : Nat → Nat} {c : Cmd} (hid : id < 2 ^ 24) (ht : scalarType (entryRow id).ty = false)
    (hl : (entryRow id).layout = []) (h : c.body.length = n) :
    dxValue Dx.WRITE (withByte Dx.WRITE n i f (onEntry id c)) = splice c.body i [BitVec.ofNat 8 (f (beAt c.body i 1))] := by
  rw [dxValue_plain (.inl rfl) (row_withByte hid _ _ _ _ _) ht hl, cmdValue_withByte h]

/-- A scalar of one byte, as the row fixes it. -/
theorem dxValue_oneByte {id : Nat} {f : Nat → Nat} {c : Cmd} (hid : id < 2 ^ 24) (ht : scalarType (entryRow id).ty = true) (h : c.body.length = 1) :
    dxValue Dx.WRITE (withByte Dx.WRITE 1 0 f (onEntry id c)) = [BitVec.ofNat 8 (f (beAt c.body 0 1))] := by
  have hs : splice c.body 0 [BitVec.ofNat 8 (f (beAt c.body 0 1))] = [BitVec.ofNat 8 (f (beAt c.body 0 1))] := by
    simp [splice, List.drop_eq_nil_of_le (Nat.le_of_eq h)]
  rw [dxValue_write (.inl rfl), row_withByte hid, cmdCanon, cmdValue_withByte h, hs, orderBytes, ht]
  split <;> rfl

/-- The action of a lane command: bits 40 to 43, in its third byte. -/
theorem bits_byteTwo {b : Bytes} (h : b.length = 8) {act : Nat} (ha : act < 16) :
    bits (beNat (splice b 2 [BitVec.ofNat 8 (beAt b 2 1 / 16 * 16 + act)])) 40 4 = act := by
  match b, h with
  | [b0, b1, b2, b3, b4, b5, b6, b7], _ =>
    simp [splice, beAt, slice, beNat, bits]
    omega

/-- The action of a loop command: bits 60 to 63, in its first byte. -/
theorem bits_byteZero {b : Bytes} (h : b.length = 8) {act : Nat} (ha : act < 16) :
    bits (beNat (splice b 0 [BitVec.ofNat 8 (act * 16 + beAt b 0 1 % 16)])) 60 4 = act := by
  match b, h with
  | [b0, b1, b2, b3, b4, b5, b6, b7], _ =>
    simp [splice, beAt, slice, beNat, bits]
    omega

end Sys2Proof.Machine
end
section
/-! Commands on lanes, lasers, chutes, ports, power and the moth (R135, R327, R336, R361, R427 to R433, R439, R542): one theorem per
row, and the statement from them. -/
namespace Sys2Proof.Machine
open Sys2Proof

/-! ### Lanes and lasers (R327, R336) -/

theorem movePropose_moves {p d l r : Nat} {s : State} (hd : dpLive s = true) (hl : l < 4) (hf : portFormat s p = 1) (hk : darkIn s p = false)
    (hs : laneSt s p d l = .inService) (hr : reserveFree s p d = true)
    (hm : ∀ m ∈ s.op.moves, m.port = p → m.dir = d → m.src ≠ l ∧ m.dst ≠ l) :
    (movePropose p d l r s).op.moves = s.op.moves
      ++ [{ id := s.op.nextMove, port := p, src := l, dst := 4, dir := d, reason := r, state := .proposed, S := 0, mine := true }] := by
  have hn : (s.op.moves.any fun m => m.port == p && m.dir == d && (m.src == l || m.dst == l)) = false := by
    rw [List.any_eq_false]
    intro m h
    have := hm m h
    simp only [Bool.and_eq_true, Bool.or_eq_true, beq_iff_eq]
    tauto
  simp [movePropose, hd, hf, hk, hs, hr, hn, Nat.not_le.2 hl, moveSend, moveAdd]

theorem returnPropose_proposed {p d l r : Nat} {s : State} (hs : laneSt s p d l = .moved)
    (ho : (s.op.moves.any fun m => m.port == p && m.dir == d && m.src == l && m.state == .inForce) = true) :
    ({ id := s.op.nextMove, port := p, src := 4, dst := l, dir := d, reason := r, state := .proposed, S := 0, mine := true } : Move)
      ∈ (returnPropose p d l r s).op.moves := by
  simp [returnPropose, ho, hs, moveSend, moveAdd, setMoves]

/-- Proposing a move, or reporting that none can be made, leaves the laser modules. -/
theorem movePropose_els (p d l r : Nat) (s : State) : (movePropose p d l r s).op.els = s.op.els := by
  simp only [movePropose]
  split
  · rfl
  · split
    · rw [moveRefused, raiseOnce_op]
    · rfl

theorem elsPrepare_preparing (e : Nat) (s : State) : (elsOf (elsPrepare e s) e).preparing = true := by
  have h : (elsPrepare e s).op.els = (setEls e { elsOf s e with preparing := true, stuck := [] } s).op.els := by
    rw [elsPrepare]; split
    · rfl
    · generalize List.range 32 = l
      exact foldl_keeps (fun s => s.op.els) _ (fun s _ => movePropose_els _ _ _ _ s) l _
  rw [elsOf, h]
  exact congrArg Els.preparing (getD_set_self _ _ _ _)

/-- `OP_LANE_COMMAND` with action `act`, as the rows take it. -/
def laneCmd (act : Nat) (c : Cmd) : Cmd := withByte Dx.WRITE 8 2 (fun b => b / 16 * 16 + act) (onEntry E.OP_LANE_COMMAND c)

/-- Its value. -/
abbrev laneCmdVal (act : Nat) (c : Cmd) : Nat := beNat (dxValue Dx.WRITE (laneCmd act c))

theorem laneCmd_action {act : Nat} {c : Cmd} (h : c.body.length = 8) (ha : act < 16) : bits (laneCmdVal act c) 40 4 = act := by
  rw [laneCmdVal, laneCmd, dxValue_withByte (by decide) rfl rfl h, bits_byteTwo h ha]

theorem laneCommandMove_does (c : Cmd) (s : State) :
    Does (.laneCommandMove c) Dx.WRITE (laneCmd 1 c) s
      (fun v => c.body.length = 8 ∧ dpLive v = true ∧ bits (laneCmdVal 1 c) 45 3 < 4 ∧ portFormat v (bits (laneCmdVal 1 c) 48 16) = 1
        ∧ darkIn v (bits (laneCmdVal 1 c) 48 16) = false
        ∧ laneSt v (bits (laneCmdVal 1 c) 48 16) (bits (laneCmdVal 1 c) 44 1) (bits (laneCmdVal 1 c) 45 3) = .inService
        ∧ reserveFree v (bits (laneCmdVal 1 c) 48 16) (bits (laneCmdVal 1 c) 44 1) = true
        ∧ ∀ m ∈ v.op.moves, m.port = bits (laneCmdVal 1 c) 48 16 → m.dir = bits (laneCmdVal 1 c) 44 1 →
            m.src ≠ bits (laneCmdVal 1 c) 45 3 ∧ m.dst ≠ bits (laneCmdVal 1 c) 45 3)
      fun v u a => a = answerDone ∧ u.op.moves = v.op.moves
        ++ [{ id := v.op.nextMove, port := bits (laneCmdVal 1 c) 48 16, src := bits (laneCmdVal 1 c) 45 3, dst := 4,
              dir := bits (laneCmdVal 1 c) 44 1, reason := 6, state := .proposed, S := 0, mine := true }] := by
  refine does_command rfl (.inl rfl) (row_withByte (by decide) _ _ _ _ c) rfl fun v ⟨hb, hd, hl, hf, hk, hs, hr, hm⟩ => ?_
  rw [commandEffect_opLaneCommand, laneCommand, if_pos (laneCmd_action hb (by decide))]
  exact ⟨rfl, movePropose_moves hd hl hf hk hs hr hm⟩

theorem laneCommandReturn_does (c : Cmd) (s : State) :
    Does (.laneCommandReturn c) Dx.WRITE (laneCmd 2 c) s
      (fun v => c.body.length = 8
        ∧ laneSt v (bits (laneCmdVal 2 c) 48 16) (bits (laneCmdVal 2 c) 44 1) (bits (laneCmdVal 2 c) 45 3) = .moved
        ∧ (v.op.moves.any fun m => m.port == bits (laneCmdVal 2 c) 48 16 && m.dir == bits (laneCmdVal 2 c) 44 1
            && m.src == bits (laneCmdVal 2 c) 45 3 && m.state == .inForce) = true)
      fun v u a => a = answerDone
        ∧ ({ id := v.op.nextMove, port := bits (laneCmdVal 2 c) 48 16, src := 4, dst := bits (laneCmdVal 2 c) 45 3,
             dir := bits (laneCmdVal 2 c) 44 1, reason := 6, state := .proposed, S := 0, mine := true } : Move) ∈ u.op.moves := by
  refine does_command rfl (.inl rfl) (row_withByte (by decide) _ _ _ _ c) rfl fun v ⟨hb, hs, ho⟩ => ?_
  have ha : ¬ bits (laneCmdVal 2 c) 40 4 = 1 := by rw [laneCmd_action hb (by decide)]; decide
  rw [commandEffect_opLaneCommand, laneCommand, if_neg ha]
  exact ⟨rfl, returnPropose_proposed hs ho⟩

theorem opElsReplacePrepare_does (c : Cmd) (s : State) :
    Does (.opElsReplacePrepare c) Dx.WRITE (onEntry E.OP_ELS_REPLACE_PREPARE c) s (fun _ => True)
      fun _ u a => a = answerDone ∧ (elsOf u (beNat (dxValue Dx.WRITE (onEntry E.OP_ELS_REPLACE_PREPARE c)))).preparing = true := by
  refine does_command rfl (.inl rfl) (row_onEntry (by decide) c) rfl fun v _ => ?_
  rw [commandEffect_opElsReplacePrepare]
  exact ⟨rfl, elsPrepare_preparing _ v⟩

/-! ### Chute loops (R361) -/

/-- The wing after an accepted command has the loop exactly where the command set it. -/
theorem loopDone_set {n : Nat} {s t : State} (h : loopDone n s = some t) (ha : bits n 60 4 = 1) :
    ∃ l ∈ (wingOf t (bits n 56 4)).loops, l.a = bits n 51 5 ∧ l.b = bits n 46 5 := by
  simp only [loopDone, ha] at h
  rw [Option.ite_none_left_eq_some] at h
  obtain ⟨-, h⟩ := h
  rw [if_neg (by decide), if_pos trivial, Option.ite_none_left_eq_some] at h
  obtain ⟨-, h⟩ := h
  split at h
  · cases h; simp [wingDrive]
  · split at h
    · cases h; simp [wingDrive]
    · cases h

theorem loopDone_clear {n : Nat} {s t : State} (h : loopDone n s = some t) (ha : bits n 60 4 = 2) :
    ∀ l ∈ (wingOf t (bits n 56 4)).loops, ¬ (l.a = bits n 51 5 ∧ l.b = bits n 46 5) := by
  simp only [loopDone, ha] at h
  rw [Option.ite_none_left_eq_some] at h
  obtain ⟨-, h⟩ := h
  rw [if_pos trivial, Option.ite_none_right_eq_some] at h
  obtain ⟨-, h⟩ := h
  cases h
  simp only [wingOf_setWing, wingDrive, List.mem_filter]
  rintro l ⟨-, hl⟩ ⟨h1, h2⟩
  simp [h1, h2] at hl

/-- An accepted loop command leaves the wings as `loopDone` says. -/
theorem loopCommand_done {n : Nat} {s t : State} (h : loopDone n s = some t) :
    (loopCommand n s).2 = true ∧ (loopCommand n s).1.ch = t.ch := by
  rw [loopCommand, h]
  exact ⟨rfl, raise_ch _ _ t⟩

/-- `CH_LOOP_COMMAND` with action `act`, as the rows take it. -/
def loopCmd (act : Nat) (c : Cmd) : Cmd := withByte Dx.WRITE 8 0 (fun b => act * 16 + b % 16) (onEntry E.CH_LOOP_COMMAND c)

/-- Its value. -/
abbrev loopCmdVal (act : Nat) (c : Cmd) : Nat := beNat (dxValue Dx.WRITE (loopCmd act c))

theorem loopCmd_action {act : Nat} {c : Cmd} (h : c.body.length = 8) (ha : act < 16) : bits (loopCmdVal act c) 60 4 = act := by
  rw [loopCmdVal, loopCmd, dxValue_withByte (by decide) rfl rfl h, bits_byteZero h ha]

section
variable {i : Instr} {act : Nat} {c : Cmd} {s : State} {P : WingMx → Prop}

/-- An accepted loop command does to its wing what `loopDone` does. -/
theorem does_loop (hx : exec i s = cmdRow Dx.WRITE (loopCmd act c) s) (ha : act < 16)
    (hp : ∀ v t, bits (loopCmdVal act c) 60 4 = act → loopDone (loopCmdVal act c) v = some t → P (wingOf t (bits (loopCmdVal act c) 56 4))) :
    Does i Dx.WRITE (loopCmd act c) s (fun v => c.body.length = 8 ∧ (loopDone (loopCmdVal act c) v).isSome = true)
      fun _ u a => a = answerDone ∧ P (wingOf u (bits (loopCmdVal act c) 56 4)) := by
  refine does_command hx (.inl rfl) (row_withByte (by decide) _ _ _ _ c) rfl fun v ⟨hb, hd⟩ => ?_
  obtain ⟨t, ht⟩ := Option.isSome_iff_exists.1 hd
  obtain ⟨hok, hch⟩ := loopCommand_done ht
  rw [commandEffect_chLoopCommand]
  refine ⟨if_pos hok, ?_⟩
  rw [wingOf_of_ch hch]
  exact hp v t (loopCmd_action hb ha) ht
end

theorem chuteLoopSet_does (c : Cmd) (s : State) :
    Does (.chuteLoopSet c) Dx.WRITE (loopCmd 1 c) s (fun v => c.body.length = 8 ∧ (loopDone (loopCmdVal 1 c) v).isSome = true)
      fun _ u a => a = answerDone
        ∧ ∃ l ∈ (wingOf u (bits (loopCmdVal 1 c) 56 4)).loops, l.a = bits (loopCmdVal 1 c) 51 5 ∧ l.b = bits (loopCmdVal 1 c) 46 5 :=
  does_loop (P := fun x => ∃ l ∈ x.loops, l.a = bits (loopCmdVal 1 c) 51 5 ∧ l.b = bits (loopCmdVal 1 c) 46 5) rfl (by decide)
    fun _ _ ha h => loopDone_set h ha

theorem chuteLoopClear_does (c : Cmd) (s : State) :
    Does (.chuteLoopClear c) Dx.WRITE (loopCmd 2 c) s (fun v => c.body.length = 8 ∧ (loopDone (loopCmdVal 2 c) v).isSome = true)
      fun _ u a => a = answerDone
        ∧ ∀ l ∈ (wingOf u (bits (loopCmdVal 2 c) 56 4)).loops, ¬ (l.a = bits (loopCmdVal 2 c) 51 5 ∧ l.b = bits (loopCmdVal 2 c) 46 5) :=
  does_loop (P := fun x => ∀ l ∈ x.loops, ¬ (l.a = bits (loopCmdVal 2 c) 51 5 ∧ l.b = bits (loopCmdVal 2 c) 46 5)) rfl (by decide)
    fun _ _ ha h => loopDone_clear h ha

/-! ### Ports (R135) -/

theorem ownerRefuses_portConfig {s : State} {off tick : Nat} {v : Bytes}
    (h : ((writeRecs (entryRow E.PORT_CONFIG) off v).find? fun x => recordRefused s E.PORT_CONFIG x.1 x.2) = none) :
    ownerRefuses s (entryRow E.PORT_CONFIG) off tick v = none := by
  have ht : scalarType (entryRow E.PORT_CONFIG).ty = false := rfl
  have hi : (entryRow E.PORT_CONFIG).id = E.PORT_CONFIG := rfl
  rw [ownerRefuses, ht, hi, h]
  rfl

theorem portConfig_does (c : Cmd) (s : State) :
    Does (.portConfig c) Dx.WRITE (onEntry E.PORT_CONFIG c) s
      (fun v => v.dx.pending.length < 1024
        ∧ ((writeRecs (entryRow E.PORT_CONFIG) (cmdOff c) (dxValue Dx.WRITE (onEntry E.PORT_CONFIG c))).find? fun x =>
            recordRefused v E.PORT_CONFIG x.1 x.2) = none)
      (WaitsItsTick Dx.WRITE (onEntry E.PORT_CONFIG c)) :=
  does_atTick rfl (.inl rfl) (entry_onEntry (by decide) c) rfl rfl rfl (by decide) (fun _ ⟨_, h⟩ => ownerRefuses_portConfig h) fun _ ⟨h, _⟩ => h

/-! ### The power request (R427 to R429) -/

/-- A write of `PS_REQUEST` with value `n`, as the rows take it. -/
def powerCmd (n : Nat) (c : Cmd) : Cmd := withByte Dx.WRITE 1 0 (fun _ => n) (onEntry E.PS_REQUEST c)

theorem beNat_powerCmd {n : Nat} {c : Cmd} (h : c.body.length = 1) (hn : n < 256) : beNat (dxValue Dx.WRITE (powerCmd n c)) = n := by
  rw [powerCmd, dxValue_oneByte (by decide) rfl h]
  simpa [beNat] using hn

theorem ownerRefuses_psRequest {s : State} {off tick : Nat} {v : Bytes} (h : beNat v = 2 → restRefusal s = none) :
    ownerRefuses s (entryRow E.PS_REQUEST) off tick v = none := by
  rw [ownerRefuses_scalar rfl (by decide), scalarRefused_psRequest, if_neg]
  intro hr
  simp only [Bool.and_eq_true, beq_iff_eq] at hr
  simp [h hr.1] at hr

section
variable {c : Cmd} {off tick : Nat} {v : Bytes} {s : State}

/-- A request that does not wake the part waits for its boundary. -/
theorem takeWrite_psRequest_waits (hr : beNat v = 2 → restRefusal s = none) (hw : s.hl.power = .rest → 2 ≤ beNat v)
    (hl : s.dx.pending.length < 1024) :
    takeWrite c (entryRow E.PS_REQUEST) off tick v false s = (pend (entryRow E.PS_REQUEST) c.session.toNat off tick v s, answerDone) := by
  have hc : commandEntry (entryRow E.PS_REQUEST).id = false := rfl
  have hf : (entryRow E.PS_REQUEST).eff = 2 := rfl
  have hk : wakesNow s (entryRow E.PS_REQUEST).id v = false := by
    rw [Bool.eq_false_iff]
    intro h
    simp only [wakesNow, Bool.and_eq_true, beq_iff_eq, decide_eq_true_eq] at h
    exact absurd (hw h.1.2) (by omega)
  unfold takeWrite
  simp [hc, hf, ownerRefuses_psRequest hr, hk, Nat.not_le.2 hl]

/-- A request of Active or Trim in Rest takes effect at once. -/
theorem takeWrite_psRequest_wakes (hp : s.hl.power = .rest) (hn : beNat v < 2) :
    takeWrite c (entryRow E.PS_REQUEST) off tick v false s = (requestSet (beNat v) s, answerDone) := by
  have hc : commandEntry (entryRow E.PS_REQUEST).id = false := rfl
  have hf : (entryRow E.PS_REQUEST).eff = 2 := rfl
  have hi : (entryRow E.PS_REQUEST).id = E.PS_REQUEST := rfl
  have hk : wakesNow s (entryRow E.PS_REQUEST).id v = true := by simp [wakesNow, hi, hp, hn]
  have hv : valueEffect (entryRow E.PS_REQUEST) off v s = requestSet (beNat v) s := by
    simp only [valueEffect, hi]; rfl
  unfold takeWrite
  rw [hc, ownerRefuses_psRequest (fun h => by omega), hk, hv]
  rfl
end

theorem setPower_hl (p : PowerSt) (s : State) : (setPower p s).hl.power = p ∧ (setPower p s).hl.wakeCause = s.hl.wakeCause := by
  unfold setPower; split
  · exact ⟨by assumption, rfl⟩
  · simp

theorem getNum_setPower {e : Nat} (he : reportCounter e = false) (p : PowerSt) (s : State) (d : Nat) :
    getNum (setPower p s) e d = getNum s e d := by
  unfold setPower; split
  · rfl
  · rw [getNum_raise he]; rfl

/-- Nothing but an entry to Rest holds a wake back. -/
theorem wakeNow_wakes {k : Nat} {s : State} (hp : s.hl.power = .rest) (he : s.hl.entering = false) :
    wakeNow k s = setPower .waking { s with hl := { s.hl with wakeCause := k, wakeStart := now s, wakeAfter := none } } := by
  simp [wakeNow, hp, he]

theorem requestSet_wakes {n : Nat} {s : State} (hn : n < 2) (hp : s.hl.power = .rest) (he : s.hl.entering = false) :
    (requestSet n s).hl.power = .waking ∧ (requestSet n s).hl.wakeCause = 2 ∧ Cfg.PS_REQUEST (requestSet n s) = n := by
  simp only [requestSet]
  rw [if_pos hn, powerEffect, if_pos (by simpa using hp), wakeNow_wakes (by simpa using hp) (by simpa using he)]
  obtain ⟨h1, h2⟩ := setPower_hl .waking
    { setNum E.PS_REQUEST n s with hl := { s.hl with restTick := s.hl.restTick.filter (s.clk.tick < ·), wakeCause := 2, wakeStart := now s, wakeAfter := none } }
  refine ⟨h1, h2, ?_⟩
  rw [Cfg.PS_REQUEST, getNum_setPower (by decide)]
  exact getNum_setNum_self _ _ _ _

theorem setSync_dx_pending (n : SyncSt) (r : Nat) (s : State) : (setSync n r s).dx.pending = s.dx.pending := by
  unfold setSync; split
  · rfl
  · rw [raise_dx_pending]

theorem setSync_hl_restTick (n : SyncSt) (r : Nat) (s : State) : (setSync n r s).hl.restTick = s.hl.restTick := by
  unfold setSync; split
  · rfl
  · rw [raise_hl_restTick]

/-- A request of Rest is accepted for its tick, and leaves the waiting writes. -/
theorem restAccept_keeps (tick : Nat) (s : State) :
    (restAccept tick s).dx.pending = s.dx.pending ∧ (restAccept tick s).hl.restTick = some tick := by
  unfold restAccept
  dsimp only
  split
  · rw [withdrawAccept, setSync_dx_pending, setSync_hl_restTick, raise_dx_pending, raise_hl_restTick]
    exact ⟨rfl, rfl⟩
  · split
    · rw [setSync_dx_pending, setSync_hl_restTick]
      exact ⟨rfl, rfl⟩
    · exact ⟨rfl, rfl⟩

theorem pend_psRequest (session off tick : Nat) (v : Bytes) (s : State) :
    (pend (entryRow E.PS_REQUEST) session off tick v s).dx.pending
        = s.dx.pending ++ [{ entry := E.PS_REQUEST, session := session, tick := some tick, offset := off, body := v }]
      ∧ (beNat v = 2 → (pend (entryRow E.PS_REQUEST) session off tick v s).hl.restTick = some tick) := by
  have hi : (entryRow E.PS_REQUEST).id = E.PS_REQUEST := rfl
  have hf : (entryRow E.PS_REQUEST).eff = 2 := rfl
  have hs : ¬ E.PS_REQUEST = E.TT_VARIANT_SELECT := by decide
  by_cases hr : beNat v = 2
  · simp [pend, hi, hf, hr, restAccept_keeps]
  · simp [pend, hi, hf, hr, hs]

theorem row_powerCmd (n : Nat) (c : Cmd) : entryRow (powerCmd n c).entry.toNat = entryRow E.PS_REQUEST := row_withByte (by decide) _ _ _ _ c

section
variable {i : Instr} {n : Nat} {c : Cmd} {s : State} {H : State → Prop}

theorem does_powerWaits (hx : exec i s = cmdRow Dx.WRITE (powerCmd n c) s) (hn : n < 256)
    (hb : ∀ v, H v → c.body.length = 1) (hr : ∀ v, H v → n = 2 → restRefusal v = none)
    (hw : ∀ v, H v → v.hl.power = .rest → 2 ≤ n) (hl : ∀ v, H v → v.dx.pending.length < 1024) :
    Does i Dx.WRITE (powerCmd n c) s H fun v u a =>
      WaitsItsTick Dx.WRITE (powerCmd n c) v u a ∧ (n = 2 → u.hl.restTick = some (cmdTick (powerCmd n c))) := by
  refine does_of_effect hx fun v hv => ?_
  have hval := beNat_powerCmd (hb v hv) hn
  rw [dxEffect_write (.inl rfl), row_powerCmd,
    takeWrite_psRequest_waits (by rw [hval]; exact hr v hv) (by rw [hval]; exact hw v hv) (hl v hv)]
  obtain ⟨hp, ht⟩ := pend_psRequest (powerCmd n c).session.toNat (cmdOff (powerCmd n c)) (cmdTick (powerCmd n c)) (dxValue Dx.WRITE (powerCmd n c)) v
  refine ⟨⟨rfl, ?_⟩, fun h => ht (hval.trans h)⟩
  rw [hp, show (powerCmd n c).entry.toNat = E.PS_REQUEST from entry_withByte_onEntry (by decide) _ _ _ _ c]
  rfl

theorem does_powerWakes (hx : exec i s = cmdRow Dx.WRITE (powerCmd n c) s) (hn : n < 2) :
    Does i Dx.WRITE (powerCmd n c) s (fun v => c.body.length = 1 ∧ v.hl.power = .rest ∧ v.hl.entering = false)
      fun _ u a => (a = answerDone ∧ u.hl.power = .waking ∧ u.hl.wakeCause = 2) ∧ Cfg.PS_REQUEST u = n := by
  refine does_of_effect hx fun v ⟨hb, hp, he⟩ => ?_
  have hval := beNat_powerCmd (n := n) hb (by omega)
  rw [dxEffect_write (.inl rfl), row_powerCmd, takeWrite_psRequest_wakes hp (by rwa [hval]), hval]
  obtain ⟨h1, h2, h3⟩ := requestSet_wakes hn hp he
  exact ⟨⟨rfl, h1, h2⟩, h3⟩
end

theorem Does.imp {i : Instr} {op : Nat} {c : Cmd} {s : State} {H : State → Prop} {P Q : State → State → Answer → Prop}
    (h : Does i op c s H P) (k : ∀ v u a, P v u a → Q v u a) : Does i op c s H Q := fun ha hh => by
  obtain ⟨u, a, hx, hp⟩ := h ha hh
  exact ⟨u, a, hx, k _ u a hp⟩

/-- A request of Active or Trim outside Rest. -/
theorem does_powerUp {i : Instr} {n : Nat} {c : Cmd} {s : State} (hx : exec i s = cmdRow Dx.WRITE (powerCmd n c) s) (hn : n < 2) :
    Does i Dx.WRITE (powerCmd n c) s (fun v => c.body.length = 1 ∧ v.hl.power ≠ .rest ∧ v.dx.pending.length < 1024)
      (WaitsItsTick Dx.WRITE (powerCmd n c)) :=
  (does_powerWaits hx (by omega) (fun _ ⟨hb, _⟩ => hb) (fun _ _ h => by omega) (fun _ ⟨_, hp, _⟩ h => absurd h hp) fun _ ⟨_, _, hl⟩ => hl).imp
    fun _ _ _ h => h.1

theorem psRequestRest_does (c : Cmd) (s : State) :
    Does (.psRequestRest c) Dx.WRITE (powerCmd 2 c) s (fun v => c.body.length = 1 ∧ restRefusal v = none ∧ v.dx.pending.length < 1024)
      fun v u a => WaitsItsTick Dx.WRITE (powerCmd 2 c) v u a ∧ u.hl.restTick = some (cmdTick c) :=
  (does_powerWaits rfl (by decide) (fun _ ⟨hb, _⟩ => hb) (fun _ ⟨_, hr, _⟩ _ => hr) (fun _ _ _ => le_refl 2) fun _ ⟨_, _, hl⟩ => hl).imp
    fun _ _ _ ⟨hw, ht⟩ => ⟨hw, (ht rfl).trans (congrArg some (tick_withByte ..))⟩

/-! ### Inputs, causes and certificates (R432, R433, R439) -/

theorem withPins_hl (f : State → State) (s : State) : (withPins f s).hl = (f s).hl := by
  refine foldl_keeps (fun t => t.hl) _ (fun t p => ?_) _ _
  split
  · rfl
  · exact emit_hl _ t

theorem diActs_di (d : Nat) (s : State) : (diActs d s).hl.di = s.hl.di := by
  unfold diActs; split
  · unfold wakeNow; split
    · rfl
    · split
      · rfl
      · unfold setPower; split
        · rfl
        · rw [raise_hl_di]
  · split
    · rw [raise_hl_di]
    · rfl

/-- One masked input's turn of an unmasking. -/
def diUnmaskOne (s : State) (d : Nat) : State :=
  let x := diOf s d
  let s := setDi d { x with masked := false, edges := [], since := if x.filtered then some (now s) else none } s
  if x.filtered then diActs d s else s

theorem diUnmask_eq (m : Nat) (s : State) :
    diUnmask m s = ((List.range 7).filter fun d => bit m d && (diOf s d).masked).foldl diUnmaskOne s := rfl

/-- It unmasks its own input, and no input's mask comes back. -/
theorem diUnmaskOne_masked (s : State) (d e : Nat) :
    (diOf (diUnmaskOne s d) e).masked = if e = d then false else (diOf s e).masked := by
  have h : (diUnmaskOne s d).hl.di = (setDi d { diOf s d with
      masked := false, edges := [], since := if (diOf s d).filtered then some (now s) else none } s).hl.di := by
    simp only [diUnmaskOne]; split
    · exact diActs_di _ _
    · rfl
  rw [diOf, h, setDi]
  by_cases he : e = d
  · rw [if_pos he, he]
    exact congrArg DiState.masked (getD_set_self _ _ _ _)
  · rw [if_neg he]
    exact congrArg DiState.masked (getD_set_ne _ _ _ he)

theorem masked_foldl_diUnmaskOne (l : List Nat) (s : State) (e : Nat) (h : (diOf s e).masked = true → e ∈ l) :
    (diOf (l.foldl diUnmaskOne s) e).masked = false := by
  induction l generalizing s with
  | nil => simpa using h
  | cons d l ih =>
    refine ih _ fun hm => ?_
    rw [diUnmaskOne_masked] at hm
    split at hm
    · cases hm
    · rename_i he
      exact (List.mem_cons.1 (h hm)).resolve_left he

theorem diUnmask_masked (m : Nat) (s : State) {d : Nat} (hd : d < 7) (hm : bit m d = true) : (diOf (diUnmask m s) d).masked = false := by
  rw [diUnmask_eq]
  exact masked_foldl_diUnmaskOne _ s d fun h => List.mem_filter.2 ⟨List.mem_range.2 hd, by simp [hm, h]⟩

theorem hlDiUnmask_does (c : Cmd) (s : State) :
    Does (.hlDiUnmask c) Dx.WRITE (onEntry E.HL_DI_UNMASK c) s (fun _ => True)
      fun _ u a => a = answerDone ∧ ∀ d, d < 7 → bit (beNat (dxValue Dx.WRITE (onEntry E.HL_DI_UNMASK c))) d = true → (diOf u d).masked = false := by
  refine does_command rfl (.inl rfl) (row_onEntry (by decide) c) rfl fun v _ => ?_
  rw [commandEffect_hlDiUnmask]
  refine ⟨rfl, fun d hd hm => ?_⟩
  dsimp only
  rw [diOf, withPins_hl]
  exact diUnmask_masked _ v hd hm

theorem hlFaultClear_does (c : Cmd) (s : State) :
    Does (.hlFaultClear c) Dx.WRITE (onEntry E.HL_FAULT_CLEAR c) s (fun _ => True)
      fun v u a => a = answerDone ∧ u.hl.faultCause = clearBits v.hl.faultCause (beNat (dxValue Dx.WRITE (onEntry E.HL_FAULT_CLEAR c)))
        ||| (faultNow v &&& beNat (dxValue Dx.WRITE (onEntry E.HL_FAULT_CLEAR c))) := by
  refine does_command rfl (.inl rfl) (row_onEntry (by decide) c) rfl fun v _ => ?_
  rw [commandEffect_hlFaultClear, faultClear, withPins_hl]
  exact ⟨rfl, rfl⟩

theorem hlAttnClear_does (c : Cmd) (s : State) :
    Does (.hlAttnClear c) Dx.WRITE (onEntry E.HL_ATTN_CLEAR c) s (fun _ => True)
      fun v u a => a = answerDone ∧ u.hl.attnCause = clearBits v.hl.attnCause (beNat (dxValue Dx.WRITE (onEntry E.HL_ATTN_CLEAR c)))
        ||| (attnNow v &&& beNat (dxValue Dx.WRITE (onEntry E.HL_ATTN_CLEAR c))) := by
  refine does_command rfl (.inl rfl) (row_onEntry (by decide) c) rfl fun v _ => ?_
  rw [commandEffect_hlAttnClear, attnClear, withPins_hl]
  exact ⟨rfl, rfl⟩

/-- The certificate that a record of `HL_CERT_SUBMIT` spells: its boundary, or the next tick where that is past. -/
def certOf (b : Bytes) (s : State) : Cert :=
  { expel := beAt b 4 1 == 1, fa := beAt b 5 3, num := beAt b 8 4,
    tick := if beAt b 16 8 ≤ s.clk.tick then s.clk.tick + 1 else beAt b 16 8 }

/-- What an accepted record leaves before its event: its counter, the certificate and its fence. -/
def certKept (b : Bytes) (s : State) : State :=
  { setNum E.HL_CERT_COUNTER (beAt b 8 4) (count E.SE_CERT_SIG_FAILED (certCount s b).2 s) with
    hl := { s.hl with
      certs := s.hl.certs ++ [certOf b s]
      fences := if (certOf b s).expel then s.hl.fences ++ [certOf b s] else s.hl.fences } }

theorem certSubmit_accepts {b : Bytes} {s : State} (hf : certForm b = true) (hq : s.se.quorum ≤ (certCount s b).1)
    (hn : getNum s E.HL_CERT_COUNTER 0 < beAt b 8 4) (hp : beAt b 5 3 ≠ posFa s) (ht : beAt b 16 8 ≤ s.clk.tick + 2 ^ 20)
    (hk : beAt b 4 1 = 1 → s.hl.fences.length < 1024) :
    certSubmit b s = (raise Ev.HL_CERT_ACCEPTED
      [.u8 (beAt b 4 1), .u32 (beAt b 5 3), .u32 (beAt b 8 4), .idx (certOf b s).tick] (certKept b s), true) := by
  have hcount (n : Nat) : getNum (count E.SE_CERT_SIG_FAILED n s) E.HL_CERT_COUNTER 0 = getNum s E.HL_CERT_COUNTER 0 :=
    getNum_count_ne _ _ _ (by decide)
  have hfa (n : Nat) : posFa (count E.SE_CERT_SIG_FAILED n s) = posFa s :=
    congrArg (· % 2 ^ 24) (getNum_count_ne (e := E.SE_CERT_SIG_FAILED) (f := E.RP_POSITION_FA) n 0 s (by decide))
  have hroom : ¬ (beAt b 4 1 = 1 && s.hl.fences.length ≥ 1024) = true := by
    simpa using hk
  rw [certSubmit, if_neg (by simp [hf])]
  dsimp only
  rw [hcount, hfa, count_se, count_clk, count_hl, if_neg (Nat.not_lt.2 hq), if_neg (Nat.not_le.2 hn), if_neg hp, if_neg (Nat.not_lt.2 ht), if_neg hroom]
  rfl

theorem hlCertSubmit_does (c : Cmd) (s : State) :
    Does (.hlCertSubmit c) Dx.WRITE (onEntry E.HL_CERT_SUBMIT c) s
      (fun v => certForm c.body = true ∧ v.se.quorum ≤ (certCount v c.body).1 ∧ getNum v E.HL_CERT_COUNTER 0 < beAt c.body 8 4
        ∧ beAt c.body 5 3 ≠ posFa v ∧ beAt c.body 16 8 ≤ v.clk.tick + 2 ^ 20 ∧ (beAt c.body 4 1 = 1 → v.hl.fences.length < 1024))
      fun v u a => a = answerDone ∧ getNum u E.HL_CERT_COUNTER 0 = beAt c.body 8 4 ∧ u.hl.certs = v.hl.certs ++ [certOf c.body v]
        ∧ u.hl.fences = if (certOf c.body v).expel then v.hl.fences ++ [certOf c.body v] else v.hl.fences := by
  have hb : dxValue Dx.WRITE (onEntry E.HL_CERT_SUBMIT c) = c.body := dxValue_onEntry (by decide) (.inl rfl) rfl rfl c
  refine does_command rfl (.inl rfl) (row_onEntry (by decide) c) rfl fun v ⟨hf, hq, hn, hp, ht, hk⟩ => ?_
  rw [hb, commandEffect_hlCertSubmit, certSubmit_accepts hf hq hn hp ht hk]
  refine ⟨rfl, ?_, raise_hl_certs _ _ _, raise_hl_fences _ _ _⟩
  dsimp only
  rw [getNum_raise (by decide)]
  exact getNum_setNum_self _ _ _ _

/-! ### The moth (R510, R522) -/

theorem tmClear_does {i : Instr} {n : Nat} {c : Cmd} {s : State}
    (hx : exec i s = cmdRow Dx.WRITE (withByte Dx.WRITE 1 0 (fun b => b ||| n) (onEntry E.TM_CLEAR c)) s) :
    Does i Dx.WRITE (withByte Dx.WRITE 1 0 (fun b => b ||| n) (onEntry E.TM_CLEAR c)) s
      (fun v => c.body.length = 1 ∧ v.dx.pending.length < 1024)
      (WaitsItsTick Dx.WRITE (withByte Dx.WRITE 1 0 (fun b => b ||| n) (onEntry E.TM_CLEAR c))) :=
  does_atTick hx (.inl rfl) (entry_withByte_onEntry (by decide) _ _ _ _ c) rfl rfl rfl (by decide)
    (fun v _ => by rw [ownerRefuses_scalar rfl (by decide), scalarRefused_tmClear]; rfl) fun _ ⟨_, h⟩ => h

theorem tmLatchNow_does (c : Cmd) (s : State) :
    Does (.tmLatchNow c) Dx.WRITE (onEntry E.TM_LATCH_NOW c) s (fun v => v.dx.pending.length < 1024)
      (WaitsItsTick Dx.WRITE (onEntry E.TM_LATCH_NOW c)) :=
  does_atTick rfl (.inl rfl) (entry_onEntry (by decide) c) rfl rfl rfl (by decide)
    (fun v _ => by rw [ownerRefuses_scalar rfl (by decide), scalarRefused_tmLatchNow]; rfl) fun _ h => h

theorem tmCaptureRestart_does (c : Cmd) (s : State) :
    Does (.tmCaptureRestart c) Dx.WRITE (onEntry E.TM_CAPTURE_RESTART c) s
      (fun _ => beNat (dxValue Dx.WRITE (onEntry E.TM_CAPTURE_RESTART c)) = 1)
      fun _ u a => a = answerDone ∧ u.tm.captures = [] ∧ u.tm.captureLen = 0 ∧ u.tm.full = false := by
  refine does_command rfl (.inl rfl) (row_onEntry (by decide) c) rfl fun v h1 => ?_
  rw [commandEffect_tmCaptureRestart, if_pos h1]
  exact ⟨rfl, rfl, rfl, rfl⟩

/-! ### Strata tests (R542) -/

theorem bankTestNow_underTest {k b : Nat} {s : State} (h : bankTestable s k b = true) :
    (bankOf (bankTestNow k b s) (bankKey k b)).state = .underTest := by
  rw [bankTestNow, if_pos h]
  exact congrArg Bank.state (getD_set_self _ _ _ _)

/-- A bank that may be tested on an idle stack is not refused. -/
theorem ownerRefuses_biStrataTestNow {s : State} {off tick : Nat} {v : Bytes} (ht : bankTestable s (beNat v / 256) (beNat v % 256) = true)
    (hb : bankBusy (beNat v / 256) s = false) : ownerRefuses s (entryRow E.BI_STRATA_TEST_NOW) off tick v = none := by
  have hr : scalarRefused s (entryRow E.BI_STRATA_TEST_NOW).id (beNat v) tick = false := by
    rw [scalarRefused_biStrataTestNow]
    simp only [bankTestable, Bool.and_eq_true, Bool.or_eq_true, beq_iff_eq] at ht
    obtain ⟨⟨-, h⟩, -⟩ := ht
    rcases h with h | h <;> rw [h] <;> rfl
  have hy : scalarType (entryRow E.BI_STRATA_TEST_NOW).ty = true := by rw [row_biStrataTestNow]; rfl
  simp [ownerRefuses, hy, hr, hb]

theorem biStrataTestNow_does (c : Cmd) (s : State) :
    Does (.biStrataTestNow c) Dx.WRITE (onEntry E.BI_STRATA_TEST_NOW c) s
      (fun v => bankTestable v (beNat (dxValue Dx.WRITE (onEntry E.BI_STRATA_TEST_NOW c)) / 256)
            (beNat (dxValue Dx.WRITE (onEntry E.BI_STRATA_TEST_NOW c)) % 256) = true
        ∧ bankBusy (beNat (dxValue Dx.WRITE (onEntry E.BI_STRATA_TEST_NOW c)) / 256) v = false)
      fun _ u a => a = answerDone ∧ (bankOf u (bankKey (beNat (dxValue Dx.WRITE (onEntry E.BI_STRATA_TEST_NOW c)) / 256)
          (beNat (dxValue Dx.WRITE (onEntry E.BI_STRATA_TEST_NOW c)) % 256))).state = .underTest := by
  have hc : commandEntry (entryRow E.BI_STRATA_TEST_NOW).id = true := by rw [row_biStrataTestNow]; rfl
  refine does_command rfl (.inl rfl) (row_onEntry (by decide) c) hc fun v ⟨ht, hb⟩ => ?_
  rw [commandEffect_biStrataTestNow _ _ _ _ (ownerRefuses_biStrataTestNow ht hb)]
  exact ⟨rfl, bankTestNow_underTest ht⟩

/-- Settles O26: one theorem per row, from what a write of its entry comes to. -/
theorem deviceCommands : Obligations.DeviceCommands :=
  ⟨laneCommandMove_does, laneCommandReturn_does, opElsReplacePrepare_does, chuteLoopSet_does, chuteLoopClear_does, portConfig_does,
    fun _ _ => does_powerUp rfl (by decide), fun _ _ => does_powerUp rfl (by decide), fun _ _ => does_powerWakes rfl (by decide),
    fun _ _ => does_powerWakes rfl (by decide), psRequestRest_does, hlDiUnmask_does, hlFaultClear_does, hlAttnClear_does, hlCertSubmit_does,
    fun _ _ => tmClear_does rfl, fun _ _ => tmClear_does rfl, tmLatchNow_does, tmCaptureRestart_does, biStrataTestNow_does⟩

end Sys2Proof.Machine
end

section
/-! What the end of a session, an answer and a slot that no row stands for leave as they are (R388 to R397, R406, R411). -/
namespace Sys2Proof.Machine
open Sys2Proof

section
variable {l : List Part}

/-- What changes only parts of one list changes only parts of a longer one. -/
theorem Only.mono {m : List Part} {s t : State} (h : Only l s t) (hm : l ⊆ m) : Only m s t := fun g hg => h g fun k => hg (hm k)

/-! ### One field of the state -/

theorem only_held (a : List Session) (b : SMap Nat) (c : List Xfer) (d : List Snap) (e : List Sub) (s : State) (hs : .sessions ∈ l) :
    Only l s { s with dx := { s.dx with sessions := a, owners := b, xfers := c, snaps := d, subs := e } } := fun g hg => by
  have k := Part.same_refl g s
  cases g with
  | sessions => exact absurd hs hg
  | _ => exact k

theorem only_slots (x : List (Nat × Nat × Cmd)) (s : State) (hl : .slots ∈ l) : Only l s { s with dx := { s.dx with fetched := x } } :=
  fun g hg => by
    have k := Part.same_refl g s
    cases g with
    | slots => exact absurd hl hg
    | _ => exact k

theorem only_se (x : SeState) (s : State) (he : .security ∈ l) : Only l s { s with se := x } := fun g hg => by
  have k := Part.same_refl g s
  cases g with
  | security => exact absurd he hg
  | _ => exact k

theorem only_setSession (n : Nat) (f : Session → Session) (s : State) (hs : .sessions ∈ l) : Only l s (setSession n f s) :=
  only_held _ _ _ _ _ s hs

end

/-! ### The end of a transfer and of a session (R392, R397, R411) -/

/-- What the end of a transfer may change: an image that was being received goes with it. -/
def abortParts : List Part := [.sessions, .time, .timetable]

theorem only_ttAborted (s : State) : Only abortParts s (ttAborted s) :=
  ((only_tt _ s (by decide)).trans (only_nextGone _ _ (by decide) (by decide))).trans (only_raise _ _ _)

theorem only_xferClose (x : Xfer) (n : Nat) (s : State) : Only abortParts s (xferClose x n s) :=
  (only_held _ _ _ _ _ s (by decide)).trans (only_raise _ _ _)

theorem only_xferAbort (x : Xfer) (s : State) : Only abortParts s (xferAbort x s) :=
  (only_xferClose x 3 s).trans (only_ite (only_ttAborted _) (Only.refl _))

theorem only_dictRest (s : State) : Only (.waiting :: abortParts) s (dictRest s) := by
  have aborted := (only_foldl (fun s x => only_xferAbort x s) s.dx.xfers s).mono (List.subset_cons_self .waiting abortParts)
  have dropped : ∀ s p, Only (.waiting :: abortParts) s { s with dx := { s.dx with snaps := [], pending := p } } := fun s p =>
    (only_waiting p s (by decide)).trans (only_held s.dx.sessions s.dx.owners s.dx.xfers [] s.dx.subs _ (by decide))
  exact (aborted.trans (dropped _ _)).trans (only_count (setting_of_counter (by decide)) _ _)

/-- What the end of a session may change. -/
def endParts : List Part := .security :: abortParts

theorem only_setOwner (a n c : Nat) (s : State) : Only endParts s (setOwner a n c s) :=
  only_ite (Only.refl s) ((only_held _ _ _ _ _ s (by decide)).trans (only_raise _ _ _))

/-- A session is taken off the lists, with its snapshots, subscriptions and reports. -/
def sessionTaken (n : Nat) (s : State) : State :=
  { s with
    dx := { s.dx with
      sessions := s.dx.sessions.filter fun y => y.num != n
      snaps := s.dx.snaps.filter fun y => y.session != n
      subs := s.dx.subs.filter fun y => y.session != n }
    se := { s.se with reports := s.se.reports.filter fun r => r.1 != n } }

theorem only_sessionTaken (n : Nat) (s : State) : Only endParts s (sessionTaken n s) := fun g hg => by
  have k := Part.same_refl g s
  cases g with
  | sessions => exact absurd (by decide) hg
  | security => exact absurd (by decide) hg
  | _ => exact k

theorem only_sessionEnd (n c : Nat) (s : State) : Only endParts s (sessionEnd n c s) := by
  unfold sessionEnd
  split
  · exact Only.refl s
  · refine Only.trans ?_ (only_raise _ _ _)
    exact ((only_foldl (fun s t => (only_xferAbort t s).mono (List.subset_cons_self _ _)) _ s).trans (only_foldl (fun s a => only_setOwner a 0 4 s) _ _)).trans
      (only_sessionTaken n _)

theorem only_leasesLapse (s : State) : Only endParts s (leasesLapse s) := only_foldl (fun s n => only_sessionEnd n 3 s) _ s

theorem only_allSessionsEnd (s : State) : Only endParts s (allSessionsEnd s) := only_foldl (fun s n => only_sessionEnd n 4 s) _ s

/-! ### Answers (R387, R390) -/

/-- What an answer may change: it is kept for retries, and written to a host or sent as a packet. -/
def answerParts : List Part := [.captures, .hosts, .links, .queues, .sessions, .time, .tables]

theorem only_respond (op : Nat) (c : Cmd) (a : Answer) (s : State) : Only answerParts s (respond op c a s) := by
  refine only_ite (Only.refl s) (Only.trans ?_
    (deliver_only _ _ (by decide) (by decide) (by decide) (by decide) (by decide) (by decide)))
  exact (Only.refl s).step_if (only_setSession _ _ s (by decide))

/-! ### Op codes that no row stands for (R386, R406) -/

/-- What such a command may change: the leases that have lapsed end, and it is answered. -/
def strayParts : List Part := [.captures, .hosts, .links, .queues, .security, .sessions, .time, .timetable, .tables]

/-- A header with an op code outside R386 fails step 2 of R388. -/
theorem headerBad_of_stray {op : Nat} (h : op < 256) (hs : (1 ≤ op && op ≤ 7) = false) (c : Cmd) : headerBad op c = true := by
  have away : ∀ n, (1 ≤ n ∧ n ≤ 7) ∨ 256 ≤ n → op ≠ n := by
    have : ¬ (1 ≤ op ∧ op ≤ 7) := by simpa using hs
    omega
  have refused : operandOk op c = false := by
    unfold operandOk
    rw [if_neg (away _ (by decide)), if_neg (away _ (by decide)), if_neg (away _ (by decide)), if_neg (away _ (by decide)),
      if_neg (away _ (by decide)), if_neg (away _ (by decide))]
    have hw : (op == Dx.WRITE) = false := beq_false_of_ne (away _ (by decide))
    have hg : (op == Dx.SIGNED_WRITE) = false := beq_false_of_ne (away _ (by decide))
    rw [hw, hg]
    rfl
  simp [headerBad, refused]

theorem only_dxJudge_stray {op : Nat} (h : op < 256) (hs : (1 ≤ op && op ≤ 7) = false) (full : Bool) (c : Cmd) (s : State) :
    Only strayParts s (dxJudge full op c s) := by
  have lapsed := (only_leasesLapse s).mono (m := strayParts) (by decide)
  have answered : ∀ a t, Only strayParts t (respond op c a t) := fun a t => (only_respond op c a t).mono (by decide)
  unfold dxJudge
  dsimp only
  rw [if_pos (headerBad_of_stray h hs c)]
  exact lapsed.trans (only_ite ((only_raiseOnce _ _ _ _).trans (answered _ _)) (answered _ _))

theorem only_dxTake_stray {op : Nat} (h : op < 256) (hs : (1 ≤ op && op ≤ 7) = false) (c : Cmd) (s : State) :
    Only strayParts s (dxTake op c s) := by
  unfold dxTake
  refine (only_count (e := E.DX_COMMANDS) (by decide +kernel) 1 s).trans ?_
  dsimp only
  split
  · exact only_ite (only_dxJudge_stray h hs _ _ _) (only_setSession _ _ _ (by decide))
  · exact only_dxJudge_stray h hs _ _ _

theorem parseCmd_op_lt (src : Source) (bs : Bytes) : (parseCmd src bs).1 < 256 := Nat.mod_lt _ (by decide)

/-! ### Slots at the head of a host's queue (R406) -/

/-- What acting on a host's slots may change. -/
def slotParts : List Part := [.captures, .hosts, .links, .queues, .security, .sessions, .slots, .time, .timetable, .tables]

/-- The slots that have been read hold op codes of one byte. -/
def ByteOps (s : State) : Prop := ∀ x ∈ s.dx.fetched, x.2.1 < 256

theorem ByteOps.of_subset {s t : State} (h : ByteOps s) (hs : t.dx.fetched ⊆ s.dx.fetched) : ByteOps t := fun x hx => h x (hs hx)

/-- What does not touch the slots leaves their op codes. -/
theorem ByteOps.of_only {l : List Part} {s t : State} (h : ByteOps s) (ho : Only l s t) (hl : .slots ∉ l) : ByteOps t :=
  h.of_subset (ho .slots hl ▸ List.Subset.refl _)

theorem byteOps_slotTaken {s : State} (h : ByteOps s) (n : Nat) (x : Nat × Nat × Cmd) : ByteOps (slotTaken n x s) :=
  h.of_subset (List.erase_subset)

theorem only_slotTaken (n : Nat) (x : Nat × Nat × Cmd) (s : State) : Only slotParts s (slotTaken n x s) :=
  (only_slots _ s (by decide)).trans (only_hosts _ _ _ (by decide))

theorem only_queueStop (n : Nat) (s : State) : Only slotParts s (queueStop n s) :=
  (only_slots _ s (by decide)).trans (only_hosts _ _ _ (by decide))

theorem only_slotsJudge (h : HostPort) (n : Nat) {s : State} (ho : ByteOps s) : Only slotParts s (slotsJudge h n s) := by
  induction n generalizing s with
  | zero => exact Only.refl s
  | succ n ih =>
    unfold slotsJudge
    split
    · exact Only.refl s
    · next x r hx =>
      refine only_ite (only_queueStop _ s) ?_
      split
      · exact Only.refl s
      · next hn =>
        have hm : x ∈ s.dx.fetched := List.mem_of_mem_filter (hx ▸ List.mem_cons_self : x ∈ fetchedOf s h)
        have hop : (1 ≤ x.2.1 && x.2.1 ≤ 7) = false := by
          cases hb : (1 ≤ x.2.1 && x.2.1 ≤ 7)
          · rfl
          · exact absurd (by simp [hb]) hn
        have taken := only_dxTake_stray (ho x hm) hop x.2.2 (slotTaken h x s)
        exact ((only_slotTaken _ _ s).trans (taken.mono (by decide))).trans
          (ih ((byteOps_slotTaken ho _ _).of_only taken (by decide)))

theorem only_slotsGo (h : HostPort) {s : State} (ho : ByteOps s) : Only slotParts s (slotsGo h s) := only_slotsJudge h _ ho

end Sys2Proof.Machine
end

section
/-! What an arriving packet or cell leaves as it is: the service of the part, the ingress steps, ends of packets and cells (R128 to R134,
R143, R144, R155). -/
namespace Sys2Proof.Machine
open Sys2Proof

/-- What an arrival may change. -/
def arrivalParts : List Part := [.captures, .crusher, .health, .hosts, .inbox, .links, .optics, .queues, .repair, .security, .sessions,
  .shapers, .tables, .time, .timetable, .waiting]

/-! ### What the part takes for itself -/

theorem only_noteStamp (p : Nat) (k : Packet) (z : Int) (s : State) : Only arrivalParts s (noteStamp p k z s) :=
  only_ite (only_ft _ s (by decide)) (Only.refl s)

theorem only_service (p : Port) (k : Packet) (z : Int) (s : State) : Only arrivalParts s (service p k z s) := by
  have kept : Only arrivalParts s (toInbox p k s) := toInbox_only _ _ s (by decide)
  unfold service
  refine only_ite ?_ (only_ite ?_ (only_ite ?_ (only_ite ?_ (only_ite kept (Only.refl s)))))
  · dsimp only
    split
    · exact kept
    · next hn =>
      refine only_ite ((only_dxTake_stray (parseCmd_op_lt _ _) ?_ _ s).mono (by decide)) (Only.refl s)
      simpa using hn
  · exact only_ite ((only_noteStamp p k z s).trans (toInbox_only _ _ _ (by decide))) (Only.refl s)
  · exact only_ite kept (Only.refl s)
  · exact only_tally (by decide +kernel) _ _ _ _ s

theorem only_takeWhole (p : Port) (n id : Nat) (k : Packet) (z : Int) (s : State) : Only arrivalParts s (takeWhole p n id k z s) :=
  ((capTaken_only id s (by decide)).trans (only_freeCredit _ _ _ _ _ (by decide))).trans (only_service _ _ _ _)

theorem only_cutAdd (p n id : Nat) (k : Packet) (z : Int) (b : Bool) (s : State) : Only arrivalParts s (cutAdd p n id k z b s) :=
  only_dp _ s (by decide)

/-- The epoch of a control packet is heard. -/
theorem only_heard_arrival (p : Nat) (k : Packet) (s : State) : Only arrivalParts s (hearEpoch p k s) := (only_heard p k s).mono (by decide)

/-! ### Scheduled packets (steps 7 and 8) -/

theorem only_of_readWords {l : List Part} {d : Nat} {ws : List (TableKind × WordPlace)} {s t : State} {b : Bool}
    (h : readWords d ws s = (t, b)) (ht : .tables ∈ l) : Only l s t := by
  have := only_readWords d ws s ht
  rwa [h] at this

theorem only_scEnqueue (i : Image) (b : Binding) (id p n : Nat) (k : Packet) (s : State) : Only arrivalParts s (scEnqueue i b id p n k s) := by
  unfold scEnqueue
  refine only_ite ?_ ?_
  · exact ((breach_only (setting_of_counter (by decide)) _ _ _ s).trans (only_capDrop _ _ _ (by decide))).trans
      (only_packetDone _ _ (by decide) (by decide))
  · refine Only.trans ?_ (only_orderIdle _ _ (by decide))
    exact (((Only.refl s).step_if (countSpill_only _ _ _)).trans (only_capDepth _ _ _ _ (by decide))).trans (only_dp _ _ (by decide))

theorem only_scLose (id : Nat) (ps : List Nat) (s : State) : Only arrivalParts s (scLose id ps s) := by
  unfold scLose
  split
  · exact Only.refl s
  · exact (only_mcastLoss _ _ _ _ s (by decide)).trans (only_dp _ _ (by decide))

theorem only_scIngress (p n id : Nat) (k : Packet) (s : State) : Only arrivalParts s (scIngress p n id k s).1 := by
  have probed : Only arrivalParts s (countProbes (benchOf p) 2 (attrOf p k) s) := only_countProbes _ _ _ s (by decide)
  have dropped : ∀ c s, Only arrivalParts s (packetDone id (capDrop id c s)) := fun c s =>
    (only_capDrop id c s (by decide)).trans (only_packetDone _ _ (by decide) (by decide))
  have broke : ∀ {row : Nat} (s : State), setting (E.TT_BREACH_COUNT_00 + row) = false → ∀ c,
      Only arrivalParts s (packetDone id (capDrop id c (breach row (benchOf p) (attrOf p k) none s))) := fun s hr c =>
    (breach_only hr _ _ _ s).trans (dropped c _)
  unfold scIngress
  dsimp only
  split
  · next hr => exact (probed.trans (only_of_readWords hr (by decide))).trans ((only_tallyPort (by decide +kernel) _ _ _ _).trans (dropped _ _))
  · next hr =>
    refine (probed.trans (only_of_readWords hr (by decide))).trans ?_
    split
    · split
      · exact broke _ (setting_of_counter (by decide)) _
      · split
        · exact broke _ (setting_of_counter (by decide)) _
        · split
          · exact (only_tallyPort (by decide +kernel) _ _ _ _).trans (dropped _ _)
          · exact (only_scEnqueue _ _ _ _ _ _ _).step_if (only_scLose _ _ _)
    · exact broke _ (setting_of_counter (by decide)) _

/-! ### Other packets (steps 9 and 10) -/

theorem only_chooseSet (p : Nat) (k : Packet) (s : State) : Only arrivalParts s (chooseSet p k s).1 := by
  unfold chooseSet
  split
  · exact Only.refl s
  · split
    · exact only_tallyPort (by decide +kernel) _ _ _ s
    · exact (only_tallyPort (by decide +kernel) _ _ _ s).trans (only_raiseOnce _ _ _ _)

theorem only_learnQueue (fa p a : Nat) (s : State) : Only arrivalParts s (learnQueue fa p a s) :=
  only_ite ((only_tally (by decide +kernel) _ _ _ _ s).trans (only_raiseOnce _ _ _ _)) (only_tb _ s (by decide))

theorem only_learnProbe (p a : Nat) (k : Packet) (s : State) : Only arrivalParts s (learnProbe p a k s) := by
  have probed : Only arrivalParts s (countProbes (benchOf p) 1 (attrOf p k) s) := only_countProbes _ _ _ s (by decide)
  unfold learnProbe
  refine only_ite (Only.refl s) ?_
  split
  · next hr => exact probed.trans (only_of_readWords hr (by decide))
  · next hr =>
    refine (probed.trans (only_of_readWords hr (by decide))).trans (only_ite (Only.refl _) ?_)
    split
    · exact only_learnQueue _ _ _ _
    · refine only_ite (only_tb _ _ (by decide)) (only_ite ?_ (only_learnQueue _ _ _ _))
      exact (only_tally (by decide +kernel) _ _ _ _ _).trans (only_raiseOnce _ _ _ _)

theorem only_routeGroup (p : Nat) (k : Packet) (r : RouteSet) (s : State) : Only arrivalParts s (routeGroup p k r s).1 := by
  unfold routeGroup
  dsimp only
  split
  · next hr => exact (only_of_readWords hr (by decide)).trans (only_tallyPort (by decide +kernel) _ _ _ _)
  · next hr =>
    refine (only_of_readWords hr (by decide)).trans ?_
    split
    · exact only_tallyPort (by decide +kernel) _ _ _ _
    · exact Only.refl _

theorem only_police (p v a : Nat) (k : Packet) (s : State) : Only arrivalParts s (police p v a k s).1 := by
  unfold police
  split
  · exact only_tally (by decide +kernel) _ _ _ _ s
  · next n _ =>
    have noted : ∀ x, Only arrivalParts s { s with ot := { s.ot with policers := SMap.set s.ot.policers n x } } := fun x =>
      only_ot _ s (by decide)
    dsimp only
    split
    · exact (noted _).trans (only_tally (by decide +kernel) _ _ _ _ _)
    · exact (noted _).trans (only_tally (by decide +kernel) _ _ _ _ _)
    · exact ((noted _).trans (only_tally (by decide +kernel) _ _ _ _ _)).trans (only_accum _ _ _ _ _ _)

theorem only_spread (p n id : Nat) (k : Packet) (a : Nat) (z : Int) (ps : List Nat) (s : State) :
    Only arrivalParts s (spread p n id k a z ps s) := by
  have lost : ∀ qs ps : List Nat, Only arrivalParts s (mcastLoss id (groupKey k) (pkSeq k) ps (qs.foldl (fun s q => noCell q s) s)) := fun qs ps =>
    (only_foldl (fun s q => only_noCell q s) qs s).trans (only_mcastLoss _ _ _ _ _ (by decide))
  unfold spread
  refine only_ite ?_ ?_
  · exact ((lost _ _).trans (only_packetDone _ _ (by decide) (by decide))).trans (only_freeCredit _ _ _ _ _ (by decide))
  · exact (lost _ _).trans (only_foldl (fun s q =>
      (only_dp _ s (by decide)).trans (only_openEnqueue _ _ (by decide) (by decide) (by decide))) _ _)

theorem only_openIngress (p n id : Nat) (k : Packet) (a : Nat) (z : Int) (s : State) :
    Only arrivalParts s (openIngress p n id k a z s).1 := by
  have dropped : ∀ c s, Only arrivalParts s (freeCredit p n (pkVc k) k (packetDone id (capDrop id c s))) := fun c s =>
    ((only_capDrop id c s (by decide)).trans (only_packetDone _ _ (by decide) (by decide))).trans (only_freeCredit _ _ _ _ _ (by decide))
  have policed : ∀ {s t : State} {o}, police p (pkVc k) a k s = (t, o) → Only arrivalParts s t := fun {s t o} h => by
    have := only_police p (pkVc k) a k s
    rwa [h] at this
  have chosen := only_chooseSet p k (learnProbe p a k s)
  unfold openIngress
  dsimp only
  refine (only_learnProbe p a k s).trans ?_
  split
  · next h => exact (by rwa [h] at chosen : Only arrivalParts _ _).trans (dropped _ _)
  · next t r h =>
    rw [h] at chosen
    refine chosen.trans ?_
    split
    · have grouped := only_routeGroup p k r t
      split
      · next h => exact (by rwa [h] at grouped : Only arrivalParts _ _).trans (dropped _ _)
      · next h =>
        rw [h] at grouped
        refine grouped.trans ?_
        split
        · next h => exact (policed h).trans (dropped _ _)
        · next h => exact (policed h).trans (only_spread _ _ _ _ _ _ _ _)
    · have routed := only_routeLookup (l := arrivalParts) p k (pkVc k) r t (by decide) (by decide)
      split
      · next h => exact (by rwa [h] at routed : Only arrivalParts _ _).trans (dropped _ _)
      · next h =>
        rw [h] at routed
        refine routed.trans ?_
        split
        · next h => exact (policed h).trans (dropped _ _)
        · next h => exact (policed h).trans (only_openEnqueue _ _ (by decide) (by decide) (by decide))

/-! ### The ingress steps (R143) -/

theorem only_forwarded (p : Port) (n id : Nat) (k : Packet) (z : Int) (b : Bool) (x : State × Bool) :
    Only arrivalParts x.1 (forwarded p n id k z b x) :=
  only_ite (Only.refl _) (only_ite (only_cutAdd _ _ _ _ _ _ _) (only_ite (toInbox_only _ _ _ (by decide)) (Only.refl _)))

theorem only_ingress (p : Port) (n : Nat) (k : Packet) (a : Nat) (z : Int) (b : Bool) (s : State) :
    Only arrivalParts s (ingress p n k a z b s) := by
  have seen : Only arrivalParts s (capIngress p n s.dp.nextId k z { s with dp := { s.dp with nextId := s.dp.nextId + 1 } }) :=
    (only_dp _ s (by decide)).trans (capIngress_only _ _ _ _ _ _ (by decide))
  have heard : ∀ s, Only arrivalParts s (if pkControl k && !portCell s p then hearEpoch p k s else s) := fun s =>
    only_ite (only_heard_arrival p k s) (Only.refl s)
  unfold ingress
  dsimp only
  refine seen.trans ?_
  generalize capIngress p n s.dp.nextId k z { s with dp := { s.dp with nextId := s.dp.nextId + 1 } } = t
  have dropped : ∀ u, Only arrivalParts u (freeCredit p n (pkVc k) k (packetDone s.dp.nextId u)) := fun u =>
    (only_packetDone _ u (by decide) (by decide)).trans (only_freeCredit _ _ _ _ _ (by decide))
  split
  · exact (only_ite (only_count (e := E.HL_FENCE_DROPS) (by decide +kernel) 1 t) (Only.refl t)).trans (dropped _)
  · exact (capTaken_only _ t (by decide)).trans (toInbox_only _ _ _ (by decide))
  · exact ((heard t).trans (only_count (e := E.RP_STALE_DROPS) (by decide +kernel) 1 _)).trans (dropped _)
  · exact (heard t).trans (only_ite (only_takeWhole _ _ _ _ _ _) (only_cutAdd _ _ _ _ _ _ _))
  · exact ((heard t).trans (only_scIngress _ _ _ _ _)).trans (only_forwarded _ _ _ _ _ _ _)
  · refine Only.trans (Only.trans ?_ (only_openIngress _ _ _ _ _ _ _)) (only_forwarded _ _ _ _ _ _ _)
    exact (heard t).step_if (only_service _ _ _ _)

end Sys2Proof.Machine
end

section
/-! What a lane's packets, their ends and cells leave as it is (R128 to R134, R143, R144, R314). -/
namespace Sys2Proof.Machine
open Sys2Proof

/-! ### Packets (R143) -/

theorem only_darkDrop (p v : Nat) (a : OccAttr) (s : State) : Only arrivalParts s (darkDrop p v a s) :=
  only_ite (breach_only (setting_of_counter (by decide)) _ _ _ s) ((only_count (by decide +kernel) _ s).trans (only_accum _ _ _ _ _ _))

theorem headFault_lt {k : Packet} {row : Nat} (h : headFault k = some row) : row < 8 := by
  unfold headFault at h
  split_ifs at h <;> cases h <;> decide

theorem formFault_lt {k : Packet} {row : Nat} (h : formFault k = some row) : row < 8 := by
  unfold formFault at h
  dsimp only at h
  split_ifs at h <;> cases h <;> decide

theorem arrivalFault_lt {s : State} {k : Packet} {row : Nat} (h : arrivalFault s k = some row) : row < 8 := by
  unfold arrivalFault at h
  cases hh : headFault k with
  | some r =>
    rw [hh] at h
    cases h
    exact headFault_lt hh
  | none =>
    cases hf : formFault k with
    | some r =>
      rw [hh, hf] at h
      cases h
      exact formFault_lt hf
    | none =>
      rw [hh, hf] at h
      change (if judgedWhole s k then tailFault k else none) = some row at h
      split at h
      · exact tailFault_lt h
      · cases h

theorem only_arrive (p : Port) (n : Nat) (k : Packet) (s : State) : Only arrivalParts s (arrive p n k s) := by
  unfold arrive
  refine only_ite (only_darkDrop _ _ _ s) ?_
  split
  · next h => exact damaged_only (headFault_lt h) _ _ _ s (by decide)
  · refine (received_only p n k s (by decide) (by decide)).trans ?_
    dsimp only
    split
    · next h => exact (damaged_only (arrivalFault_lt h) _ _ _ _ (by decide)).trans (only_freeCredit _ _ _ _ _ (by decide))
    · exact (only_ite (passed_only _ _ (by decide)) (Only.refl _)).trans (only_ingress _ _ _ _ _ _ _)

/-! ### Duplicate ticks (R314, R327) -/

theorem only_rescue (p : Port) (n i : Nat) (s : State) : Only arrivalParts s (rescue p n i s) := by
  unfold rescue
  dsimp only
  split
  · exact ((only_op _ s (by decide)).trans (only_tally (by decide +kernel) _ _ _ _ _)).trans (only_arrive _ _ _ _)
  · exact only_op _ s (by decide)

theorem only_copyIn (p : Port) (n i : Nat) (k : Packet) (s : State) : Only arrivalParts s (copyIn p n i k s) :=
  only_ite (((only_op _ s (by decide)).trans (only_tally (by decide +kernel) _ _ _ _ _)).trans (only_arrive _ _ _ _)) (only_op _ s (by decide))

/-! ### Ends of packets (R128, R138, R144) -/

theorem only_tailJudge (p : Port) (c : CutPkt) (s : State) : Only arrivalParts s (tailJudge p c s) := by
  cases hf : tailFault c.pkt with
  | none =>
    have counted : Only arrivalParts s (tailCounted c s) :=
      Only.step_unless ((only_dp _ s (by decide)).trans (passed_only _ _ (by decide))) (only_mcastReport _ _ (by decide))
    rw [tailJudge_sound hf]
    exact counted.trans (only_ite (only_takeWhole _ _ _ _ _ _) (only_ite (toInbox_only _ _ _ (by decide)) (Only.refl _)))
  | some row =>
    have dropped : Only arrivalParts s (tailDropped row c s) :=
      ((only_dp _ s (by decide)).trans (tailRows_only (tailFault_lt hf) c (ended c s) (by decide))).trans
        (tailGone_only _ _ (by decide) (by decide) (by decide))
    unfold tailJudge
    rw [hf]
    exact (dropped.step_if (only_freeCredit _ _ _ _ _ (by decide))).step_if (only_rescue _ _ _ _)

theorem only_tails (p : Port) (n : Nat) (s : State) : Only arrivalParts s (tails p n s) := only_foldl (fun s c => only_tailJudge p c s) _ s

theorem only_packetIn (p : Port) (n : Nat) (k : Packet) (s : State) : Only arrivalParts s (packetIn p n k s) := by
  unfold packetIn
  refine only_ite (Only.refl s) ((only_tails p n s).trans ?_)
  dsimp only
  split
  · exact Only.refl _
  · exact only_copyIn _ _ _ _ _
  · refine (only_arrive p n k _).trans (only_ite (Only.refl _) (only_ite (only_rescue _ _ _ _) ?_))
    exact only_op _ _ (by decide)

/-! ### Cells (R129 to R134) -/

theorem only_setAsm (p n : Nat) (a : Option CellAsm) (s : State) : Only arrivalParts s (setAsm p n a s) := only_setLink _ _ s (by decide)

theorem only_setBroken (p n : Nat) (b : Bool) (s : State) : Only arrivalParts s (setBroken p n b s) := only_setLink _ _ s (by decide)

theorem only_cellStray (p n : Nat) (b : Bool) (s : State) : Only arrivalParts s (cellStray p n b s) :=
  (only_ite (Only.refl s) (only_count (setting_of_counter (by decide)) _ s)).trans (only_setBroken _ _ _ _)

theorem asmFault_lt {a : CellAsm} {row : Nat} (h : asmFault a = some row) : row < 8 := by
  unfold asmFault at h
  split at h
  · cases h; decide
  · split at h
    · cases h; decide
    · split at h <;> cases h
      decide

theorem only_asmDone (p : Port) (n : Nat) (a : CellAsm) (s : State) : Only arrivalParts s (asmDone p n a s) := by
  unfold asmDone
  refine (only_setAsm p n none s).trans ?_
  dsimp only
  split
  · next h => exact (damaged_only (asmFault_lt h) _ _ _ _ (by decide)).trans (cellUnits_only _ _ _ _ _ _ (by decide))
  · exact ((occReceived_only _ _ _ (by decide)).trans (passed_only _ _ (by decide))).trans (only_ingress _ _ _ _ _ _ _)

theorem only_asmAdd (p : Port) (n : Nat) (b : Bool) (a : CellAsm) (s : State) : Only arrivalParts s (asmAdd p n b a s) :=
  (cellUnits_only _ _ _ _ _ s (by decide)).trans (only_ite (only_asmDone _ _ _ _) (only_setAsm _ _ _ _))

theorem only_creditIn (p n : Nat) (b : Bytes) (s : State) : Only arrivalParts s (creditIn p n b s) := by
  have set : ∀ (f : CellLane → CellLane) (s : State), Only arrivalParts s (setLink p (fun k => k.setCell n f) s) := fun f s =>
    only_setLink p _ s (by decide)
  unfold creditIn
  refine Only.trans (Only.trans ?_ (set _ _)) (only_portTouch _ _ (by decide) (by decide))
  refine only_foldl (fun s v => ?_) _ s
  exact only_ite ((set _ s).trans (creditReport_only _ _ _ _ _)) (set _ s)

theorem only_cellTake (p : Port) (n : Nat) (c : Bytes) (s : State) : Only arrivalParts s (cellTake p n c s) := by
  unfold cellTake
  dsimp only
  split
  · refine (cellOpens_only p n s (by decide)).trans ?_
    refine only_ite (only_ite (Only.refl _) (only_creditIn _ _ _ _)) (only_ite ?_ (only_asmAdd _ _ _ _ _))
    exact (only_darkDrop _ _ _ _).trans (only_setBroken _ _ _ _)
  · split
    · exact only_cellStray _ _ _ s
    · exact only_asmAdd _ _ _ _ s

theorem only_cellIn (p : Port) (n : Nat) (c : Bytes) (s : State) : Only arrivalParts s (cellIn p n c s) := by
  unfold cellIn
  refine only_ite (Only.refl s) (Only.trans ?_ (only_cellTake _ _ _ _))
  exact (only_ite (asmLost_only _ _ s (by decide)) (Only.refl s)).trans (only_setLink _ _ _ (by decide))

/-! ### The rows -/

theorem packetArrival_frame (p : Port) (n : Lane) (k : Packet) (a : At) : Changes (.packetArrival p n k a) arrivalParts :=
  changes_runAt (fun _ => rfl) (only_packetIn p n k)

theorem packetTail_frame (p : Port) (n : Lane) (a : At) : Changes (.packetTail p n a) arrivalParts :=
  changes_runAt (fun _ => rfl) (only_tails p n)

theorem cellReceived_frame (p : Port) (n : Lane) (c : Bytes) (a : At) : Changes (.cellReceived p n c a) arrivalParts :=
  changes_runAt (fun _ => rfl) (only_cellIn p n c)

theorem cellCreditReceived_frame (p : Port) (n : Lane) (c : Bytes) (a : At) : Changes (.cellCreditReceived p n c a) arrivalParts :=
  changes_runAt (fun _ => rfl) fun s => only_ite (only_cellIn p n c s) (Only.refl s)

end Sys2Proof.Machine
end

section
/-! What a host's doorbells, a lane that has trained and a Sync leave as they are (R80, R83, R312, R404 to R406). -/
namespace Sys2Proof.Machine
open Sys2Proof

/-! ### Doorbells (R404 to R406) -/

theorem only_barAccess {h : HostPort} {f : State → State} {s : State} (ho : ByteOps s) (hf : ∀ s, ByteOps s → Only slotParts s (f s)) :
    Only slotParts s (barAccess h f s) := by
  have seen : Only [.hosts] s (setPc h (fun f => { f with linkUp := true }) s) := only_hosts _ _ s (by decide)
  exact only_ite (Only.refl s) ((seen.mono (by decide)).trans (hf _ (ho.of_only seen (by decide))))

theorem byteOps_slotsRead (h : HostPort) (n : Nat) (bs : List Bytes) : ∀ x ∈ slotsRead h n bs, x.2.1 < 256 := by
  have got : ∀ x ∈ (bs.take n).map fun b => (h.val, slotCmd h b), x.2.1 < 256 := fun x hx => by
    obtain ⟨b, -, rfl⟩ := List.mem_map.1 hx
    exact parseCmd_op_lt _ _
  intro x hx
  unfold slotsRead at hx
  dsimp only at hx
  split at hx
  · obtain hx | hx := List.mem_append.1 hx
    · exact got x hx
    · cases List.mem_singleton.1 hx
      exact (by decide : badSlot.1 < 256)
  · exact got x hx

theorem only_cqWrite (h : Nat) (r : Resp) (s : State) : Only [.hosts] s (cqWrite h r s) :=
  ((only_hosts h _ s (by decide)).trans (only_emit _ _)).trans (only_signal _ _ _)

theorem only_cqDrain (h n : Nat) (s : State) : Only [.hosts] s (cqDrain h n s) := by
  induction n generalizing s with
  | zero => exact Only.refl s
  | succ n ih =>
    unfold cqDrain
    dsimp only
    split
    · exact Only.refl s
    · exact only_ite (Only.refl s) (((only_hosts h _ s (by decide)).trans (only_cqWrite _ _ _)).trans (ih _))

theorem sqTailDoorbell_frame (h : HostPort) (a : BitVec 32) (bs : List Bytes) (s t : State) (ho : ByteOps s)
    (he : exec (.sqTailDoorbell h a bs) s = .next t) : Only slotParts s t := by
  cases he
  refine only_settle (only_barAccess ho fun s ho => ?_)
  have read : ∀ new n, (∀ x ∈ new, x.2.1 < 256) → Only slotParts s (slotsGo h
      { setPc h (fun f => { f with sqTail := n }) s with dx := { s.dx with fetched := s.dx.fetched ++ new } }) := fun new n hn => by
    refine Only.trans ?_ (only_slotsGo h fun x hx => ?_)
    · exact (only_hosts h _ s (by decide)).trans (only_slots _ _ (by decide))
    · exact (List.mem_append.1 hx).elim (ho x) (hn x)
  refine read _ _ fun x hx => ?_
  split at hx
  · exact byteOps_slotsRead _ _ _ x hx
  · cases hx

theorem cqHeadWrite_frame (h : HostPort) (a : BitVec 32) (s t : State) (ho : ByteOps s) (he : exec (.cqHeadWrite h a) s = .next t) :
    Only slotParts s t := by
  cases he
  refine only_settle (only_barAccess ho fun s ho => ?_)
  have drained : ∀ n m, Only [.hosts] s (cqDrain h n (setPc h (fun f => { f with cqHead := m }) s)) := fun n m =>
    (only_hosts h _ s (by decide)).trans (only_cqDrain _ _ _)
  exact ((drained _ _).mono (by decide)).trans (only_slotsGo h (ho.of_only (drained _ _) (by decide)))

theorem queueCtrlWrite_frame (h : HostPort) (a : BitVec 32) (s t : State) (ho : ByteOps s) (he : exec (.queueCtrlWrite h a) s = .next t) :
    Only slotParts s t := by
  cases he
  refine only_settle (only_barAccess ho fun s ho => ?_)
  have set : Only [.hosts] s (setPc h (queueCtrl a.toNat) s) := only_hosts _ _ s (by decide)
  exact (set.mono (by decide)).trans (only_slotsGo h (ho.of_only set (by decide)))

/-! ### A lane that has trained (R312) -/

theorem laneTrained_frame (p : Port) (n : Lane) (b : Bool) : Changes (.laneTrained p n b) [.captures, .links, .optics, .queues, .time] := by
  refine changes_run (fun s => Eq.refl (execLaneTrained p n b s)) fun s => only_ite (Only.refl s) ?_
  refine Only.trans (Only.trans (only_ite (Only.refl s) ?_) (only_setLane _ _ _ _ _ (by decide))) (paramsFirst_only _ _ (by decide) (by decide))
  exact (only_setLink _ _ s (by decide)).trans (only_setPort _ _ _ (by decide))

/-! ### The one step of fabric time (R83) -/

/-- What a Sync may change: time, and all that moves with it. -/
def syncParts : List Part := [.captures, .chutes, .health, .hosts, .inbox, .links, .memory, .optics, .queues, .repair, .sessions, .shapers,
  .tick, .time, .tables]

theorem only_moveDx (z : Int) (s : State) : Only syncParts s (moveDx z s) := fun g hg => by
  have k := Part.same_refl g s
  cases g with
  | sessions => exact absurd (by decide) hg
  | hosts => exact absurd (by decide) hg
  | _ => exact k

theorem only_moveRest (z d : Int) (s : State) : Only syncParts s (moveRest z d s) := fun g hg => by
  have k := Part.same_refl g s
  cases g with
  | queues => exact absurd (by decide) hg
  | shapers => exact absurd (by decide) hg
  | optics => exact absurd (by decide) hg
  | health => exact absurd (by decide) hg
  | chutes => exact absurd (by decide) hg
  | links => exact absurd (by decide) hg
  | _ => exact k

theorem only_moveFabric (z d : Int) (s : State) : Only syncParts s (moveFabric z d s) := fun g hg => by
  have k := Part.same_refl g s
  cases g with
  | memory => exact absurd (by decide) hg
  | repair => exact absurd (by decide) hg
  | health => exact absurd (by decide) hg
  | queues => exact absurd (by decide) hg
  | _ => exact k

theorem only_clock (c : Clk) (n : Nat) (x : FtState) (s : State) : Only syncParts s { s with clk := c, frame := n, ft := x } := fun g hg => by
  have k := Part.same_refl g s
  cases g with
  | tick => exact absurd (by decide) hg
  | time => exact absurd (by decide) hg
  | _ => exact k

theorem only_stepTime (d : Int) (s : State) : Only syncParts s (stepTime d s) :=
  (((only_moveDx _ s).trans (only_moveRest _ _ _)).trans (only_moveFabric _ _ _)).trans (only_clock _ _ _ _)

/-! ### A sample of a servo (R72, R80, R81, R88) -/

theorem only_firstLock (d : Nat) (s : State) : Only syncParts s (firstLock d s) :=
  only_ite (Only.refl s) ((only_stepTime _ s).trans (only_ft _ _ (by decide)))

theorem only_lockJudge (d : Nat) (s : State) : Only syncParts s (lockJudge d s) := by
  unfold lockJudge
  dsimp only
  split
  · refine (only_setServo d _ s (by decide)).trans (only_ite ?_ (Only.refl _))
    exact (only_servoGo _ _ _ (by decide)).trans (only_firstLock _ _)
  · exact (only_setServo d _ s (by decide)).trans (only_ite (only_servoGo _ _ _ (by decide)) (Only.refl _))
  · exact Only.refl s

theorem only_alignJudge (d : Nat) (s : State) : Only syncParts s (alignJudge d s) := by
  refine only_ite (Only.refl s) (only_ite ?_ (only_setServo _ _ s (by decide)))
  exact (only_setServo _ _ s (by decide)).trans (only_ite ((only_count (by decide +kernel) _ _).trans (only_raise _ _ _)) (Only.refl _))

theorem only_splitJudge (s : State) : Only syncParts s (splitJudge s) := only_ite (only_raiseOnce _ _ _ s) (Only.refl s)

theorem only_sample (d : Nat) (z : Int) (s : State) : Only syncParts s (sample d z s) := by
  have set : ∀ f s, Only syncParts s (setServo d f s) := fun f s => only_setServo d f s (by decide)
  have go : ∀ n s, Only syncParts s (servoGo d n s) := fun n s => only_servoGo d n s (by decide)
  unfold sample
  refine only_ite (Only.refl s) (only_ite ?_ ?_)
  · exact (set _ s).trans ((set _ _).trans (only_ite (go _ _) (Only.refl _)))
  · refine Only.trans (Only.trans (Only.trans ?_ (only_lockJudge _ _)) (only_alignJudge _ _)) (only_splitJudge _)
    split
    · exact ((set _ s).trans ((set _ _).trans (only_ite (only_ft _ _ (by decide)) (Only.refl _)))).trans (go _ _)
    · exact ((set _ s).trans ((set _ _).trans (only_ite (only_ft _ _ (by decide)) (Only.refl _)))).trans (only_ite (go _ _) (Only.refl _))
    · exact (set _ s).trans ((set _ _).trans (only_ite (only_ft _ _ (by decide)) (Only.refl _)))

theorem only_syncSample (d p : Nat) (k : Packet) (a b : Int) (s : State) : Only syncParts s (syncSample d p k a b s) := by
  refine Only.trans (only_ite (Only.refl s) ?_) ((only_setServo d _ _ (by decide)).trans (only_sample d _ _))
  exact (only_setServo d _ s (by decide)).trans (only_answerBy _ _ _ (by decide) (by decide) (by decide) (by decide) (by decide))

/-! ### Sync and Follow_Up (R80) -/

/-- A row whose effect may step the clock. -/
theorem changes_runStep {l : List Part} {i : Instr} {a : Nat} {f : State → State} (he : ∀ s, exec i s = runStep a f s)
    (hf : ∀ s, Only l s (f s)) : Changes i l := by
  intro s t ht
  rw [he] at ht
  cases ht
  intro g hg
  have k := ((only_atPs a s).trans ((only_start _).trans (hf _))) g hg
  cases g with
  | _ => exact k

theorem ptpSync_frame (p : Port) (k : Packet) (a : At) : Changes (.ptpSync p k a) syncParts := by
  refine changes_runStep (fun s => Eq.refl (execPtpSync p k a s)) fun s => (only_ptpTake p k s (by decide) (by decide)).trans ?_
  dsimp only
  split
  · exact Only.refl _
  · exact only_ite (Only.refl _) (only_ite (only_setServo _ _ _ (by decide)) (only_syncSample _ _ _ _ _ _))

theorem ptpFollowUp_frame (p : Port) (k : Packet) (a : At) : Changes (.ptpFollowUp p k a) syncParts := by
  refine changes_runStep (fun s => Eq.refl (execPtpFollowUp p k a s)) fun s => (only_fromInbox p k s (by decide)).trans ?_
  dsimp only
  split
  · split
    · exact only_ite (Only.refl _) ((only_setServo _ _ _ (by decide)).trans (only_syncSample _ _ _ _ _ _))
    · exact Only.refl _
  · split
    · exact only_ite (Only.refl _) (only_setPdelay _ _ _ (by decide))
    · exact Only.refl _
  · exact Only.refl _

end Sys2Proof.Machine
end

section
/-! What a value that takes effect leaves as it is: the writes that come due, the checkpoints, a DICT_WRITE and an import (R382, R413, R472). -/
namespace Sys2Proof.Machine
open Sys2Proof

section
variable {l : List Part}

theorem only_fm (x : FmState) (s : State) (hm : .memory ∈ l) : Only l s { s with fm := x } := fun g hg => by
  have k := Part.same_refl g s
  cases g with
  | memory => exact absurd hm hg
  | _ => exact k

theorem only_table (e : Nat) (v : Bytes) (s : State) (hl : .settings ∈ l) : Only l s (setTab e v s) := fun g hg => by
  have k := Part.same_refl g s
  cases g with
  | settings => exact absurd hl hg
  | _ => exact k

theorem only_putValue (e : Entry) (v : Bytes) (s : State) (hl : .settings ∈ l) : Only l s (putValue e v s) :=
  only_ite (only_setting _ _ s hl) (only_table _ _ s hl)

theorem only_syncIdle (n : Nat) (s : State) (hp : .repair ∈ l) : Only l s (syncIdle n s) := (only_rp _ s hp).trans (only_setSync _ _ _ hp)

end

/-! ### What trains anew -/

/-- The parts that a port or the whole part trains anew in. -/
def trainParts : List Part := [.optics, .queues, .links, .health, .repair]

theorem only_trained (o : OpState) (d : DpState) (k : SMap Link) (h : HlState) (r : RpState) (s : State) :
    Only trainParts s { s with op := o, dp := d, links := k, hl := h, rp := r } := fun g hg => by
  have k := Part.same_refl g s
  cases g with
  | optics => exact absurd (by decide) hg
  | queues => exact absurd (by decide) hg
  | links => exact absurd (by decide) hg
  | health => exact absurd (by decide) hg
  | repair => exact absurd (by decide) hg
  | _ => exact k

/-! ### Fabric memory: the mirror, regions and checkpoints (R224, R235 to R239) -/

/-- What a snapshot, a restore and the mirror may change. -/
def memoryParts : List Part := [.captures, .links, .memory, .queues, .tables]

theorem only_mirrorSend (b : Bool) (w : MirrorWrite) (s : State) : Only memoryParts s (mirrorSend b w s) := by
  refine Only.trans (only_ite ?_ ?_) (only_originateRouted _ _ (by decide) (by decide) (by decide) (by decide))
  · exact only_tally (by decide +kernel) _ _ _ _ s
  · exact (only_tally (by decide +kernel) _ _ _ _ s).trans (only_occ _ _ _ _ _)

theorem only_mirrorPump (n : Nat) (s : State) : Only memoryParts s (mirrorPump n s) := by
  induction n generalizing s with
  | zero => exact Only.refl s
  | succ n ih =>
    unfold mirrorPump
    dsimp only
    split
    · exact Only.refl s
    · refine only_ite (Only.refl s) ?_
      split
      · exact Only.refl s
      · exact ((only_fm _ s (by decide)).trans (only_mirrorSend _ _ _)).trans (ih _)

theorem only_setMirror (m : MirrorSt) (s : State) : Only memoryParts s (setMirror m s) :=
  only_ite (Only.refl s) ((only_fm _ s (by decide)).trans (only_raise _ _ _))

theorem only_mirrorResync (s : State) : Only memoryParts s (mirrorResync s) :=
  ((only_fm _ s (by decide)).trans (only_setMirror _ _)).trans (only_mirrorPump _ _)

theorem only_mirrorPut (ws : List MirrorWrite) (s : State) : Only memoryParts s (mirrorPut ws s) :=
  only_ite (Only.refl s) (only_ite ((only_setMirror _ s).trans (only_mirrorResync _)) ((only_fm _ s (by decide)).trans (only_mirrorPump _ _)))

theorem only_mirrorPartner (s : State) : Only memoryParts s (mirrorPartner s) :=
  only_ite ((only_fm _ s (by decide)).trans (only_setMirror _ _)) (only_mirrorResync s)

theorem only_checkpointTake (n : Nat) (s : State) : Only memoryParts s (checkpointTake n s) :=
  only_ite (only_raise _ _ s) ((only_fm _ s (by decide)).trans (only_mirrorPut _ _))

theorem only_regionState (n : Nat) (x : RegionSt) (s : State) : Only [.memory] s (regionState n x s) := by
  unfold regionState
  split
  · exact Only.refl s
  · exact only_ite (Only.refl s) ((only_fm _ s (by decide)).trans (only_raise _ _ _))

theorem only_genBump (n : Nat) (s : State) : Only [.memory] s (genBump n s) := by
  unfold genBump
  split
  · exact Only.refl s
  · exact (only_fm _ s (by decide)).trans (only_fm _ _ (by decide))

theorem only_regionTurn (n : Nat) (x : RegionSt) (s : State) : Only [.memory] s (regionState n x (genBump n s)) :=
  (only_genBump n s).trans (only_regionState n x _)

theorem only_checkpointBack (s : State) : Only memoryParts s (checkpointBack s) := by
  have turned : ∀ (ks : List CkRegion) u, Only memoryParts u (ks.foldl (fun s k => regionState k.num .restoring (genBump k.num s)) u) :=
    fun ks u => only_foldl (fun s k => (only_regionTurn k.num .restoring s).mono (by decide)) ks u
  unfold checkpointBack
  split
  · exact Only.refl s
  · dsimp only
    split
    · exact (turned _ s).trans (only_fm _ _ (by decide))
    · exact (((only_fm _ s (by decide)).trans (only_raise _ _ _)).trans (turned _ _)).trans (only_fm _ _ (by decide))

theorem only_regionsLose (ns : List Nat) (s : State) : Only [.memory] s (regionsLose ns s) := by
  refine only_ite (Only.refl s) (Only.trans (Only.trans ?_ (only_count (by decide +kernel) _ _)) (only_raise _ _ _))
  exact only_foldl (fun s n => only_regionTurn n .lost s) ns s

theorem only_mirrorFrom (v : Nat) (s : State) : Only [.memory, .settings] s (mirrorFrom v s) :=
  (only_fm _ s (by decide)).trans (only_setting _ _ _ (by decide))

theorem only_mirrorFromHeld (s : State) : Only [.memory, .settings, .repair] s (mirrorFromHeld s) := by
  unfold mirrorFromHeld
  split
  · exact Only.refl s
  · exact (only_rp _ s (by decide)).trans ((only_mirrorFrom _ _).mono (by decide))

/-! ### A value (R382) -/

/-- What a value that takes effect may change. -/
def valueParts : List Part := [.captures, .health, .links, .memory, .optics, .queues, .repair, .security, .settings, .shapers, .tables, .time]

theorem only_put (e : Entry) (v : Bytes) (s : State) : Only valueParts s (putValue e v s) := only_putValue e v s (by decide)

theorem only_portRetrain (p : Nat) (s : State) : Only valueParts s (portRetrain p s) := by
  have fell : Only valueParts s (if portState s p = .inService then portFalls p s else s) :=
    only_ite (portFallsFor_only _ _ s (by decide) (by decide) (by decide) (by decide)) (Only.refl s)
  exact fell.trans ((only_trained _ _ _ _ _ _).mono (by decide))

theorem only_shaperReset (n : Nat) (s : State) : Only valueParts s (shaperReset n s) := only_ite (only_ot _ s (by decide)) (only_ot _ s (by decide))

theorem only_policerReset (n : Nat) (s : State) : Only valueParts s (policerReset n s) := only_ite (only_ot _ s (by decide)) (only_ot _ s (by decide))

theorem only_progSet (s : State) (n : Nat) : Only valueParts s (progSet s n) := only_tm _ s (by decide)

theorem only_clearProg (s : State) : Only valueParts s (clearProg s) := only_foldl only_progSet _ s

theorem only_latchDue (s : State) : Only valueParts s (latchDue s) :=
  (only_ite (only_latch 2 s (by decide)) (Only.refl s)).trans (only_ite (only_latch 4 _ (by decide)) (Only.refl _))

theorem only_partnerSet (n : Nat) (s : State) : Only valueParts s (partnerSet n s) :=
  only_ite (Only.refl s) ((only_setting _ _ s (by decide)).trans ((only_mirrorPartner _).mono (by decide)))

theorem only_powerEffect (n : Nat) (s : State) : Only valueParts s (powerEffect n s) :=
  only_ite (wakeNow_only _ s (by decide)) (only_ite (setPower_only _ s (by decide))
    (only_ite ((only_hl _ s (by decide)).trans (setPower_only _ _ (by decide))) (Only.refl s)))

theorem only_requestSet (n : Nat) (s : State) : Only valueParts s (requestSet n s) :=
  (only_setting _ _ s (by decide)).trans (only_ite ((only_hl _ _ (by decide)).trans (only_powerEffect _ _)) (Only.refl _))

theorem only_domainSelect (n : Nat) (s : State) : Only valueParts s ((domainSelect n s).getD s) := by
  unfold domainSelect
  split
  · exact Only.refl s
  · exact (only_setting _ _ s (by decide)).trans (only_ite (only_switchDecide _ _ (by decide)) (Only.refl _))

theorem only_rollbackCommit (n : Nat) (s : State) : Only valueParts s (rollbackCommit n s) :=
  ((only_se _ s (by decide)).trans (only_se _ _ (by decide))).trans (only_raise _ _ _)

theorem only_keysSet (x : SeState) {c : Prop} [Decidable c] (s : State) :
    Only valueParts s (if c then { s with se := x } else raise Ev.SE_MANAGER_KEYS [] { s with se := x }) :=
  only_ite (only_se _ s (by decide)) ((only_se _ s (by decide)).trans (only_raise _ _ _))

theorem only_valueEffect (e : Entry) (off : Nat) (v : Bytes) (s : State) : Only valueParts s (valueEffect e off v s) := by
  have put : ∀ v, Only valueParts s (putValue e v s) := fun v => only_put e v s
  unfold valueEffect
  dsimp only
  refine only_ite ((put _).trans (only_foldl (fun s p => only_portRetrain p s) _ _)) ?_
  refine only_ite ((put _).trans (only_foldl (fun s i => only_shaperReset i s) _ _)) ?_
  refine only_ite ((put _).trans (only_foldl (fun s i => only_policerReset i s) _ _)) ?_
  refine only_ite ((put _).trans (only_foldl only_progSet _ _)) ?_
  refine only_ite ((put _).trans (only_tm _ _ (by decide))) ?_
  refine only_ite (only_ite (put _) ((put _).trans (only_tm _ _ (by decide)))) ?_
  refine only_ite (Only.step_if (Only.step_if (only_latchDue s) (only_tm _ _ (by decide))) (only_clearProg _)) ?_
  refine only_ite (only_ite (only_latch _ s (by decide)) (Only.refl s)) ?_
  refine only_ite ((put _).trans ((only_checkpointTake _ _).mono (by decide))) ?_
  refine only_ite ((only_checkpointBack s).mono (by decide)) ?_
  refine only_ite (only_partnerSet _ s) ?_
  refine only_ite ((only_mirrorFrom _ s).mono (by decide)) ?_
  refine only_ite ((only_setting _ _ s (by decide)).trans (only_tb _ _ (by decide))) ?_
  refine only_ite (withPins_only ((only_table _ _ s (by decide)).trans (only_hl _ _ (by decide)))) ?_
  refine only_ite (withPins_only (put _)) ?_
  refine only_ite (only_requestSet _ s) ?_
  refine only_ite ((put _).trans (servoEnables_only _ (by decide))) ?_
  refine only_ite ((only_setting _ _ s (by decide)).trans (only_syncIdle _ _ (by decide))) ?_
  refine only_ite ((put _).trans (only_setting _ _ _ (by decide))) ?_
  refine only_ite (only_domainSelect _ s) ?_
  refine only_ite (only_se _ s (by decide)) ?_
  refine only_ite (only_rollbackCommit _ s) ?_
  exact only_ite (only_keysSet _ s) (only_ite (only_keysSet _ s) (put _))

end Sys2Proof.Machine
end

section
/-! What the writes that come due, a DICT_WRITE and an import leave as they are (R238, R239, R382, R413, R472): one theorem per row. -/
namespace Sys2Proof.Machine
open Sys2Proof

/-! ### Writes that come due (R9, R382) -/

/-- What a write that comes due may change. -/
def writeParts : List Part := [.captures, .health, .links, .memory, .optics, .queues, .repair, .security, .settings, .shapers, .tables, .time,
  .waiting]

/-- Writes leave the list, and those that others take the place of are counted. -/
theorem only_superseded {l : List Part} (x : List PendWrite) (n : Nat) (s : State) (hw : .waiting ∈ l) :
    Only l s (count E.DX_SUPERSEDED n { s with dx := { s.dx with pending := x } }) :=
  (only_waiting x s hw).trans (only_count (setting_of_counter (by decide)) _ _)

theorem only_pendingTake (w : PendWrite) (s : State) : Only writeParts s (pendingTake w s) := by
  have left : ∀ x, Only writeParts s { s with dx := { s.dx with pending := x } } := fun x => only_waiting x s (by decide)
  have counted := fun x n => only_superseded (l := writeParts) x n s (by decide)
  have effect : ∀ e o v s, Only writeParts s (valueEffect e o v s) := fun e o v s => (only_valueEffect e o v s).mono (by decide)
  unfold pendingTake
  refine only_ite (Only.refl s) (only_ite ?_ (only_ite (counted _ _) ?_))
  · dsimp only
    split
    · exact (left _).trans (effect _ _ _ _)
    · exact left _
  · dsimp only
    split
    · exact (counted _ _).trans (effect _ _ _ _)
    · exact counted _ _

theorem pendingWriteEffect_frame (n : Nat) : Changes (.pendingWriteEffect n) writeParts := by
  refine changes_run (fun s => Eq.refl (execPendingWriteEffect n s)) fun s => ?_
  split
  · exact Only.refl s
  · exact only_ite (only_pendingTake _ s) (Only.refl s)

theorem checkpointSnapshot_frame : Changes .checkpointSnapshot writeParts := by
  refine changes_run (fun s => Eq.refl (execCheckpointSnapshot s)) fun s => ?_
  split
  · exact only_ite (Only.refl s) (only_pendingTake _ s)
  · exact Only.refl s

theorem checkpointRestore_frame : Changes .checkpointRestore writeParts := by
  refine changes_run (fun s => Eq.refl (execCheckpointRestore s)) fun s => ?_
  split
  · exact only_pendingTake _ s
  · exact Only.refl s

/-! ### DICT_WRITE (R43, R382, R413) -/

/-- What a DICT_WRITE may change. -/
def dictParts : List Part := writeParts ++ [.timetable]

theorem only_withdrawAccept (f n r : Nat) (s : State) : Only dictParts s (withdrawAccept f n r s) :=
  ((only_rp _ s (by decide)).trans (only_raise _ _ _)).trans (only_setSync _ _ _ (by decide))

theorem only_restAccept (n : Nat) (s : State) : Only dictParts s (restAccept n s) := by
  refine (only_hl _ s (by decide)).trans (only_ite (only_withdrawAccept _ _ _ _) (only_ite ?_ (Only.refl _)))
  exact ((only_rp _ _ (by decide)).trans (only_nextGone _ _ (by decide) (by decide))).trans (only_setSync _ _ _ (by decide))

theorem only_dictApply (a : ActEntry) (s : State) : Only dictParts s (dictApply a s) := by
  unfold dictApply
  split
  · exact Only.refl s
  · have counted := fun x n => only_superseded (l := dictParts) x n s (by decide)
    refine only_ite ?_ (only_ite ?_ (only_ite ?_ ?_))
    · exact (counted _ _).trans (only_count (setting_of_counter (by decide)) _ _)
    · exact ((counted _ _).trans (only_setting _ _ _ (by decide))).trans (only_restAccept _ _)
    · have chosen := fun x n => (counted x n).trans (only_reselect _ (by decide))
      refine only_ite ?_ ?_
      · exact ((chosen _ _).trans (only_count (setting_of_counter (by decide)) _ _)).trans (only_raise _ _ _)
      · exact (((chosen _ _).trans (only_tt _ _ (by decide))).trans (only_setting _ _ _ (by decide))).trans (only_raise _ _ _)
    · exact (counted _ _).trans ((only_valueEffect _ _ _ _).mono (by decide))

theorem dictWrite_frame (n : Nat) : Changes (.dictWrite n) dictParts := by
  refine changes_run (fun s => Eq.refl (execDictWrite n s)) fun s => ?_
  split
  · exact Only.refl s
  · split
    · exact (only_actEnd _ _ _ s (by decide)).trans (only_dictApply _ _)
    · exact (countTab_only (setting_of_counter (by decide)) _ _ s).trans (only_actEndWith _ _ _ _ _ (by decide))

/-! ### Imports (R468 to R472) -/

/-- What an import may change. -/
def importParts : List Part := [.captures, .crusher, .health, .links, .memory, .optics, .queues, .repair, .security, .settings, .shapers,
  .tables, .time, .timetable, .waiting]

theorem only_importValue (v : Nat × Bytes) (s : State) : Only importParts s (importValue v s) := by
  refine only_ite (only_rp _ s (by decide)) (only_ite (Only.refl s) ?_)
  split
  · exact Only.refl s
  · exact only_ite (only_putValue _ _ s (by decide)) ((only_valueEffect _ _ _ s).mono (by decide))

theorem only_importFences (b : Bytes) (s : State) : Only importParts s (importFences b s) :=
  ((only_setting _ _ s (by decide)).trans (only_setting _ _ _ (by decide))).trans (only_hl _ _ (by decide))

theorem only_ttVerified (b d : Bytes) (s : State) : Only importParts s (ttVerified b d s) := only_tt _ s (by decide)

theorem only_scheduleGone (s : State) : Only importParts s (activeGone (nextGone .empty s)) :=
  (only_nextGone _ s (by decide) (by decide)).trans
    (activeGone_only _ (by decide) (by decide) (by decide) (by decide) (by decide) (by decide))

theorem only_importApply (b : Bytes) (s : State) : Only importParts s (importApply b s) := by
  have valued : ∀ (vs : List (Nat × Bytes)) s, Only importParts s (vs.foldl (fun s v => importValue v s) s) := fun vs s =>
    only_foldl (fun s v => only_importValue v s) vs s
  have routed : ∀ r s, Only importParts s (importFences b (importRouteSet r s)) := fun r s =>
    (only_tb (importRouteSet r s).tb s (by decide)).trans (only_importFences b _)
  unfold importApply
  refine Only.trans (Only.trans ?_ (only_rp _ _ (by decide))) (only_raise _ _ _)
  refine Only.trans ?_ ((only_regionsLose _ _).mono (by decide))
  refine Only.trans ?_ (only_ite (Only.refl _) (only_ttVerified _ _ _))
  refine Only.trans (Only.trans ?_ (only_fm _ _ (by decide))) (only_syncIdle _ _ (by decide))
  refine Only.trans (Only.trans ?_ (only_scheduleGone _)) (only_rp _ _ (by decide))
  exact ((only_setting _ _ s (by decide)).trans (valued _ _)).trans (routed _ _)

theorem importApplyDone_frame : Changes .importApplyDone importParts := by
  refine changes_run (fun s => Eq.refl (execImportApplyDone s)) fun s => ?_
  split
  · exact Only.refl s
  · split
    · exact only_importApply _ s
    · exact (only_rp _ s (by decide)).trans (only_raise _ _ _)

end Sys2Proof.Machine
end

section
/-! What a swap, Rest and the resets leave as they are (R55 to R58, R428, R462). -/
namespace Sys2Proof.Machine
open Sys2Proof

theorem only_tt_dp {l : List Part} (x : TtState) (y : DpState) (s : State) (hn : .timetable ∈ l) (hq : .queues ∈ l) :
    Only l s { s with tt := x, dp := y } := fun g hg => by
  have k := Part.same_refl g s
  cases g with
  | timetable => exact absurd hn hg
  | queues => exact absurd hq hg
  | _ => exact k

theorem only_dp_tm {l : List Part} (x : DpState) (y : TmState) (s : State) (hq : .queues ∈ l) (hc : .captures ∈ l) :
    Only l s { s with dp := x, tm := y } := fun g hg => by
  have k := Part.same_refl g s
  cases g with
  | queues => exact absurd hq hg
  | captures => exact absurd hc hg
  | _ => exact k

/-! ### The swap (R55, R56, R64) -/

/-- What a swap may change. -/
def swapParts : List Part := [.captures, .crusher, .health, .optics, .queues, .repair, .tables, .time, .timetable, .waiting]

theorem only_leaseRenew (x y : LeaseRec) (s : State) : Only swapParts s (leaseRenew x y s) :=
  only_ite (Only.refl s) (only_foldl (fun s _ => only_ite (only_setPhys _ _ s (by decide)) (Only.refl s)) _ s)

theorem only_leaseSwap (i : Image) (s : State) : Only swapParts s (leaseSwap i s) := by
  have ended := fun ls => only_leasesEnd (l := swapParts) ls s (by decide) (by decide)
  refine ((ended _).trans (only_foldl (fun s x => ?_) _ _)).trans (only_tt _ _ (by decide))
  split
  · exact only_leaseRenew _ _ s
  · exact Only.refl s

theorem only_bindingSwap (i : Image) (s : State) : Only swapParts s (bindingSwap i s) := by
  have purged : ∀ w, Only swapParts s (scPurge w (fun x s => tally E.TT_SWAP_ORPHANS (benchOf x.port) 23 1 {} s) s) := fun w =>
    only_scPurge (fun x s => only_tally (by decide +kernel) _ _ _ _ s) s (by decide) (by decide)
  exact (purged _).trans (only_tt_dp _ _ _ (by decide) (by decide))

theorem only_crSwap (i : Image) (s : State) : Only swapParts s (crSwap i s) := by
  unfold crSwap
  split
  · exact Only.refl s
  · refine only_foldl (fun s x => Only.trans (Only.trans ?_ (only_foldl (fun s y => only_tally (by decide +kernel) _ _ _ _ s) _ _))
      (only_cr _ _ (by decide))) _ s
    exact only_foldl (fun s k => only_crAbandon _ _ _ _ s (by decide) (by decide)) _ s

theorem only_selectionSwap (s : State) : Only swapParts s (selectionSwap s) :=
  only_ite (only_selectionsDone 0 s (by decide) (by decide)) (Only.refl s)

theorem only_routeSwitch (a b : Nat) (j : Bool) (s : State) : Only swapParts s (routeSwitch a b j s) :=
  (only_tb _ s (by decide)).trans (only_tb _ _ (by decide))

theorem only_turned (t : TtState) (f : FtState) (r : RpState) (s : State) : Only swapParts s { s with tt := t, ft := f, rp := r } := fun g hg => by
  have k := Part.same_refl g s
  cases g with
  | timetable => exact absurd (by decide) hg
  | time => exact absurd (by decide) hg
  | repair => exact absurd (by decide) hg
  | _ => exact k

theorem only_swapImage (i : Image) (j : Bool) (s : State) : Only swapParts s (swapImage i j s) := by
  have handed : Only swapParts s (selectionSwap (crSwap i (bindingSwap i (leaseSwap i s)))) :=
    (((only_leaseSwap i s).trans (only_bindingSwap i _)).trans (only_crSwap i _)).trans (only_selectionSwap _)
  have written : ∀ s, Only swapParts s (epochWrites (buffersTurn true s)) := fun s => (only_tb _ s (by decide)).trans (only_waiting _ _ (by decide))
  unfold swapImage
  refine Only.step_if (Only.trans ?_ (only_raise _ _ _)) (only_raise _ _ _)
  exact ((handed.trans (only_turned _ _ _ _)).trans (only_routeSwitch _ _ _ _)).trans (written _)

/-! ### Joining (R457, R458, R475) -/

/-- What a join may change. -/
def joinParts : List Part := [.captures, .crusher, .health, .memory, .optics, .queues, .repair, .settings, .tables, .time, .timetable, .waiting]

theorem only_regionsJoin (s : State) : Only joinParts s (regionsJoin s) := by
  refine only_foldl (fun s n => ?_) _ s
  split
  · exact (only_fm _ s (by decide)).trans ((only_regionState _ _ _).mono (by decide))
  · exact Only.refl s

theorem only_becomeCurrent (n : Nat) (s : State) : Only joinParts s (becomeCurrent n s) :=
  ((only_setSync _ n s (by decide)).trans (only_regionsJoin _)).trans
    (only_ite ((only_mirrorFromHeld _).mono (by decide)) (Only.refl _))

theorem only_joinCheck (s : State) : Only joinParts s (joinCheck s) := by
  refine only_ite (Only.refl s) ?_
  split
  · exact only_ite (Only.refl s) ((only_ttRefuse _ s (by decide) (by decide)).trans
      ((only_rp _ _ (by decide)).trans (only_setSync _ _ _ (by decide))))
  · exact Only.refl s

theorem only_joinLater (s : State) : Only joinParts s (joinLater s) := (only_rp _ s (by decide)).trans (only_joinCheck _)

theorem joinFrame_frame : Changes .joinFrame joinParts := by
  refine changes_run (fun s => Eq.refl (execJoinFrame s)) fun s => only_ite (Only.refl s) ?_
  split
  · refine only_ite (only_joinLater s) (Only.trans (Only.trans ?_ (only_becomeCurrent _ _)) (only_raise _ _ _))
    exact (only_rp _ s (by decide)).trans ((only_swapImage _ _ _).mono (by decide))
  · exact only_joinLater s

/-! ### Entry to Rest (R428) -/

/-- What the entry to Rest may change. -/
def restParts : List Part := [.bringup, .captures, .chutes, .crusher, .health, .links, .memory, .optics, .queues, .repair, .sessions,
  .settings, .time, .timetable, .waiting]

theorem only_bankTestsEnd (s : State) : Only restParts s (bankTestsEnd s) := only_bi _ s (by decide)

theorem only_setStream (x : Stream) (n : Nat) (s : State) : Only restParts s (streamState x n s) :=
  (only_rp _ s (by decide)).trans (only_raise _ _ _)

theorem only_streamFinish (n : Nat) (x : Stream) (s : State) : Only restParts s (streamFinish n x s) := by
  refine Only.trans ?_ ((only_mirrorFromHeld _).mono (by decide))
  refine Only.trans (Only.trans ?_ ((only_regionsLose _ _).mono (by decide))) (only_setStream _ _ _)
  exact Only.step_if ((Only.refl s).step_if (only_fm _ s (by decide))) (only_count (by decide +kernel) _ _)

theorem only_streamAbandon (s : State) : Only restParts s (streamAbandon s) := by
  unfold streamAbandon
  split
  · exact only_streamFinish _ _ s
  · exact only_setStream _ _ s
  · exact Only.refl s

theorem only_dropAll (b : Bool) (s : State) : Only restParts s (dropAll b s) := by
  have counted : Only restParts s (if b then count E.RP_WITHDRAW_DROPS s.dp.openq.length s else s) :=
    only_ite (only_count (by decide +kernel) _ s) (Only.refl s)
  have dropped : ∀ xs : List OpenPkt, Only restParts s (scDrop (fun _ => true) 0 (fun _ s => s) (xs.foldl (fun s x => openDrop 0 x s)
      (if b then count E.RP_WITHDRAW_DROPS s.dp.openq.length s else s))) := fun xs =>
    (counted.trans (only_foldl (fun s x => only_openDrop 0 x s (by decide) (by decide) (by decide)) xs _)).trans
      (scDrop_only (fun _ s => Only.refl s) _ (by decide) (by decide))
  exact (dropped _).trans (only_dp_tm _ _ _ (by decide) (by decide))

theorem only_movesReturn (s : State) : Only restParts s (movesReturn s) :=
  (only_foldl (fun s m => only_ite (moveReturned_only _ _ _ s (by decide)) (Only.refl s)) _ s).trans (setMoves_only _ _ (by decide))

theorem only_chutesClear (n : Nat) (s : State) : Only restParts s (chutesClear n s) := (only_ch _ s (by decide)).trans (only_raise _ _ _)

theorem only_restNow (s : State) : Only restParts s (restNow s) := by
  have gone : ∀ s, Only restParts s (activeGone (nextGone .empty s)) := fun s => (only_nextGone _ s (by decide) (by decide)).trans
    (activeGone_only _ (by decide) (by decide) (by decide) (by decide) (by decide) (by decide))
  have ended : Only restParts s (bankTestsEnd (latch 8 (streamAbandon s))) :=
    ((only_streamAbandon s).trans (only_latch _ _ (by decide))).trans (only_bankTestsEnd _)
  have cleared : ∀ s, Only restParts s (dictRest (movesReturn (chutesClear 1 s))) := fun s =>
    ((only_chutesClear 1 s).trans (only_movesReturn _)).trans ((only_dictRest _).mono (by decide))
  unfold restNow
  refine Only.trans ?_ ((only_hl _ _ (by decide)).trans (setPower_only _ _ (by decide)))
  refine Only.trans (Only.trans ?_ ((only_hl _ _ (by decide)).trans (only_syncIdle _ _ (by decide)))) (only_rp _ _ (by decide))
  exact ((ended.trans (only_dropAll _ _)).trans (gone _)).trans (cleared _)

theorem restEntry_frame : Changes .restEntry restParts :=
  changes_run (fun s => Eq.refl (execRestEntry s)) fun s => only_ite (only_restNow s) (Only.refl s)

/-! ### Resets (R415, R446, R461, R462) -/

/-- All parts but the tick and the pins that feed the part. -/
def resetParts : List Part := [.bringup, .captures, .chutes, .crusher, .health, .hosts, .inbox, .links, .memory, .optics, .queues, .repair,
  .security, .sessions, .settings, .shapers, .slots, .tables, .time, .timetable, .waiting]

theorem only_reset {s t : State} (ht : t.clk.tick = s.clk.tick) (hf : t.frame = s.frame) (he : t.el = s.el) : Only resetParts s t := fun g hg => by
  cases g with
  | tick => exact ⟨ht, hf⟩
  | electrical => exact he
  | _ => exact absurd (by decide) hg

theorem only_tokensReset (s : State) : Only resetParts s (tokensReset s) := by
  have shaped : ∀ (ns : List Nat) (s : State), Only resetParts s (ns.foldl (fun s n => shaperReset n s) s) := fun ns s =>
    only_foldl (fun s n => (only_shaperReset n s).mono (by decide)) ns s
  have policed : ∀ (ns : List Nat) (s : State), Only resetParts s (ns.foldl (fun s n => policerReset n s) s) := fun ns s =>
    only_foldl (fun s n => (only_policerReset n s).mono (by decide)) ns s
  exact ((only_ot _ s (by decide)).trans (shaped _ _)).trans (policed _ _)

theorem only_lanesTrain (m : List (Nat × LaneSt)) (s : State) : Only trainParts s (lanesTrain m s) := only_trained _ _ _ _ _ s

/-- A warm reset of the tokens, the settings and the counters. -/
theorem only_countersReset (s : State) : Only resetParts s (clearProg (clearFixed (tokensReset (dictWarm s)))) :=
  (((only_reset rfl rfl rfl : Only resetParts s (dictWarm s)).trans (only_tokensReset _)).trans (only_tm _ _ (by decide))).trans
    ((only_clearProg _).mono (by decide))

theorem only_warmReset (n : Nat) (s : State) : Only resetParts s (warmReset n s) := by
  unfold warmReset
  refine only_ite (Only.refl s) ?_
  extract_lets reported ended _ _ unhosted emptied kept training _ _ _ _ _ _ _ _ _ _ _ cleared fresh counted _ logged idle
  have h1 : Only resetParts s reported :=
    (((only_streamAbandon s).trans (only_bankTestsEnd _)).mono (by decide)).trans (only_raise _ _ _)
  have h2 : Only resetParts reported ended := (only_allSessionsEnd _).mono (by decide)
  have h3 : Only resetParts ended unhosted := only_reset rfl rfl rfl
  have h4 : Only resetParts unhosted emptied := only_nextGone _ _ (by decide) (by decide)
  have h5 : Only resetParts emptied training :=
    (((only_movesReturn _).trans (only_chutesClear 2 _)).mono (by decide)).trans ((only_lanesTrain kept _).mono (by decide))
  clear_value training
  have h6 : Only resetParts training cleared := only_reset rfl rfl rfl
  have h7 : Only resetParts cleared fresh := only_countersReset cleared
  have h8 : Only resetParts fresh counted := only_count (by decide +kernel) _ _
  have h9 : Only resetParts counted idle :=
    (only_rp _ _ (by decide) : Only resetParts counted logged).trans (only_syncIdle _ _ (by decide))
  have toIdle : Only resetParts s idle := (((((h1.trans h2).trans h3).trans h4).trans h5).trans h6).trans ((h7.trans h8).trans h9)
  exact toIdle.trans ((only_bi _ _ (by decide)).trans (setPower_only _ _ (by decide)))

theorem only_coldReset (n : Nat) (s : State) : Only resetParts s (coldReset n s) := only_reset rfl rfl rfl

theorem withdrawFrame_frame : Changes .withdrawFrame resetParts := by
  refine changes_run (fun s => Eq.refl (execWithdrawFrame s)) fun s => ?_
  split
  · exact Only.refl s
  · refine only_ite (Only.refl s) (only_ite (only_ite ((only_restNow s).mono (by decide)) (Only.refl s)) ?_)
    have left : Only resetParts s (nextGone .empty (dropAll true s)) :=
      ((only_dropAll true s).mono (by decide)).trans (only_nextGone _ _ (by decide) (by decide))
    refine left.trans (only_ite ?_ (only_ite ?_ ?_))
    · exact (only_syncIdle _ _ (by decide)).trans (only_warmReset _ _)
    · exact (only_raise _ _ _).trans (only_coldReset _ _)
    · exact (activeGone_only _ (by decide) (by decide) (by decide) (by decide) (by decide) (by decide)).trans (only_syncIdle _ _ (by decide))

/-- A controller that restarts keeps its commands. -/
theorem only_controllers (d : Nat) (f : Controller → Controller) (s : State) : Only resetParts s (setController d f s) := only_hl _ s (by decide)

theorem only_controllerRestart (d : Nat) (s : State) : Only resetParts s (controllerRestart d s) := by
  have restarted : ∀ f, Only resetParts s (raise Ev.HL_WDT_RESTART [.u8 d] (count E.HL_WDT_RESTARTS 1 (setController d f s))) := fun f =>
    ((only_controllers d f s).trans (only_count (by decide +kernel) _ _)).trans (only_raise _ _ _)
  unfold controllerRestart
  refine only_ite ?_ (restarted _)
  exact (((restarted _).trans (only_hl _ _ (by decide))).trans (only_raise _ _ _)).step_if (only_warmReset _ _)

theorem wdtChallenge_frame (d : Die) (b : Bool) : Changes (.wdtChallenge d b) resetParts := by
  refine changes_due (fun s => Eq.refl (execWdtChallenge d b s)) fun s => withPins_only (only_ite (only_controllerRestart _ s) ?_)
  exact ((only_reset rfl rfl rfl : Only resetParts s { s with free := s.free + 1 }).trans (only_controllers _ _ _)).trans (only_emit _ _)

end Sys2Proof.Machine
end

section
/-! What a frame boundary leaves as it is (R80, R143, R372), and what all rows that follow a frame, a packet or a host leave. -/
namespace Sys2Proof.Machine
open Sys2Proof

/-- What a frame boundary may change. -/
def frameParts : List Part := [.captures, .chutes, .crusher, .health, .hosts, .links, .memory, .optics, .queues, .repair, .security,
  .sessions, .settings, .shapers, .tables, .tick, .time, .timetable, .waiting]

/-! ### The reports and the saturation of the frame that ends -/

theorem only_flushed (e : EvState) (subs : List Sub) (ls : SMap Link) (s : State) :
    Only frameParts s { s with ev := e, dx := { s.dx with subs := subs }, links := ls } := fun g hg => by
  have k := Part.same_refl g s
  cases g with
  | sessions => exact absurd (by decide) hg
  | links => exact absurd (by decide) hg
  | _ => exact k

theorem only_frameNoted (n : Nat) (s : State) : Only frameParts s { s with frame := n } := fun g hg => by
  have k := Part.same_refl g s
  cases g with
  | tick => exact absurd (by decide) hg
  | _ => exact k

theorem only_frameFlush (s : State) : Only frameParts s (frameFlush s) :=
  (only_flushed _ _ _ s).trans (only_foldl (fun s _ => only_raise _ _ s) _ _)

theorem only_satCheck (r : List (Nat × Nat × Nat)) (s : State) : Only frameParts s (satCheck r s) := by
  have judged : ∀ d, Only frameParts s { s with dp := d } := fun d => only_dp d s (by decide)
  exact (judged _).trans (only_foldl (fun s _ => (only_count (by decide +kernel) 1 s).trans (only_raise _ _ _)) _ _)

/-! ### Writes, joins and swaps due at the boundary -/

theorem only_portWrites (s : State) : Only frameParts s (portWrites s) := by
  refine only_foldl (fun s _ => ?_) _ s
  split
  · exact (only_pendingTake _ s).mono (by decide)
  · exact Only.refl s

theorem only_stageFaults (l : List StageRead) (s : State) : Only frameParts s (stageFaults l s) :=
  (only_tt _ s (by decide)).trans (only_foldl (fun s _ => only_ite (Only.refl s) ((only_tt _ s (by decide)).trans (only_raise _ _ _))) _ _)

theorem only_swapMissed (f : Nat) (s : State) : Only frameParts s (swapMissed f s) :=
  Only.step_if (only_tt _ s (by decide)) (only_raise _ _ _)

theorem only_ttFrame (s : State) : Only frameParts s (ttFrame s) := by
  refine only_ite (Only.refl s) ?_
  split
  · exact only_ite (only_ite (only_nextGone _ s (by decide) (by decide)) ((only_swapImage _ _ s).mono (by decide))) (only_swapMissed _ s)
  · exact only_swapMissed _ s

theorem only_resumeFrame (s : State) : Only frameParts s (resumeFrame s) :=
  only_ite ((only_rp _ s (by decide)).trans ((only_becomeCurrent 12 _).mono (by decide))) (Only.refl s)

theorem only_epochSplit (s : State) : Only frameParts s (epochSplit s) := only_ite (only_raise _ _ s) (Only.refl s)

/-! ### The checks of the frame -/

theorem only_cellReport (w c v : Nat) (s : State) : Only frameParts s (cellReport w c v s) :=
  only_ite (Only.refl s) (((only_ch _ s (by decide)).trans (only_count (by decide +kernel) 1 _)).trans (only_raise _ _ _))

theorem only_lossPort (p : Nat) (s : State) : Only frameParts s (lossPort p s) := by
  refine only_foldl (fun s i => ?_) _ s
  extract_lets d l key c was _ noted located
  have lost : Only frameParts s noted := only_op _ s (by decide)
  have h : Only frameParts s located := lost.step_if (only_raiseOnce _ _ _ _)
  clear_value located
  refine h.trans (only_ite (Only.refl _) ?_)
  split
  · exact Only.refl _
  · exact only_ite (Only.step_if (only_raiseOnce _ _ _ _) (movePropose_only _ _ _ _ _ (by decide))) (Only.refl _)

theorem only_chuteLoss (s : State) : Only frameParts s (chuteLoss s) := by
  refine only_foldl (fun s wx => only_foldl (fun s c => only_ite (Only.refl s) ?_) _ s) _ s
  split
  · exact Only.refl s
  · exact only_ite (only_raiseOnce _ _ _ s) (Only.refl s)

theorem only_evidencePort (p : Nat) (n : Neighbour) (s : State) : Only frameParts s (evidencePort p n s) := by
  have cleared : ∀ f, Only frameParts s (setNb p f s) := fun f => setNb_only p f s (by decide)
  have reported : ∀ i s, Only frameParts s (raise Ev.HL_EVIDENCE i (attn 3 (count E.HL_EVIDENCE_CONFLICTS 1 s))) := fun i s =>
    ((only_count (by decide +kernel) 1 s).trans (only_hl _ _ (by decide))).trans (only_raise _ i _)
  exact (cleared _).trans (only_ite (Only.refl _) (reported _ _))

theorem only_evidenceFrame (s : State) : Only frameParts s (evidenceFrame s) := only_foldl (fun s _ => only_evidencePort _ _ s) _ s

theorem only_setBias (e k v : Nat) (s : State) : Only frameParts s (setBias e k v s) :=
  (((only_op _ s (by decide)).trans (only_op _ _ (by decide))).trans (only_op _ _ (by decide))).trans (only_emit _ _)

theorem only_elsStart (s : State) : Only frameParts s (elsStart s) := by
  have idled : ∀ p s, Only frameParts s (setReserve p 0 .idle s) := fun p s => only_setReserve p 0 .idle s (by decide)
  have stepped : ∀ (ks : List Nat) (e : Nat) (s : State), Only frameParts s (ks.foldl (fun s i =>
      setBias e (i + 1) (SMap.getD (elsOf s e).bias (i + 1) 0 + Cfg.OP_ELS_BIAS_STEP_PCT s) s) s) := fun ks e s =>
    only_foldl (fun s _ => only_setBias _ _ _ s) ks s
  refine only_foldl (fun s x => ?_) _ s
  dsimp only
  split
  · exact (only_op _ s (by decide)).trans (only_ite (only_foldl (fun s _ => only_ite (idled _ s) (Only.refl s)) _ _) (Only.refl _))
  · exact stepped _ _ s

theorem only_frameChecks (r : FrameReadings) (s : State) : Only frameParts s (frameChecks r s) := by
  unfold frameChecks
  extract_lets _ monitored celled chuted checked
  have h1 : Only frameParts s monitored := only_op _ s (by decide)
  have h2 : Only frameParts monitored celled := only_foldl (fun s _ => only_cellReport _ _ _ s) _ _
  have h3 : Only frameParts celled chuted :=
    only_ite ((only_foldl (fun s p => only_ite (Only.refl s) (only_lossPort p s)) _ _).trans (only_chuteLoss _)) (Only.refl _)
  have h4 : Only frameParts chuted checked := only_ite (Only.refl _) (withPins_only (only_evidenceFrame _))
  have h5 : Only frameParts checked (searchRetry checked) := only_op _ _ (by decide)
  exact ((((h1.trans h2).trans h3).trans h4).trans h5).trans (only_elsStart _)

/-! ### What a frame ends with -/

theorem only_trimGate (s : State) : Only frameParts s (trimGate s) := only_ite (Only.refl s) (only_hl _ s (by decide))

theorem only_periodicLatch (s : State) : Only frameParts s (periodicLatch s) := only_ite (Only.refl s) (only_latch 1 s (by decide))

theorem only_entryReport (b : Sub) (s : State) : Only frameParts s (entryReport b s) := by
  unfold entryReport
  split
  · exact Only.refl s
  · exact only_ite (Only.refl s) (deliver_only _ s (by decide) (by decide) (by decide) (by decide) (by decide) (by decide))

theorem only_entryReports (s : State) : Only frameParts s (entryReports s) := only_foldl (fun s _ => only_entryReport _ s) _ s

theorem only_frameWork (r : FrameReadings) (s : State) : Only frameParts s (frameWork r s) := by
  unfold frameWork
  extract_lets flushed judged staged swapped gated
  have h1 : Only frameParts s flushed := (only_frameNoted _ s).trans (only_frameFlush _)
  have h2 : Only frameParts flushed judged := only_satCheck _ _
  have h3 : Only frameParts judged staged :=
    ((only_portWrites _).trans ((only_joinCheck _).mono (by decide))).trans (only_stageFaults _ _)
  have h4 : Only frameParts staged swapped := ((only_ttFrame _).trans (only_resumeFrame _)).trans (only_epochSplit _)
  have h5 : Only frameParts swapped gated := ((only_frameChecks r _).trans (only_ft _ _ (by decide))).trans (only_trimGate _)
  have ended : Only frameParts gated (entryReports (periodicLatch gated)) := (only_periodicLatch _).trans (only_entryReports _)
  exact (((((h1.trans h2).trans h3).trans h4).trans h5).trans ended).trans (only_frameNoted _ _)

theorem frameBoundary_frame (r : FrameReadings) : Changes (.frameBoundary r) frameParts :=
  changes_run (fun s => Eq.refl (execFrameBoundary r s)) fun s => only_ite (only_frameWork r s) (Only.refl s)

/-! ### All rows -/

/-- The premise of the doorbell rows is met: the part holds no slot after power-up. -/
theorem byteOps_reset : ByteOps State.reset := fun _ hx => absurd hx List.not_mem_nil

/-- Settles O40: each row by its own frame lemma, which composes what every operation of the row's effect leaves as it is. -/
theorem wideFrames : Obligations.WideFrames :=
  ⟨packetArrival_frame, packetTail_frame, cellReceived_frame, cellCreditReceived_frame, laneTrained_frame, ptpSync_frame,
    ptpFollowUp_frame, joinFrame_frame, checkpointSnapshot_frame, checkpointRestore_frame, pendingWriteEffect_frame, dictWrite_frame,
    importApplyDone_frame, restEntry_frame, frameBoundary_frame, wdtChallenge_frame, withdrawFrame_frame, sqTailDoorbell_frame,
    cqHeadWrite_frame, queueCtrlWrite_frame⟩

end Sys2Proof.Machine
end
section
/-! Where the nodes of a reduction tree run (R188). -/
namespace Sys2Proof.Machine
open Sys2Proof

theorem nodeBench_own {r : Recipe} {l j : Nat} (hl : 1 ≤ l) (h : 4 ^ l * j + l < rBlocks r) :
    nodeBench r l j = blockBench r (4 ^ l * j + l) := by
  rw [nodeBench, if_neg (by omega), if_pos h]

theorem nodeBench_first {r : Recipe} {l j : Nat} (hl : 1 ≤ l) (h : rBlocks r ≤ 4 ^ l * j + l) :
    nodeBench r l j = blockBench r (4 ^ l * j) := by
  rw [nodeBench, if_neg (by omega), if_neg (by omega)]

/-- Settles O47: a node above level 0 takes its own block's bench where there is one. -/
theorem nodeBenches : Obligations.NodeBenches := fun _ _ _ hl => ⟨nodeBench_own hl, nodeBench_first hl⟩

end Sys2Proof.Machine
end
section
/-! The crusher's state (R183 to R201): what a recipe's record, a chunk and a node hold after each operation. -/
namespace Sys2Proof.Machine
open Sys2Proof

/-! ### Recipes, their records and chunks -/

theorem recipeOf_congr {s t : State} (h : t.tt = s.tt) (c : Nat) : recipeOf t c = recipeOf s c := by unfold recipeOf; rw [h]

theorem recOf_congr {s t : State} (h : t.cr.recs = s.cr.recs) (r : Recipe) : recOf t r = recOf s r := by unfold recOf; rw [h]

@[simp] theorem recOf_onRec (r : Recipe) (f : RecState → RecState) (s : State) : recOf (onRec r f s) r = f (recOf s r) :=
  getD_set_self _ _ _ _

theorem accRoom_congr {s t : State} (hc : t.cr.recs = s.cr.recs) (ht : t.tt = s.tt) (b : Nat) (r : Recipe) :
    accRoom t b r = accRoom s b r := by
  unfold accRoom accUsed
  simp only [hc, recipeOf_congr ht]

theorem mem_of_chunkOf {x : RecState} {c : Nat} {o : Chunk} (h : chunkOf x c = some o) : o ∈ x.open' := List.mem_of_find?_eq_some h

theorem index_of_chunkOf {x : RecState} {c : Nat} {o : Chunk} (h : chunkOf x c = some o) : o.index = c := by
  simpa using List.find?_some h

/-- A change of the chunk of one index, where it keeps its index, is what that index finds afterwards. -/
theorem chunkOf_onChunk {r : Recipe} {c : Nat} {f : Chunk → Chunk} {s : State} {o : Chunk} (hf : ∀ k, (f k).index = k.index)
    (h : chunkOf (recOf s r) c = some o) : chunkOf (recOf (onChunk r c f s) r) c = some (f o) := by
  have hi : ((fun k : Chunk => k.index == c) ∘ fun k => if k.index = c then f k else k) = fun k => k.index == c := by
    funext k
    dsimp only [Function.comp]
    split
    · rw [hf]
    · rfl
  unfold onChunk chunkOf at *
  rw [recOf_onRec, List.find?_map, hi, h, Option.map_some, if_pos (index_of_chunkOf h)]

/-! ### What later operations on a contribution's chunk leave of it -/

/-- Every chunk of the later record was open in the earlier one with the same members, and the ports' ticks are the same. -/
def RecKept (x y : RecState) : Prop :=
  y.lastFrom = x.lastFrom ∧ ∀ o ∈ y.open', ∃ k ∈ x.open', k.index = o.index ∧ k.members = o.members

/-- `RecKept` of a recipe's records in two states. -/
def Keeps (r : Recipe) (s t : State) : Prop := RecKept (recOf s r) (recOf t r)

theorem Keeps.refl (r : Recipe) (s : State) : Keeps r s s := ⟨rfl, fun o ho => ⟨o, ho, rfl, rfl⟩⟩

theorem Keeps.trans {r : Recipe} {s t u : State} (h : Keeps r s t) (k : Keeps r t u) : Keeps r s u := by
  obtain ⟨hl, hm⟩ := h
  obtain ⟨kl, km⟩ := k
  refine ⟨kl.trans hl, fun o ho => ?_⟩
  obtain ⟨a, ha, ai, am⟩ := km o ho
  obtain ⟨b, hb, bi, bm⟩ := hm a ha
  exact ⟨b, hb, bi.trans ai, bm.trans am⟩

theorem keeps_of_recs {r : Recipe} {s t : State} (h : t.cr.recs = s.cr.recs) : Keeps r s t := by
  unfold Keeps
  rw [recOf_congr h]
  exact Keeps.refl r s

theorem keeps_of_only {l : List Part} {r : Recipe} {s t : State} (h : Only l s t) (hl : .crusher ∉ l) : Keeps r s t :=
  keeps_of_recs (congrArg CrState.recs (h .crusher hl :))

theorem keeps_onRec {r : Recipe} {f : RecState → RecState} (s : State) (hf : ∀ x, RecKept x (f x)) : Keeps r s (onRec r f s) := by
  unfold Keeps
  rw [recOf_onRec]
  exact hf _

theorem recKept_map {x : RecState} {g : Chunk → Chunk} (hg : ∀ k, (g k).index = k.index ∧ (g k).members = k.members) :
    RecKept x { x with open' := x.open'.map g } := by
  refine ⟨rfl, fun o ho => ?_⟩
  obtain ⟨k, hk, rfl⟩ := List.mem_map.1 ho
  exact ⟨k, hk, (hg k).1.symm, (hg k).2.symm⟩

theorem recKept_filter (x : RecState) (w : Chunk → Bool) : RecKept x { x with open' := x.open'.filter w } :=
  ⟨rfl, fun o ho => ⟨o, List.mem_of_mem_filter ho, rfl, rfl⟩⟩

theorem keeps_onChunk {r : Recipe} {c : Nat} {f : Chunk → Chunk} (s : State)
    (hf : ∀ k, (f k).index = k.index ∧ (f k).members = k.members) : Keeps r s (onChunk r c f s) :=
  keeps_onRec s fun _ => recKept_map fun k => by
    split
    · exact hf k
    · exact ⟨rfl, rfl⟩

theorem crBase_open (n : Nat) (x : RecState) : (crBase n x).open' = x.open' ∧ (crBase n x).lastFrom = x.lastFrom := by
  induction n generalizing x with
  | zero => exact ⟨rfl, rfl⟩
  | succ n ih =>
    unfold crBase
    split
    · exact ih _
    · exact ⟨rfl, rfl⟩

theorem keeps_crClose (r : Recipe) (c : Nat) (s : State) : Keeps r s (crClose r c s) :=
  keeps_onRec s fun x => by
    obtain ⟨ho, hl⟩ := crBase_open 65536 { x with closed := addNew c x.closed }
    exact ⟨hl, fun o h => ⟨o, ho ▸ h, rfl, rfl⟩⟩

theorem onChunk_only {l : List Part} (r : Recipe) (c : Nat) (f : Chunk → Chunk) (s : State) (hr : .crusher ∈ l) :
    Only l s (onChunk r c f s) := only_onRec r _ s hr

theorem crClose_only {l : List Part} (r : Recipe) (c : Nat) (s : State) (hr : .crusher ∈ l) : Only l s (crClose r c s) := only_onRec r _ s hr

theorem crOpen_only {l : List Part} (r : Recipe) (c : Nat) (s : State) (hr : .crusher ∈ l) : Only l s (crOpen r c s) := only_onRec r _ s hr

/-! ### A finished result (R189) -/

theorem crCross_only {l : List Part} (a b n : Nat) (s : State) (hq : .queues ∈ l) : Only l s (crCross a b n s) :=
  (Only.refl s).step_unless (crossAdd_only _ _ _ _ _ s hq)

theorem countConv_only {l : List Part} (b n m : Nat) (s : State) : Only l s (countConv b n m s) :=
  ((Only.refl s).step_unless (only_tally (by decide +kernel) _ _ _ _ s)).step_unless (only_tally (by decide +kernel) _ _ _ _ _)

/-- A chunk that is complete is let go. -/
def letGo (c : Nat) (x : RecState) : RecState := { x with open' := x.open'.filter fun y => !(y.index == c && y.complete) }

/-- A finished result adds to what is on its way down, and its chunk is let go. -/
theorem crFinish_eq (r : Recipe) (c : Nat) (b : Bytes) (s : State) :
    ∃ u ms, Only [.queues] (onRec r (letGo c) s) u ∧ crFinish r c b s = { u with cr := { u.cr with moves := u.cr.moves ++ ms } } := by
  refine ⟨_, _, ?_, rfl⟩
  refine Only.trans (only_foldl (fun s x => ?_) _ _) (only_foldl (fun s b => ?_) _ _)
  · exact ((only_occ _ _ _ _ s).trans (only_occ _ _ _ _ _)).trans (crCross_only _ _ _ _ (by decide))
  · exact (only_occ _ _ _ _ s).trans (crCross_only _ _ _ _ (by decide))

theorem crFinish_cr (r : Recipe) (c : Nat) (b : Bytes) (s : State) :
    ∃ ms, (crFinish r c b s).cr = { (onRec r (letGo c) s).cr with moves := s.cr.moves ++ ms } := by
  obtain ⟨u, ms, hu, e⟩ := crFinish_eq r c b s
  have hc : u.cr = (onRec r (letGo c) s).cr := hu .crusher (by decide)
  exact ⟨ms, by rw [e, hc]; rfl⟩

theorem keeps_crFinish (r : Recipe) (c : Nat) (b : Bytes) (s : State) : Keeps r s (crFinish r c b s) := by
  obtain ⟨ms, e⟩ := crFinish_cr r c b s
  have let_go : Keeps r s (onRec r (letGo c) s) := keeps_onRec s fun x => recKept_filter x _
  exact let_go.trans (keeps_of_recs (congrArg CrState.recs e :))

theorem crFinish_only {l : List Part} (r : Recipe) (c : Nat) (b : Bytes) (s : State) (hr : .crusher ∈ l) (hq : .queues ∈ l) :
    Only l s (crFinish r c b s) := by
  obtain ⟨u, ms, hu, e⟩ := crFinish_eq r c b s
  rw [e]
  exact ((only_onRec r _ s hr).trans (hu.mono (by simpa using hq))).trans (only_cr _ _ hr)

/-- The root's value is rounded into the result's payload; the conversion is counted. -/
theorem crRound_eq (r : Recipe) (c : Nat) (v : List Nat) (s : State) :
    ∃ u b, (∀ l, Only l s u) ∧ crRound r c v s = crFinish r c b u := by
  unfold crRound
  split
  · exact ⟨s, _, fun l => Only.refl s, rfl⟩
  · exact ⟨_, _, fun l => countConv_only _ _ _ s, rfl⟩

/-! ### An input of a node (R183) -/

/-- The operands that a chunk's node holds. -/
def nodeHeld (o : Chunk) (l j : Nat) : List Operand := ((o.nodes.find? fun n => n.level == l && n.index == j).map (·.held)).getD []

/-- What an operand does to the node of an open chunk. -/
def nodeStep (r : Recipe) (o : Chunk) (l j : Nat) (d : Operand) : NodeStep :=
  nodeLoop r.op (fmtInt r.inFmt) r.n (nodeRange r l j).2 16 (nodeHeld o l j) d 0

/-- The chunk's nodes after that: a node with an output holds nothing more. -/
def nodesAfter (r : Recipe) (o : Chunk) (l j : Nat) (d : Operand) : List Node :=
  let others := o.nodes.filter fun n => !(n.level == l && n.index == j)
  if (nodeStep r o l j d).out.isSome then others else others ++ [{ level := l, index := j, held := (nodeStep r o l j d).held }]

/-- The state with these nodes, before anything is counted. -/
def nodeFed (r : Recipe) (c : Nat) (o : Chunk) (l j : Nat) (d : Operand) (s : State) : State :=
  onChunk r c (fun k => { k with nodes := nodesAfter r o l j d }) s

/-- The same once the input and its combines are counted. -/
def nodeCounted (b lv n : Nat) (s : State) : State :=
  let s := occ b (576 + 8 * lv + 1) 1 {} s
  if n = 0 then s else occ b (576 + 8 * lv + 2) n {} (occ b 171 (ceilDiv n 768) {} (occ b 60 n {} s))

theorem nodeCounted_only {l : List Part} (b lv n : Nat) (s : State) : Only l s (nodeCounted b lv n s) :=
  (only_occ _ _ _ _ s).step_unless (((only_occ _ _ _ _ _).trans (only_occ _ _ _ _ _)).trans (only_occ _ _ _ _ _))

/-- The state in which a node's output stands, or its operands wait. -/
def nodeReady (r : Recipe) (c : Nat) (o : Chunk) (l j : Nat) (d : Operand) (s : State) : State :=
  nodeCounted (nodeBench r l j) l (nodeStep r o l j d).combines (nodeFed r c o l j d s)

/-- The partial that a node below the root sends on. -/
def partialUp (r : Recipe) (c l j : Nat) (v : List Nat) : Partial :=
  { coll := r.coll, chunk := c, level := l + 1, index := j / 4,
    opd := { lo := (nodeRange r l j).1, size := (nodeRange r l j).2, vals := (roundPartial r c v).1 } }

/-- The partial is on its way. -/
def sendUp (q : Partial) (s : State) : State := { s with cr := { s.cr with partials := s.cr.partials ++ [q] } }

/-- What a node does with its output. -/
def nodeOutput (r : Recipe) (c l j : Nat) (v : List Nat) (s : State) : State :=
  if l = rTop r then crRound r c v s
  else
    crCross (nodeBench r l j) (nodeBench r (l + 1) (j / 4)) (upBytes r) <| occ (nodeBench r l j) (576 + 8 * l + 3) 1 {} <|
      countConv (nodeBench r l j) (roundPartial r c v).2.1 (roundPartial r c v).2.2 (sendUp (partialUp r c l j v) s)

section
variable {r : Recipe} {c lv j : Nat} {d : Operand} {o : Chunk} {s : State}

/-- An input of a node of an open chunk is held, and the node's output goes on. -/
theorem nodeInput_eq (h : chunkOf (recOf s r) c = some o) :
    nodeInput r c lv j d s = (nodeStep r o lv j d).out.elim (nodeReady r c o lv j d s) fun v =>
      nodeOutput r c lv j v (occ (nodeBench r lv j) (576 + 8 * lv) 1 {} (nodeReady r c o lv j d s)) := by
  unfold nodeInput
  rw [h]
  change (match (nodeStep r o lv j d).out with
    | none => nodeReady r c o lv j d s
    | some v => nodeOutput r c lv j v (occ (nodeBench r lv j) (576 + 8 * lv) 1 {} (nodeReady r c o lv j d s))) = _
  cases (nodeStep r o lv j d).out with
  | none => rfl
  | some v => rfl

theorem nodeInput_none (h : chunkOf (recOf s r) c = none) : nodeInput r c lv j d s = s := by
  unfold nodeInput
  rw [h]

theorem nodeReady_only (l : List Part) : Only l (nodeFed r c o lv j d s) (nodeReady r c o lv j d s) := nodeCounted_only _ _ _ _

theorem nodeReady_counted (l : List Part) :
    Only l (nodeFed r c o lv j d s) (occ (nodeBench r lv j) (576 + 8 * lv) 1 {} (nodeReady r c o lv j d s)) :=
  (nodeReady_only l).trans (only_occ _ _ _ _ _)

/-- A node below the root sends a partial on. -/
theorem nodeOutput_up {v : List Nat} (ht : lv ≠ rTop r) : Only [.queues] (sendUp (partialUp r c lv j v) s) (nodeOutput r c lv j v s) := by
  unfold nodeOutput
  rw [if_neg ht]
  exact ((countConv_only _ _ _ _).trans (only_occ _ _ _ _ _)).trans (crCross_only _ _ _ _ (by decide))

/-- The root's output is the chunk's result. -/
theorem nodeOutput_root {v : List Nat} (ht : lv = rTop r) :
    ∃ u b, (∀ l, Only l s u) ∧ nodeOutput r c lv j v s = crFinish r c b u := by
  unfold nodeOutput
  rw [if_pos ht]
  exact crRound_eq r c v s

theorem keeps_nodeFed : Keeps r s (nodeFed r c o lv j d s) := keeps_onChunk s fun _ => ⟨rfl, rfl⟩

theorem keeps_nodeOutput (v : List Nat) : Keeps r s (nodeOutput r c lv j v s) := by
  by_cases ht : lv = rTop r
  · obtain ⟨u, b, hu, e⟩ := nodeOutput_root (c := c) (j := j) (v := v) (s := s) ht
    rw [e]
    exact (keeps_of_only (hu []) (by decide)).trans (keeps_crFinish r c b u)
  · have sent : Keeps r s (sendUp (partialUp r c lv j v) s) := keeps_of_recs rfl
    exact sent.trans (keeps_of_only (nodeOutput_up ht) (by decide))

/-- No input of a node changes the members of a chunk. -/
theorem keeps_nodeInput (c lv j : Nat) (d : Operand) (s : State) : Keeps r s (nodeInput r c lv j d s) := by
  cases h : chunkOf (recOf s r) c with
  | none =>
    rw [nodeInput_none h]
    exact Keeps.refl r s
  | some o =>
    rw [nodeInput_eq h]
    cases (nodeStep r o lv j d).out with
    | none => exact keeps_nodeFed.trans (keeps_of_only (nodeReady_only []) (by decide))
    | some v => exact (keeps_nodeFed.trans (keeps_of_only (nodeReady_counted []) (by decide))).trans (keeps_nodeOutput v)

theorem nodeInput_only {l : List Part} (c lv j : Nat) (d : Operand) (s : State) (hr : .crusher ∈ l) (hq : .queues ∈ l) :
    Only l s (nodeInput r c lv j d s) := by
  have fed : ∀ o, Only l s (nodeFed r c o lv j d s) := fun _ => only_cr _ s hr
  cases h : chunkOf (recOf s r) c with
  | none =>
    rw [nodeInput_none h]
    exact Only.refl s
  | some o =>
    rw [nodeInput_eq h]
    cases (nodeStep r o lv j d).out with
    | none => exact (fed o).trans (nodeReady_only l)
    | some v =>
      refine ((fed o).trans (nodeReady_counted l)).trans ?_
      by_cases ht : lv = rTop r
      · obtain ⟨u, b, hu, e⟩ := nodeOutput_root (c := c) (j := j) (v := v) ht
        dsimp only [Option.elim]
        rw [e]
        exact (hu l).trans (crFinish_only r c b u hr hq)
      · exact (only_cr _ _ hr).trans ((nodeOutput_up ht).mono (by simpa using hq))

end
end Sys2Proof.Machine
end
section
/-! Contributions (R195) and partials (R183): what the rows of the crusher's inputs leave in its state. -/
namespace Sys2Proof.Machine
open Sys2Proof

/-! ### Contributions (R195) -/

/-- A contribution of a member of the recipe that no step of R195 turns away. -/
structure Welcome (p : Nat) (k : Packet) (r : Recipe) (s : State) : Prop where
  gate : (recOf s r).gate = .openn
  job : pkJob k = r.job
  member : pkMember k < r.n
  bench : blockBench r (pkMember k / 2 ^ r.shift) = benchOf p
  len : pkLen k = inBytes r
  kind : (if rBarrier r then pkOp k == Op.BARRIER else pkOp k == Op.RED_CONTRIB) = true
  ahead : serialDist 24 (pkChunk k) (recOf s r).base < 2 ^ 23
  window : serialDist 24 (pkChunk k) (recOf s r).base < r.window
  closed : (recOf s r).closed.contains (pkChunk k) = false
  fresh : ∀ o, chunkOf (recOf s r) (pkChunk k) = some o → pkMember k ∉ o.members ∧ (o.complete = true ∨ s.clk.tick < o.deadline)
  room : accRoom s (benchOf p) r = true

theorem contribution_welcome {p n : Nat} {k : Packet} {r : Recipe} {s : State} (hr : recipeOf s (pkColl k) = some (n, r))
    (h : Welcome p k r s) : contribution p k s = crAccept p r k s := by
  have first : ((chunkOf (recOf s r) (pkChunk k)).any fun o => o.members.contains (pkMember k)) = false := by
    cases ho : chunkOf (recOf s r) (pkChunk k) with
    | none => rfl
    | some o => simpa using (h.fresh o ho).1
  unfold contribution
  rw [hr]
  dsimp only
  rw [if_neg (by simp [h.gate]), if_neg (by simp [h.job]), if_neg (by simp [h.bench, h.member]), if_neg (by simp [h.kind, h.len])]
  refine (if_neg ?_).trans ?_
  · have ha : ¬ 2 ^ 23 ≤ serialDist 24 (pkChunk k) (recOf s r).base := Nat.not_le.2 h.ahead
    simp only [Bool.or_eq_true, decide_eq_true_eq, h.closed, Bool.false_eq_true, or_false, not_or]
    refine ⟨ha, ?_⟩
    split
    · next o ho =>
      obtain ⟨-, hc | hd⟩ := h.fresh o ho
      · simp [hc]
      · simp [Nat.not_le.2 hd]
    · decide
  · rw [if_neg (Nat.not_le.2 h.window), first, if_neg (by decide), if_neg (by simp [h.room])]

/-- A contribution's member stands in its chunk, and its port is noted. -/
def Joined (p : Nat) (k : Packet) (r : Recipe) (n : Nat) (t : State) : Prop :=
  SMap.get? (recOf t r).lastFrom p = some n ∧ ∀ o ∈ (recOf t r).open', o.index = pkChunk k → pkMember k ∈ o.members

theorem Joined.keeps {p n : Nat} {k : Packet} {r : Recipe} {s t : State} (h : Joined p k r n s) (ht : Keeps r s t) : Joined p k r n t := by
  obtain ⟨hp, hm⟩ := h
  obtain ⟨hl, ho⟩ := ht
  refine ⟨by rw [hl, hp], fun o h hi => ?_⟩
  obtain ⟨x, hx, xi, xm⟩ := ho o h
  rw [← xm]
  exact hm x hx (xi.trans hi)

/-- The chunk with the member, and the recipe's record with the port. -/
def memberNoted (p : Nat) (r : Recipe) (k : Packet) (s : State) : State :=
  onRec r (fun x => { x with lastFrom := SMap.set x.lastFrom p s.clk.tick })
    (onChunk r (pkChunk k) (fun x => { x with members := x.members ++ [pkMember k], froms := addNew p x.froms }) (crOpen r (pkChunk k) s))

theorem joined_memberNoted (p : Nat) (r : Recipe) (k : Packet) (s : State) : Joined p k r s.clk.tick (memberNoted p r k s) := by
  unfold Joined memberNoted onChunk
  rw [recOf_onRec, recOf_onRec]
  refine ⟨get?_set_self _ _ _, fun o ho hi => ?_⟩
  obtain ⟨x, -, rfl⟩ := List.mem_map.1 ho
  by_cases hx : x.index = pkChunk k
  · rw [if_pos hx]
    exact List.mem_append_right _ (List.mem_singleton_self _)
  · rw [if_neg hx] at hi
    exact absurd hi hx

/-- A chunk that has all its members is done and closes. -/
def chunkDone (r : Recipe) (c : Nat) (s : State) : State :=
  crClose r c (tally E.CR_CHUNKS_DONE (nodeBench r (rTop r) 0) 55 1 {}
    (onRec r (fun x => { x with done := x.done + 1 }) (onChunk r c (fun x => { x with complete := true }) s)))

theorem keeps_chunkDone (r : Recipe) (c : Nat) (s : State) : Keeps r s (chunkDone r c s) := by
  refine Keeps.trans (Keeps.trans ?_ (keeps_of_only (only_tally (l := []) (e := E.CR_CHUNKS_DONE) (by decide +kernel) _ _ _ _ _)
    List.not_mem_nil)) (keeps_crClose r c _)
  refine Keeps.trans (keeps_onChunk s fun _ => ?_) (keeps_onRec _ fun _ => ?_)
  · exact ⟨rfl, rfl⟩
  · exact ⟨rfl, fun o ho => ⟨o, ho, rfl, rfl⟩⟩

theorem chunkDone_only {l : List Part} (r : Recipe) (c : Nat) (s : State) (hr : .crusher ∈ l) : Only l s (chunkDone r c s) := by
  refine Only.trans (Only.trans ?_ (only_tally (e := E.CR_CHUNKS_DONE) (by decide +kernel) _ _ _ _ _)) (crClose_only r c _ hr)
  exact (onChunk_only r c _ s hr).trans (only_onRec r _ _ hr)

/-- What an accepted contribution does once it is noted: a whole chunk closes, and the operand goes to its node. -/
theorem crAccept_eq (p : Nat) (r : Recipe) (k : Packet) (s : State) :
    ∃ b : Bool, ∃ f : State → State, (f = crFinish r (pkChunk k) (pkPayload k) ∨ ∃ j d, f = nodeInput r (pkChunk k) 0 j d)
      ∧ crAccept p r k s = f (if b = true then chunkDone r (pkChunk k) (memberNoted p r k s) else memberNoted p r k s) := by
  unfold crAccept
  dsimp only
  split
  · exact ⟨_, _, .inl rfl, rfl⟩
  · exact ⟨_, _, .inr ⟨_, _, rfl⟩, rfl⟩

theorem joined_crAccept (p : Nat) (r : Recipe) (k : Packet) (s : State) : Joined p k r s.clk.tick (crAccept p r k s) := by
  obtain ⟨b, f, hf, e⟩ := crAccept_eq p r k s
  have closed : Joined p k r s.clk.tick (if b = true then chunkDone r (pkChunk k) (memberNoted p r k s) else memberNoted p r k s) := by
    split
    · exact (joined_memberNoted p r k s).keeps (keeps_chunkDone _ _ _)
    · exact joined_memberNoted p r k s
  rw [e]
  refine closed.keeps ?_
  obtain rfl | ⟨j, d, rfl⟩ := hf
  · exact keeps_crFinish _ _ _ _
  · exact keeps_nodeInput _ _ _ _ _

theorem crAccept_only {l : List Part} (p : Nat) (r : Recipe) (k : Packet) (s : State) (hr : .crusher ∈ l) (hq : .queues ∈ l) :
    Only l s (crAccept p r k s) := by
  obtain ⟨b, f, hf, e⟩ := crAccept_eq p r k s
  have noted : Only l s (memberNoted p r k s) := ((crOpen_only r _ s hr).trans (onChunk_only r _ _ _ hr)).trans (only_onRec r _ _ hr)
  rw [e]
  refine (noted.step_if (c := b = true) (chunkDone_only r (pkChunk k) _ hr)).trans ?_
  obtain rfl | ⟨j, d, rfl⟩ := hf
  · exact crFinish_only _ _ _ _ hr hq
  · exact nodeInput_only _ _ _ _ _ hr hq

/-- A contribution that is accepted joins its chunk. -/
theorem contribution_joins {i : Instr} {p : Port} {n : Nat} {k : Packet} {r : Recipe} {s : State} {op : Nat}
    (he : exec i s = run (fun s => if pkOp k = op && dpLive s then contribution p k (fromInbox p k s) else s) s) (ho : pkOp k = op)
    (hv : dpLive s = true) (hr : recipeOf s (pkColl k) = some (n, r)) (h : Welcome p k r s) :
    Answers i s fun t => SMap.get? (recOf t r).lastFrom p = some s.clk.tick
      ∧ ∀ o, chunkOf (recOf t r) (pkChunk k) = some o → pkMember k ∈ o.members := by
  refine answers_run he ?_
  have hd : (decide (pkOp k = op) && dpLive (start s)) = true := by
    rw [show dpLive (start s) = dpLive s from rfl, hv, ho]
    simp
  have hw : Welcome p k r (fromInbox p k (start s)) := by
    obtain ⟨h1, h2, h3, h4, h5, h6, h7, h8, h9, h10, h11⟩ := h
    exact ⟨h1, h2, h3, h4, h5, h6, h7, h8, h9, h10, h11⟩
  rw [if_pos hd, contribution_welcome (s := fromInbox p k (start s)) hr hw]
  obtain ⟨hl, hm⟩ := joined_crAccept p r k (fromInbox p k (start s))
  exact ⟨hl, fun o h => hm o (mem_of_chunkOf h) (index_of_chunkOf h)⟩

/-! ### Partials (R183) -/

/-- The partials on their way without the n-th. -/
def partialTaken (n : Nat) (s : State) : State := { s with cr := { s.cr with partials := listErase s.cr.partials n } }

/-- A partial whose node has room is an input of that node. -/
theorem exec_partialArrival {n slot : Nat} {q : Partial} {r : Recipe} {s : State} (hq : (s.cr.partials.drop n).head? = some q)
    (hr : recipeOf s q.coll = some (slot, r)) (ha : accRoom s (nodeBench r q.level q.index) r = true) :
    ∃ u, (∀ l, Only l (partialTaken n (start s)) u)
      ∧ exec (.partialArrival n) s = .next (settle s (nodeInput r q.chunk q.level q.index q.opd u)) := by
  have counted : ∀ l, Only l (partialTaken n (start s))
      (occ (nodeBench r q.level q.index) (576 + 8 * q.level + 4) 1 {} (partialTaken n (start s))) := fun l => only_occ _ _ _ _ _
  have room : accRoom (occ (nodeBench r q.level q.index) (576 + 8 * q.level + 4) 1 {} (partialTaken n (start s)))
      (nodeBench r q.level q.index) r = true :=
    (accRoom_congr (congrArg CrState.recs (counted [] .crusher (by decide) :)) (counted [] .timetable (by decide)) _ _).trans ha
  refine ⟨_, counted, (Eq.refl (execPartialArrival n s)).trans ?_⟩
  have hq' : ((start s).cr.partials.drop n).head? = some q := hq
  have hr' : recipeOf { start s with cr := { (start s).cr with partials := listErase (start s).cr.partials n } } q.coll = some (slot, r) := hr
  unfold execPartialArrival run
  dsimp only
  rw [hq']
  dsimp only
  rw [hr']
  dsimp only
  rw [if_neg]
  · rfl
  · exact Bool.eq_false_iff.1 (congrArg not room)

theorem partialArrival_answers {n slot : Nat} {q : Partial} {r : Recipe} {o : Chunk} {s : State}
    (hq : (s.cr.partials.drop n).head? = some q) (hr : recipeOf s q.coll = some (slot, r))
    (hc : chunkOf (recOf s r) q.chunk = some o) (ha : accRoom s (nodeBench r q.level q.index) r = true) :
    Answers (.partialArrival n) s fun t =>
      ((nodeStep r o q.level q.index q.opd).out = none → t.cr.partials = listErase s.cr.partials n
        ∧ ∃ o', chunkOf (recOf t r) q.chunk = some o'
          ∧ { level := q.level, index := q.index, held := (nodeStep r o q.level q.index q.opd).held } ∈ o'.nodes)
      ∧ (∀ v, (nodeStep r o q.level q.index q.opd).out = some v → q.level ≠ rTop r →
        t.cr.partials = listErase s.cr.partials n ++ [partialUp r q.chunk q.level q.index v])
      ∧ (∀ v, (nodeStep r o q.level q.index q.opd).out = some v → q.level = rTop r →
        t.cr.partials = listErase s.cr.partials n ∧ s.cr.moves <+: t.cr.moves) := by
  obtain ⟨u, hu, e⟩ := exec_partialArrival hq hr ha
  have hcr : u.cr = (partialTaken n (start s)).cr := hu [] .crusher (by decide)
  have hcu : chunkOf (recOf u r) q.chunk = some o := by rw [recOf_congr (congrArg CrState.recs hcr :)]; exact hc
  have fed : ∀ w, Only [] (nodeFed r q.chunk o q.level q.index q.opd u) w →
      w.cr = (nodeFed r q.chunk o q.level q.index q.opd u).cr := fun w h => h .crusher (by decide)
  have hp : (nodeFed r q.chunk o q.level q.index q.opd u).cr.partials = listErase s.cr.partials n := (congrArg CrState.partials hcr :)
  have hm : (nodeFed r q.chunk o q.level q.index q.opd u).cr.moves = s.cr.moves := (congrArg CrState.moves hcr :)
  refine ⟨_, e, fun hn => ?_, fun v hv ht => ?_, fun v hv ht => ?_⟩
  · have hw := fed _ (nodeReady_only [])
    rw [nodeInput_eq hcu, hn]
    refine ⟨(congrArg CrState.partials hw).trans hp, { o with nodes := nodesAfter r o q.level q.index q.opd }, ?_, ?_⟩
    · exact (congrArg (chunkOf · q.chunk) (recOf_congr (congrArg CrState.recs hw) r)).trans (chunkOf_onChunk (fun _ => rfl) hcu)
    · simp [nodesAfter, hn]
  · have hw := fed _ (nodeReady_counted [])
    have sent := nodeOutput_up (c := q.chunk) (j := q.index) (v := v) (s := occ (nodeBench r q.level q.index) (576 + 8 * q.level) 1 {}
      (nodeReady r q.chunk o q.level q.index q.opd u)) ht .crusher (by decide)
    rw [nodeInput_eq hcu, hv]
    refine (congrArg CrState.partials sent).trans ?_
    change _ ++ _ = _
    rw [hw, hp]
  · have hw := fed _ (nodeReady_counted [])
    obtain ⟨x, b, hx, ef⟩ := nodeOutput_root (c := q.chunk) (j := q.index) (v := v) (s := occ (nodeBench r q.level q.index)
      (576 + 8 * q.level) 1 {} (nodeReady r q.chunk o q.level q.index q.opd u)) ht
    obtain ⟨ms, em⟩ := crFinish_cr r q.chunk b x
    have hxc : x.cr = (nodeFed r q.chunk o q.level q.index q.opd u).cr := (hx [] .crusher (by decide) :).trans hw
    rw [nodeInput_eq hcu, hv]
    dsimp only [Option.elim]
    rw [ef]
    change (crFinish r q.chunk b x).cr.partials = _ ∧ _ <+: (crFinish r q.chunk b x).cr.moves
    rw [em]
    refine ⟨((congrArg CrState.partials hxc :) : x.cr.partials = _).trans hp, ?_⟩
    change _ <+: x.cr.moves ++ ms
    rw [hxc, hm]
    exact List.prefix_append _ _

end Sys2Proof.Machine
end
section
/-! Results and abandoned chunks (R196 to R201): what the rows of the crusher's outputs and timers leave in its state. -/
namespace Sys2Proof.Machine
open Sys2Proof

/-! ### Results that arrive (R198) -/

theorem resultJoin_keeps (x : ResultQ) (s : State) : ∀ y ∈ s.cr.results, y ∈ (resultJoin x s).cr.results := fun y hy => by
  obtain ⟨w, e⟩ : ∃ w : ResultQ → Bool, (resultJoin x s).cr.results
      = s.cr.results.takeWhile w ++ [x] ++ s.cr.results.drop (s.cr.results.takeWhile w).length := ⟨_, rfl⟩
  obtain ⟨l, hl⟩ := List.takeWhile_prefix (l := s.cr.results) w
  have hd : s.cr.results.drop (s.cr.results.takeWhile w).length = l := (congrArg (List.drop _) hl.symm).trans List.drop_left
  rw [e, hd]
  rw [← hl] at hy
  simp only [List.mem_append] at hy ⊢
  exact hy.imp .inl id

theorem resultJoin_joins (x : ResultQ) (s : State) : x ∈ (resultJoin x s).cr.results := by simp [resultJoin]

/-- The place of a result in the queue of one of its ports. -/
def queued (m : ResultMove) (s : State) (p : Nat) : ResultQ :=
  { coll := m.coll, port := p, chunk := m.chunk, payload := m.payload, tick := s.clk.tick, at' := now s }

/-- Each port of a list takes the result into its queue. -/
theorem results_foldl (m : ResultMove) (ps : List Nat) (s : State) :
    ((ps.foldl (fun s p => resultJoin (queued m s p) s) s).cr.moves = s.cr.moves)
      ∧ ∀ y, (y ∈ s.cr.results ∨ ∃ p ∈ ps, y = queued m s p) → y ∈ (ps.foldl (fun s p => resultJoin (queued m s p) s) s).cr.results := by
  induction ps generalizing s with
  | nil => exact ⟨rfl, fun y hy => by simpa using hy⟩
  | cons p ps ih =>
    obtain ⟨hm, hr⟩ := ih (resultJoin (queued m s p) s)
    refine ⟨hm, fun y hy => hr y ?_⟩
    obtain hy | ⟨q, hq, rfl⟩ := hy
    · exact .inl (resultJoin_keeps _ s y hy)
    · obtain rfl | hq := List.mem_cons.1 hq
      · exact .inl (resultJoin_joins _ s)
      · exact .inr ⟨q, hq, rfl⟩

/-- The results on their way without the n-th. -/
def moveTaken (n : Nat) (s : State) : State := { s with cr := { s.cr with moves := listErase s.cr.moves n } }

theorem resultArrival_answers {n : Nat} {m : ResultMove} {s : State} (h : (s.cr.moves.drop n).head? = some m) :
    Answers (.resultArrival n) s fun t => t.cr.moves = listErase s.cr.moves n
      ∧ if m.orphan = 1 ∨ m.orphan = 2 then t.cr.results = s.cr.results else ∀ p ∈ m.ports, queued m s p ∈ t.cr.results := by
  refine answers_run (Eq.refl (execResultArrival n s)) ?_
  have h' : ((start s).cr.moves.drop n).head? = some m := h
  dsimp only
  rw [h']
  dsimp only
  by_cases h1 : m.orphan = 1
  · rw [if_pos h1, if_pos (.inl h1)]
    have hc := of_quiet_cr (quiet_tally E.TT_SWAP_ORPHANS m.bench 23 m.ports.length {} (moveTaken n (start s)))
    exact ⟨(congrArg CrState.moves hc :), (congrArg CrState.results hc :)⟩
  · rw [if_neg h1]
    by_cases h2 : m.orphan = 2
    · rw [if_pos h2, if_pos (.inr h2)]
      exact ⟨rfl, rfl⟩
    · rw [if_neg h2, if_neg (by simp [h1, h2])]
      obtain ⟨hm, hr⟩ := results_foldl m m.ports (moveTaken n (start s))
      exact ⟨hm, fun p hp => hr _ (.inr ⟨p, hp, rfl⟩)⟩

/-! ### Abandoned chunks (R197, R201) -/

theorem crLog_recs (b : Bytes) (s : State) : (crLog b s).cr.recs = s.cr.recs := by
  unfold crLog
  dsimp only
  split <;> rfl

theorem crLog_newest (b : Bytes) (s : State) : (crLog b s).cr.log.head? = some b := rfl

/-- A chunk is no longer open, and no partial of it is on its way. -/
def chunkForgotten (r : Recipe) (k : Chunk) (s : State) : State :=
  let s := onRec r (fun x => { x with open' := x.open'.filter fun y => y.index != k.index, abandoned := x.abandoned + 1 }) s
  { s with cr := { s.cr with partials := s.cr.partials.filter fun q => !(q.coll == r.coll && q.chunk == k.index) } }

/-- An abandoned chunk before its record: silent ports are noted, and the chunk is forgotten and counted. -/
def abandonCounted (slot : Nat) (r : Recipe) (k : Chunk) (reason : Nat) (s : State) : State :=
  accum Ev.CR_CHUNK_ABANDONED r.coll (crHead slot r ++ [.u32 k.index, .u8 reason]) [1] (some E.CR_ABANDON_EVENT_LIMIT) <|
    tally E.CR_CHUNKS_ABANDONED (nodeBench r (rTop r) 0) 56 1 {} <| chunkForgotten r k <|
      (silentPorts s r k).foldl (fun s p => setNb p (fun n => { n with missing := n.missing + 1 }) s) s

theorem crAbandon_eq (slot : Nat) (r : Recipe) (k : Chunk) (reason : Nat) (s : State) :
    crAbandon slot r k reason s =
      crLog (crRecord slot r k.index reason (abandonCounted slot r k reason s).clk.tick ((List.range r.n).filter fun m => !k.members.contains m))
        (if k.complete then abandonCounted slot r k reason s else crClose r k.index (abandonCounted slot r k reason s)) := rfl

theorem chunkForgotten_open (r : Recipe) (k : Chunk) (s : State) : ∀ o ∈ (recOf (chunkForgotten r k s) r).open', o.index ≠ k.index :=
  fun o ho => by
    have hr := recOf_onRec r (fun x => { x with open' := x.open'.filter fun y => y.index != k.index, abandoned := x.abandoned + 1 }) s
    have e : (recOf (chunkForgotten r k s) r).open' = (recOf s r).open'.filter fun y => y.index != k.index := (congrArg RecState.open' hr :)
    rw [e] at ho
    simpa using List.of_mem_filter ho

theorem abandonCounted_recs (slot : Nat) (r : Recipe) (k : Chunk) (reason : Nat) (s : State) :
    ∃ u, (abandonCounted slot r k reason s).cr.recs = (chunkForgotten r k u).cr.recs :=
  ⟨_, (congrArg CrState.recs ((of_quiet_cr (quiet_accum _ _ _ _ _ _)).trans (of_quiet_cr (quiet_tally _ _ _ _ _ _))) :)⟩

theorem abandonCounted_tick (slot : Nat) (r : Recipe) (k : Chunk) (reason : Nat) (s : State) :
    (abandonCounted slot r k reason s).clk.tick = s.clk.tick := by
  have silent := clk_foldl (fun s p => setNb p (fun n => { n with missing := n.missing + 1 }) s) (fun s p => setNb_clk p _ s) (silentPorts s r k) s
  unfold abandonCounted
  rw [accum_clk, tally_clk]
  exact congrArg Clk.tick silent

/-- An abandoned chunk is open no more, and its record is the newest of the log. -/
theorem crAbandon_leaves (slot : Nat) (r : Recipe) (k : Chunk) (reason : Nat) (s : State) :
    chunkOf (recOf (crAbandon slot r k reason s) r) k.index = none
      ∧ (crAbandon slot r k reason s).cr.log.head?
        = some (crRecord slot r k.index reason s.clk.tick ((List.range r.n).filter fun m => !k.members.contains m)) := by
  obtain ⟨u, hu⟩ := abandonCounted_recs slot r k reason s
  have gone : ∀ o ∈ (recOf (abandonCounted slot r k reason s) r).open', o.index ≠ k.index := by
    rw [recOf_congr hu]
    exact chunkForgotten_open r k u
  rw [crAbandon_eq, abandonCounted_tick]
  refine ⟨?_, crLog_newest _ _⟩
  rw [recOf_congr (crLog_recs _ _)]
  refine List.find?_eq_none.2 fun o ho => ?_
  have ho' : o ∈ (recOf (abandonCounted slot r k reason s) r).open' := by
    split at ho
    · exact ho
    · rw [crClose, recOf_onRec, (crBase_open _ _).1] at ho
      exact ho
  simpa using gone o ho'

theorem chunkTimeout_answers {coll chunk slot : Nat} {r : Recipe} {o : Chunk} {s : State} (hr : recipeOf s coll = some (slot, r))
    (hc : chunkOf (recOf s r) chunk = some o) (hu : o.unfinished = true) (hd : due (o.deadline * tickPs) s = true) :
    Answers (.chunkTimeout coll chunk) s fun t => chunkOf (recOf t r) chunk = none
      ∧ t.cr.log.head? = some (crRecord slot r chunk 1 s.clk.tick ((List.range r.n).filter fun m => !o.members.contains m)) := by
  have he : exec (.chunkTimeout coll chunk) s
      = runDue (if o.unfinished then some (o.deadline * tickPs) else none) (crAbandon slot r o 1) s := by
    refine (Eq.refl (execChunkTimeout coll chunk s)).trans ?_
    unfold execChunkTimeout
    rw [hr]
    dsimp only
    rw [hc]
  refine answers_due he (if_pos hu) hd ?_
  have hi : o.index = chunk := index_of_chunkOf hc
  subst hi
  exact crAbandon_leaves slot r o 1 _

/-! ### Results that wait too long (R198) -/

/-- What the end of a queued result's dwell does. -/
def resultExpired (n slot : Nat) (r : Recipe) (x : ResultQ) (s : State) : State :=
  raiseOnce Ev.CR_RESULT_DEADLINE r.coll (crHead slot r ++ [.u16 x.port, .u32 x.chunk]) <| occ (benchOf x.port) 620 1 {} <|
    tally E.CR_RESULT_DEADLINE_DROPS (benchOf x.port) 59 1 {} <| onRec r (fun y => { y with resultDrops := y.resultDrops + 1 })
      { s with cr := { s.cr with results := listErase s.cr.results n } }

theorem exec_resultDwellExpiry {n slot : Nat} {x : ResultQ} {r : Recipe} {s : State} (hx : (s.cr.results.drop n).head? = some x)
    (hr : recipeOf s x.coll = some (slot, r)) :
    exec (.resultDwellExpiry n) s = runDue (some ((x.tick + r.dwell) * tickPs)) (resultExpired n slot r x) s := by
  refine (Eq.refl (execResultDwellExpiry n s)).trans ?_
  unfold execResultDwellExpiry
  rw [hx]
  dsimp only
  rw [hr]
  rfl

theorem resultExpired_drops (n slot : Nat) (r : Recipe) (x : ResultQ) (s : State) :
    (resultExpired n slot r x s).cr.results = listErase s.cr.results n
      ∧ getNum (resultExpired n slot r x s) E.CR_RESULT_DEADLINE_DROPS 0 = (getNum s E.CR_RESULT_DEADLINE_DROPS 0 + 1) % 2 ^ 64 := by
  have hq : ∀ u, quiet (raiseOnce Ev.CR_RESULT_DEADLINE r.coll (crHead slot r ++ [.u16 x.port, .u32 x.chunk]) (occ (benchOf x.port) 620 1 {}
      (tally E.CR_RESULT_DEADLINE_DROPS (benchOf x.port) 59 1 {} u))) = quiet u := fun u => by simp
  have hn : reportCounter E.CR_RESULT_DEADLINE_DROPS = false := by decide
  refine ⟨congrArg CrState.results (of_quiet_cr (hq _)), ?_⟩
  unfold resultExpired
  rw [getNum_raiseOnce hn, getNum_occ hn, getNum_tally_self hn]
  rfl

theorem resultDwellExpiry_answers {n slot : Nat} {x : ResultQ} {r : Recipe} {s : State} (hx : (s.cr.results.drop n).head? = some x)
    (hr : recipeOf s x.coll = some (slot, r)) (hd : due ((x.tick + r.dwell) * tickPs) s = true) :
    Answers (.resultDwellExpiry n) s fun t => t.cr.results = listErase s.cr.results n
      ∧ getNum t E.CR_RESULT_DEADLINE_DROPS 0 = (getNum s E.CR_RESULT_DEADLINE_DROPS 0 + 1) % 2 ^ 64 :=
  answers_due (exec_resultDwellExpiry hx hr) rfl hd (resultExpired_drops n slot r x _)

/-! ### Results that leave (R198, R199) -/

/-- The packet that carries a result. -/
def resultPacket (r : Recipe) (x : ResultQ) (s : State) : Packet :=
  mkData { vc := Vc.SC, e := eBit s, dest := r.group, op := if rBarrier r then Op.BARRIER else Op.RED_RESULT, src := posFa s, flow := r.flow,
           m := true, seq := x.chunk % 2 ^ 16, job := r.job, member := 0, hop := Cfg.PKT_ORIGIN_HOP_LIMIT s,
           operand := r.coll * 2 ^ 24 + x.chunk } x.payload (stampNow s)

/-- What is noted of a result that has been put on its lane. -/
def resultNoted (p w : Nat) (k : Packet) (s : State) : State :=
  occ (benchOf p) 617 1 {} (occ (benchOf p) 57 1 {} (laneNote (laneKey p 0 w) (slotUsed p w 32 (occSent p w 0 k (onWire p w 0 (wirePs (pkWire k)) s)))))

theorem resultSend_eq (r : Recipe) (x : ResultQ) (w : Nat) (s : State) :
    resultSend r x w s = resultNoted x.port w (resultPacket r x s) (emitOn x.port w (resultPacket r x s) s) := rfl

theorem grows_resultNoted (p w : Nat) (k : Packet) (s : State) : Grows s (resultNoted p w k s) :=
  grows_trans (grows_onWire p w 0 (wirePs (pkWire k)) s) (grows_trans (grows_occSent _ _ _ _ _) (grows_trans (grows_slotUsed _ _ _ _)
    (grows_trans (grows_laneNote _ _) (grows_trans (grows_occ _ _ _ _ _) (grows_occ _ _ _ _ _)))))

theorem resultNoted_only {l : List Part} (p w : Nat) (k : Packet) (s : State) (hq : .queues ∈ l) (ho : .optics ∈ l) :
    Only l s (resultNoted p w k s) := by
  refine Only.trans (Only.trans ?_ (laneNote_only _ _ ho)) ((only_occ _ _ _ _ _).trans (only_occ _ _ _ _ _))
  exact (onWire_only _ _ _ _ s hq).trans ((occSent_only _ _ _ _ _).trans (slotUsed_only _ _ _ _ hq))

theorem resultSend_sends (r : Recipe) (x : ResultQ) (w : Nat) (s : State) :
    .packet x.port w (resultPacket r x s) ∈ (resultSend r x w s).out := by
  rw [resultSend_eq]
  exact grows_mem (grows_resultNoted _ _ _ _) (mem_emitOn _ _ _ _)

theorem resultSend_only {l : List Part} (r : Recipe) (x : ResultQ) (w : Nat) (s : State) (hq : .queues ∈ l) (ho : .optics ∈ l) :
    Only l s (resultSend r x w s) := by
  rw [resultSend_eq]
  exact (emitOn_only _ _ _ s).trans (resultNoted_only _ _ _ _ hq ho)

/-- A result's packet reads of the state what reports do not move. -/
theorem resultPacket_congr {s t : State} (h : Only passing s t) (hc : t.clk = s.clk) (r : Recipe) (x : ResultQ) :
    resultPacket r x t = resultPacket r x s := by
  have hl : Cfg.PKT_ORIGIN_HOP_LIMIT t = Cfg.PKT_ORIGIN_HOP_LIMIT s :=
    getNum_of_passing h (e := (findEntry E.PKT_ORIGIN_HOP_LIMIT).getD noEntry) (by decide +kernel) (by decide +kernel) _
  unfold resultPacket stampNow now
  rw [eBit_of_passing h, posFa_of_passing h, hl, hc]

/-- The results without one that leaves. -/
def resultTaken (x : ResultQ) (s : State) : State := { s with cr := { s.cr with results := s.cr.results.erase x } }

theorem resultPacket_taken (r : Recipe) (x y : ResultQ) (s : State) : resultPacket r x (resultTaken y s) = resultPacket r x s := rfl

section
variable {p : Port} {l : Lane} {sl : Slot} {c w v : Nat} {i : Image} {r : Recipe} {x : ResultQ} {s : State} (hv : dpLive s = true)
  (he : entryIn s s.clk.tick p l sl = (2, c)) (hd : darkOut s s.clk.tick p = false) (hu : portUp s p = true) (hk : carries s = true)
  (hi : imageAt s s.clk.tick = some (i, v)) (hr : SMap.get? i.recipes c = some r) (hl : servingLane s p l = some w) (ht : r.type ≠ 5)
  (hx : (s.cr.results.find? fun y => y.coll == r.coll && y.port == p.val && y.at' + 34000 ≤ slotStart s.clk.tick sl) = some x)
include hv he hd hu hk hi hr hl ht hx

/-- An entry with a ready result sends it. -/
theorem exec_recipeResultEntry : exec (.recipeResultEntry p l sl) s = .next (settle (atPs (sl.val * 40960) s)
    (resultSend r x w (resultTaken x (occ (benchOf p) 616 1 {} (start (atPs (sl.val * 40960) s)))))) := by
  refine (Eq.refl (execRecipeResultEntry p l sl s)).trans ?_
  unfold execRecipeResultEntry runAt run
  have he' : entryIn (start (atPs (sl.val * 40960) s)) (start (atPs (sl.val * 40960) s)).clk.tick p l sl = (2, c) := he
  have hi' : imageAt (start (atPs (sl.val * 40960) s)) (start (atPs (sl.val * 40960) s)).clk.tick = some (i, v) := hi
  have hl' : servingLane (start (atPs (sl.val * 40960) s)) p l = some w := hl
  have hc : ¬ (!dpLive (start (atPs (sl.val * 40960) s)) || (2 : Nat) != 2
      || darkOut (start (atPs (sl.val * 40960) s)) (start (atPs (sl.val * 40960) s)).clk.tick p
      || !portUp (start (atPs (sl.val * 40960) s)) p || !carries (start (atPs (sl.val * 40960) s))) = true := by
    change ¬ (!dpLive s || (2 : Nat) != 2 || darkOut s s.clk.tick p || !portUp s p || !carries s) = true
    simp [hv, hd, hu, hk]
  dsimp only
  rw [he']
  dsimp only
  rw [if_neg hc, hi', hl', Option.bind_some, hr]
  dsimp only
  have hq := quiet_occ (benchOf p) 616 1 {} (start (atPs (sl.val * 40960) s))
  have hcr : (occ (benchOf p) 616 1 {} (start (atPs (sl.val * 40960) s))).cr = s.cr := (of_quiet_cr hq :)
  have hclk : (occ (benchOf p) 616 1 {} (start (atPs (sl.val * 40960) s))).clk.tick = s.clk.tick := (congrArg Clk.tick (of_quiet_clk hq) :)
  rw [hcr, hclk, show tOut = 34000 from rfl, hx]
  dsimp only
  rw [if_neg ht, resultTaken, hcr]

/-- The result leaves its queue in a packet with the launch stamp of its lane-slot. -/
theorem recipeResultEntry_answers : Answers (.recipeResultEntry p l sl) s fun t => t.cr.results = s.cr.results.erase x
    ∧ .packet p w (resultPacket r x (atPs (sl.val * 40960) s)) ∈ t.out := by
  have hp : x.port = p.val := by
    have h := List.find?_some hx
    simp only [Bool.and_eq_true, beq_iff_eq] at h
    exact h.1.2
  have counted : Only passing (atPs (sl.val * 40960) s) (occ (benchOf p) 616 1 {} (start (atPs (sl.val * 40960) s))) :=
    (only_start _).trans (only_occ _ _ _ _ _)
  have hcr : (occ (benchOf p) 616 1 {} (start (atPs (sl.val * 40960) s))).cr = s.cr := counted .crusher (by decide)
  refine ⟨_, exec_recipeResultEntry hv he hd hu hk hi hr hl ht hx, ?_, ?_⟩
  · have sent := resultSend_only (l := [.queues, .optics]) r x w (resultTaken x (occ (benchOf p) 616 1 {} (start (atPs (sl.val * 40960) s))))
      (by decide) (by decide) .crusher (by decide)
    rw [settle_cr]
    exact (congrArg CrState.results sent).trans (congrArg (fun c : CrState => c.results.erase x) hcr)
  · have sent := resultSend_sends r x w (resultTaken x (occ (benchOf p) 616 1 {} (start (atPs (sl.val * 40960) s))))
    rw [hp, resultPacket_taken] at sent
    rw [← resultPacket_congr counted (occ_clk _ _ _ _ _)]
    rw [settle_out]
    exact sent

end

/-! ### The rows of the crusher -/

/-- Settles O20: one theorem per row. -/
theorem crusherRows : Obligations.CrusherRows := by
  refine ⟨fun p k slot r s ho hr hb ha => ?_, fun p k slot r s ho hr hb ha => ?_, fun n slot q r o s hq hr hc ha => ?_,
    fun n m s h => resultArrival_answers h, fun coll chunk slot r o s hr hc hu hd => chunkTimeout_answers hr hc hu hd,
    fun n slot x r s hx hr hd => resultDwellExpiry_answers hx hr hd,
    fun p l sl c w v i r x s hv he hd hu hk hi hr hl ht hx => recipeResultEntry_answers hv he hd hu hk hi hr hl ht hx⟩
  · obtain ⟨hv, hg, hj, hm, hn, hl, hd, hw, hx, hf, hs⟩ := ha
    exact contribution_joins rfl ho hv hr ⟨hg, hj, hm, hn, hl, by simp [hb, ho], hd, hw, hx, hf, hs⟩
  · obtain ⟨hv, hg, hj, hm, hn, hl, hd, hw, hx, hf, hs⟩ := ha
    exact contribution_joins rfl ho hv hr ⟨hg, hj, hm, hn, hl, by simp [hb, ho], hd, hw, hx, hf, hs⟩
  · exact partialArrival_answers hq hr hc ha

end Sys2Proof.Machine
end
section
/-! What the operations of fabric memory leave as they are (R218 to R231, R234 to R241, R473 to R476). -/
namespace Sys2Proof.Machine
open Sys2Proof

/-! ### Regions and the mirror (R222 to R225, R235, R236, R248) -/

theorem only_free {l : List Part} (n : Nat) (s : State) : Only l s { s with free := n } := fun g _ => by
  have k := Part.same_refl g s
  cases g with
  | _ => exact k

theorem setRegion_only {l : List Part} (n : Nat) (r : Region) (s : State) (hm : .memory ∈ l) : Only l s (setRegion n r s) := only_fm _ s hm

theorem regionWrite_only (n : Nat) (r : Region) (off : Nat) (d : Bytes) (s : State) : Only memoryParts s (regionWrite n r off d s) :=
  ((setRegion_only n _ s (by decide)).trans (only_occ _ _ _ _ _)).step_if (only_mirrorPut _ _)

theorem poisonLine_only (n k : Nat) (s : State) : Only memoryParts s (poisonLine n k s) := by
  unfold poisonLine
  split
  · exact Only.refl s
  · refine only_ite (Only.refl s) (Only.step_if ?_ (only_mirrorPut _ _))
    exact (((setRegion_only n _ s (by decide)).trans (only_occ _ _ _ _ _)).trans (only_count (e := E.FM_MEDIA_ERRORS) (by decide +kernel) _ _)).trans
      (only_raiseOnce _ _ _ _)

theorem mirrorAgain_only (q : List Nat) (s : State) : Only memoryParts s (mirrorAgain q s) := by
  refine Only.trans (Only.trans (Only.trans ?_ (only_count (e := E.FM_MIRROR_RESENDS) (by decide +kernel) _ _)) (only_fm _ _ (by decide)))
    (only_mirrorPump _ _)
  exact only_foldl (fun s w => only_occ _ _ _ _ s) _ s

theorem mirrorDegrade_only (s : State) : Only memoryParts s (mirrorDegrade s) := (only_setMirror _ s).trans (only_mirrorResync _)

theorem restoreRegion_only (k : CkRegion) (s : State) : Only memoryParts s (restoreRegion k s) := by
  unfold restoreRegion
  split
  · exact Only.refl s
  · refine only_ite (Only.refl s) (Only.step_if ?_ (only_mirrorPut _ _))
    exact (setRegion_only _ _ s (by decide)).trans ((only_regionState _ _ _).mono (by decide))

/-! ### Takeover streams (R473 to R476) -/

/-- What a write of a stream may change beside the window. -/
def streamParts : List Part := [.memory, .settings, .repair]

theorem setStream_only {l : List Part} (x : Stream) (s : State) (hp : .repair ∈ l) : Only l s (setStream x s) := only_rp _ s hp

theorem streamState_only {l : List Part} (x : Stream) (n : Nat) (s : State) (hp : .repair ∈ l) : Only l s (streamState x n s) :=
  (setStream_only _ s hp).trans (only_raise _ _ _)

theorem streamFinish_only (n : Nat) (x : Stream) (s : State) : Only streamParts s (streamFinish n x s) := by
  refine Only.trans (Only.trans ?_ ((only_regionsLose _ _).mono (by decide))) ((streamState_only _ _ _ (by decide)).trans (only_mirrorFromHeld _))
  exact ((Only.refl s).step_if (only_fm _ s (by decide))).step_if (only_count (e := E.RP_STREAM_BYTES) (by decide +kernel) _ _)

theorem streamAbandon_only (s : State) : Only streamParts s (streamAbandon s) := by
  unfold streamAbandon
  split
  · exact streamFinish_only _ _ s
  · exact streamState_only _ _ s (by decide)
  · exact Only.refl s

theorem regionEvent_only {l : List Part} (n : Nat) (a b : Option RegionSt) (g : Nat) (s : State) : Only l s (regionEvent n a b g s) :=
  only_raise _ _ s

theorem genRetire_only {l : List Part} (n g : Nat) (s : State) (hm : .memory ∈ l) : Only l s (genRetire n g s) := only_fm _ s hm

theorem streamRebuild_only (n : Nat) (s : State) : Only [.memory] s (streamRebuild n s) := by
  unfold streamRebuild
  dsimp only
  split
  · split
    · exact Only.refl s
    · exact ((only_fm _ s (by decide)).trans (genRetire_only _ _ _ (by decide))).trans (regionEvent_only _ _ _ _ _)
  · refine Only.step_if (Only.step_unless ?_ (regionEvent_only _ _ _ _ _)) (only_regionState _ _ _)
    exact ((only_free _ s).trans (setRegion_only _ _ _ (by decide))).trans (only_genBump _ _)

theorem streamWrite_only (off : Nat) (d : Bytes) (s : State) : Only streamParts s (streamWrite off d s) := by
  unfold streamWrite
  split
  · exact Only.refl s
  · dsimp only
    refine only_ite (setStream_only _ s (by decide)) (only_ite (streamFinish_only _ _ s) (only_ite (only_ite ?_ ?_) ?_))
    · exact ((streamRebuild_only _ s).mono (by decide)).trans (setStream_only _ _ (by decide))
    · exact setStream_only _ s (by decide)
    · exact setStream_only _ s (by decide)

theorem windowTake_only {l : List Part} (w : MirrorWin) (s : State) (hm : .memory ∈ l) : Only l s (windowTake w s) :=
  (only_fm _ s hm).trans (only_ite (only_raise _ _ _) (only_fm _ _ hm))

theorem windowWrite_only (q : MemReq) (s : State) : Only streamParts s (windowWrite q s) := by
  unfold windowWrite
  dsimp only
  refine only_ite ((only_fm _ s (by decide)).trans (streamWrite_only _ _ _)) (only_ite (streamWrite_only _ _ s) (only_ite ?_ ?_))
  · exact (windowTake_only _ s (by decide)).trans (streamWrite_only _ _ _)
  · exact (only_fm _ s (by decide)).trans (streamWrite_only _ _ _)

/-! ### Answers (R220, R221) -/

/-- What a request may change where it is judged and answered. -/
def requestParts : List Part := [.captures, .links, .memory, .queues, .time, .tables]

theorem scEnqueue_only {l : List Part} (i : Image) (b : Binding) (id p n : Nat) (k : Packet) (s : State) (hq : .queues ∈ l) (hc : .captures ∈ l) :
    Only l s (scEnqueue i b id p n k s) := by
  unfold scEnqueue
  refine only_ite ?_ ?_
  · exact ((breach_only (setting_of_counter (by decide)) _ _ _ s).trans (only_capDrop _ _ _ hc)).trans (only_packetDone _ _ hq hc)
  · refine Only.trans ?_ (only_orderIdle _ _ hq)
    exact (((Only.refl s).step_if (countSpill_only _ _ _)).trans (only_capDepth _ _ _ _ hc)).trans (only_dp _ _ hq)

theorem memRespond_only (q : MemReq) (b : Option Nat) (op : Nat) (d : Bytes) (s : State) : Only requestParts s (memRespond q b op d s) := by
  unfold memRespond
  dsimp only
  split
  · exact (only_dp _ s (by decide)).trans (scEnqueue_only _ _ _ _ _ _ _ (by decide) (by decide))
  · exact ((Only.refl s).step_unless (only_tally (e := E.FM_RSP_UNBOUND) (by decide +kernel) _ _ _ _ s)).trans
      (only_answerBy _ _ _ (by decide) (by decide) (by decide) (by decide) (by decide))

theorem memAck_only (q : MemReq) (n : Nat) (a : AppliedAt) (s : State) : Only requestParts s (memAck q n a s) := memRespond_only _ _ _ _ s

theorem atomicRsp_only (q : MemReq) (o n : Nat) (s : State) : Only requestParts s (atomicRsp q o n s) := memRespond_only _ _ _ _ s

theorem memNack_only (q : MemReq) (b c d : Nat) (s : State) : Only requestParts s (memNack q b c d s) := by
  unfold memNack
  extract_lets s₁ s₂ reg s₃
  have counted : Only requestParts s s₁ := countTab_only (by decide +kernel) _ _ s
  have fence : Only requestParts s s₂ := counted.step_if (only_raiseOnce _ _ _ _)
  have refused : Only requestParts s₂ s₃ := by
    clear_value reg
    unfold s₃
    split
    · exact Only.step_if (only_occ _ _ _ _ _) (only_raiseOnce _ _ _ _)
    · exact Only.refl _
  refine (fence.trans refused).trans (only_ite ?_ ?_)
  · exact only_count (e := E.FM_MCAST_LOCAL_REFUSED) (by decide +kernel) _ _
  · exact Only.trans (only_occ _ _ _ _ _) (memRespond_only _ _ _ _ _)

/-! ### A source's sequence (R228 to R231) -/

theorem setSlot_only {l : List Part} (fa : Nat) (x : SourceSlot) (s : State) (hm : .memory ∈ l) : Only l s (setSlot fa x s) := only_fm _ s hm

theorem toServing_only {l : List Part} (q : MemReq) (b : Bool) (s : State) (hm : .memory ∈ l) : Only l s (toServing q b s) := only_fm _ s hm

theorem serveAgain_only {l : List Part} (q : MemReq) (s : State) (hm : .memory ∈ l) : Only l s (serveAgain q s) := only_fm _ s hm

theorem slotTake_only {l : List Part} {fa n : Nat} {s t : State} (h : slotTake fa n s = some t) (hm : .memory ∈ l) : Only l s t := by
  unfold slotTake at h
  dsimp only at h
  split at h
  · cases h
    exact setSlot_only _ _ s hm
  · split at h
    · cases h
      exact setSlot_only _ _ s hm
    · obtain ⟨old, -, rfl⟩ := Option.map_eq_some_iff.1 h
      exact (only_fm _ s hm).trans (setSlot_only _ _ _ hm)

theorem repeated_only (q : MemReq) (p : SeqSt) (s : State) : Only requestParts s (repeated q p s) := by
  unfold repeated
  split
  · exact memNack_only _ _ _ _ s
  · exact memNack_only _ _ _ _ s
  · exact Only.refl s
  · exact only_ite (serveAgain_only _ s (by decide)) (only_ite (memNack_only _ _ _ _ s) (memAck_only _ _ _ s))

theorem replayed_only (q : MemReq) (b o : Nat) (s : State) : Only requestParts s (atomicRsp q o 1 (tally E.FM_REPLAYS b 85 1 {} s)) :=
  (only_tally (by decide +kernel) _ _ _ _ s).trans (atomicRsp_only _ _ _ _)

theorem answerWaiting_only (fa n : Nat) (p : SeqSt) (s : State) : Only requestParts s (answerWaiting fa n p s) := by
  unfold answerWaiting
  split
  · exact Only.refl s
  · refine (setSlot_only _ _ s (by decide)).trans (only_foldl (fun s q => ?_) _ _)
    split
    · exact replayed_only _ _ _ s
    · exact repeated_only _ _ s

theorem resolve_only (fa n : Nat) (p : SeqSt) (f : SourceSlot → SourceSlot) (s : State) : Only requestParts s (resolve fa n p f s) := by
  unfold resolve
  split
  · exact Only.refl s
  · exact (setSlot_only _ _ s (by decide)).trans (answerWaiting_only _ _ _ _)

theorem slotAdvance_only (fa n : Nat) (s : State) : Only requestParts s (slotAdvance fa n s) := by
  induction n generalizing s with
  | zero => exact Only.refl s
  | succ n ih =>
    have served : ∀ (q : MemReq) (x : SourceSlot) s, Only requestParts s (toServing q true (setSlot fa x s)) := fun q x s =>
      (setSlot_only _ _ s (by decide)).trans (toServing_only _ _ _ (by decide))
    unfold slotAdvance
    split
    · exact Only.refl s
    · next x _ =>
      refine (setSlot_only fa (baseMove 65536 x) s (by decide)).trans ?_
      dsimp only
      split
      · exact Only.refl _
      · split
        · refine only_ite ?_ (served _ _ _)
          exact (((setSlot_only _ _ _ (by decide)).trans (memNack_only _ _ _ _ _)).trans (resolve_only _ _ _ _ _)).trans (ih _)
        · exact served _ _ _

theorem sequenceNew_only (q : MemReq) (x : SourceSlot) (s : State) : Only requestParts s (sequenceNew q x s) := by
  unfold sequenceNew
  dsimp only
  refine only_ite (only_ite ?_ (only_ite ?_ ?_)) ?_
  · exact (setSlot_only _ _ s (by decide)).trans (slotAdvance_only _ _ _)
  · refine Only.trans (Only.trans ?_ (resolve_only _ _ _ _ _)) (slotAdvance_only _ _ _)
    exact ((setSlot_only _ _ s (by decide)).trans (memNack_only _ _ _ _ _)).trans (only_raiseOnce _ _ _ _)
  · exact (only_tally (e := E.FM_FLAG_HOLDS) (by decide +kernel) _ _ _ _ s).trans (setSlot_only _ _ _ (by decide))
  · exact (setSlot_only _ _ s (by decide)).trans (toServing_only _ _ _ (by decide))

theorem onRequest_only (q : MemReq) (x : SourceSlot) (s : State) : Only requestParts s (onRequest q x s) := by
  unfold onRequest
  extract_lets _ _ _ _ x' s'
  refine (setSlot_only _ x' s (by decide) : Only requestParts s s').trans ?_
  split
  · exact replayed_only _ _ _ _
  · refine only_ite (memNack_only _ _ _ _ _) (only_ite (only_ite (serveAgain_only _ _ (by decide)) (memNack_only _ _ _ _ _)) ?_)
    refine only_ite (memNack_only _ _ _ _ _) ?_
    split
    · exact setSlot_only _ _ _ (by decide)
    · exact repeated_only _ _ _
    · exact sequenceNew_only _ _ _

theorem memRequest_only (p : Nat) (k : Packet) (s : State) : Only requestParts s (memRequest p k s) := by
  unfold memRequest
  extract_lets _ _ s'
  have counted : Only requestParts s s' := (only_occ _ _ _ _ s).trans (only_count (e := E.FM_REQUESTS) (by decide +kernel) _ _)
  refine counted.trans ?_
  refine only_ite (memNack_only _ _ _ _ _) (only_ite (toServing_only _ _ _ (by decide)) ?_)
  split
  · exact (memNack_only _ _ _ _ _).trans (only_raiseOnce _ _ _ _)
  · next ht =>
    refine (slotTake_only ht (by decide)).trans ?_
    split
    · exact onRequest_only _ _ _
    · exact Only.refl _

theorem memRow_only (op p : Nat) (k : Packet) (s : State) : Only (.inbox :: requestParts) s (memRow op p k s) :=
  only_ite ((only_fromInbox p k s (by decide)).trans ((memRequest_only _ _ _).mono (by decide))) (Only.refl s)

theorem declareLost_only (fa : Nat) (s : State) : Only requestParts s (declareLost fa s) := by
  have lost : ∀ (qs : List Nat) s, Only requestParts s (qs.foldl (fun s q => slotAdvance fa 65536 <|
      tally E.FM_SEQ_DECLARED_LOST (homeBench fa) 87 1 {}
        (resolve fa q .lost (fun x => { recordReplay x q none with fault := some q, young := false }) s)) s) := fun qs s =>
    only_foldl (fun s q => ((resolve_only _ _ _ _ s).trans (only_tally (by decide +kernel) _ _ _ _ _)).trans (slotAdvance_only _ _ _)) qs s
  unfold declareLost
  split
  · exact Only.refl s
  · next x _ =>
    extract_lets _ _ s₁ s₂ s₃ s₄
    have declared : Only requestParts s s₂ := (setSlot_only _ _ s (by decide)).trans (lost _ s₁)
    have noted : Only requestParts s₂ s₃ := by
      unfold s₃
      split
      · exact Only.refl _
      · exact only_raiseOnce _ _ _ _
    refine ((declared.trans noted).trans (slotAdvance_only _ _ _ : Only _ _ s₄)).trans ?_
    split
    · exact Only.refl _
    · exact setSlot_only _ _ _ (by decide)

/-! ### Application (R218, R227) -/

/-- What the application of a request may change. -/
def applyParts : List Part := [.captures, .links, .memory, .queues, .repair, .settings, .time, .tables]

theorem toHome_only {l : List Part} (a : MemApply) (c o : Option Nat) (h : AppliedAt) (s : State) (hm : .memory ∈ l) :
    Only l s (toHome a c o h s) := only_ite (only_fm _ s hm) (Only.refl s)

theorem memDo_only (a : MemApply) (t : MemTarget) (s : State) : Only applyParts s (memDo a t s) := by
  have written : ∀ n r off d s, Only applyParts s (regionWrite n r off d s) := fun n r off d s => (regionWrite_only n r off d s).mono (by decide)
  have answered : ∀ q b op d s, Only applyParts s (memRespond q b op d s) := fun q b op d s => (memRespond_only q b op d s).mono (by decide)
  unfold memDo
  split
  · refine Only.trans ?_ (toHome_only _ _ _ _ _ (by decide))
    refine Only.trans (Only.trans ?_ (only_count (e := E.FM_APPLIED) (by decide +kernel) _ _)) (answered _ _ _ _ _)
    exact (windowWrite_only _ s).mono (by decide)
  · extract_lets q off how b begun op x loaded w old v changed widened stored answer
    have hb : Only applyParts s begun :=
      Only.trans (only_ite (Only.refl s) (only_tally (e := E.FM_APPLIED) (by decide +kernel) _ _ _ _ s)) (only_occ _ _ _ _ _)
    have hs : Only applyParts begun stored := by
      refine only_ite ?_ (written _ _ _ _ _)
      exact (((only_occ _ _ _ _ _).trans (written _ _ _ _ _)).trans (only_occ _ _ _ _ _)).trans (countConv_only _ _ _ _)
    have ha : Only applyParts begun answer := hs.step_if (answered _ _ _ _ _)
    refine hb.trans (only_ite ?_ (only_ite ?_ ?_))
    · exact ((only_occ _ _ _ _ _).trans (answered _ _ _ _ _)).trans (toHome_only _ _ _ _ _ (by decide))
    · exact (((written _ _ _ _ _).trans (only_occ _ _ _ _ _)).trans (answered _ _ _ _ _)).trans (toHome_only _ _ _ _ _ (by decide))
    · exact ha.trans (toHome_only _ _ _ _ _ (by decide))

end Sys2Proof.Machine
end
section
/-! What the rows of the crusher leave as it is (R188, R195 to R199): one theorem per row. -/
namespace Sys2Proof.Machine
open Sys2Proof

section
variable {l : List Part}

/-! ### Contributions and results -/

theorem breachOf_only {row : Nat} (hr : setting (E.TT_BREACH_COUNT_00 + row) = false) (c : Option Nat) (b : Nat) (a : OccAttr) (m : Option Nat)
    (s : State) : Only l s (breachOf c row b a m s) := by
  unfold breachOf causeNote
  exact ((only_tally hr _ _ _ _ s).trans (only_accum _ _ _ _ _ _)).step_if (only_ev _ _)

theorem accFull_only (b n : Nat) (r : Recipe) (s : State) : Only l s (accFull b n r s) :=
  (only_tally (e := E.CR_BUFFER_DROPS) (by decide +kernel) _ _ _ _ s).trans (only_raiseOnce _ _ _ _)

/-- A contribution is turned away with a report, or joins its chunk. -/
theorem contribution_only (p : Nat) (k : Packet) (s : State) (hr : .crusher ∈ l) (hq : .queues ∈ l) : Only l s (contribution p k s) := by
  have foreign : ∀ (c : Option Nat) (row n : Nat), setting (E.TT_BREACH_COUNT_00 + row) = false →
      Only l s (breachOf c row (benchOf p) (attrOf p k) none (occ (benchOf p) n 1 (attrOf p k) s)) := fun c row n h =>
    (only_occ _ _ _ _ s).trans (breachOf_only h _ _ _ _ _)
  unfold contribution
  dsimp only
  split
  · exact foreign _ _ _ (setting_of_counter (by decide))
  · refine only_ite (foreign _ _ _ (setting_of_counter (by decide))) (only_ite (foreign _ _ _ (setting_of_counter (by decide))) ?_)
    refine only_ite (foreign _ _ _ (setting_of_counter (by decide))) (only_ite ?_ (only_ite ?_ (only_ite ?_ (only_ite ?_ (only_ite ?_ ?_)))))
    · exact (only_tally (e := E.CR_LENGTH_DROPS) (by decide +kernel) _ _ _ _ s).trans (only_raiseOnce _ _ _ _)
    · exact ((only_tally (e := E.CR_LATE) (by decide +kernel) _ _ _ _ s).trans (only_onRec _ _ _ hr)).trans (only_raiseOnce _ _ _ _)
    · exact ((only_tally (e := E.CR_WINDOW_DROPS) (by decide +kernel) _ _ _ _ s).trans (only_onRec _ _ _ hr)).trans (only_raiseOnce _ _ _ _)
    · exact foreign _ _ _ (setting_of_counter (by decide))
    · exact accFull_only _ _ _ s
    · exact crAccept_only _ _ _ s hr hq

theorem resultJoin_only (x : ResultQ) (s : State) (hr : .crusher ∈ l) : Only l s (resultJoin x s) := only_cr _ s hr

end

theorem resultStore_only (n : Nat) (r : Recipe) (x : ResultQ) (s : State) :
    Only (.crusher :: memoryParts) s (resultStore n r x s) := by
  have written : ∀ (m : Nat) (g : Region) (off : Nat) (d : Bytes), Only (.crusher :: memoryParts) s (regionWrite m g off d s) :=
    fun m g off d => (regionWrite_only m g off d s).mono (by decide)
  unfold resultStore
  dsimp only
  split
  · exact (written _ _ _ _).trans (only_occ _ _ _ _ _)
  · exact ((only_tally (e := E.CR_STORE_REFUSED) (by decide +kernel) _ _ _ _ s).trans (only_onRec _ _ _ (by decide))).trans (only_raise _ _ _)

/-! ### The rows -/

theorem redContrib_frame (p : Port) (k : Packet) : Changes (.redContrib p k) [.crusher, .inbox, .queues] :=
  changes_run (fun s => Eq.refl (execRedContrib p k s)) fun s =>
    only_ite ((only_fromInbox p k s (by decide)).trans (contribution_only _ _ _ (by decide) (by decide))) (Only.refl s)

theorem barrier_frame (p : Port) (k : Packet) : Changes (.barrier p k) [.crusher, .inbox, .queues] :=
  changes_run (fun s => Eq.refl (execBarrier p k s)) fun s =>
    only_ite ((only_fromInbox p k s (by decide)).trans (contribution_only _ _ _ (by decide) (by decide))) (Only.refl s)

theorem partialArrival_frame (n : Nat) : Changes (.partialArrival n) [.crusher, .queues] := by
  refine changes_run (fun s => Eq.refl (execPartialArrival n s)) fun s => ?_
  have taken : Only [.crusher, .queues] s (partialTaken n s) := only_cr _ s (by decide)
  split
  · exact Only.refl s
  · refine taken.trans ?_
    dsimp only
    split
    · exact Only.refl _
    · refine (only_occ _ _ _ _ _).trans (only_ite ?_ (nodeInput_only _ _ _ _ _ (by decide) (by decide)))
      exact (accFull_only _ _ _ _).trans (onChunk_only _ _ _ _ (by decide))

theorem resultArrival_frame (n : Nat) : Changes (.resultArrival n) [.crusher] := by
  refine changes_run (fun s => Eq.refl (execResultArrival n s)) fun s => ?_
  have taken : Only [.crusher] s (moveTaken n s) := only_cr _ s (by decide)
  split
  · exact Only.refl s
  · refine taken.trans (only_ite ?_ (only_ite ?_ ?_))
    · exact only_tally (e := E.TT_SWAP_ORPHANS) (by decide +kernel) _ _ _ _ _
    · exact only_count (e := E.DP_CLOSE_DROPS) (by decide +kernel) _ _
    · exact only_foldl (fun s p => resultJoin_only _ s (by decide)) _ _

theorem resultExpired_only (n slot : Nat) (r : Recipe) (x : ResultQ) (s : State) : Only [.crusher] s (resultExpired n slot r x s) := by
  refine Only.trans (Only.trans ?_ (only_occ _ _ _ _ _)) (only_raiseOnce _ _ _ _)
  refine Only.trans ?_ (only_tally (e := E.CR_RESULT_DEADLINE_DROPS) (by decide +kernel) _ _ _ _ _)
  exact (only_cr _ s (by decide)).trans (only_onRec r _ _ (by decide))

theorem resultDwellExpiry_frame (n : Nat) : Changes (.resultDwellExpiry n) [.crusher] := fun s t h => by
  cases hx : (s.cr.results.drop n).head? with
  | none =>
    have he : exec (.resultDwellExpiry n) s = run id s := by
      refine (Eq.refl (execResultDwellExpiry n s)).trans ?_
      unfold execResultDwellExpiry
      rw [hx]
    exact only_of_run (he ▸ h) Only.refl
  | some x =>
    cases hr : recipeOf s x.coll with
    | none =>
      have he : exec (.resultDwellExpiry n) s = run id s := by
        refine (Eq.refl (execResultDwellExpiry n s)).trans ?_
        unfold execResultDwellExpiry
        rw [hx]
        dsimp only
        rw [hr]
      exact only_of_run (he ▸ h) Only.refl
    | some y => exact only_of_due (exec_resultDwellExpiry hx hr ▸ h) (resultExpired_only n y.1 y.2 x)

theorem chunkTimeout_frame (coll chunk : Nat) : Changes (.chunkTimeout coll chunk) [.crusher, .health] := fun s t h => by
  change execChunkTimeout coll chunk s = _ at h
  unfold execChunkTimeout at h
  split at h
  · exact only_of_run h Only.refl
  · split at h
    · exact only_of_run h Only.refl
    · exact only_of_due h fun s => only_crAbandon _ _ _ _ s (by decide) (by decide)

theorem recipeResultEntry_frame (p : Port) (n : Lane) (k : Slot) :
    Changes (.recipeResultEntry p n k) [.captures, .crusher, .links, .memory, .optics, .queues, .tables] := by
  refine changes_runAt (fun s => Eq.refl (execRecipeResultEntry p n k s)) fun s => ?_
  dsimp only
  refine only_ite (Only.refl s) ?_
  split
  · refine (only_occ (benchOf p) 616 1 {} s).trans ?_
    split
    · exact (only_tally (e := E.CR_RESULT_EMPTY) (by decide +kernel) _ _ _ _ _).trans (only_occ _ _ _ _ _)
    · refine (only_cr _ _ (by decide)).trans (only_ite ?_ (resultSend_only _ _ _ _ (by decide) (by decide)))
      exact (resultStore_only _ _ _ _).mono (by decide)
  · exact entryLost_only _ _ s
  · exact Only.refl s

end Sys2Proof.Machine
end
section
/-! What the rows of fabric memory leave as it is (R218, R227 to R241, R474, R476): one theorem per row. -/
namespace Sys2Proof.Machine
open Sys2Proof

/-! ### Timers and copies -/

theorem setMirror_only {l : List Part} (m : MirrorSt) (s : State) (hm : .memory ∈ l) : Only l s (setMirror m s) :=
  only_ite (Only.refl s) ((only_fm _ s hm).trans (only_raise _ _ _))

theorem sourceYoungExpiry_frame (fa : FA) : Changes (.sourceYoungExpiry fa) [.memory] :=
  changes_due (fun s => Eq.refl (execSourceYoungExpiry fa s)) fun s => by
    split
    · exact Only.refl s
    · exact setSlot_only _ _ s (by decide)

theorem mirrorResyncDone_frame : Changes .mirrorResyncDone [.memory] :=
  changes_run (fun s => Eq.refl (execMirrorResyncDone s)) fun s => only_ite (setMirror_only _ s (by decide)) (Only.refl s)

theorem regionZeroDone_frame (n : Nat) : Changes (.regionZeroDone n) [.memory] :=
  changes_run (fun s => Eq.refl (execRegionZeroDone n s)) fun s => by
    split
    · exact only_ite (only_regionState _ _ s) (Only.refl s)
    · exact Only.refl s

theorem winCopyDone_only {l : List Part} (s : State) (hm : .memory ∈ l) : Only l s (winCopyDone s) := by
  unfold winCopyDone
  split
  · exact Only.refl s
  · exact (only_fm _ s hm).trans (only_raise _ _ _)

theorem copiesCounted_only {l : List Part} (c : Checkpoint) (s : State) : Only l s (copiesCounted c s) :=
  only_foldl (fun s k => by
    split
    · exact only_occ _ _ _ _ s
    · exact Only.refl s) _ s

theorem checkpointCopyDone_frame : Changes .checkpointCopyDone [.memory] :=
  changes_run (fun s => Eq.refl (execCheckpointCopyDone s)) fun s => by
    split
    · exact winCopyDone_only s (by decide)
    · exact ((only_fm _ s (by decide)).trans (copiesCounted_only _ _)).trans (only_raise _ _ _)

theorem restoreCopyDone_frame : Changes .restoreCopyDone memoryParts :=
  changes_run (fun s => Eq.refl (execRestoreCopyDone s)) fun s => by
    split
    · exact Only.refl s
    · refine Only.trans (Only.trans ?_ (only_foldl (fun s k => restoreRegion_only k s) _ _)) (only_raise _ _ _)
      exact only_fm _ s (by decide)

/-! ### Requests, their application and outcomes -/

/-- What a request taken from the inbox may change. -/
def arrivedParts : List Part := [.captures, .inbox, .links, .memory, .queues, .time, .tables]

theorem memRow_arrived (op : Nat) (p : Port) (k : Packet) (s : State) : Only arrivedParts s (memRow op p k s) :=
  (memRow_only op p k s).mono (by decide)

theorem memLoad_frame (p : Port) (k : Packet) : Changes (.memLoad p k) arrivedParts :=
  changes_run (fun s => Eq.refl (execMemLoad p k s)) (memRow_arrived _ p k)

theorem memStore_frame (p : Port) (k : Packet) : Changes (.memStore p k) arrivedParts :=
  changes_run (fun s => Eq.refl (execMemStore p k s)) (memRow_arrived _ p k)

theorem memStoreFlag_frame (p : Port) (k : Packet) : Changes (.memStoreFlag p k) arrivedParts :=
  changes_run (fun s => Eq.refl (execMemStoreFlag p k s)) (memRow_arrived _ p k)

theorem memAtomic_frame (p : Port) (k : Packet) : Changes (.memAtomic p k) arrivedParts :=
  changes_run (fun s => Eq.refl (execMemAtomic p k s)) (memRow_arrived _ p k)

theorem memReduceStore_frame (p : Port) (k : Packet) : Changes (.memReduceStore p k) arrivedParts :=
  changes_run (fun s => Eq.refl (execMemReduceStore p k s)) (memRow_arrived _ p k)

theorem mcastLocal_only {l : List Part} (p : Nat) (k : Packet) (s : State) (hm : .memory ∈ l) : Only l s (mcastLocal p k s) :=
  only_ite ((only_occ _ _ _ _ s).trans (toServing_only _ _ _ hm)) (Only.refl s)

theorem memMcastStore_frame (p : Port) (k : Packet) : Changes (.memMcastStore p k) arrivedParts :=
  changes_run (fun s => Eq.refl (execMemMcastStore p k s)) fun s => by
    refine only_ite (Only.refl s) (only_ite ?_ (memRow_arrived _ p k s))
    exact (only_fromInbox p k s (by decide)).trans (mcastLocal_only _ _ _ (by decide))

theorem memApply_frame (n : Nat) (es : List Nat) : Changes (.memApply n es) applyParts :=
  changes_run (fun s => Eq.refl (execMemApply n es s)) fun s => by
    split
    · exact Only.refl s
    · next a _ =>
      refine only_ite (Only.refl s) ?_
      extract_lets _ taken q found
      have ht : Only applyParts s taken := only_fm _ s (by decide)
      have hf : Only applyParts taken found := by
        clear_value taken
        unfold found
        split
        · exact only_ite (only_foldl (fun s k => (poisonLine_only _ k s).mono (by decide)) _ _) (Only.refl _)
        · exact Only.refl _
      refine (ht.trans hf).trans ?_
      split
      · exact memDo_only _ _ _
      · exact ((memNack_only _ _ _ _ _).mono (by decide)).trans (toHome_only _ _ _ _ _ (by decide))

theorem memOutcome_frame (n : Nat) : Changes (.memOutcome n) requestParts :=
  changes_run (fun s => Eq.refl (execMemOutcome n s)) fun s => by
    split
    · exact Only.refl s
    · refine Only.trans (Only.trans ?_ (resolve_only _ _ _ _ _)) (slotAdvance_only _ _ _)
      exact only_fm _ s (by decide)

theorem gapTimerExpiry_frame (fa : FA) : Changes (.gapTimerExpiry fa) requestParts :=
  changes_due (fun s => Eq.refl (execGapTimerExpiry fa s)) (declareLost_only _)

/-! ### The mirror's log and takeover streams -/

/-- What the senders of the mirror and of a stream may change. -/
def senderParts : List Part := [.captures, .links, .memory, .queues, .repair, .tables]

theorem routed_only (k : Packet) (s : State) : Only senderParts s (originateRouted k s) :=
  only_originateRouted k s (by decide) (by decide) (by decide) (by decide)

theorem streamResend_only {n : Nat} {s t : State} (h : streamResend n s = .next t) : Only senderParts s t := by
  unfold streamResend at h
  split at h
  · exact only_of_run h Only.refl
  · split at h
    · exact only_of_run h Only.refl
    · refine only_of_due h fun s => Only.trans (Only.trans ?_ (only_count (e := E.FM_MIRROR_RESENDS) (by decide +kernel) _ _)) (routed_only _ _)
      exact setStream_only _ s (by decide)

theorem mirrorAckTimeout_frame (n : Nat) : Changes (.mirrorAckTimeout n) senderParts := fun s t h => by
  change execMirrorAckTimeout n s = _ at h
  unfold execMirrorAckTimeout at h
  split at h
  · exact streamResend_only h
  · exact only_of_due h fun s => (only_fm _ s (by decide)).trans ((only_mirrorSend _ _ _).mono (by decide))

theorem streamSeqUp_only {l : List Part} (x : Stream) (s : State) (hm : .memory ∈ l) (hp : .repair ∈ l) : Only l s (streamSeqUp x s) :=
  only_ite ((only_fm _ s hm).trans (setStream_only _ _ hp)) (setStream_only _ s hp)

theorem streamNext_only (x : Stream) (s : State) : Only senderParts s (streamNext x s) := by
  unfold streamNext
  dsimp only
  split
  · exact Only.refl s
  · split
    · exact Only.refl s
    · exact only_ite (Only.refl s) ((streamSeqUp_only _ s (by decide) (by decide)).trans (routed_only _ _))

theorem streamSend_frame : Changes .streamSend senderParts :=
  changes_due (fun s => Eq.refl (execStreamSend s)) fun s => by
    split
    · exact streamNext_only _ s
    · exact Only.refl s

theorem streamTimeout_frame : Changes .streamTimeout [.memory, .repair, .settings] :=
  changes_due (fun s => Eq.refl (execStreamTimeout s)) fun s => (streamAbandon_only s).mono (by decide)

theorem strayResponse_only {l : List Part} (p : Nat) (s : State) : Only l s (strayResponse p s) :=
  only_tally (by decide +kernel) _ _ _ _ s

theorem streamAnswer_only {l : List Part} (x : Stream) (k : Packet) (s : State) (hp : .repair ∈ l) : Only l s (streamAnswer x k s) := by
  have again : ∀ n y, Only l s (count E.FM_MIRROR_RESENDS n (setStream y s)) := fun n y =>
    (setStream_only y s hp).trans (only_count (by decide +kernel) _ _)
  refine only_ite (only_ite (streamState_only _ _ s hp) (setStream_only _ s hp)) (only_ite (again _ _) (only_ite (again _ _) ?_))
  exact streamState_only _ _ s hp

theorem mirrorAnswer_only (p : Nat) (k : Packet) (s : State) : Only senderParts s (mirrorAnswer p k s) := by
  have sent : ∀ qs, Only senderParts s (mirrorAgain qs s) := fun qs => (mirrorAgain_only qs s).mono (by decide)
  unfold mirrorAnswer
  refine only_ite ?_ (only_ite ?_ (only_ite (sent _) (only_ite (sent _) ((mirrorDegrade_only s).mono (by decide)))))
  · split
    · exact only_ite (streamAnswer_only _ _ s (by decide)) (strayResponse_only _ s)
    · exact strayResponse_only _ s
  · exact (only_fm _ s (by decide)).trans ((only_mirrorPump _ _).mono (by decide))

theorem mirrorResponse_frame (p : Port) (k : Packet) :
    Changes (.mirrorResponse p k) [.captures, .inbox, .links, .memory, .queues, .repair, .tables] :=
  changes_run (fun s => Eq.refl (execMirrorResponse p k s)) fun s =>
    (only_fromInbox p k s (by decide)).step_if ((mirrorAnswer_only _ _ _).mono (by decide))

end Sys2Proof.Machine
end
section
/-! What the rows of the forwarding tables leave as it is (R259, R260, R268 to R283). -/
namespace Sys2Proof.Machine
open Sys2Proof

section
variable {l : List Part}

/-! ### Learning and route writes -/

theorem unlearn_only (fa : Nat) (s : State) (ht : .tables ∈ l) : Only l s (unlearn fa s) := only_tb _ s ht

theorem rehashRequest_only (n k : Nat) (s : State) (ht : .tables ∈ l) : Only l s (rehashRequest n k s) :=
  (only_tb _ s ht).trans (only_raiseOnce _ _ _ _)

theorem bindLearned_only {fa p : Nat} {s t : State} (h : bindLearned fa p s = some t) (ht : .tables ∈ l) : Only l s t := by
  unfold bindLearned at h
  dsimp only at h
  split at h
  · cases h
    exact only_tb _ s ht
  · split at h
    · cases h
      exact only_tb _ s ht
    · cases h

theorem learnConflict_only (fa q p : Nat) (s : State) : Only l s (learnConflict fa q p s) :=
  (only_tally (e := E.TB_LEARN_CONFLICTS) (by decide +kernel) _ _ _ _ s).trans (only_raiseOnce _ _ _ _)

theorem learnApply_only (r : LearnReq) (s : State) (ht : .tables ∈ l) : Only l s (learnApply r s) := by
  refine only_ite (Only.refl s) ?_
  split
  · split
    · next hb => exact (bindLearned_only hb ht).trans (only_tally (by decide +kernel) _ _ _ _ _)
    · exact (only_count (e := E.TB_LEARN_FAILS) (by decide +kernel) _ s).trans (rehashRequest_only _ _ _ ht)
  · refine only_ite (only_tb _ s ht) (only_ite (learnConflict_only _ _ _ s) ?_)
    exact Only.trans (Only.trans (only_tb _ s ht) (only_tally (by decide +kernel) _ _ _ _ _)) (only_raise _ _ _)

theorem tbKick_only (s : State) (ht : .tables ∈ l) : Only l s (tbKick s) := by
  unfold tbKick
  split
  · exact only_ite (only_tb _ s ht) (Only.refl s)
  · exact Only.refl s

theorem tbRefuse_only (e : Nat) (f : TbFail) (s : State) (ht : .tables ∈ l) : Only l s (tbRefuse e f s) :=
  (only_ite (rehashRequest_only _ _ s ht) (Only.refl s)).trans (only_raise _ _ _)

theorem shadowFresh_only (s : State) (ht : .tables ∈ l) : Only l s (shadowFresh s) := only_tb _ s ht

end

/-! ### The rows -/

theorem learnApply_frame : Changes .learnApply [.tables] :=
  changes_run (fun s => Eq.refl (execLearnApply s)) fun s => by
    split
    · exact Only.refl s
    · exact (only_tb _ s (by decide)).trans (learnApply_only _ _ (by decide))

theorem tbWriteApplyDone_frame : Changes .tbWriteApplyDone [.tables] :=
  changes_run (fun s => Eq.refl (execTbWriteApplyDone s)) fun s => by
    refine (tbKick_only s (by decide)).trans ?_
    generalize tbKick s = s
    dsimp only
    split
    · exact Only.refl s
    · split
      · exact Only.trans (Only.trans (only_tb _ s (by decide)) (tbRefuse_only _ _ _ (by decide))) (tbKick_only _ (by decide))
      · refine Only.trans (Only.trans ?_ (only_raise _ _ _)) (tbKick_only _ (by decide))
        refine Only.step_unless ?_ (only_count (e := E.TB_REHASH_LOST_LEARNS) (by decide +kernel) _ _)
        exact only_tb _ s (by decide)

theorem graceEnd_frame : Changes .graceEnd [.tables] :=
  changes_due (fun s => Eq.refl (execGraceEnd s)) fun s => only_tb _ s (by decide)

theorem shadowCopyDone_frame : Changes .shadowCopyDone [.tables] :=
  changes_run (fun s => Eq.refl (execShadowCopyDone s)) fun s => by
    refine only_ite (Only.trans (Only.trans ?_ (shadowFresh_only _ (by decide))) (tbKick_only _ (by decide))) (Only.refl s)
    exact only_tb _ s (by decide)

theorem ageScan_frame (fa : FA) : Changes (.ageScan fa) [.tables] :=
  changes_run (fun s => Eq.refl (execAgeScan fa s)) fun s => by
    split
    · exact Only.refl s
    · exact only_ite ((unlearn_only _ s (by decide)).trans (only_count (by decide +kernel) _ _)) (Only.refl s)

theorem scrubVisit_frame (d : Die) (t : TableKind) (p : WordPlace) (e : EccErr) : Changes (.scrubVisit d t p e) [.tables] :=
  changes_run (fun s => Eq.refl (execScrubVisit d t p e s)) fun s => only_eccRead _ _ s (by decide)

theorem eccReloadDone_frame (n : Nat) : Changes (.eccReloadDone n) [.tables] :=
  changes_run (fun s => Eq.refl (execEccReloadDone n s)) fun s => only_tb _ s (by decide)

/-- Settles O38: one theorem per row, each from the parts that the operations of the row write. -/
theorem fabricFrames : Obligations.FabricFrames :=
  ⟨partialArrival_frame, resultArrival_frame, resultDwellExpiry_frame, redContrib_frame, barrier_frame, chunkTimeout_frame,
    recipeResultEntry_frame, sourceYoungExpiry_frame, mirrorResyncDone_frame, regionZeroDone_frame, checkpointCopyDone_frame,
    memLoad_frame, memStore_frame, memStoreFlag_frame, memAtomic_frame, memReduceStore_frame, memMcastStore_frame, memApply_frame,
    memOutcome_frame, gapTimerExpiry_frame, restoreCopyDone_frame, mirrorAckTimeout_frame, streamSend_frame, mirrorResponse_frame,
    streamTimeout_frame, learnApply_frame, tbWriteApplyDone_frame, graceEnd_frame, shadowCopyDone_frame, ageScan_frame,
    scrubVisit_frame, eccReloadDone_frame⟩

end Sys2Proof.Machine
end
